-- ==== Sys2Proof/Word.lean ====
section
/-!
DEFINITION. The octet, the smallest unit the device addresses (01 R28), and strings of octets.
-/
namespace Sys2Proof

/-- One octet (01 R28). -/
abbrev Octet := BitVec 8

/-- A string of octets; octet 0 is the first element (00 R7). -/
abbrev Oct := List (BitVec 8)

/-- The number of core clock cycles in a microsecond (00, Notation: 1 CK = 10 ns). -/
abbrev ckPerUs : Nat := 100

/-- The number of core clock cycles in a millisecond. -/
abbrev ckPerMs : Nat := 100000

end Sys2Proof
end

