-- ==== Sys2Proof/Syntax.lean ====
section
/-!
DEFINITION. The commands of the block: one constructor per row of spec/opcode_table.json, in the table's order. Operands
carry what the row's event brings from outside; a command of the host also carries the timing of its transaction.
-/
namespace Sys2Proof

/-- A memory error found by a read of the 64-bit word at `addr`: correctable, or uncorrectable where `double` (01 R29,
09 R310, R311). -/
structure Strike where
  addr : Nat
  double : Bool
  deriving DecidableEq, Repr

/-- A frame as the PHY delivers it: the octets from the destination address to the FCS, a partial octet at its end, a
symbol error, the CK since its timestamp point, a transmission of the own port cut it short. -/
structure WireFrame where
  octets : Oct
  partialOctet : Bool
  symErr : Bool
  sfdAgo : Nat
  cut : Bool
  deriving DecidableEq, Repr

/-- A CAN frame received without error, and the CK since its start of frame. -/
structure CanFrame where
  id : Nat
  ide : Bool
  rtr : Bool
  fdf : Bool
  brs : Bool
  esi : Bool
  dlc : Nat
  data : Oct
  sofAgo : Nat
  deriving DecidableEq, Repr

/-- A receive error of a CAN channel: its kind in CAN_LAST_ERROR, and whether ISO 11898-1 raises REC by 8. -/
inductive CanErr where
  | mk (kind : Nat) (plus8 : Bool)
  deriving DecidableEq, Repr

/-- How a CAN transmission ends: sent, with the transceiver delay measured; arbitration lost; an error of a kind, with
TEC unchanged where `kept` and the delay where it had been measured by then. -/
inductive CanEnd where
  | sent (delay : Nat)
  | lost
  | error (kind : Nat) (kept : Bool) (delay : Option Nat := none)
  deriving DecidableEq, Repr

/-- What the NV load finds in the array (08 R276, R277): its duration, whether a cut mark passes the margin read, home
and journal records whose REC_CRC fails, by REC_SEQ, whether the factory region passes. -/
structure LoadFound where
  us : Nat
  markPass : Bool
  badHome : List Nat
  badRecs : List Nat
  factoryOk : Bool
  deriving DecidableEq, Repr

/-- What a phase of CABLE_DIAG finds (12 R438, R439): foreign energy in phase 1, the time phase 2 or 3 takes in us, the averaged
echoes of phase 2 in the order of their arrival (round-trip time in ns, amplitude in permille of the launch), what the
analysis of phase 3 takes the chosen echo for, as CD_RESULT codes it. -/
structure Echo where
  energy : Bool
  us : Nat
  echoes : List (Nat × Int)
  result : Nat
  deriving DecidableEq, Repr

/-- The timing of a host transaction: the duration of one octet in ns (03 R83-R85) and the CK until its result is ready
(03 Table 3.3). -/
structure Timing where
  octetNs : Nat
  readyCk : Nat
  deriving DecidableEq, Repr

/-- The fields of TOW_ISSUE but IS_OP (15 Table 15.6). -/
structure IssueFields where
  slot : Nat
  peer : Nat
  win : Nat
  scope : Nat
  freeAfter : Bool
  release : Bool
  barge : Nat
  rsvWin : Nat
  off : Nat
  len : Nat
  opA : Nat
  opB : Nat
  deriving DecidableEq, Repr

/-- The commands, one per row of spec/opcode_table.json. The default of an operand is that of the row's plain event: no word struck,
the margin read passing, a level held for long enough. -/
inductive Instr where
  /-- PLL_LOCK_LOSS (R34). -/
  | pllLockLoss
  /-- CRYSTAL_STOP (R35). -/
  | crystalStop
  /-- CRYSTAL_RESTART (R36). -/
  | crystalRestart
  /-- DICT_READ (R55). -/
  | dictRead (idx sub off len : Nat) (tm : Timing)
  /-- DICT_WRITE (R55). -/
  | dictWrite (idx sub ty off : Nat) (data : Oct) (tm : Timing)
  /-- DOMAIN_SEGMENT (R61). -/
  | domainSegment (img off : Nat) (data : Oct) (tm : Timing)
  /-- IMAGE_CHECK_DONE (R64). -/
  | imageCheckDone (img : Nat)
  /-- DOMAIN_TRANSFER_TIMEOUT (R66). -/
  | domainTransferTimeout (img : Nat)
  /-- QUERY_ADDR (R70). -/
  | queryAddr (v : Nat) (tm : Timing)
  /-- MEM_READ (R111). -/
  | memRead (addr len : Nat) (strikes : List Strike) (left : Option Nat) (tm : Timing)
  /-- MEM_WRITE (R110). -/
  | memWrite (addr : Nat) (data : Oct) (strikes : List Strike := [])
  /-- MEM_READ_ACQUIRE (R114). -/
  | memReadAcquire (addr len : Nat) (strikes : List Strike) (left : Option Nat) (tm : Timing)
  /-- STATUS_POLL (R118). -/
  | statusPoll
  /-- DOORBELL (R115). -/
  | doorbell (ring index : Nat)
  /-- INT_COMPLETE (R634). -/
  | intComplete (target source : Nat)
  /-- DICT_READ_REMOTE (R106). -/
  | dictReadRemote (peer idx sub off len : Nat)
  /-- DICT_WRITE_REMOTE (R106). -/
  | dictWriteRemote (peer idx sub ty off : Nat) (data : Oct)
  /-- REISSUE (R103). -/
  | reissue (cmd tag : Nat)
  /-- SLOT_READY_EXPIRY (R105). -/
  | slotReadyExpiry (slot : Nat)
  /-- SLOT_PENDING_TIMEOUT (R105). -/
  | slotPendingTimeout (slot : Nat)
  /-- CS_EARLY_RISE (R120). -/
  | csEarlyRise
  /-- UNKNOWN_COMMAND (R123). -/
  | unknownCommand (code : Nat)
  /-- HOST_LINK_RESET (R126). -/
  | hostLinkReset (v : Nat) (tm : Timing)
  /-- JOB_START (R131). -/
  | jobStart (slot : Nat) (tm : Timing)
  /-- JOB_SUSPEND (R132). -/
  | jobSuspend (slot : Nat) (tm : Timing)
  /-- JOB_RESUME (R147). -/
  | jobResume (slot : Nat) (tm : Timing)
  /-- JOB_CANCEL (R132). -/
  | jobCancel (slot : Nat) (tm : Timing)
  /-- JOB_SUSPEND_POINT (R133). -/
  | jobSuspendPoint (slot : Nat)
  /-- JOB_CANCEL_DONE (R145). -/
  | jobCancelDone (slot : Nat)
  /-- POUND_SCRUB_BARGE (R318). -/
  | poundScrubBarge (slot : Nat) (strikes : List Strike)
  /-- BANK_TEST_PASS (R319). -/
  | bankTestPass (slot : Nat) (bad : List Nat)
  /-- TABLE_LOAD_DONE (R138). -/
  | tableLoadDone (slot : Nat) (readOk : Bool)
  /-- CABLE_DIAG_PHASE (R438). -/
  | cableDiagPhase (slot : Nat) (echo : Echo)
  /-- POWER_ON_RESET (R151). -/
  | powerOnReset
  /-- POR_END (R711). -/
  | porEnd
  /-- OSC_STABLE (R691). -/
  | oscStable
  /-- AON_TRIMS_DONE (R238). -/
  | aonTrimsDone (mainInRange vbakOk : Bool)
  /-- SUPPLY_DOWN (R157). -/
  | supplyDown (vbakOk : Bool)
  /-- DOWN_TO_BACKUP (R157). -/
  | downToBackup (us : Nat) (mainInRange : Bool)
  /-- MAIN_RETURN (R157). -/
  | mainReturn
  /-- QUALIFY_EXPIRY (R158). -/
  | qualifyExpiry
  /-- SUPPLY_BOUNCE (R174). -/
  | supplyBounce (dt : Nat)
  /-- STRETCH_END (R175). -/
  | stretchEnd
  /-- BROWN_OUT (R168). -/
  | brownOut (coreRail : Bool)
  /-- BROWNOUT_LOW_BACKUP (R171). -/
  | brownoutLowBackup
  /-- LOCKOUT_END (R170). -/
  | lockoutEnd
  /-- ENERGY_SAMPLE (R176). -/
  | energySample (vinCode vbakCode : Nat) (vbakOk : Bool := false) (vio : Option Nat := none)
  /-- PODL_CLASSIFY (R181). -/
  | podlClassify (ohms : Option Nat) (asked : Bool := true)
  /-- PODL_POWER_ON (R183). -/
  | podlPowerOn
  /-- PODL_TURN_OFF (R184). -/
  | podlTurnOff
  /-- DOM_REQ (R191). -/
  | domReq (dom v : Nat) (tm : Timing)
  /-- DOMAIN_SELECT (R196). -/
  | domainSelect
  /-- DOMAIN_DRAIN_DONE (R201). -/
  | domainDrainDone
  /-- DOMAIN_POWER_FAIL (R222). -/
  | domainPowerFail
  /-- DOMAIN_TRANSITION_END (R194). -/
  | domainTransitionEnd (badImages : List Nat)
  /-- OWNER_SCAN_DONE (R323). -/
  | ownerScanDone (bank : Nat)
  /-- WAKE_EDGE (R209). -/
  | wakeEdge (latch : Nat)
  /-- WAKE_CLEAR (R210). -/
  | wakeClear (v : Nat) (tm : Timing)
  /-- TEMP_SAMPLE (R206). -/
  | tempSample (celsius : Int)
  /-- RETENTION_REFRESH (R205). -/
  | retentionRefresh (bank : Nat)
  /-- BANK_REFRESH (R315). -/
  | bankRefresh (bank : Nat)
  /-- PLL_LOCKED (R229). -/
  | pllLocked
  /-- PLL_LOCK_TIMEOUT (R254). -/
  | pllLockTimeout
  /-- NV_LOAD_DONE (R277). -/
  | nvLoadDone (found : LoadFound)
  /-- RESET_N_ASSERT (R244). -/
  | resetNAssert (held : Nat := 100)
  /-- RESET_N_RELEASE (R245). -/
  | resetNRelease
  /-- SOFT_RESET (R247). -/
  | softReset (v : Nat) (tm : Timing)
  /-- DOM_RESET (R249). -/
  | domReset (n : Nat) (tm : Timing)
  /-- JOURNAL_CHUNK_WRITTEN (R263). -/
  | journalChunkWritten
  /-- JOURNAL_CHECK_WRITTEN (R263). -/
  | journalCheckWritten
  /-- JOURNAL_COMMIT_MARK (R267). -/
  | journalCommitMark (pass : Bool := true)
  /-- HOME_CHUNK_WRITTEN (R274). -/
  | homeChunkWritten (pass : Bool := true)
  /-- SECTOR_ERASED (R274). -/
  | sectorErased
  /-- COMMIT_WORD_VOID (R715). -/
  | commitWordVoid
  /-- POUND_ENABLE (R296). -/
  | poundEnable (p : Nat) (tm : Timing)
  /-- POUND_ENABLED (R296). -/
  | poundEnabled (p : Nat) (stuck : List Nat := [])
  /-- POUND_DISABLE (R297). -/
  | poundDisable (p : Nat) (tm : Timing)
  /-- ALLOC_REQ (R299). -/
  | allocReq (v : Nat) (tm : Timing)
  /-- FREE_REQ (R300). -/
  | freeReq (v : Nat) (tm : Timing)
  /-- BARGE_QUERY (R325). -/
  | bargeQuery (v : Nat) (tm : Timing)
  /-- LOCK_CYCLE_CLOSE (R305). -/
  | lockCycleClose (bank : Nat)
  /-- LOCK_CYCLE_OPEN (R305). -/
  | lockCycleOpen (bank : Nat) (strikes : List Strike)
  /-- ZEROING_DONE (R301). -/
  | zeroingDone (barge : Nat) (stuck : List Nat)
  /-- RING_STOP (R331). -/
  | ringStop (ring : Nat) (tm : Timing)
  /-- RING_RUN (R331). -/
  | ringRun (ring : Nat) (tm : Timing)
  /-- RING_RESET (R335). -/
  | ringReset (ring : Nat) (tm : Timing)
  /-- RING_STOPPED (R334). -/
  | ringStopped (ring : Nat)
  /-- CHAIN_FETCH (R346). -/
  | chainFetch (ring : Nat) (strikes : List Strike)
  /-- CHAIN_COMPLETE (R348). -/
  | chainComplete (ring : Nat)
  /-- RX_DESCRIPTOR_WRITE (R351). -/
  | rxDescriptorWrite (ring : Nat)
  /-- RING_COAL_TIMEOUT (R353). -/
  | ringCoalTimeout (ring : Nat)
  /-- FRAME_RECEIVED (R360). -/
  | frameReceived (port : Nat) (f : WireFrame)
  /-- CLASSIFY_FRAME (R447). -/
  | classifyFrame
  /-- TX_SELECT (R378). -/
  | txSelect (port : Nat)
  /-- FRAME_TRANSMITTED (R347). -/
  | frameTransmitted (port : Nat) (deferred : Bool) (strikes : List Strike) (sfdAgo : Nat := 0)
  /-- PAUSE_TIMER_EXPIRY (R381). -/
  | pauseTimerExpiry (port : Nat)
  /-- PAUSE_REFRESH (R382). -/
  | pauseRefresh (port : Nat)
  /-- PAUSE_SEND (R383). -/
  | pauseSend (port v : Nat) (tm : Timing)
  /-- PAUSE_WD_BREAK (R387). -/
  | pauseWdBreak (port : Nat)
  /-- PAUSE_STRIKE_RESET (R388). -/
  | pauseStrikeReset (port : Nat)
  /-- PAUSE_REARM (R389). -/
  | pauseRearm (port v : Nat) (tm : Timing)
  /-- TSO_ENABLE (R376). -/
  | tsoEnable (port : Nat) (tm : Timing)
  /-- TSO_DISABLE (R376). -/
  | tsoDisable (port : Nat) (tm : Timing)
  /-- WAKE_LISTEN (R392). -/
  | wakeListen (port v : Nat) (tm : Timing)
  /-- PRALINE_ENABLE (R391). -/
  | pralineEnable (v : Nat) (tm : Timing)
  /-- PORT_STOP (R400). -/
  | portStop (port : Nat) (tm : Timing)
  /-- PORT_START (R401). -/
  | portStart (port : Nat) (tm : Timing)
  /-- MDIO_FRAME_DONE (R408). -/
  | mdioFrameDone (data : Nat)
  /-- MDIO_POLL (R409). -/
  | mdioPoll
  /-- MDIO_C22_READ (R413). -/
  | mdioC22Read (phy reg : Nat) (tm : Timing)
  /-- MDIO_C22_WRITE (R413). -/
  | mdioC22Write (phy reg data : Nat) (tm : Timing)
  /-- MDIO_C45_READ (R412). -/
  | mdioC45Read (phy dev reg : Nat) (tm : Timing)
  /-- MDIO_C45_WRITE (R412). -/
  | mdioC45Write (phy dev reg data : Nat) (tm : Timing)
  /-- GOV_ENABLE (R414). -/
  | govEnable (v : Nat) (tm : Timing)
  /-- GOV_WINDOW (R415). -/
  | govWindow
  /-- GOV_STEP_DRAINED (R417). -/
  | govStepDrained
  /-- GOV_HOLD_LIMIT_EXPIRY (R444). -/
  | govHoldLimitExpiry
  /-- T1L_LINK_CHANGE (R425). -/
  | t1lLinkChange (up able24 req24 master : Bool) (far : Nat := 0)
  /-- T1L_SQI_UPDATE (R425). -/
  | t1lSqiUpdate (sqi mse : Nat)
  /-- PLCA_BEACON_SEND (R428). -/
  | plcaBeaconSend (port : Nat)
  /-- PLCA_BEACON_RECEIVED (R428). -/
  | plcaBeaconReceived (port : Nat)
  /-- PLCA_BEACON_LOSS (R428). -/
  | plcaBeaconLoss (port : Nat)
  /-- PLCA_ID_CONFLICT (R442). -/
  | plcaIdConflict (port : Nat)
  /-- PLCA_ID_CONFLICT_CLEAR (R442). -/
  | plcaIdConflictClear (port : Nat)
  /-- SG_CARRIER_MEASURE (R430). -/
  | sgCarrierMeasure (port node : Nat) (o : Int)
  /-- SG_HOLD_EXPIRY (R433). -/
  | sgHoldExpiry (port : Nat)
  /-- SG_YIELD (R434). -/
  | sgYield (port : Nat) (into : Option Nat := none)
  /-- SG_DRIFT_EXPIRY (R431). -/
  | sgDriftExpiry (port node : Nat)
  /-- SEG_COLLISION (R443). -/
  | segCollision (port : Nat) (late : Bool) (deferred : Bool := false)
  /-- BACKOFF_EXPIRY (R427). -/
  | backoffExpiry (port : Nat)
  /-- MERGE_RELEASE (R467). -/
  | mergeRelease (grp : Nat) (strikes : List Strike)
  /-- MERGE_WRITE (R468). -/
  | mergeWrite (grp : Nat)
  /-- MERGE_TIMEOUT (R469). -/
  | mergeTimeout (grp : Nat)
  /-- GRP_START (R465). -/
  | grpStart (grp : Nat) (tm : Timing)
  /-- GRP_STOP (R471). -/
  | grpStop (grp : Nat) (tm : Timing)
  /-- GRP_STOPPED (R471). -/
  | grpStopped (grp : Nat)
  /-- CLS_COMMIT (R474). -/
  | clsCommit (tm : Timing)
  /-- CLS_TRANSIT (R477). -/
  | clsTransit (tm : Timing)
  /-- CLS_TRANSIT_RELEASE (R478). -/
  | clsTransitRelease (tm : Timing)
  /-- CLS_END (R473). -/
  | clsEnd (tm : Timing)
  /-- CLS_ABANDON (R473). -/
  | clsAbandon (tm : Timing)
  /-- TRANSIT_TIMEOUT (R480). -/
  | transitTimeout
  /-- CAN_START (R484). -/
  | canStart (ch : Nat) (tm : Timing)
  /-- CAN_STOP (R490). -/
  | canStop (ch : Nat) (tm : Timing)
  /-- CAN_TX_START (R488). -/
  | canTxStart (ch : Nat) (strikes : List Strike)
  /-- CAN_TX_END (R489). -/
  | canTxEnd (ch : Nat) (e : CanEnd)
  /-- CAN_RX_FRAME (R492). -/
  | canRxFrame (ch : Nat) (f : CanFrame)
  /-- CAN_BUS_OFF (R491). -/
  | canBusOff (ch : Nat)
  /-- CAN_RECOVER (R487). -/
  | canRecover (ch v : Nat) (tm : Timing)
  /-- CAN_BUS_OFF_RECOVERED (R487). -/
  | canBusOffRecovered (ch : Nat)
  /-- BRIDGE_INPUT (R511). -/
  | bridgeInput
  /-- BRG_RUN (R514). -/
  | brgRun (v : Nat) (tm : Timing)
  /-- OM_PERIOD_EXPIRY (R506). -/
  | omPeriodExpiry (om : Nat)
  /-- OM_GAP_EXPIRY (R506). -/
  | omGapExpiry (om : Nat)
  /-- SIGNAL_STALE (R508). -/
  | signalStale (sig : Nat)
  /-- BRG_CACHE_READ (R509). -/
  | brgCacheRead (sig : Nat) (tm : Timing)
  /-- FETCH_TIMEOUT (R510). -/
  | fetchTimeout (sig : Nat)
  /-- RESERVATION_BACKOFF_EXPIRY (R516). -/
  | reservationBackoffExpiry (n tag : Nat)
  /-- TOW_START (R535). -/
  | towStart (tm : Timing)
  /-- TOW_STOP (R535). -/
  | towStop (tm : Timing)
  /-- PEER_ENABLE (R521). -/
  | peerEnable (n v : Nat) (tm : Timing)
  /-- HELLO_TIMER (R523). -/
  | helloTimer (n : Nat)
  /-- HELLO_RX (R523). -/
  | helloRx
  /-- TOW_DATA_RX (R529). -/
  | towDataRx
  /-- TOW_ACK_RX (R531). -/
  | towAckRx
  /-- TOW_ACK_DELAY (R530). -/
  | towAckDelay (n : Nat)
  /-- TOW_RETRANSMIT_TIMEOUT (R531). -/
  | towRetransmitTimeout (n : Nat)
  /-- TOW_DEAD_TIMEOUT (R525). -/
  | towDeadTimeout (n : Nat)
  /-- TOW_KEEPALIVE (R526). -/
  | towKeepalive (n : Nat)
  /-- TOW_FORWARD_FRAME (R558). -/
  | towForwardFrame
  /-- OP_READ (R543). -/
  | opRead (lane : Nat) (strikes : List Strike)
  /-- OP_READ_ACQUIRE (R543). -/
  | opReadAcquire (lane : Nat) (strikes : List Strike)
  /-- OP_WRITE (R543). -/
  | opWrite (lane : Nat) (strikes : List Strike := [])
  /-- OP_WRITE_RESERVE (R551). -/
  | opWriteReserve (lane : Nat) (strikes : List Strike := [])
  /-- OP_FETCH_ADD (R544). -/
  | opFetchAdd (lane : Nat) (strikes : List Strike)
  /-- OP_SWAP (R544). -/
  | opSwap (lane : Nat) (strikes : List Strike)
  /-- OP_CAS (R544). -/
  | opCas (lane : Nat) (strikes : List Strike)
  /-- OP_FRAME (R557). -/
  | opFrame (lane : Nat)
  /-- OP_DICT_READ (R554). -/
  | opDictRead (lane : Nat)
  /-- OP_DICT_WRITE (R554). -/
  | opDictWrite (lane : Nat)
  /-- OP_RESPONSE (R548). -/
  | opResponse (lane : Nat)
  /-- ISSUE_READ (R546). -/
  | issueRead (f : IssueFields) (tm : Timing)
  /-- ISSUE_READ_ACQUIRE (R546). -/
  | issueReadAcquire (f : IssueFields) (tm : Timing)
  /-- ISSUE_WRITE (R546). -/
  | issueWrite (f : IssueFields) (tm : Timing)
  /-- ISSUE_WRITE_RESERVE (R551). -/
  | issueWriteReserve (f : IssueFields) (tm : Timing)
  /-- ISSUE_FETCH_ADD (R546). -/
  | issueFetchAdd (f : IssueFields) (tm : Timing)
  /-- ISSUE_SWAP (R546). -/
  | issueSwap (f : IssueFields) (tm : Timing)
  /-- ISSUE_CAS (R546). -/
  | issueCas (f : IssueFields) (tm : Timing)
  /-- TOW_SLOT_RELEASE (R548). -/
  | towSlotRelease (v : Nat) (tm : Timing)
  /-- TOW_RSV_RELEASE (R553). -/
  | towRsvRelease (v : Nat) (tm : Timing)
  /-- RSV_HOLD_EXPIRY (R553). -/
  | rsvHoldExpiry (win : Nat)
  /-- WIN_ENABLE (R539). -/
  | winEnable (win : Nat) (tm : Timing)
  /-- WIN_DISABLE (R561). -/
  | winDisable (win : Nat) (tm : Timing)
  /-- SLU_TICK (R563). -/
  | sluTick
  /-- PWM_PERIOD_START (R565). -/
  | pwmPeriodStart (out : Nat)
  /-- SLU_OUT_ENABLE (R568). -/
  | sluOutEnable (out v : Nat) (tm : Timing)
  /-- SLU_ARM (R573). -/
  | sluArm (v : Nat) (tm : Timing)
  /-- SLU_STOP (R574). -/
  | sluStop (v : Nat) (tm : Timing)
  /-- SLU_HEARTBEAT (R570). -/
  | sluHeartbeat (v : Nat) (tm : Timing)
  /-- SLU_HB_TIMEOUT (R570). -/
  | sluHbTimeout (out : Nat)
  /-- SLU_HOLD_ELAPSED (R569). -/
  | sluHoldElapsed (out : Nat)
  /-- SLU_COAST_END (R578). -/
  | sluCoastEnd (out : Nat)
  /-- SAFE_N_ASSERT (R580). -/
  | safeNAssert (us : Nat := 100)
  /-- SAFE_N_RELEASE (R580). -/
  | safeNRelease (us : Nat := 100)
  /-- TACHO_EDGE (R583). -/
  | tachoEdge (t dt : Nat)
  /-- TACHO_WINDOW (R584). -/
  | tachoWindow (t : Nat)
  /-- TIME_SET (R595). -/
  | timeSet (v : Nat) (tm : Timing)
  /-- TIME_ADJUST (R595). -/
  | timeAdjust (ns : Int) (tm : Timing)
  /-- CH_COMPARE_FIRE (R604). -/
  | chCompareFire (ch : Nat)
  /-- CH_PULSE_END (R604). -/
  | chPulseEnd (ch : Nat)
  /-- PPS_PULSE (R606). -/
  | ppsPulse
  /-- CH_CAPTURE (R607). -/
  | chCapture (ch : Nat) (ppsIn rising : Bool) (dt : Nat)
  /-- CH_ACK (R608). -/
  | chAck (ch v : Nat) (tm : Timing)
  /-- CH_CONFIG_WRITE (R609). -/
  | chConfigWrite (ch : Nat) (ctrl : Bool) (v : Nat) (tm : Timing)
  /-- TALLY_BOUNDARY (R613). -/
  | tallyBoundary
  /-- TALLY_TRIGGER (R613). -/
  | tallyTrigger (v : Nat) (tm : Timing)
  /-- TALLY_MODE_WRITE (R616). -/
  | tallyModeWrite (period : Bool) (v : Nat) (tm : Timing)
  /-- INT_CLAIM (R633). -/
  | intClaim (target : Nat) (tm : Timing)
  /-- SRC_STATE_WRITE (R627). -/
  | srcStateWrite (src v : Nat) (tm : Timing)
  /-- INT_PENDING_WRITE (R628). -/
  | intPendingWrite (v : Nat) (tm : Timing)
  /-- INT_FAULT_CLEAR (R639). -/
  | intFaultClear (target v : Nat) (tm : Timing)
  /-- FAULT_LOG_WRITE (R655). -/
  | faultLogWrite
  /-- FL_ACK_SEQ (R660). -/
  | flAckSeq (v : Nat) (tm : Timing)
  /-- FL_CLEAR (R660). -/
  | flClear (v : Nat) (tm : Timing)
  /-- MONITOR_CHANGE_OSC_START (R714). -/
  | monitorChangeOscStart (vbak : Option Bool := none)
  /-- PODL_INRUSH_RAMP_END (R183). -/
  | podlInrushRampEnd
  /-- CAN_INTEGRATION_END (R487). -/
  | canIntegrationEnd (ch : Nat)
  /-- CAN_RX_ERROR (R487). -/
  | canRxError (ch : Nat) (e : CanErr)
  /-- GENERATION_CHECK_DONE (R474). -/
  | generationCheckDone (n : Nat := 0)
  deriving DecidableEq, Repr

end Sys2Proof
end

