-- ==== Sys2Proof/Decode.lean ====
section
/-!
DEFINITION. The command a word spells: no row of spec/opcode_table.json gives its command bits, so no word spells one. The octets
the host sends over the link do spell commands (03 Table 3.2).
-/
namespace Sys2Proof

/-- The command that a word of `nbits` bits spells by the table's bits: none, the table gives no row any. -/
def decodeTableWord (_nbits _w : Nat) : Option Instr := none

/-- The field of `n` octets at octet `i`, octet 0 sent first (01 R8, 03 R86). -/
def reqField (l : Oct) (i n : Nat) : Nat := ((l.drop i).take n).foldr (fun o a => o.toNat + 256 * a) 0

/-- The command code in a command octet: bits 6-0 (03 R84). -/
def cmdCode (c : BitVec 8) : Nat := c.toNat % 128

/-- The width of the transaction after the command octet: bit 7 selects quad (03 R84). -/
def cmdQuad (c : BitVec 8) : Bool := c.toNat / 128 == 1

/-- The duration of one octet after the command octet, from the SCLK period in ns (03 R85). -/
def octetNsOf (quad : Bool) (sclkNs : Nat) : Nat := if quad then 2 * sclkNs else 8 * sclkNs

/-- A new transaction of DICT_READ or DICT_WRITE, local or remote, from the octets after TAG: `l` begins with PEER for a remote
one (03 Table 3.2); none where the request is not complete. -/
def dictRequest (code : Nat) (l : Oct) (tm : Timing) : Option Instr :=
  let r := if code = 0x61 || code = 0x62 then 1 else 0
  let peer := reqField l 0 1
  let idx := reqField l r 2
  let sb := reqField l (r + 2) 1
  if code = 0x11 || code = 0x61 then
    (if l.length < r + 9 then none
     else if code = 0x11 then some (.dictRead idx sb (reqField l 3 4) (reqField l 7 2) tm)
     else some (.dictReadRemote peer idx sb (reqField l 4 4) (reqField l 8 2)))
  else
    let len := reqField l (r + 8) 2
    if l.length < r + 10 + len then none
    else
      let data := (l.drop (r + 10)).take len
      if code = 0x12 then some (.dictWrite idx sb (reqField l 3 1) (reqField l 4 4) data tm)
      else some (.dictWriteRemote peer idx sb (reqField l 4 1) (reqField l 5 4) data)

/-- The request the octets after the command octet complete (03 Table 3.2, R90); none where SPI_CS_n rose before its last octet.
A memory command also carries the errors its words show and the octets sent before a bank left ON. -/
def requestOf (code : Nat) (l : Oct) (ss : List Strike) (left : Option Nat) (tm : Timing) : Option Instr :=
  match code with
  | 0x21 => if l.length < 5 then none else some (.memRead (reqField l 0 3) (reqField l 3 2) ss left tm)
  | 0x22 =>
    let len := reqField l 3 2
    if l.length < 5 + len then none else some (.memWrite (reqField l 0 3) ((l.drop 5).take len) ss)
  | 0x23 => if l.length < 5 then none else some (.memReadAcquire (reqField l 0 3) (reqField l 3 2) ss left tm)
  | 0x31 => some .statusPoll
  | 0x41 => if l.length < 3 then none else some (.doorbell (reqField l 0 1) (reqField l 1 2))
  | 0x51 => if l.length < 2 then none else some (.intComplete (reqField l 0 1) (reqField l 1 1))
  | c =>
    match l with
    | [] => none
    | tag :: t => if tag = 0 then dictRequest c t tm else some (.reissue c tag.toNat)

/-- The command that the octets of one assertion of SPI_CS_n spell, the command octet first (03 R84, R90, R120, R123); `sclkNs` is
the SCLK period and `readyCk` the CK until the result is ready. -/
def hostRequest (req : Oct) (ss : List Strike) (left : Option Nat) (sclkNs readyCk : Nat) : Instr :=
  match req with
  | [] => .csEarlyRise
  | c :: l =>
    if [0x11, 0x12, 0x21, 0x22, 0x23, 0x31, 0x41, 0x51, 0x61, 0x62].contains (cmdCode c) then
      (requestOf (cmdCode c) l ss left ⟨octetNsOf (cmdQuad c) sclkNs, readyCk⟩).getD .csEarlyRise
    else .unknownCommand c.toNat

end Sys2Proof
end

