-- ==== Sys2Proof/Config.lean ====
section
/-!
DEFINITION. What one part fixes and what the spec leaves open: constants without a body, so that no proof can
rest on a value of theirs. Log entries 4, 5, 6 and 85 name them.
-/
namespace Sys2Proof.Config

/-- FREE VALUE. What the 32-bit generator of 01 R31 holds in a part of that serial number: after each mix (its advances up to
it, and the CKX count mixed in) and `steps` advances since the last (log entry 4). -/
opaque randomValue (serial : BitVec 64) (mixes : List (Nat × Nat)) (steps : Nat) : BitVec 32

/-- FREE VALUE. SERIAL_NUMBER (02 Table 2.10: set at manufacture, unique per part; log entry 5). -/
opaque serialNumber : BitVec 64

/-- FREE VALUE. The ordering code of the part: false GW448-Q88-E, true GW448-Q88-C (00 Table 0.1; log entry 5). -/
opaque gradeC : Bool

/-- FREE VALUE. The `n`-th value of a point the spec leaves open (log entry 6 lists the uses). -/
opaque freeValue : Nat → Nat

/-- FREE VALUE. VSYS in mV while VBAK carries it and the monitor has not yet read VBAK (21 R678; log entry 85). -/
opaque vsysUnread : Nat

end Sys2Proof.Config
end

