-- ==== Sys2Proof/Machine/Objects.lean ====
section
/-!
DEFINITION. The object table: one row per printed row of the chapters' object tables (02 Table 2.10 and the
"Objects" section of each chapter), with type, access, default, domain, persistence and stated range.
-/
namespace Sys2Proof.Machine

/-- The data types of 02 Table 2.1; `domain n` is a table image of at most `n` octets. -/
inductive ObjType where
  | u8 | u16 | u32 | u64 | i8 | i16 | i32 | i64 | bool8
  | octets (n : Nat)
  | domain (max : Nat)
  deriving DecidableEq, Repr

/-- The access rights of 02 Table 2.2. -/
inductive Access where
  | ro | rw | wo | rws | const
  deriving DecidableEq, Repr

/-- The persistence classes of 02 Table 2.3. -/
inductive Persist where
  | none | p | pw
  deriving DecidableEq, Repr

/-- One printed row of an object table. It stands for indices `idx + k * step`, `k < nIdx`, and subindices
`sub` to `sub + nSub - 1`. `dom` is the domain number of 01 Table 1.1, 255 for AON. `lo` to `hi` is the stated
range of values; `zeroOk` admits 0 as well ("0 or from ... to ..."). -/
structure ObjRow where
  idx : Nat
  nIdx : Nat
  step : Nat
  sub : Nat
  nSub : Nat
  ty : ObjType
  acc : Access
  dflt : Nat
  dom : Nat
  per : Persist
  lo : Nat
  hi : Nat
  zeroOk : Bool
  deriving DecidableEq, Repr

/-- Objects 1000h to 10FFh. -/
def objRows10 : List ObjRow := [
  ⟨0x1000, 1, 0, 0, 1, .u8, .const, 7, 1, .none, 0, 0xFF, false⟩, -- IDENTITY
  ⟨0x1000, 1, 0, 1, 1, .u32, .const, 0x6E2A, 1, .none, 0, 0xFFFFFFFF, false⟩, -- VENDOR_ID
  ⟨0x1000, 1, 0, 2, 1, .u32, .const, 0x448, 1, .none, 0, 0xFFFFFFFF, false⟩, -- PRODUCT_CODE
  ⟨0x1000, 1, 0, 3, 1, (.octets 16), .const, 0x452D3838512D3834345747, 1, .none, 0, 0xFFFFFFFFFFFFFFFFFFFFFFFFFFFFFFFF, false⟩, -- ORDERING_CODE
  ⟨0x1000, 1, 0, 4, 1, .u16, .const, 0x102, 1, .none, 0, 0xFFFF, false⟩, -- STEPPING
  ⟨0x1000, 1, 0, 5, 1, .u16, .const, 0x100, 1, .none, 0, 0xFFFF, false⟩, -- DICT_VERSION
  ⟨0x1000, 1, 0, 6, 1, .u64, .const, 0, 1, .none, 0, 0xFFFFFFFFFFFFFFFF, false⟩, -- SERIAL_NUMBER
  ⟨0x1000, 1, 0, 7, 1, .u8, .const, 1, 1, .none, 0, 0xFF, false⟩ -- TEMP_GRADE
  ]

/-- Objects 1800h to 18FFh. -/
def objRows18 : List ObjRow := [
  ⟨0x1800, 1, 0, 0, 1, .u8, .const, 3, 1, .none, 0, 0xFF, false⟩, -- HOST_LINK
  ⟨0x1800, 1, 0, 1, 1, .u8, .rw, 8, 1, .none, 2, 0x40, false⟩, -- HOST_TURNAROUND
  ⟨0x1800, 1, 0, 2, 1, .bool8, .rw, 1, 1, .none, 0, 1, false⟩, -- HOST_READAHEAD
  ⟨0x1800, 1, 0, 3, 1, .u8, .wo, 0, 1, .none, 0, 0xFF, false⟩, -- HOST_LINK_RESET
  ⟨0x1810, 1, 0, 0, 1, .u8, .const, 5, 1, .none, 0, 0xFF, false⟩, -- HOST_STATS
  ⟨0x1810, 1, 0, 1, 1, .u32, .rw, 0, 1, .none, 0, 0xFFFFFFFF, false⟩, -- HOST_BUSY_COUNT
  ⟨0x1810, 1, 0, 2, 1, .u32, .rw, 0, 1, .none, 0, 0xFFFFFFFF, false⟩, -- HOST_RETRY_COUNT
  ⟨0x1810, 1, 0, 3, 1, .u32, .rw, 0, 1, .none, 0, 0xFFFFFFFF, false⟩, -- HOST_SLOT_EXPIRED
  ⟨0x1810, 1, 0, 4, 1, .u32, .rw, 0, 1, .none, 0, 0xFFFFFFFF, false⟩, -- HOST_FRAMING_ERRORS
  ⟨0x1810, 1, 0, 5, 1, .u32, .rw, 0, 1, .none, 0, 0xFFFFFFFF, false⟩, -- HOST_LATE_MEM
  ⟨0x1820, 1, 0, 0, 1, .u8, .const, 8, 1, .none, 0, 0xFF, false⟩, -- RETRY_SLOTS
  ⟨0x1820, 1, 0, 1, 8, (.octets 8), .ro, 0, 1, .none, 0, 0xFFFFFFFFFFFFFFFF, false⟩ -- RETRY_SLOT0 to RETRY_SLOT7
  ]

/-- Objects 1E00h to 1EFFh. -/
def objRows1E : List ObjRow := [
  ⟨0x1E00, 1, 0, 0, 1, .u8, .const, 0x11, 1, .none, 0, 0xFF, false⟩, -- LAST_ABORT
  ⟨0x1E00, 1, 0, 1, 1, (.octets 8), .rw, 0, 1, .none, 0, 0xFFFFFFFFFFFFFFFF, false⟩, -- LAST_ABORT_HOST
  ⟨0x1E00, 1, 0, 2, 16, (.octets 8), .rw, 0, 1, .none, 0, 0xFFFFFFFFFFFFFFFF, false⟩, -- LAST_ABORT_PEER0 to LAST_ABORT_PEER15
  ⟨0x1E10, 1, 0, 0, 1, .u8, .const, 3, 1, .none, 0, 0xFF, false⟩, -- DICT_STATS
  ⟨0x1E10, 1, 0, 1, 1, .u32, .rw, 0, 1, .none, 0, 0xFFFFFFFF, false⟩, -- DICT_TRANSACTIONS
  ⟨0x1E10, 1, 0, 2, 1, .u32, .rw, 0, 1, .none, 0, 0xFFFFFFFF, false⟩, -- DICT_ABORTS
  ⟨0x1E10, 1, 0, 3, 1, .u32, .rw, 0, 1, .none, 0, 0xFFFFFFFF, false⟩ -- DICT_STAGE_ABANDONED
  ]

/-- Objects 1F00h to 1FFFh. -/
def objRows1F : List ObjRow := [
  ⟨0x1F00, 1, 0, 0, 1, .u8, .const, 2, 1, .none, 0, 0xFF, false⟩, -- QUERY
  ⟨0x1F00, 1, 0, 1, 1, .u32, .rw, 0, 1, .none, 0, 0xFFFFFFFF, false⟩, -- QUERY_ADDR
  ⟨0x1F00, 1, 0, 2, 1, (.octets 16), .ro, 0, 1, .none, 0, 0xFFFFFFFFFFFFFFFFFFFFFFFFFFFFFFFF, false⟩ -- QUERY_RESULT
  ]

/-- Objects 2000h to 20FFh. -/
def objRows20 : List ObjRow := [
  ⟨0x2000, 1, 0, 0, 1, .u8, .const, 5, 255, .none, 0, 0xFF, false⟩, -- SUPPLY
  ⟨0x2000, 1, 0, 1, 1, .u8, .ro, 0, 255, .none, 0, 0xFF, false⟩, -- SUPPLY_STATE
  ⟨0x2000, 1, 0, 2, 1, .u8, .ro, 0, 255, .none, 0, 0xFF, false⟩, -- SUPPLY_FLAGS
  ⟨0x2000, 1, 0, 3, 1, .u16, .ro, 0, 255, .none, 0, 0xFFFF, false⟩, -- VIN_MV
  ⟨0x2000, 1, 0, 4, 1, .u16, .ro, 0, 255, .none, 0, 0xFFFF, false⟩, -- VBAK_MV
  ⟨0x2000, 1, 0, 5, 1, .u16, .ro, 0, 255, .none, 0, 0xFFFF, false⟩, -- QUALIFY_REMAIN
  ⟨0x2010, 1, 0, 0, 1, .u8, .const, 4, 255, .none, 0, 0xFF, false⟩, -- BACKUP_CFG
  ⟨0x2010, 1, 0, 1, 1, .u16, .rw, 1, 255, .p, 0, 0xFFFF, false⟩, -- BACKUP_SET
  ⟨0x2010, 1, 0, 2, 1, .u32, .rw, 0, 255, .p, 0, 0xFFFFFFFF, false⟩, -- SHED_TABLE
  ⟨0x2010, 1, 0, 3, 1, .u16, .ro, 0, 255, .none, 0, 0xFFFF, false⟩, -- BACKUP_SET_ACTIVE
  ⟨0x2010, 1, 0, 4, 1, .u32, .ro, 0, 255, .none, 0, 0xFFFFFFFF, false⟩, -- SHED_TABLE_ACTIVE
  ⟨0x2020, 1, 0, 0, 1, .u8, .const, 5, 255, .none, 0, 0xFF, false⟩, -- SUPPLY_EVENTS
  ⟨0x2020, 1, 0, 1, 1, .u32, .rw, 0, 255, .none, 0, 0xFFFFFFFF, false⟩, -- DOWN_COUNT
  ⟨0x2020, 1, 0, 2, 1, .u32, .rw, 0, 255, .none, 0, 0xFFFFFFFF, false⟩, -- BOUNCE_COUNT
  ⟨0x2020, 1, 0, 3, 1, .u8, .ro, 0, 255, .none, 0, 0xFF, false⟩, -- LAST_HANDOVER_US
  ⟨0x2020, 1, 0, 4, 1, .u8, .rw, 0, 255, .none, 0, 0xFF, false⟩, -- BROWNOUT_CAUSE
  ⟨0x2020, 1, 0, 5, 1, .u32, .rw, 0, 255, .none, 0, 0xFFFFFFFF, false⟩, -- BROWNOUT_COUNT
  ⟨0x2030, 1, 0, 0, 1, .u8, .const, 9, 255, .none, 0, 0xFF, false⟩, -- ENERGY
  ⟨0x2030, 1, 0, 1, 1, .u8, .rw, 0, 255, .p, 0, 3, false⟩, -- BAK_KIND
  ⟨0x2030, 1, 0, 2, 1, .u32, .rw, 0, 255, .p, 0x64, 0x989680, true⟩, -- BAK_CAPACITANCE
  ⟨0x2030, 1, 0, 3, 1, .u16, .rw, 0xBB8, 255, .p, 0xA8C, 0x157C, false⟩, -- BAK_CELL_MIN
  ⟨0x2030, 1, 0, 4, 1, .u16, .rw, 0, 255, .p, 0, 0x2710, false⟩, -- VIN_HOLDUP_CAP
  ⟨0x2030, 1, 0, 5, 1, .u32, .ro, 0, 255, .none, 0, 0xFFFFFFFF, false⟩, -- STORED_ENERGY
  ⟨0x2030, 1, 0, 6, 1, .u32, .const, 0x96, 255, .none, 0, 0xFFFFFFFF, false⟩, -- ENERGY_NEED
  ⟨0x2030, 1, 0, 7, 1, .u32, .rw, 0, 255, .p, 0, 0xFFFFFFFF, false⟩, -- ENERGY_RESERVE
  ⟨0x2030, 1, 0, 8, 1, .u8, .rw, 0, 255, .p, 0, 0xFF, false⟩, -- BAK_CHARGE_I
  ⟨0x2030, 1, 0, 9, 1, .u16, .rw, 0x12C0, 255, .p, 0xBB8, 0x1518, false⟩, -- BAK_CHARGE_V
  ⟨0x2040, 1, 0, 0, 1, .u8, .const, 3, 255, .none, 0, 0xFF, false⟩, -- PODL
  ⟨0x2040, 1, 0, 1, 1, .u8, .ro, 0, 255, .none, 0, 0xFF, false⟩, -- PODL_STATE
  ⟨0x2040, 1, 0, 2, 1, .u8, .ro, 0, 255, .none, 0, 0xFF, false⟩, -- PODL_CLASS
  ⟨0x2040, 1, 0, 3, 1, .u32, .rw, 0, 255, .none, 0, 0xFFFFFFFF, false⟩ -- PODL_EVENTS
  ]

/-- Objects 2100h to 21FFh. -/
def objRows21 : List ObjRow := [
  ⟨0x2100, 1, 0, 0, 1, .u8, .const, 4, 255, .none, 0, 0xFF, false⟩, -- DOMAINS
  ⟨0x2100, 1, 0, 1, 1, .u16, .ro, 0, 255, .none, 0, 0xFFFF, false⟩, -- DOM_ON_SET
  ⟨0x2100, 1, 0, 2, 1, .u16, .ro, 0, 255, .none, 0, 0xFFFF, false⟩, -- DOM_RET_SET
  ⟨0x2100, 1, 0, 3, 1, .u16, .ro, 0, 255, .none, 0, 0xFFFF, false⟩, -- DOM_BUSY_SET
  ⟨0x2100, 1, 0, 4, 1, .u8, .ro, 0xFF, 255, .none, 0, 0xFF, false⟩, -- DOM_RUNNING
  ⟨0x2110, 1, 0, 0, 1, .u8, .const, 0x10, 255, .none, 0, 0xFF, false⟩, -- DOM_REQ
  ⟨0x2110, 1, 0, 1, 16, .u8, .rw, 0, 255, .none, 0, 0xFF, false⟩, -- DOM_REQ_0 to DOM_REQ_15
  ⟨0x2120, 1, 0, 0, 1, .u8, .const, 0x10, 255, .none, 0, 0xFF, false⟩, -- DOM_STATUS
  ⟨0x2120, 1, 0, 1, 16, .u16, .ro, 0, 255, .none, 0, 0xFFFF, false⟩, -- DOM_STATUS_0 to DOM_STATUS_15
  ⟨0x2130, 1, 0, 0, 1, .u8, .const, 4, 255, .none, 0, 0xFF, false⟩, -- DOM_EVENTS
  ⟨0x2130, 1, 0, 1, 1, .u32, .rw, 0, 255, .none, 0, 0xFFFFFFFF, false⟩, -- DOM_SUPERSEDED
  ⟨0x2130, 1, 0, 2, 1, .u32, .rw, 0, 255, .none, 0, 0xFFFFFFFF, false⟩, -- ACCESS_OFF_COUNT
  ⟨0x2130, 1, 0, 3, 1, .u32, .ro, 0, 255, .none, 0, 0xFFFFFFFF, false⟩, -- ACCESS_OFF_LAST
  ⟨0x2130, 1, 0, 4, 1, .u32, .rw, 0, 255, .none, 0, 0xFFFFFFFF, false⟩, -- DOM_FAILS
  ⟨0x2140, 1, 0, 0, 1, .u8, .const, 4, 255, .none, 0, 0xFF, false⟩, -- WAKE
  ⟨0x2140, 1, 0, 1, 1, .u16, .rw, 0, 255, .p, 0, 0xFFFF, false⟩, -- WAKE_ARM
  ⟨0x2140, 1, 0, 2, 1, .u16, .ro, 0, 255, .none, 0, 0xFFFF, false⟩, -- WAKE_LATCHED
  ⟨0x2140, 1, 0, 3, 1, .u16, .wo, 0, 255, .none, 0, 0xFFFF, false⟩, -- WAKE_CLEAR
  ⟨0x2140, 1, 0, 4, 1, .bool8, .ro, 0, 255, .none, 0, 1, false⟩, -- RET_FAST_REFRESH
  ⟨0x2150, 1, 0, 0, 1, .u8, .const, 0x10, 255, .none, 0, 0xFF, false⟩, -- WAKE_SETS
  ⟨0x2150, 1, 0, 1, 16, .u16, .rw, 2, 255, .p, 0, 0xFFFF, false⟩ -- WAKE_SET_0 to WAKE_SET_15
  ]

/-- Objects 2200h to 22FFh. -/
def objRows22 : List ObjRow := [
  ⟨0x2200, 1, 0, 0, 1, .u8, .const, 9, 255, .none, 0, 0xFF, false⟩, -- CLOCK_RESET
  ⟨0x2200, 1, 0, 1, 1, .u16, .rw, 0xF, 255, .p, 0, 0xFFFF, false⟩, -- BOOT_SET
  ⟨0x2200, 1, 0, 2, 1, .u8, .ro, 1, 255, .none, 0, 0xFF, false⟩, -- RESET_CAUSE
  ⟨0x2200, 1, 0, 3, 1, .u16, .rw, 0, 255, .none, 0, 0xFFFF, false⟩, -- SOFT_RESET_SET
  ⟨0x2200, 1, 0, 4, 1, .u16, .wo, 0, 255, .none, 0, 0xFFFF, false⟩, -- SOFT_RESET
  ⟨0x2200, 1, 0, 5, 1, .u8, .wo, 0, 255, .none, 0, 0xFF, false⟩, -- DOM_RESET
  ⟨0x2200, 1, 0, 6, 1, .u32, .rw, 0, 255, .none, 0, 0xFFFFFFFF, false⟩, -- PLL_LOCK_LOSSES
  ⟨0x2200, 1, 0, 7, 1, .u32, .rw, 0, 255, .none, 0, 0xFFFFFFFF, false⟩, -- XTAL_STOPS
  ⟨0x2200, 1, 0, 8, 1, .u32, .ro, 0, 255, .none, 0, 0xFFFFFFFF, false⟩, -- STARTUP_US
  ⟨0x2200, 1, 0, 9, 1, .u8, .ro, 0, 255, .none, 0, 0xFF, false⟩ -- CLK_STATUS
  ]

/-- Objects 2300h to 23FFh. -/
def objRows23 : List ObjRow := [
  ⟨0x2300, 1, 0, 0, 1, .u8, .const, 2, 1, .none, 0, 0xFF, false⟩, -- JOBS
  ⟨0x2300, 1, 0, 1, 1, .u8, .ro, 0, 1, .none, 0, 0xFF, false⟩, -- JOBS_ACTIVE
  ⟨0x2300, 1, 0, 2, 1, .u32, .rw, 0, 1, .none, 0, 0xFFFFFFFF, false⟩, -- JOBS_FAILED
  ⟨0x2310, 4, 16, 0, 1, .u8, .const, 8, 1, .none, 0, 0xFF, false⟩, -- JOB_SLOT0
  ⟨0x2310, 4, 16, 1, 1, .u8, .rw, 0, 1, .none, 0, 0xFF, false⟩, -- JOB_KIND
  ⟨0x2310, 4, 16, 2, 1, .u8, .wo, 0, 1, .none, 0, 0xFF, false⟩, -- JOB_COMMAND
  ⟨0x2310, 4, 16, 3, 1, .u8, .ro, 0, 1, .none, 0, 0xFF, false⟩, -- JOB_STATE
  ⟨0x2310, 4, 16, 4, 1, .u32, .ro, 0, 1, .none, 0, 0xFFFFFFFF, false⟩, -- JOB_PROGRESS
  ⟨0x2310, 4, 16, 5, 1, .u32, .ro, 0, 1, .none, 0, 0xFFFFFFFF, false⟩, -- JOB_TOTAL
  ⟨0x2310, 4, 16, 6, 1, (.octets 16), .rw, 0, 1, .none, 0, 0xFFFFFFFFFFFFFFFFFFFFFFFFFFFFFFFF, false⟩, -- JOB_PARAM
  ⟨0x2310, 4, 16, 7, 1, .u16, .ro, 0, 1, .none, 0, 0xFFFF, false⟩, -- JOB_RESULT
  ⟨0x2310, 4, 16, 8, 1, .u8, .ro, 0, 1, .none, 0, 0xFF, false⟩ -- JOB_CAUSE
  ]

/-- Objects 2400h to 24FFh. -/
def objRows24 : List ObjRow := [
  ⟨0x2400, 1, 0, 0, 1, .u8, .const, 6, 2, .none, 0, 0xFF, false⟩, -- NV_JOURNAL
  ⟨0x2400, 1, 0, 1, 1, .u32, .ro, 0, 2, .none, 0, 0xFFFFFFFF, false⟩, -- NV_JOURNAL_FREE
  ⟨0x2400, 1, 0, 2, 1, .u32, .ro, 0, 2, .none, 0, 0xFFFFFFFF, false⟩, -- NV_JOURNAL_RESERVED
  ⟨0x2400, 1, 0, 3, 1, .u8, .ro, 0, 2, .none, 0, 0xFF, false⟩, -- NV_SECTORS_ERASED
  ⟨0x2400, 1, 0, 4, 1, .u8, .rw, 8, 2, .pw, 2, 0x1E, false⟩, -- NV_COMPACT_WARN
  ⟨0x2400, 1, 0, 5, 1, .u32, .ro, 0, 2, .none, 0, 0xFFFFFFFF, false⟩, -- NV_HOME_GEN
  ⟨0x2400, 1, 0, 6, 1, .u8, .ro, 0, 2, .none, 0, 0xFF, false⟩, -- NV_STEP_ACTIVE
  ⟨0x2410, 1, 0, 0, 1, .u8, .const, 5, 1, .none, 0, 0xFF, false⟩, -- NV_LOAD
  ⟨0x2410, 1, 0, 1, 1, .u8, .ro, 0, 1, .none, 0, 0xFF, false⟩, -- NV_LOAD_RESULT
  ⟨0x2410, 1, 0, 2, 1, .u32, .ro, 0, 1, .none, 0, 0xFFFFFFFF, false⟩, -- NV_LOAD_US
  ⟨0x2410, 1, 0, 3, 1, .u32, .ro, 0, 1, .none, 0, 0xFFFFFFFF, false⟩, -- NV_RECORDS_APPLIED
  ⟨0x2410, 1, 0, 4, 1, .u32, .ro, 0, 1, .none, 0, 0xFFFFFFFF, false⟩, -- NV_RECORDS_VOID
  ⟨0x2410, 1, 0, 5, 1, .u32, .ro, 0, 1, .none, 0, 0xFFFFFFFF, false⟩, -- NV_RECORDS_BAD
  ⟨0x2420, 1, 0, 0, 1, .u8, .const, 4, 2, .none, 0, 0xFF, false⟩, -- NV_WEAR
  ⟨0x2420, 1, 0, 1, 1, .u32, .ro, 0, 2, .none, 0, 0xFFFFFFFF, false⟩, -- NV_ERASE_MAX
  ⟨0x2420, 1, 0, 2, 1, .u32, .ro, 0, 2, .none, 0, 0xFFFFFFFF, false⟩, -- NV_ERASE_TOTAL
  ⟨0x2420, 1, 0, 3, 1, .u32, .rw, 0, 2, .none, 0, 0xFFFFFFFF, false⟩, -- NV_PW_WRITES
  ⟨0x2420, 1, 0, 4, 1, .u32, .rw, 0, 2, .none, 0, 0xFFFFFFFF, false⟩ -- NV_REFUSED
  ]

/-- Objects 2500h to 25FFh. -/
def objRows25 : List ObjRow := [
  ⟨0x2500, 1, 0, 0, 1, .u8, .const, 4, 3, .none, 0, 0xFF, false⟩, -- PM_STATUS
  ⟨0x2500, 1, 0, 1, 1, .u32, .rw, 0, 3, .none, 0, 0xFFFFFFFF, false⟩, -- BARGES_LOST
  ⟨0x2500, 1, 0, 2, 1, .u16, .ro, 0, 3, .none, 0, 0xFFFF, false⟩, -- BARGES_RETIRED
  ⟨0x2500, 1, 0, 3, 1, .u32, .rw, 0, 3, .none, 0, 0xFFFFFFFF, false⟩, -- OWNER_REFUSALS
  ⟨0x2500, 1, 0, 4, 1, .u16, .rw, 0x100, 3, .p, 1, 0xFFFF, false⟩, -- ECC_CORR_THRESH
  ⟨0x2508, 1, 0, 0, 1, .u8, .const, 3, 3, .none, 0, 0xFF, false⟩, -- ALLOC
  ⟨0x2508, 1, 0, 1, 1, .u16, .wo, 0, 3, .none, 0, 0xFFFF, false⟩, -- ALLOC_REQ
  ⟨0x2508, 1, 0, 2, 1, (.octets 16), .ro, 0xFFFFFFFFFFFFFFFFFFFFFFFFFFFFFFFF, 3, .none, 0, 0xFFFFFFFFFFFFFFFFFFFFFFFFFFFFFFFF, false⟩, -- ALLOC_RESULT
  ⟨0x2508, 1, 0, 3, 1, .u16, .wo, 0, 3, .none, 0, 0xFFFF, false⟩, -- FREE_REQ
  ⟨0x2509, 1, 0, 0, 1, .u8, .const, 2, 3, .none, 0, 0xFF, false⟩, -- BARGE_QUERY
  ⟨0x2509, 1, 0, 1, 1, .u16, .rw, 0, 3, .none, 0, 0x1FFF, false⟩, -- BQ_BARGE
  ⟨0x2509, 1, 0, 2, 1, (.octets 8), .ro, 0, 3, .none, 0, 0xFFFFFFFFFFFFFFFF, false⟩, -- BQ_RECORD
  ⟨0x2520, 16, 1, 0, 1, .u8, .const, 7, 3, .none, 0, 0xFF, false⟩, -- POUND_0
  ⟨0x2520, 16, 1, 1, 1, .u16, .rw, 0, 3, .p, 0, 0x1FFF, false⟩, -- POUND_BASE
  ⟨0x2520, 16, 1, 2, 1, .u16, .rw, 0, 3, .p, 0, 0x2000, false⟩, -- POUND_COUNT
  ⟨0x2520, 16, 1, 3, 1, .bool8, .rw, 0, 3, .p, 0, 1, false⟩, -- POUND_ENABLE
  ⟨0x2520, 16, 1, 4, 1, .u16, .rw, 0, 3, .p, 0, 0xFFFF, false⟩, -- POUND_LOW_WATER
  ⟨0x2520, 16, 1, 5, 1, .u16, .ro, 0, 3, .none, 0, 0xFFFF, false⟩, -- POUND_FREE
  ⟨0x2520, 16, 1, 6, 1, .u32, .rw, 0, 3, .none, 0, 0xFFFFFFFF, false⟩, -- POUND_ALLOC_FAILS
  ⟨0x2520, 16, 1, 7, 1, .u8, .ro, 0, 3, .none, 0, 0xFF, false⟩, -- POUND_STATE
  ⟨0x2540, 4, 1, 0, 1, .u8, .const, 3, 3, .none, 0, 0xFF, false⟩, -- ECC_BANK0
  ⟨0x2540, 4, 1, 1, 1, .u32, .rw, 0, 3, .none, 0, 0xFFFFFFFF, false⟩, -- ECC_CORRECTED
  ⟨0x2540, 4, 1, 2, 1, .u32, .rw, 0, 3, .none, 0, 0xFFFFFFFF, false⟩, -- ECC_UNCORRECTABLE
  ⟨0x2540, 4, 1, 3, 1, .u32, .ro, 0, 3, .none, 0, 0xFFFFFFFF, false⟩, -- ECC_LAST_ADDR
  ⟨0x2550, 1, 0, 0, 1, .u8, .const, 2, 3, .none, 0, 0xFF, false⟩, -- BANK_TEST_RESULT
  ⟨0x2550, 1, 0, 1, 1, .u32, .ro, 0xFFFFFFFF, 3, .none, 0, 0xFFFFFFFF, false⟩, -- BT_FAIL_ADDR
  ⟨0x2550, 1, 0, 2, 1, .u32, .ro, 0, 3, .none, 0, 0xFFFFFFFF, false⟩ -- BT_FAIL_WORDS
  ]

/-- Objects 2600h to 26FFh. -/
def objRows26 : List ObjRow := [
  ⟨0x2600, 56, 1, 0, 1, .u8, .const, 0xB, 1, .none, 0, 0xFF, false⟩, -- RING_00
  ⟨0x2600, 56, 1, 1, 1, .u16, .rws, 0, 1, .none, 0, 0x1FFF, false⟩, -- RING_BASE
  ⟨0x2600, 56, 1, 2, 1, .u8, .rws, 4, 1, .none, 4, 0xC, false⟩, -- RING_SIZE
  ⟨0x2600, 56, 1, 3, 1, .u8, .rw, 0, 1, .none, 0, 0xFF, false⟩, -- RING_CTRL
  ⟨0x2600, 56, 1, 4, 1, .u16, .ro, 0, 1, .none, 0, 0xFFFF, false⟩, -- RING_HOST_INDEX
  ⟨0x2600, 56, 1, 5, 1, .u16, .ro, 0, 1, .none, 0, 0xFFFF, false⟩, -- RING_DEV_INDEX
  ⟨0x2600, 56, 1, 6, 1, .u16, .ro, 0, 1, .none, 0, 0xFFFF, false⟩, -- RING_FETCH_INDEX
  ⟨0x2600, 8, 1, 7, 1, .u8, .rw, 0x10, 1, .none, 0, 0x1F, false⟩, -- RING_EVENT_LINE
  ⟨0x2600, 56, 1, 8, 1, .u8, .rw, 1, 1, .none, 1, 0xFF, false⟩, -- RING_COAL_COUNT
  ⟨0x2600, 56, 1, 9, 1, .u16, .rw, 0, 1, .none, 1, 0x2710, true⟩, -- RING_COAL_TIME
  ⟨0x2600, 56, 1, 10, 1, .u32, .rw, 0, 1, .none, 0, 0xFFFFFFFF, false⟩, -- RING_DROPS
  ⟨0x2600, 56, 1, 11, 1, .u32, .rw, 0, 1, .none, 0, 0xFFFFFFFF, false⟩, -- RING_ERRORS
  ⟨0x2608, 8, 1, 7, 1, .u8, .rw, 0x11, 1, .none, 0, 0x1F, false⟩, -- RING_EVENT_LINE
  ⟨0x2610, 8, 1, 7, 1, .u8, .rw, 0x12, 1, .none, 0, 0x1F, false⟩, -- RING_EVENT_LINE
  ⟨0x2618, 8, 1, 7, 1, .u8, .rw, 0x13, 1, .none, 0, 0x1F, false⟩, -- RING_EVENT_LINE
  ⟨0x2620, 1, 1, 7, 1, .u8, .rw, 0, 1, .none, 0, 0x1F, false⟩, -- RING_EVENT_LINE
  ⟨0x2621, 1, 1, 7, 1, .u8, .rw, 1, 1, .none, 0, 0x1F, false⟩, -- RING_EVENT_LINE
  ⟨0x2622, 1, 1, 7, 1, .u8, .rw, 2, 1, .none, 0, 0x1F, false⟩, -- RING_EVENT_LINE
  ⟨0x2623, 1, 1, 7, 1, .u8, .rw, 3, 1, .none, 0, 0x1F, false⟩, -- RING_EVENT_LINE
  ⟨0x2624, 1, 1, 7, 1, .u8, .rw, 4, 1, .none, 0, 0x1F, false⟩, -- RING_EVENT_LINE
  ⟨0x2625, 1, 1, 7, 1, .u8, .rw, 5, 1, .none, 0, 0x1F, false⟩, -- RING_EVENT_LINE
  ⟨0x2626, 1, 1, 7, 1, .u8, .rw, 6, 1, .none, 0, 0x1F, false⟩, -- RING_EVENT_LINE
  ⟨0x2627, 1, 1, 7, 1, .u8, .rw, 7, 1, .none, 0, 0x1F, false⟩, -- RING_EVENT_LINE
  ⟨0x2628, 1, 1, 7, 1, .u8, .rw, 8, 1, .none, 0, 0x1F, false⟩, -- RING_EVENT_LINE
  ⟨0x2629, 1, 1, 7, 1, .u8, .rw, 9, 1, .none, 0, 0x1F, false⟩, -- RING_EVENT_LINE
  ⟨0x262A, 1, 1, 7, 1, .u8, .rw, 0xA, 1, .none, 0, 0x1F, false⟩, -- RING_EVENT_LINE
  ⟨0x262B, 1, 1, 7, 1, .u8, .rw, 0xB, 1, .none, 0, 0x1F, false⟩, -- RING_EVENT_LINE
  ⟨0x262C, 1, 1, 7, 1, .u8, .rw, 0xC, 1, .none, 0, 0x1F, false⟩, -- RING_EVENT_LINE
  ⟨0x262D, 1, 1, 7, 1, .u8, .rw, 0xD, 1, .none, 0, 0x1F, false⟩, -- RING_EVENT_LINE
  ⟨0x262E, 1, 1, 7, 1, .u8, .rw, 0xE, 1, .none, 0, 0x1F, false⟩, -- RING_EVENT_LINE
  ⟨0x262F, 1, 1, 7, 1, .u8, .rw, 0xF, 1, .none, 0, 0x1F, false⟩, -- RING_EVENT_LINE
  ⟨0x2630, 1, 1, 7, 1, .u8, .rw, 0x14, 1, .none, 0, 0x1F, false⟩, -- RING_EVENT_LINE
  ⟨0x2631, 1, 1, 7, 1, .u8, .rw, 0x15, 1, .none, 0, 0x1F, false⟩, -- RING_EVENT_LINE
  ⟨0x2632, 1, 1, 7, 1, .u8, .rw, 0x16, 1, .none, 0, 0x1F, false⟩, -- RING_EVENT_LINE
  ⟨0x2633, 1, 1, 7, 1, .u8, .rw, 0x17, 1, .none, 0, 0x1F, false⟩, -- RING_EVENT_LINE
  ⟨0x2634, 1, 1, 7, 1, .u8, .rw, 0x18, 1, .none, 0, 0x1F, false⟩, -- RING_EVENT_LINE
  ⟨0x2635, 1, 1, 7, 1, .u8, .rw, 0x19, 1, .none, 0, 0x1F, false⟩, -- RING_EVENT_LINE
  ⟨0x2636, 1, 1, 7, 1, .u8, .rw, 0x1A, 1, .none, 0, 0x1F, false⟩, -- RING_EVENT_LINE
  ⟨0x2637, 1, 1, 7, 1, .u8, .rw, 0x1B, 1, .none, 0, 0x1F, false⟩, -- RING_EVENT_LINE
  ⟨0x2680, 1, 0, 0, 1, .u8, .const, 6, 1, .none, 0, 0xFF, false⟩, -- RX_POUNDS
  ⟨0x2680, 1, 0, 1, 4, .u8, .rw, 0, 1, .none, 0, 0xF, false⟩, -- RX_POUND_PORT0 to RX_POUND_PORT3
  ⟨0x2680, 1, 0, 5, 2, .u8, .rw, 0, 1, .none, 0, 0xF, false⟩, -- RX_POUND_C0, RX_POUND_C1
  ⟨0x2690, 1, 0, 0, 1, .u8, .const, 6, 1, .none, 0, 0xFF, false⟩, -- NOBUF
  ⟨0x2690, 1, 0, 1, 6, .u32, .rw, 0, 1, .none, 0, 0xFFFFFFFF, false⟩ -- NOBUF_DROPS, ports 0 to 3, then C0 and C
  ]

/-- Objects 3000h to 30FFh. -/
def objRows30 : List ObjRow := [
  ⟨0x3000, 1, 0, 0, 1, .u8, .const, 4, 7, .none, 0, 0xFF, false⟩, -- TRUNK
  ⟨0x3000, 1, 0, 1, 1, .bool8, .rw, 0, 7, .p, 0, 1, false⟩, -- PORT_RUN
  ⟨0x3000, 1, 0, 2, 1, .u8, .ro, 0, 7, .none, 0, 0xFF, false⟩, -- LINK_STATE
  ⟨0x3000, 1, 0, 3, 1, .u8, .ro, 0, 7, .none, 0, 0xFF, false⟩, -- LINK_RATE
  ⟨0x3000, 1, 0, 4, 1, .u32, .rw, 0, 7, .none, 0, 0xFFFFFFFF, false⟩, -- LINK_CHANGES
  ⟨0x3010, 1, 0, 0, 1, .u8, .const, 7, 7, .none, 0, 0xFF, false⟩, -- MDIO
  ⟨0x3010, 1, 0, 1, 1, .u8, .rws, 0, 7, .p, 0, 0x1F, false⟩, -- TRUNK_PHY_ADDR
  ⟨0x3010, 1, 0, 2, 1, .u8, .rws, 0x28, 7, .p, 0x28, 0xFE, false⟩, -- MDC_DIV
  ⟨0x3010, 1, 0, 3, 1, .u16, .rw, 0xA, 7, .p, 1, 0x3E8, false⟩, -- MDIO_POLL_MS
  ⟨0x3010, 1, 0, 4, 1, .u8, .rws, 3, 7, .p, 0, 0xFF, false⟩, -- TRUNK_ADVERTISE
  ⟨0x3010, 1, 0, 5, 1, (.octets 8), .wo, 0, 7, .none, 0, 0xFFFFFFFFFFFFFFFF, false⟩, -- MDIO_CMD
  ⟨0x3010, 1, 0, 6, 1, .u32, .ro, 0, 7, .none, 0, 0xFFFFFFFF, false⟩, -- MDIO_RESULT
  ⟨0x3010, 1, 0, 7, 1, .u16, .ro, 0, 7, .none, 0, 0xFFFF, false⟩, -- PHY_BMSR_LAST
  ⟨0x3020, 1, 0, 0, 1, .u8, .const, 0xC, 7, .none, 0, 0xFF, false⟩, -- GOVERNOR
  ⟨0x3020, 1, 0, 1, 1, .bool8, .rw, 0, 7, .p, 0, 1, false⟩, -- GOV_ENABLE
  ⟨0x3020, 1, 0, 2, 1, .u16, .rw, 0x1E, 7, .p, 1, 0x59, false⟩, -- GOV_DOWN_PERMILLE
  ⟨0x3020, 1, 0, 3, 1, .u16, .rw, 0x3C, 7, .p, 2, 0x5A, false⟩, -- GOV_UP_PERMILLE
  ⟨0x3020, 1, 0, 4, 1, .u32, .rw, 0xEA60, 7, .p, 0x3E8, 0x5265C00, false⟩, -- GOV_DOWN_DWELL
  ⟨0x3020, 1, 0, 5, 1, .u32, .rw, 0x3E8, 7, .p, 0x64, 0x36EE80, false⟩, -- GOV_UP_DWELL
  ⟨0x3020, 1, 0, 6, 1, .u16, .rw, 0x64, 7, .p, 0xA, 0x2710, false⟩, -- GOV_WINDOW
  ⟨0x3020, 1, 0, 7, 1, .u32, .rw, 0x1388, 7, .p, 0x1F4, 0xEA60, false⟩, -- GOV_HOLD_LIMIT
  ⟨0x3020, 1, 0, 8, 1, .u16, .ro, 0, 7, .none, 0, 0xFFFF, false⟩, -- GOV_UTIL
  ⟨0x3020, 1, 0, 9, 1, .u32, .rw, 0, 7, .none, 0, 0xFFFFFFFF, false⟩, -- GOV_STEPS
  ⟨0x3020, 1, 0, 10, 1, .u32, .rw, 0, 7, .none, 0, 0xFFFFFFFF, false⟩, -- GOV_FAILS
  ⟨0x3020, 1, 0, 11, 1, .u32, .ro, 0, 7, .none, 0, 0xFFFFFFFF, false⟩, -- GOV_LAST_OUTAGE_MS
  ⟨0x3020, 1, 0, 12, 1, .u8, .ro, 0, 7, .none, 0, 0xFF, false⟩ -- GOV_STATUS
  ]

/-- Objects 3100h to 31FFh. -/
def objRows31 : List ObjRow := [
  ⟨0x3100, 1, 0, 0, 1, .u8, .const, 4, 8, .none, 0, 0xFF, false⟩, -- TRUNK
  ⟨0x3100, 1, 0, 1, 1, .bool8, .rw, 0, 8, .p, 0, 1, false⟩, -- PORT_RUN
  ⟨0x3100, 1, 0, 2, 1, .u8, .ro, 0, 8, .none, 0, 0xFF, false⟩, -- LINK_STATE
  ⟨0x3100, 1, 0, 3, 1, .u8, .ro, 0, 8, .none, 0, 0xFF, false⟩, -- LINK_RATE
  ⟨0x3100, 1, 0, 4, 1, .u32, .rw, 0, 8, .none, 0, 0xFFFFFFFF, false⟩, -- LINK_CHANGES
  ⟨0x3110, 1, 0, 0, 1, .u8, .const, 7, 8, .none, 0, 0xFF, false⟩, -- T1L
  ⟨0x3110, 1, 0, 1, 1, .u8, .rws, 3, 8, .p, 0, 0xFF, false⟩, -- T1L_LEVEL_CTRL
  ⟨0x3110, 1, 0, 2, 1, .bool8, .rws, 1, 8, .p, 0, 1, false⟩, -- T1L_AN_ENABLE
  ⟨0x3110, 1, 0, 3, 1, .u8, .rws, 0, 8, .p, 0, 0xFF, false⟩, -- T1L_FORCE
  ⟨0x3110, 1, 0, 4, 1, .u8, .rws, 0, 8, .p, 0, 0xFF, false⟩, -- T1L_ROLE_PREF
  ⟨0x3110, 1, 0, 5, 1, .u8, .ro, 0, 8, .none, 0, 0xFF, false⟩, -- T1L_RESOLVED
  ⟨0x3110, 1, 0, 6, 1, .u8, .ro, 0, 8, .none, 0, 0xFF, false⟩, -- T1L_SQI
  ⟨0x3110, 1, 0, 7, 1, .u16, .ro, 0, 8, .none, 0, 0xFFFF, false⟩, -- T1L_MSE
  ⟨0x3150, 1, 0, 0, 1, .u8, .const, 4, 8, .none, 0, 0xFF, false⟩, -- CABLE_DIAG_1
  ⟨0x3150, 1, 0, 1, 1, .u16, .rw, 0x294, 8, .p, 0x1F4, 0x384, false⟩, -- CD_NVP
  ⟨0x3150, 1, 0, 2, 1, .u8, .ro, 0, 8, .none, 0, 0xFF, false⟩, -- CD_RESULT
  ⟨0x3150, 1, 0, 3, 1, .u16, .ro, 0xFFFF, 8, .none, 0, 0xFFFF, false⟩, -- CD_DISTANCE
  ⟨0x3150, 1, 0, 4, 1, .i16, .ro, 0, 8, .none, 0, 0xFFFF, false⟩ -- CD_AMPLITUDE
  ]

/-- Objects 3200h to 32FFh. -/
def objRows32 : List ObjRow := [
  ⟨0x3200, 1, 0, 0, 1, .u8, .const, 4, 9, .none, 0, 0xFF, false⟩, -- TRUNK
  ⟨0x3200, 1, 0, 1, 1, .bool8, .rw, 0, 9, .p, 0, 1, false⟩, -- PORT_RUN
  ⟨0x3200, 1, 0, 2, 1, .u8, .ro, 0, 9, .none, 0, 0xFF, false⟩, -- LINK_STATE
  ⟨0x3200, 1, 0, 3, 1, .u8, .ro, 0, 9, .none, 0, 0xFF, false⟩, -- LINK_RATE
  ⟨0x3200, 1, 0, 4, 1, .u32, .rw, 0, 9, .none, 0, 0xFFFFFFFF, false⟩, -- LINK_CHANGES
  ⟨0x3210, 1, 0, 0, 1, .u8, .const, 8, 9, .none, 0, 0xFF, false⟩, -- PLCA
  ⟨0x3210, 1, 0, 1, 1, .u8, .rws, 0, 9, .p, 0, 2, false⟩, -- SEG_MODE
  ⟨0x3210, 1, 0, 2, 1, .u8, .rws, 1, 9, .p, 0, 0x1F, false⟩, -- PLCA_ID
  ⟨0x3210, 1, 0, 3, 1, .u8, .rws, 8, 9, .p, 1, 0x20, false⟩, -- PLCA_NODE_COUNT
  ⟨0x3210, 1, 0, 4, 1, .u8, .rws, 0x20, 9, .p, 0, 0xFF, false⟩, -- PLCA_TO_TIMER
  ⟨0x3210, 1, 0, 5, 1, .u8, .rws, 0, 9, .p, 0, 0xFF, false⟩, -- PLCA_BURST_MAX
  ⟨0x3210, 1, 0, 6, 1, .u8, .rws, 0x80, 9, .p, 0, 0xFF, false⟩, -- PLCA_BURST_TIMER
  ⟨0x3210, 1, 0, 7, 1, .u8, .ro, 0, 9, .none, 0, 0xFF, false⟩, -- PLCA_STATUS
  ⟨0x3210, 1, 0, 8, 1, .u32, .rw, 0, 9, .none, 0, 0xFFFFFFFF, false⟩, -- PLCA_CONFLICTS
  ⟨0x3220, 1, 0, 0, 1, .u8, .const, 9, 9, .none, 0, 0xFF, false⟩, -- SLOT_GUARD
  ⟨0x3220, 1, 0, 1, 1, .bool8, .rw, 1, 9, .p, 0, 1, false⟩, -- SG_ENABLE
  ⟨0x3220, 1, 0, 2, 1, .u8, .rws, 2, 9, .p, 1, 8, false⟩, -- SG_WIDTH
  ⟨0x3220, 1, 0, 3, 1, .u8, .rw, 8, 9, .p, 1, 0xFF, false⟩, -- SG_YIELD_LIMIT
  ⟨0x3220, 1, 0, 4, 1, .u8, .ro, 0, 9, .none, 0, 0xFF, false⟩, -- SG_STATUS
  ⟨0x3220, 1, 0, 5, 1, .u32, .rw, 0, 9, .none, 0, 0xFFFFFFFF, false⟩, -- SG_YIELDS
  ⟨0x3220, 1, 0, 6, 1, .i16, .ro, 0, 9, .none, 0, 0xFFFF, false⟩, -- SG_SELF_EST
  ⟨0x3220, 1, 0, 7, 1, .u8, .ro, 0, 9, .none, 0, 0xFF, false⟩, -- SG_LAST_HOLD
  ⟨0x3220, 1, 0, 8, 1, .u32, .rw, 0, 9, .none, 0, 0xFFFFFFFF, false⟩, -- SG_ALARMS
  ⟨0x3220, 1, 0, 9, 1, .u32, .rw, 0, 9, .none, 0, 0xFFFFFFFF, false⟩, -- SG_LATE_STARTS
  ⟨0x3240, 1, 0, 0, 1, .u8, .const, 0x20, 9, .none, 0, 0xFF, false⟩, -- SG_DRIFT
  ⟨0x3240, 1, 0, 1, 32, .i16, .ro, 0x8000, 9, .none, 0, 0xFFFF, false⟩, -- SG_DRIFT_0 to SG_DRIFT_31
  ⟨0x3250, 1, 0, 0, 1, .u8, .const, 4, 9, .none, 0, 0xFF, false⟩, -- CABLE_DIAG_1
  ⟨0x3250, 1, 0, 1, 1, .u16, .rw, 0x294, 9, .p, 0x1F4, 0x384, false⟩, -- CD_NVP
  ⟨0x3250, 1, 0, 2, 1, .u8, .ro, 0, 9, .none, 0, 0xFF, false⟩, -- CD_RESULT
  ⟨0x3250, 1, 0, 3, 1, .u16, .ro, 0xFFFF, 9, .none, 0, 0xFFFF, false⟩, -- CD_DISTANCE
  ⟨0x3250, 1, 0, 4, 1, .i16, .ro, 0, 9, .none, 0, 0xFFFF, false⟩ -- CD_AMPLITUDE
  ]

/-- Objects 3300h to 33FFh. -/
def objRows33 : List ObjRow := [
  ⟨0x3300, 1, 0, 0, 1, .u8, .const, 4, 10, .none, 0, 0xFF, false⟩, -- TRUNK
  ⟨0x3300, 1, 0, 1, 1, .bool8, .rw, 0, 10, .p, 0, 1, false⟩, -- PORT_RUN
  ⟨0x3300, 1, 0, 2, 1, .u8, .ro, 0, 10, .none, 0, 0xFF, false⟩, -- LINK_STATE
  ⟨0x3300, 1, 0, 3, 1, .u8, .ro, 0, 10, .none, 0, 0xFF, false⟩, -- LINK_RATE
  ⟨0x3300, 1, 0, 4, 1, .u32, .rw, 0, 10, .none, 0, 0xFFFFFFFF, false⟩, -- LINK_CHANGES
  ⟨0x3310, 1, 0, 0, 1, .u8, .const, 8, 10, .none, 0, 0xFF, false⟩, -- PLCA
  ⟨0x3310, 1, 0, 1, 1, .u8, .rws, 0, 10, .p, 0, 2, false⟩, -- SEG_MODE
  ⟨0x3310, 1, 0, 2, 1, .u8, .rws, 1, 10, .p, 0, 0x1F, false⟩, -- PLCA_ID
  ⟨0x3310, 1, 0, 3, 1, .u8, .rws, 8, 10, .p, 1, 0x20, false⟩, -- PLCA_NODE_COUNT
  ⟨0x3310, 1, 0, 4, 1, .u8, .rws, 0x20, 10, .p, 0, 0xFF, false⟩, -- PLCA_TO_TIMER
  ⟨0x3310, 1, 0, 5, 1, .u8, .rws, 0, 10, .p, 0, 0xFF, false⟩, -- PLCA_BURST_MAX
  ⟨0x3310, 1, 0, 6, 1, .u8, .rws, 0x80, 10, .p, 0, 0xFF, false⟩, -- PLCA_BURST_TIMER
  ⟨0x3310, 1, 0, 7, 1, .u8, .ro, 0, 10, .none, 0, 0xFF, false⟩, -- PLCA_STATUS
  ⟨0x3310, 1, 0, 8, 1, .u32, .rw, 0, 10, .none, 0, 0xFFFFFFFF, false⟩, -- PLCA_CONFLICTS
  ⟨0x3320, 1, 0, 0, 1, .u8, .const, 9, 10, .none, 0, 0xFF, false⟩, -- SLOT_GUARD
  ⟨0x3320, 1, 0, 1, 1, .bool8, .rw, 1, 10, .p, 0, 1, false⟩, -- SG_ENABLE
  ⟨0x3320, 1, 0, 2, 1, .u8, .rws, 2, 10, .p, 1, 8, false⟩, -- SG_WIDTH
  ⟨0x3320, 1, 0, 3, 1, .u8, .rw, 8, 10, .p, 1, 0xFF, false⟩, -- SG_YIELD_LIMIT
  ⟨0x3320, 1, 0, 4, 1, .u8, .ro, 0, 10, .none, 0, 0xFF, false⟩, -- SG_STATUS
  ⟨0x3320, 1, 0, 5, 1, .u32, .rw, 0, 10, .none, 0, 0xFFFFFFFF, false⟩, -- SG_YIELDS
  ⟨0x3320, 1, 0, 6, 1, .i16, .ro, 0, 10, .none, 0, 0xFFFF, false⟩, -- SG_SELF_EST
  ⟨0x3320, 1, 0, 7, 1, .u8, .ro, 0, 10, .none, 0, 0xFF, false⟩, -- SG_LAST_HOLD
  ⟨0x3320, 1, 0, 8, 1, .u32, .rw, 0, 10, .none, 0, 0xFFFFFFFF, false⟩, -- SG_ALARMS
  ⟨0x3320, 1, 0, 9, 1, .u32, .rw, 0, 10, .none, 0, 0xFFFFFFFF, false⟩, -- SG_LATE_STARTS
  ⟨0x3340, 1, 0, 0, 1, .u8, .const, 0x20, 10, .none, 0, 0xFF, false⟩, -- SG_DRIFT
  ⟨0x3340, 1, 0, 1, 32, .i16, .ro, 0x8000, 10, .none, 0, 0xFFFF, false⟩, -- SG_DRIFT_0 to SG_DRIFT_31
  ⟨0x3350, 1, 0, 0, 1, .u8, .const, 4, 10, .none, 0, 0xFF, false⟩, -- CABLE_DIAG_1
  ⟨0x3350, 1, 0, 1, 1, .u16, .rw, 0x294, 10, .p, 0x1F4, 0x384, false⟩, -- CD_NVP
  ⟨0x3350, 1, 0, 2, 1, .u8, .ro, 0, 10, .none, 0, 0xFF, false⟩, -- CD_RESULT
  ⟨0x3350, 1, 0, 3, 1, .u16, .ro, 0xFFFF, 10, .none, 0, 0xFFFF, false⟩, -- CD_DISTANCE
  ⟨0x3350, 1, 0, 4, 1, .i16, .ro, 0, 10, .none, 0, 0xFFFF, false⟩ -- CD_AMPLITUDE
  ]

/-- Objects 3800h to 38FFh. -/
def objRows38 : List ObjRow := [
  ⟨0x3800, 1, 0, 0, 1, .u8, .const, 7, 7, .none, 0, 0xFF, false⟩, -- MAC_RX_0
  ⟨0x3800, 1, 0, 1, 1, .u8, .rw, 0x14, 7, .p, 0, 0xFF, false⟩, -- RX_CTRL
  ⟨0x3800, 1, 0, 2, 1, .u16, .rw, 0x7D0, 7, .p, 0x5EE, 0x7D0, false⟩, -- FRAME_MAX
  ⟨0x3800, 1, 0, 3, 1, .u8, .rw, 0, 7, .p, 0, 0xF, false⟩, -- ERR_RING
  ⟨0x3800, 1, 0, 4, 1, .u8, .rw, 0, 7, .p, 0, 0xFF, false⟩, -- PM_ENABLE
  ⟨0x3800, 1, 0, 5, 1, .bool8, .rw, 0, 7, .none, 0, 1, false⟩, -- WAKE_LISTEN
  ⟨0x3800, 1, 0, 6, 1, .u32, .rw, 0, 7, .none, 0, 0xFFFFFFFF, false⟩, -- WAKE_MATCHES
  ⟨0x3800, 1, 0, 7, 1, .u8, .ro, 0xFF, 7, .none, 0, 0xFF, false⟩, -- PRALINE_HIT
  ⟨0x3801, 1, 0, 0, 1, .u8, .const, 7, 8, .none, 0, 0xFF, false⟩, -- MAC_RX_0
  ⟨0x3801, 1, 0, 1, 1, .u8, .rw, 0x14, 8, .p, 0, 0xFF, false⟩, -- RX_CTRL
  ⟨0x3801, 1, 0, 2, 1, .u16, .rw, 0x7D0, 8, .p, 0x5EE, 0x7D0, false⟩, -- FRAME_MAX
  ⟨0x3801, 1, 0, 3, 1, .u8, .rw, 0, 8, .p, 0, 0xF, false⟩, -- ERR_RING
  ⟨0x3801, 1, 0, 4, 1, .u8, .rw, 0, 8, .p, 0, 0xFF, false⟩, -- PM_ENABLE
  ⟨0x3801, 1, 0, 5, 1, .bool8, .rw, 0, 8, .none, 0, 1, false⟩, -- WAKE_LISTEN
  ⟨0x3801, 1, 0, 6, 1, .u32, .rw, 0, 8, .none, 0, 0xFFFFFFFF, false⟩, -- WAKE_MATCHES
  ⟨0x3801, 1, 0, 7, 1, .u8, .ro, 0xFF, 8, .none, 0, 0xFF, false⟩, -- PRALINE_HIT
  ⟨0x3802, 1, 0, 0, 1, .u8, .const, 7, 9, .none, 0, 0xFF, false⟩, -- MAC_RX_0
  ⟨0x3802, 1, 0, 1, 1, .u8, .rw, 0x14, 9, .p, 0, 0xFF, false⟩, -- RX_CTRL
  ⟨0x3802, 1, 0, 2, 1, .u16, .rw, 0x7D0, 9, .p, 0x5EE, 0x7D0, false⟩, -- FRAME_MAX
  ⟨0x3802, 1, 0, 3, 1, .u8, .rw, 0, 9, .p, 0, 0xF, false⟩, -- ERR_RING
  ⟨0x3802, 1, 0, 4, 1, .u8, .rw, 0, 9, .p, 0, 0xFF, false⟩, -- PM_ENABLE
  ⟨0x3802, 1, 0, 5, 1, .bool8, .rw, 0, 9, .none, 0, 1, false⟩, -- WAKE_LISTEN
  ⟨0x3802, 1, 0, 6, 1, .u32, .rw, 0, 9, .none, 0, 0xFFFFFFFF, false⟩, -- WAKE_MATCHES
  ⟨0x3802, 1, 0, 7, 1, .u8, .ro, 0xFF, 9, .none, 0, 0xFF, false⟩, -- PRALINE_HIT
  ⟨0x3803, 1, 0, 0, 1, .u8, .const, 7, 10, .none, 0, 0xFF, false⟩, -- MAC_RX_0
  ⟨0x3803, 1, 0, 1, 1, .u8, .rw, 0x14, 10, .p, 0, 0xFF, false⟩, -- RX_CTRL
  ⟨0x3803, 1, 0, 2, 1, .u16, .rw, 0x7D0, 10, .p, 0x5EE, 0x7D0, false⟩, -- FRAME_MAX
  ⟨0x3803, 1, 0, 3, 1, .u8, .rw, 0, 10, .p, 0, 0xF, false⟩, -- ERR_RING
  ⟨0x3803, 1, 0, 4, 1, .u8, .rw, 0, 10, .p, 0, 0xFF, false⟩, -- PM_ENABLE
  ⟨0x3803, 1, 0, 5, 1, .bool8, .rw, 0, 10, .none, 0, 1, false⟩, -- WAKE_LISTEN
  ⟨0x3803, 1, 0, 6, 1, .u32, .rw, 0, 10, .none, 0, 0xFFFFFFFF, false⟩, -- WAKE_MATCHES
  ⟨0x3803, 1, 0, 7, 1, .u8, .ro, 0xFF, 10, .none, 0, 0xFF, false⟩, -- PRALINE_HIT
  ⟨0x3810, 1, 0, 0, 1, .u8, .const, 8, 7, .none, 0, 0xFF, false⟩, -- PM_ADDR
  ⟨0x3810, 1, 0, 1, 8, (.octets 6), .rw, 0, 7, .p, 0, 0xFFFFFFFFFFFF, false⟩, -- PM_ADDR_0 to PM_ADDR_7
  ⟨0x3811, 1, 0, 0, 1, .u8, .const, 8, 8, .none, 0, 0xFF, false⟩, -- PM_ADDR
  ⟨0x3811, 1, 0, 1, 8, (.octets 6), .rw, 0, 8, .p, 0, 0xFFFFFFFFFFFF, false⟩, -- PM_ADDR_0 to PM_ADDR_7
  ⟨0x3812, 1, 0, 0, 1, .u8, .const, 8, 9, .none, 0, 0xFF, false⟩, -- PM_ADDR
  ⟨0x3812, 1, 0, 1, 8, (.octets 6), .rw, 0, 9, .p, 0, 0xFFFFFFFFFFFF, false⟩, -- PM_ADDR_0 to PM_ADDR_7
  ⟨0x3813, 1, 0, 0, 1, .u8, .const, 8, 10, .none, 0, 0xFF, false⟩, -- PM_ADDR
  ⟨0x3813, 1, 0, 1, 8, (.octets 6), .rw, 0, 10, .p, 0, 0xFFFFFFFFFFFF, false⟩, -- PM_ADDR_0 to PM_ADDR_7
  ⟨0x3820, 1, 0, 0, 1, .u8, .const, 0xD, 7, .none, 0, 0xFF, false⟩, -- PAUSE_0
  ⟨0x3820, 1, 0, 1, 1, .u8, .rw, 1, 7, .p, 0, 0xFF, false⟩, -- PAUSE_CTRL
  ⟨0x3820, 1, 0, 2, 1, .u16, .rw, 0xFFFF, 7, .p, 1, 0xFFFF, false⟩, -- PAUSE_QUANTA
  ⟨0x3820, 1, 0, 3, 1, .u16, .rw, 0x10, 7, .p, 0, 0x2000, false⟩, -- PAUSE_XOFF
  ⟨0x3820, 1, 0, 4, 1, .u16, .rw, 0x40, 7, .p, 0, 0x2000, false⟩, -- PAUSE_XON
  ⟨0x3820, 1, 0, 5, 1, .u32, .rw, 0x186A0, 7, .p, 0x64, 0x989680, false⟩, -- PAUSE_REFRESH
  ⟨0x3820, 1, 0, 6, 1, .u16, .wo, 0, 7, .none, 0, 0xFFFF, false⟩, -- PAUSE_SEND
  ⟨0x3820, 1, 0, 7, 1, .u32, .rw, 0x7A120, 7, .p, 0x3E8, 0x989680, false⟩, -- PAUSE_WD_LIMIT
  ⟨0x3820, 1, 0, 8, 1, .u8, .rw, 3, 7, .p, 0, 0xF, false⟩, -- PAUSE_WD_STRIKES
  ⟨0x3820, 1, 0, 9, 1, .u8, .ro, 0, 7, .none, 0, 0xFF, false⟩, -- PAUSE_STATUS
  ⟨0x3820, 1, 0, 10, 1, .u8, .wo, 0, 7, .none, 0, 0xFF, false⟩, -- PAUSE_REARM
  ⟨0x3820, 1, 0, 11, 1, .u32, .rw, 0, 7, .none, 0, 0xFFFFFFFF, false⟩, -- PAUSE_WD_BREAKS
  ⟨0x3820, 1, 0, 12, 1, .u32, .ro, 0, 7, .none, 0, 0xFFFFFFFF, false⟩, -- PAUSE_REMAIN
  ⟨0x3820, 1, 0, 13, 1, (.octets 6), .rw, 0, 7, .p, 0, 0xFFFFFFFFFFFF, false⟩, -- SRC_ADDR
  ⟨0x3821, 1, 0, 0, 1, .u8, .const, 0xD, 8, .none, 0, 0xFF, false⟩, -- PAUSE_0
  ⟨0x3821, 1, 0, 1, 1, .u8, .rw, 1, 8, .p, 0, 0xFF, false⟩, -- PAUSE_CTRL
  ⟨0x3821, 1, 0, 2, 1, .u16, .rw, 0xFFFF, 8, .p, 1, 0xFFFF, false⟩, -- PAUSE_QUANTA
  ⟨0x3821, 1, 0, 3, 1, .u16, .rw, 0x10, 8, .p, 0, 0x2000, false⟩, -- PAUSE_XOFF
  ⟨0x3821, 1, 0, 4, 1, .u16, .rw, 0x40, 8, .p, 0, 0x2000, false⟩, -- PAUSE_XON
  ⟨0x3821, 1, 0, 5, 1, .u32, .rw, 0x186A0, 8, .p, 0x64, 0x989680, false⟩, -- PAUSE_REFRESH
  ⟨0x3821, 1, 0, 6, 1, .u16, .wo, 0, 8, .none, 0, 0xFFFF, false⟩, -- PAUSE_SEND
  ⟨0x3821, 1, 0, 7, 1, .u32, .rw, 0x7A120, 8, .p, 0x3E8, 0x989680, false⟩, -- PAUSE_WD_LIMIT
  ⟨0x3821, 1, 0, 8, 1, .u8, .rw, 3, 8, .p, 0, 0xF, false⟩, -- PAUSE_WD_STRIKES
  ⟨0x3821, 1, 0, 9, 1, .u8, .ro, 0, 8, .none, 0, 0xFF, false⟩, -- PAUSE_STATUS
  ⟨0x3821, 1, 0, 10, 1, .u8, .wo, 0, 8, .none, 0, 0xFF, false⟩, -- PAUSE_REARM
  ⟨0x3821, 1, 0, 11, 1, .u32, .rw, 0, 8, .none, 0, 0xFFFFFFFF, false⟩, -- PAUSE_WD_BREAKS
  ⟨0x3821, 1, 0, 12, 1, .u32, .ro, 0, 8, .none, 0, 0xFFFFFFFF, false⟩, -- PAUSE_REMAIN
  ⟨0x3821, 1, 0, 13, 1, (.octets 6), .rw, 0, 8, .p, 0, 0xFFFFFFFFFFFF, false⟩, -- SRC_ADDR
  ⟨0x3830, 1, 0, 0, 1, .u8, .const, 2, 7, .none, 0, 0xFF, false⟩, -- TSO_0
  ⟨0x3830, 1, 0, 1, 1, .bool8, .rw, 0, 7, .none, 0, 1, false⟩, -- TSO_ENABLE
  ⟨0x3830, 1, 0, 2, 1, .u16, .rw, 0, 7, .none, 0, 0x1FFF, false⟩, -- TSO_SCRATCH
  ⟨0x3831, 1, 0, 0, 1, .u8, .const, 2, 8, .none, 0, 0xFF, false⟩, -- TSO_0
  ⟨0x3831, 1, 0, 1, 1, .bool8, .rw, 0, 8, .none, 0, 1, false⟩, -- TSO_ENABLE
  ⟨0x3831, 1, 0, 2, 1, .u16, .rw, 0, 8, .none, 0, 0x1FFF, false⟩, -- TSO_SCRATCH
  ⟨0x3840, 1, 0, 0, 1, .u8, .const, 2, 7, .none, 0, 0xFF, false⟩, -- TX_0
  ⟨0x3840, 1, 0, 1, 1, .u8, .rw, 6, 7, .p, 0, 7, false⟩, -- TOW_TX_LEVEL
  ⟨0x3840, 1, 0, 2, 1, .u32, .rw, 0, 7, .none, 0, 0xFFFFFFFF, false⟩, -- TX_CSUM_SKIPPED
  ⟨0x3841, 1, 0, 0, 1, .u8, .const, 2, 8, .none, 0, 0xFF, false⟩, -- TX_0
  ⟨0x3841, 1, 0, 1, 1, .u8, .rw, 6, 8, .p, 0, 7, false⟩, -- TOW_TX_LEVEL
  ⟨0x3841, 1, 0, 2, 1, .u32, .rw, 0, 8, .none, 0, 0xFFFFFFFF, false⟩, -- TX_CSUM_SKIPPED
  ⟨0x3842, 1, 0, 0, 1, .u8, .const, 2, 9, .none, 0, 0xFF, false⟩, -- TX_0
  ⟨0x3842, 1, 0, 1, 1, .u8, .rw, 6, 9, .p, 0, 7, false⟩, -- TOW_TX_LEVEL
  ⟨0x3842, 1, 0, 2, 1, .u32, .rw, 0, 9, .none, 0, 0xFFFFFFFF, false⟩, -- TX_CSUM_SKIPPED
  ⟨0x3843, 1, 0, 0, 1, .u8, .const, 2, 10, .none, 0, 0xFF, false⟩, -- TX_0
  ⟨0x3843, 1, 0, 1, 1, .u8, .rw, 6, 10, .p, 0, 7, false⟩, -- TOW_TX_LEVEL
  ⟨0x3843, 1, 0, 2, 1, .u32, .rw, 0, 10, .none, 0, 0xFFFFFFFF, false⟩, -- TX_CSUM_SKIPPED
  ⟨0x3850, 1, 0, 0, 1, .u8, .const, 0x11, 11, .none, 0, 0xFF, false⟩, -- PRALINES
  ⟨0x3850, 1, 0, 1, 16, (.octets 256), .rw, 0, 11, .p, 0, 0xFFFFFFFFFFFFFFFFFFFFFFFFFFFFFFFFFFFFFFFFFFFFFFFFFFFFFFFFFFFFFFFFFFFFFFFFFFFFFFFFFFFFFFFFFFFFFFFFFFFFFFFFFFFFFFFFFFFFFFFFFFFFFFFFFFFFFFFFFFFFFFFFFFFFFFFFFFFFFFFFFFFFFFFFFFFFFFFFFFFFFFFFFFFFFFFFFFFFFFFFFFFFFFFFFFFFFFFFFFFFFFFFFFFFFFFFFFFFFFFFFFFFFFFFFFFFFFFFFFFFFFFFFFFFFFFFFFFFFFFFFFFFFFFFFFFFFFFFFFFFFFFFFFFFFFFFFFFFFFFFFFFFFFFFFFFFFFFFFFFFFFFFFFFFFFFFFFFFFFFFFFFFFFFFFFFFFFFFFFFFFFFFFFFFFFFFFFFFFFFFFFFFFFFFFFFFFFFFFFFFFFFFFFFFFFFFFFFFFFFFFFFFFFFFFFFFFFFFFFFFFFFFFFFFFFFFFFFFFFFFFFFFFFFFFFFFFFFFFFFFFFFFFFFFFFFF, false⟩, -- PRALINE_0 to PRALINE_15
  ⟨0x3850, 1, 0, 17, 1, .u16, .rw, 0, 11, .none, 0, 0xFFFF, false⟩ -- PRALINE_ENABLE
  ]

/-- Objects 4000h to 40FFh. -/
def objRows40 : List ObjRow := [
  ⟨0x4000, 1, 0, 0, 1, .u8, .const, 0xE, 11, .none, 0, 0xFF, false⟩, -- CLS
  ⟨0x4000, 1, 0, 1, 1, .bool8, .rw, 1, 11, .p, 0, 1, false⟩, -- CLS_RUN
  ⟨0x4000, 1, 0, 2, 1, .u8, .ro, 0, 11, .none, 0, 0xFF, false⟩, -- CLS_STATE
  ⟨0x4000, 1, 0, 3, 1, .u8, .ro, 0, 11, .none, 0, 0xFF, false⟩, -- CLS_ACTIVE_GEN
  ⟨0x4000, 1, 0, 4, 1, .u8, .rw, 0, 11, .p, 0, 0xFF, false⟩, -- CLS_BOOT_GEN
  ⟨0x4000, 1, 0, 5, 1, .u8, .wo, 0, 11, .none, 0, 0xFF, false⟩, -- CLS_COMMIT
  ⟨0x4000, 1, 0, 6, 1, .u8, .rws, 0xF, 11, .p, 0, 0xF, false⟩, -- CLS_TRANSIT_RING
  ⟨0x4000, 1, 0, 7, 1, .u32, .rw, 0x2710, 11, .p, 1, 0x927C0, false⟩, -- CLS_TRANSIT_TIMEOUT
  ⟨0x4000, 1, 0, 8, 1, (.octets 64), .rw, 0, 11, .none, 0, 0xFFFFFFFFFFFFFFFFFFFFFFFFFFFFFFFFFFFFFFFFFFFFFFFFFFFFFFFFFFFFFFFFFFFFFFFFFFFFFFFFFFFFFFFFFFFFFFFFFFFFFFFFFFFFFFFFFFFFFFFFFFFFFFFF, false⟩, -- CLS_TRANSIT_MAP
  ⟨0x4000, 1, 0, 9, 1, .u32, .rw, 0, 11, .none, 0, 0xFFFFFFFF, false⟩, -- CLS_TRANSIT_FRAMES
  ⟨0x4000, 1, 0, 10, 1, .u32, .rw, 0, 11, .none, 0, 0xFFFFFFFF, false⟩, -- CLS_ACTION_ERRORS
  ⟨0x4000, 1, 0, 11, 1, .u32, .rw, 0, 11, .none, 0, 0xFFFFFFFF, false⟩, -- CLS_HOLD_DROPS
  ⟨0x4000, 1, 0, 12, 1, .u32, .ro, 0x20000, 11, .none, 0, 0xFFFFFFFF, false⟩, -- CLS_TREE_FREE
  ⟨0x4000, 1, 0, 13, 1, .u32, .ro, 0, 11, .none, 0, 0xFFFFFFFF, false⟩, -- CLS_PROBE_SLOTS
  ⟨0x4000, 1, 0, 14, 1, .u32, .rw, 0, 11, .none, 0, 0xFFFFFFFF, false⟩, -- CLS_COMMITS
  ⟨0x4010, 4, 1, 0, 1, .u8, .const, 2, 11, .none, 0, 0xFF, false⟩, -- CLS_PORT_0
  ⟨0x4010, 4, 1, 1, 1, .u8, .rw, 0, 11, .p, 0, 0x3F, false⟩, -- CLS_PARSE_START
  ⟨0x4010, 4, 1, 2, 1, .u32, .rw, 1, 11, .p, 0, 0xFFFFFFFF, false⟩, -- CLS_DEFAULT
  ⟨0x4020, 4, 1, 0, 1, .u8, .const, 0xA, 11, .none, 0, 0xFF, false⟩, -- GROUP_0
  ⟨0x4020, 4, 1, 1, 1, .u8, .rw, 0, 11, .none, 0, 0xFF, false⟩, -- GRP_RUN
  ⟨0x4020, 4, 1, 2, 1, .u8, .rws, 0, 11, .p, 0, 0xFF, false⟩, -- GRP_MODE
  ⟨0x4020, 4, 1, 3, 1, (.octets 4), .rws, 0xFFFFFFFF, 11, .p, 0, 0xFFFFFFFF, false⟩, -- GRP_WORKERS
  ⟨0x4020, 4, 1, 4, 1, .u8, .rws, 0xFF, 11, .p, 0, 0xFF, false⟩, -- GRP_MERGE_RING
  ⟨0x4020, 4, 1, 5, 1, .u32, .rws, 0x3E8, 11, .p, 0xA, 0x186A0, false⟩, -- GRP_MERGE_TIMEOUT
  ⟨0x4020, 4, 1, 6, 1, .u16, .ro, 0, 11, .none, 0, 0xFFFF, false⟩, -- GRP_NEXT_SEQ
  ⟨0x4020, 4, 1, 7, 1, .u16, .ro, 0, 11, .none, 0, 0xFFFF, false⟩, -- GRP_HEAD_SEQ
  ⟨0x4020, 4, 1, 8, 1, .u32, .rw, 0, 11, .none, 0, 0xFFFFFFFF, false⟩, -- GRP_GAPS
  ⟨0x4020, 4, 1, 9, 1, .u32, .rw, 0, 11, .none, 0, 0xFFFFFFFF, false⟩, -- GRP_LATE
  ⟨0x4020, 4, 1, 10, 1, .u32, .rw, 0, 11, .none, 0, 0xFFFFFFFF, false⟩, -- GRP_DROPS
  ⟨0x4030, 1, 0, 0, 1, .u8, .const, 8, 11, .none, 0, 0xFF, false⟩, -- CLS_PATHS
  ⟨0x4030, 1, 0, 1, 8, .u16, .rws, 0, 11, .p, 0, 0xFFFF, false⟩ -- CLS_PATH_0 to CLS_PATH_7
  ]

/-- Objects 4100h to 41FFh. -/
def objRows41 : List ObjRow := [
  ⟨0x4100, 1, 0, 0, 1, (.domain 2064), .rw, 0, 11, .p, 0, 0, false⟩, -- PARSE_A, PROBES_A, MASK_A, TREE_A, INDIR
  ⟨0x4101, 1, 0, 0, 1, (.domain 4128), .rw, 0, 11, .p, 0, 0, false⟩, -- PARSE_A, PROBES_A, MASK_A, TREE_A, INDIR
  ⟨0x4102, 1, 0, 0, 1, (.domain 49168), .rw, 0, 11, .p, 0, 0, false⟩, -- PARSE_A, PROBES_A, MASK_A, TREE_A, INDIR
  ⟨0x4103, 1, 0, 0, 1, (.domain 131088), .rw, 0, 11, .p, 0, 0, false⟩, -- PARSE_A, PROBES_A, MASK_A, TREE_A, INDIR
  ⟨0x4104, 1, 0, 0, 1, (.domain 576), .rw, 0, 11, .p, 0, 0, false⟩, -- PARSE_A, PROBES_A, MASK_A, TREE_A, INDIR
  ⟨0x4110, 1, 0, 0, 1, (.domain 2064), .rw, 0, 11, .p, 0, 0, false⟩, -- PARSE_B, PROBES_B, MASK_B, TREE_B, INDIR
  ⟨0x4111, 1, 0, 0, 1, (.domain 4128), .rw, 0, 11, .p, 0, 0, false⟩, -- PARSE_B, PROBES_B, MASK_B, TREE_B, INDIR
  ⟨0x4112, 1, 0, 0, 1, (.domain 49168), .rw, 0, 11, .p, 0, 0, false⟩, -- PARSE_B, PROBES_B, MASK_B, TREE_B, INDIR
  ⟨0x4113, 1, 0, 0, 1, (.domain 131088), .rw, 0, 11, .p, 0, 0, false⟩, -- PARSE_B, PROBES_B, MASK_B, TREE_B, INDIR
  ⟨0x4114, 1, 0, 0, 1, (.domain 576), .rw, 0, 11, .p, 0, 0, false⟩ -- PARSE_B, PROBES_B, MASK_B, TREE_B, INDIR
  ]

/-- Objects 5000h to 50FFh. -/
def objRows50 : List ObjRow := [
  ⟨0x5000, 2, 1, 0, 1, .u8, .const, 0x11, 12, .none, 0, 0xFF, false⟩, -- CAN_0
  ⟨0x5000, 2, 1, 1, 1, .bool8, .rw, 0, 12, .p, 0, 1, false⟩, -- CAN_RUN
  ⟨0x5000, 2, 1, 2, 1, .u8, .rws, 0, 12, .p, 0, 0xFF, false⟩, -- CAN_MODE
  ⟨0x5000, 2, 1, 3, 1, .u32, .rws, 0x27279E00, 12, .p, 0, 0xFFFFFFFF, false⟩, -- CAN_NBT
  ⟨0x5000, 2, 1, 4, 1, .u32, .rws, 0x9092600, 12, .p, 0, 0xFFFFFFFF, false⟩, -- CAN_DBT
  ⟨0x5000, 2, 1, 5, 1, .u16, .rws, 0x8028, 12, .p, 0, 0xFFFF, false⟩, -- CAN_TDC
  ⟨0x5000, 2, 1, 6, 1, .bool8, .rws, 1, 12, .p, 0, 1, false⟩, -- CAN_FD_ENABLE
  ⟨0x5000, 2, 1, 7, 1, .u8, .rw, 0, 12, .p, 0, 0xFF, false⟩, -- CAN_RETRY_LIMIT
  ⟨0x5000, 2, 1, 8, 1, .bool8, .rw, 1, 12, .p, 0, 1, false⟩, -- CAN_BUSOFF_AUTO
  ⟨0x5000, 2, 1, 9, 1, .u8, .rw, 2, 12, .p, 0, 0xFF, false⟩, -- CAN_RX_DEFAULT
  ⟨0x5000, 2, 1, 10, 1, .u8, .ro, 0, 12, .none, 0, 0xFF, false⟩, -- CAN_STATE
  ⟨0x5000, 2, 1, 11, 1, .u8, .ro, 0, 12, .none, 0, 0xFF, false⟩, -- CAN_TEC
  ⟨0x5000, 2, 1, 12, 1, .u8, .ro, 0, 12, .none, 0, 0xFF, false⟩, -- CAN_REC
  ⟨0x5000, 2, 1, 13, 1, .u8, .ro, 0, 12, .none, 0, 0xFF, false⟩, -- CAN_LAST_ERROR
  ⟨0x5000, 2, 1, 14, 1, .u8, .wo, 0, 12, .none, 0, 0xFF, false⟩, -- CAN_RECOVER
  ⟨0x5000, 2, 1, 15, 1, .u8, .ro, 0, 12, .none, 0, 0xFF, false⟩, -- CAN_TDC_MEAS
  ⟨0x5000, 2, 1, 16, 1, .u32, .rw, 0, 12, .none, 0, 0xFFFFFFFF, false⟩, -- CAN_BUSOFF_COUNT
  ⟨0x5000, 2, 1, 17, 1, .u32, .rw, 0, 12, .none, 0, 0xFFFFFFFF, false⟩ -- CAN_RX_OVERRUNS
  ]

/-- Objects 5400h to 54FFh. -/
def objRows54 : List ObjRow := [
  ⟨0x5400, 1, 0, 0, 1, .u8, .const, 0xA, 13, .none, 0, 0xFF, false⟩, -- BRIDGE
  ⟨0x5400, 1, 0, 1, 1, .bool8, .rw, 0, 13, .p, 0, 1, false⟩, -- BRG_RUN
  ⟨0x5400, 1, 0, 2, 1, .u16, .rws, 0x88B6, 13, .p, 0, 0xFFFF, false⟩, -- BRG_ETHERTYPE
  ⟨0x5400, 1, 0, 3, 1, .u8, .rws, 0, 13, .p, 0, 0xF, false⟩, -- BRG_POUND
  ⟨0x5400, 1, 0, 4, 1, .u16, .rws, 0x20, 13, .p, 1, 0x400, false⟩, -- BRG_ETH_CREDITS
  ⟨0x5400, 1, 0, 5, 1, .u16, .rws, 0x20, 13, .p, 1, 0x400, false⟩, -- BRG_TOW_CREDITS
  ⟨0x5400, 1, 0, 6, 1, .u16, .rw, 0x14, 13, .p, 1, 0x1F4, false⟩, -- BRG_FETCH_TIMEOUT
  ⟨0x5400, 1, 0, 7, 1, .u32, .rw, 0, 13, .none, 0, 0xFFFFFFFF, false⟩, -- BRG_QUEUE_DROPS
  ⟨0x5400, 1, 0, 8, 1, .u32, .rw, 0, 13, .none, 0, 0xFFFFFFFF, false⟩, -- BRG_FORMAT_DROPS
  ⟨0x5400, 1, 0, 9, 1, .u32, .rw, 0, 13, .none, 0, 0xFFFFFFFF, false⟩, -- BRG_NOMATCH
  ⟨0x5400, 1, 0, 10, 1, .u32, .rw, 0, 13, .none, 0, 0xFFFFFFFF, false⟩, -- BRG_BACKOFFS
  ⟨0x5410, 1, 0, 0, 1, .u8, .const, 4, 13, .none, 0, 0xFF, false⟩, -- highest
  ⟨0x5410, 1, 0, 1, 4, (.octets 20), .rws, 0, 13, .p, 0, 0xFFFFFFFFFFFFFFFFFFFFFFFFFFFFFFFFFFFFFFFF, false⟩, -- BRG_ETH_DEST_0 to _3
  ⟨0x5420, 1, 0, 0, 1, .u8, .const, 8, 13, .none, 0, 0xFF, false⟩, -- highest
  ⟨0x5420, 1, 0, 1, 8, .u32, .rws, 0, 13, .p, 0, 0xFFFFFFFF, false⟩, -- BRG_TOW_MBOX_0 to _7
  ⟨0x5430, 1, 0, 0, 1, (.domain 16400), .rw, 0, 13, .p, 0, 0, false⟩ -- ROUTES
  ]

/-- Objects 5800h to 58FFh. -/
def objRows58 : List ObjRow := [
  ⟨0x5800, 1, 0, 0, 1, (.domain 9248), .rw, 0, 13, .p, 0, 0, false⟩, -- SIGNAL_MAP
  ⟨0x5801, 1, 0, 0, 1, (.domain 2192), .rw, 0, 13, .p, 0, 0, false⟩, -- CURVES
  ⟨0x5810, 1, 0, 0, 1, .u8, .const, 5, 13, .none, 0, 0xFF, false⟩, -- REPACKER
  ⟨0x5810, 1, 0, 1, 1, .u32, .rw, 0, 13, .none, 0, 0xFFFFFFFF, false⟩, -- BRG_SIG_SHORT
  ⟨0x5810, 1, 0, 2, 1, .u32, .rw, 0, 13, .none, 0, 0xFFFFFFFF, false⟩, -- BRG_SIG_RANGE
  ⟨0x5810, 1, 0, 3, 1, .u32, .rw, 0, 13, .none, 0, 0xFFFFFFFF, false⟩, -- BRG_SIG_STALE
  ⟨0x5810, 1, 0, 4, 1, .u32, .rw, 0, 13, .none, 0, 0xFFFFFFFF, false⟩, -- BRG_FETCH_FAILS
  ⟨0x5810, 1, 0, 5, 1, .u32, .rw, 0, 13, .none, 0, 0xFFFFFFFF, false⟩ -- BRG_SIG_UPDATES
  ]

/-- Objects 5A00h to 5AFFh. -/
def objRows5A : List ObjRow := [
  ⟨0x5A00, 4, 1, 0, 1, .u8, .const, 0x80, 13, .none, 0, 0xFF, false⟩, -- highest
  ⟨0x5A00, 4, 1, 1, 128, (.octets 16), .ro, 0, 13, .none, 0, 0xFFFFFFFFFFFFFFFFFFFFFFFFFFFFFFFF, false⟩ -- BRG_SIG_CACHE_0 to _511
  ]

/-- Objects 6000h to 60FFh. -/
def objRows60 : List ObjRow := [
  ⟨0x6000, 1, 0, 0, 1, .u8, .const, 0x12, 14, .none, 0, 0xFF, false⟩, -- TOWPATH
  ⟨0x6000, 1, 0, 1, 1, .bool8, .rw, 0, 14, .p, 0, 1, false⟩, -- TOW_RUN
  ⟨0x6000, 1, 0, 2, 1, .u8, .rws, 0, 14, .p, 0, 0x1F, false⟩, -- TOW_NODE
  ⟨0x6000, 1, 0, 3, 1, .u16, .rws, 0x88B5, 14, .p, 0, 0xFFFF, false⟩, -- TOW_ETHERTYPE
  ⟨0x6000, 1, 0, 4, 1, .u8, .rws, 0, 14, .p, 0, 0xFF, false⟩, -- TOW_PORTS
  ⟨0x6000, 1, 0, 5, 1, .u8, .rws, 0, 14, .p, 0, 0xF, false⟩, -- TOW_POUND
  ⟨0x6000, 1, 0, 6, 1, (.octets 6), .rws, 0, 14, .p, 0, 0xFFFFFFFFFFFF, false⟩, -- TOW_SRC_MAC
  ⟨0x6000, 1, 0, 7, 1, .bool8, .rw, 0, 14, .p, 0, 1, false⟩, -- TOW_FORWARD
  ⟨0x6000, 1, 0, 8, 1, .u16, .rw, 0x7D0, 14, .p, 0x64, 0xEA60, false⟩, -- TOW_RTO
  ⟨0x6000, 1, 0, 9, 1, .u8, .rw, 8, 14, .p, 1, 0x20, false⟩, -- TOW_RETRIES
  ⟨0x6000, 1, 0, 10, 1, .u16, .rw, 0x1F4, 14, .p, 0x14, 0xEA60, false⟩, -- TOW_DEAD_MS
  ⟨0x6000, 1, 0, 11, 1, .u16, .rw, 0x64, 14, .p, 0xA, 0x2710, false⟩, -- TOW_HELLO_MS
  ⟨0x6000, 1, 0, 12, 1, .u16, .rw, 0x32, 14, .p, 0, 0x3E8, false⟩, -- TOW_ACK_DELAY
  ⟨0x6000, 1, 0, 13, 1, .bool8, .rw, 1, 14, .p, 0, 1, false⟩, -- TOW_CACHE_EN
  ⟨0x6000, 1, 0, 14, 1, .u16, .rw, 0x64, 14, .p, 1, 0xEA60, false⟩, -- TOW_RSV_HOLD_MS
  ⟨0x6000, 1, 0, 15, 1, .u8, .rw, 8, 14, .p, 1, 0x40, false⟩, -- TOW_RSV_TRIES
  ⟨0x6000, 1, 0, 16, 1, .u16, .rw, 0, 14, .p, 0, 0xFFFF, false⟩, -- TOW_DICT_READ
  ⟨0x6000, 1, 0, 17, 1, .u16, .rw, 0, 14, .p, 0, 0xFFFF, false⟩, -- TOW_DICT_WRITE
  ⟨0x6000, 1, 0, 18, 1, .u8, .rw, 0xE, 14, .p, 0, 0xF, false⟩, -- TOW_FRAME_RING
  ⟨0x6008, 1, 0, 0, 1, .u8, .const, 9, 14, .none, 0, 0xFF, false⟩, -- TOW_STATS
  ⟨0x6008, 1, 0, 1, 9, .u32, .rw, 0, 14, .none, 0, 0xFFFFFFFF, false⟩, -- TOW_RETRANSMITS, TOW_STALE, TOW_OUT_OF_O
  ⟨0x6018, 1, 0, 0, 1, .u8, .const, 4, 14, .none, 0, 0xFF, false⟩, -- TOW_SCRATCH
  ⟨0x6018, 1, 0, 1, 4, .u16, .rws, 0, 14, .p, 0, 0x1FFF, false⟩, -- TOW_SCRATCH_0 to TOW_SCRATCH_3
  ⟨0x6020, 16, 1, 0, 1, .u8, .const, 0xA, 14, .none, 0, 0xFF, false⟩, -- PEER_0
  ⟨0x6020, 16, 1, 1, 1, .bool8, .rw, 0, 14, .p, 0, 1, false⟩, -- PEER_ENABLE
  ⟨0x6020, 16, 1, 2, 1, .u8, .rws, 0, 14, .p, 0, 0x1F, false⟩, -- PEER_NODE
  ⟨0x6020, 16, 1, 3, 1, (.octets 6), .rws, 0, 14, .p, 0, 0xFFFFFFFFFFFF, false⟩, -- PEER_MAC
  ⟨0x6020, 16, 1, 4, 1, .u8, .rws, 0, 14, .p, 0, 3, false⟩, -- PEER_PORT
  ⟨0x6020, 16, 1, 5, 1, .u8, .rws, 0xFF, 14, .p, 0, 0xFF, false⟩, -- PEER_VIA
  ⟨0x6020, 16, 1, 6, 1, .u8, .ro, 0, 14, .none, 0, 0xFF, false⟩, -- PEER_STATE
  ⟨0x6020, 16, 1, 7, 1, .u32, .ro, 0, 14, .none, 0, 0xFFFFFFFF, false⟩, -- PEER_EPOCHS
  ⟨0x6020, 16, 1, 8, 1, .u32, .ro, 0, 14, .none, 0, 0xFFFFFFFF, false⟩, -- PEER_SEQS
  ⟨0x6020, 16, 1, 9, 1, .u8, .ro, 0, 14, .none, 0, 0xFF, false⟩, -- PEER_UNACKED
  ⟨0x6020, 16, 1, 10, 1, .u32, .rw, 0, 14, .none, 0, 0xFFFFFFFF, false⟩, -- PEER_LOSSES
  ⟨0x6040, 8, 1, 0, 1, .u8, .const, 8, 14, .none, 0, 0xFF, false⟩, -- WINDOW_0
  ⟨0x6040, 8, 1, 1, 1, .bool8, .rw, 0, 14, .none, 0, 1, false⟩, -- WIN_ENABLE
  ⟨0x6040, 8, 1, 2, 1, .u16, .rws, 0, 14, .p, 0, 0x1FFF, false⟩, -- WIN_BASE
  ⟨0x6040, 8, 1, 3, 1, .u16, .rws, 1, 14, .p, 1, 0x2000, false⟩, -- WIN_COUNT
  ⟨0x6040, 8, 1, 4, 1, .u8, .rws, 1, 14, .p, 1, 0x1F, false⟩, -- WIN_REST
  ⟨0x6040, 8, 1, 5, 1, .u64, .rws, 0, 14, .p, 0, 0xFFFFFFFFFFFFFFFF, false⟩, -- WIN_PEER_RIGHTS
  ⟨0x6040, 8, 1, 6, 1, .u8, .rws, 3, 14, .p, 0, 0xFF, false⟩, -- WIN_HOST_RIGHTS
  ⟨0x6040, 8, 1, 7, 1, .u8, .ro, 0xFF, 14, .none, 0, 0xFF, false⟩, -- WIN_RSV
  ⟨0x6040, 8, 1, 8, 1, .u32, .rw, 0, 14, .none, 0, 0xFFFFFFFF, false⟩, -- WIN_REFUSALS
  ⟨0x6060, 1, 0, 0, 1, .u8, .const, 5, 14, .none, 0, 0xFF, false⟩, -- TOW_ISSUE_CTRL
  ⟨0x6060, 1, 0, 1, 1, (.octets 32), .wo, 0, 14, .none, 0, 0xFFFFFFFFFFFFFFFFFFFFFFFFFFFFFFFFFFFFFFFFFFFFFFFFFFFFFFFFFFFFFFFF, false⟩, -- TOW_ISSUE
  ⟨0x6060, 1, 0, 2, 1, .u16, .ro, 0, 14, .none, 0, 0xFFFF, false⟩, -- TOW_SLOTS_DONE
  ⟨0x6060, 1, 0, 3, 1, .u16, .ro, 0, 14, .none, 0, 0xFFFF, false⟩, -- TOW_SLOTS_BUSY
  ⟨0x6060, 1, 0, 4, 1, .u16, .wo, 0, 14, .none, 0, 0xFFFF, false⟩, -- TOW_SLOT_RELEASE
  ⟨0x6060, 1, 0, 5, 1, .u8, .wo, 0, 14, .none, 0, 0x7, false⟩, -- TOW_RSV_RELEASE
  ⟨0x6070, 1, 0, 0, 1, .u8, .const, 0x10, 14, .none, 0, 0xFF, false⟩, -- OP_SLOTS
  ⟨0x6070, 1, 0, 1, 16, (.octets 16), .ro, 0, 14, .none, 0, 0xFFFFFFFFFFFFFFFFFFFFFFFFFFFFFFFF, false⟩ -- TOW_OPSLOT_0 to TOW_OPSLOT_15
  ]

/-- Objects 6800h to 68FFh. -/
def objRows68 : List ObjRow := [
  ⟨0x6800, 1, 0, 0, 1, .u8, .const, 8, 0, .none, 0, 0xFF, false⟩, -- SLUICE
  ⟨0x6800, 1, 0, 1, 1, .u32, .rw, 0x3E8, 0, .p, 0xA, 0xEA60, false⟩, -- SLU_HB_TIMEOUT
  ⟨0x6800, 1, 0, 2, 1, .u8, .wo, 0, 0, .none, 0, 0xFF, false⟩, -- SLU_HEARTBEAT
  ⟨0x6800, 1, 0, 3, 1, .u8, .wo, 0, 0, .none, 0, 0xFF, false⟩, -- SLU_ARM
  ⟨0x6800, 1, 0, 4, 1, .u8, .wo, 0, 0, .none, 0, 0xFF, false⟩, -- SLU_STOP
  ⟨0x6800, 1, 0, 5, 1, .u16, .rw, 0x64, 0, .p, 0, 0x2710, false⟩, -- SLU_SAFE_N_FILTER
  ⟨0x6800, 1, 0, 6, 1, .u8, .ro, 0, 0, .none, 0, 0xFF, false⟩, -- SLU_STATUS
  ⟨0x6800, 1, 0, 7, 1, .bool8, .rw, 0, 0, .p, 0, 1, false⟩, -- SLU_PWM3_ALT
  ⟨0x6800, 1, 0, 8, 1, .u32, .rw, 0, 0, .none, 0, 0xFFFFFFFF, false⟩, -- SLU_HB_MISSES
  ⟨0x6810, 4, 1, 0, 1, .u8, .const, 0xE, 0, .none, 0, 0xFF, false⟩, -- SLU_OUT_0
  ⟨0x6810, 4, 1, 1, 1, .bool8, .rw, 0, 0, .p, 0, 1, false⟩, -- SLU_OUT_ENABLE
  ⟨0x6810, 4, 1, 2, 1, .u32, .rws, 0x3E8, 0, .p, 0x3E8, 0x3D090, false⟩, -- SLU_PERIOD
  ⟨0x6810, 4, 1, 3, 1, .u8, .rws, 0, 0, .p, 0, 0xFF, false⟩, -- SLU_FLAGS
  ⟨0x6810, 4, 1, 4, 1, .u16, .rw, 0, 0, .none, 0, 0xFFFF, false⟩, -- SLU_CMD_LEVEL
  ⟨0x6810, 4, 1, 5, 1, .u16, .rw, 0, 0, .p, 0, 0xFFFF, false⟩, -- SLU_SAFE_LEVEL
  ⟨0x6810, 4, 1, 6, 1, .u16, .rw, 0, 0, .p, 0, 0xFFFF, false⟩, -- SLU_FORCED_LEVEL
  ⟨0x6810, 4, 1, 7, 1, .u32, .rw, 0x1388, 0, .p, 0xA, 0xEA60, false⟩, -- SLU_HOLD_MS
  ⟨0x6810, 4, 1, 8, 1, .u8, .rw, 0, 0, .p, 0, 7, false⟩, -- SLU_CURVE
  ⟨0x6810, 4, 1, 9, 1, .u16, .rw, 0xD, 0, .p, 0, 0xFFFF, false⟩, -- SLU_SLEW_UP
  ⟨0x6810, 4, 1, 10, 1, .u16, .rw, 0xD, 0, .p, 0, 0xFFFF, false⟩, -- SLU_SLEW_DOWN
  ⟨0x6810, 4, 1, 11, 1, .u8, .ro, 0, 0, .none, 0, 0xFF, false⟩, -- SLU_STATE
  ⟨0x6810, 4, 1, 12, 1, .u16, .ro, 0, 0, .none, 0, 0xFFFF, false⟩, -- SLU_LEVEL
  ⟨0x6810, 4, 1, 13, 1, .u8, .ro, 0, 0, .none, 0, 0xFF, false⟩, -- SLU_CAUSE
  ⟨0x6810, 4, 1, 14, 1, .u32, .ro, 0, 0, .none, 0, 0xFFFFFFFF, false⟩, -- SLU_STATE_MS
  ⟨0x6820, 2, 1, 0, 1, .u8, .const, 5, 0, .none, 0, 0xFF, false⟩, -- SLU_EN_0
  ⟨0x6820, 2, 1, 1, 1, .u8, .rw, 0, 0, .p, 0, 3, false⟩, -- EN_LINK
  ⟨0x6820, 2, 1, 2, 1, .u8, .rw, 0, 0, .p, 0, 0xFF, false⟩, -- EN_SOURCE
  ⟨0x6820, 2, 1, 3, 1, .bool8, .rw, 0, 0, .none, 0, 1, false⟩, -- EN_CMD
  ⟨0x6820, 2, 1, 4, 1, .bool8, .rw, 0, 0, .p, 0, 1, false⟩, -- EN_SAFE
  ⟨0x6820, 2, 1, 5, 1, .bool8, .ro, 0, 0, .none, 0, 1, false⟩, -- EN_PIN
  ⟨0x6830, 4, 1, 0, 1, .u8, .const, 0xB, 0, .none, 0, 0xFF, false⟩, -- TACHO_0
  ⟨0x6830, 4, 1, 1, 1, .u8, .rw, 2, 0, .p, 1, 8, false⟩, -- TACHO_PPR
  ⟨0x6830, 4, 1, 2, 1, .u16, .rw, 0x64, 0, .p, 0x32, 0x1388, false⟩, -- TACHO_WINDOW_MS
  ⟨0x6830, 4, 1, 3, 1, .u16, .rw, 0, 0, .p, 0, 0x3E8, false⟩, -- TACHO_DEBOUNCE_US
  ⟨0x6830, 4, 1, 4, 1, .u8, .rw, 0xFF, 0, .p, 0, 0xFF, false⟩, -- TACHO_OUTPUT
  ⟨0x6830, 4, 1, 5, 1, .u16, .rw, 0, 0, .p, 0, 0xFFFF, false⟩, -- TACHO_STALL_RPM
  ⟨0x6830, 4, 1, 6, 1, .u16, .rw, 0x4000, 0, .p, 0, 0xFFFF, false⟩, -- TACHO_STALL_MIN_LEVEL
  ⟨0x6830, 4, 1, 7, 1, .u8, .rw, 5, 0, .p, 1, 0xFF, false⟩, -- TACHO_STALL_WINDOWS
  ⟨0x6830, 4, 1, 8, 1, .u16, .ro, 0, 0, .none, 0, 0xFFFF, false⟩, -- TACHO_RPM
  ⟨0x6830, 4, 1, 9, 1, .u32, .ro, 0, 0, .none, 0, 0xFFFFFFFF, false⟩, -- TACHO_EDGES
  ⟨0x6830, 4, 1, 10, 1, .u8, .ro, 0, 0, .none, 0, 0xFF, false⟩, -- TACHO_STATUS
  ⟨0x6830, 4, 1, 11, 1, .u32, .rw, 0, 0, .none, 0, 0xFFFFFFFF, false⟩, -- TACHO_STALLS
  ⟨0x6840, 1, 0, 0, 1, (.domain 568), .rw, 0, 0, .p, 0, 0, false⟩ -- SLU_CURVES
  ]

/-- Objects 7000h to 70FFh. -/
def objRows70 : List ObjRow := [
  ⟨0x7000, 1, 0, 0, 1, .u8, .const, 6, 15, .none, 0, 0xFF, false⟩, -- CLOCK
  ⟨0x7000, 1, 0, 1, 1, (.octets 10), .ro, 0, 15, .none, 0, 0xFFFFFFFFFFFFFFFFFFFF, false⟩, -- TIME_NOW
  ⟨0x7000, 1, 0, 2, 1, (.octets 10), .wo, 0, 15, .none, 0, 0xFFFFFFFFFFFFFFFFFFFF, false⟩, -- TIME_SET
  ⟨0x7000, 1, 0, 3, 1, .i64, .wo, 0, 15, .none, 0, 0xFFFFFFFFFFFFFFFF, false⟩, -- TIME_ADJUST
  ⟨0x7000, 1, 0, 4, 1, .i32, .rw, 0, 15, .p, 0, 0xFFFFFFFF, false⟩, -- TIME_RATE_TRIM
  ⟨0x7000, 1, 0, 5, 1, .u8, .ro, 0, 15, .none, 0, 0xFF, false⟩, -- TIME_STATUS
  ⟨0x7000, 1, 0, 6, 1, .u32, .rw, 0, 15, .none, 0, 0xFFFFFFFF, false⟩, -- TIME_STEPS
  ⟨0x7010, 4, 1, 0, 1, .u8, .const, 4, 15, .none, 0, 0xFF, false⟩, -- TS_PORT_0
  ⟨0x7010, 4, 1, 1, 1, .i16, .rw, 0, 15, .p, 0, 0xFFFF, false⟩, -- TS_RX_LATENCY
  ⟨0x7010, 4, 1, 2, 1, .i16, .rw, 0, 15, .p, 0, 0xFFFF, false⟩, -- TS_TX_LATENCY
  ⟨0x7010, 4, 1, 3, 1, .u8, .rw, 0, 15, .p, 0, 0xFF, false⟩, -- TS_ONESTEP_RINGS
  ⟨0x7010, 4, 1, 4, 1, .u32, .rw, 0, 15, .none, 0, 0xFFFFFFFF, false⟩, -- TS_ONESTEP_SKIPPED
  ⟨0x7020, 4, 1, 0, 1, .u8, .const, 9, 15, .none, 0, 0xFF, false⟩, -- CHANNEL_0
  ⟨0x7020, 4, 1, 1, 1, .u8, .rw, 0, 15, .p, 0, 0xFF, false⟩, -- CH_MODE
  ⟨0x7020, 4, 1, 2, 1, .u8, .rw, 0, 15, .p, 0, 0xFF, false⟩, -- CH_CTRL
  ⟨0x7020, 4, 1, 3, 1, (.octets 8), .rw, 0, 15, .none, 0, 0xFFFFFFFFFFFFFFFF, false⟩, -- CH_TARGET
  ⟨0x7020, 4, 1, 4, 1, .u32, .rw, 0x3B9ACA00, 15, .p, 0, 0xFFFFFFFF, false⟩, -- CH_PERIOD
  ⟨0x7020, 4, 1, 5, 1, .u32, .rw, 0x186A0, 15, .p, 0, 0xFFFFFFFF, false⟩, -- CH_WIDTH
  ⟨0x7020, 4, 1, 6, 1, (.octets 8), .ro, 0, 15, .none, 0, 0xFFFFFFFFFFFFFFFF, false⟩, -- CH_CAPTURE
  ⟨0x7020, 4, 1, 7, 1, .u8, .ro, 0, 15, .none, 0, 0xFF, false⟩, -- CH_STATUS
  ⟨0x7020, 4, 1, 8, 1, .u8, .wo, 0, 15, .none, 0, 0xFF, false⟩, -- CH_ACK
  ⟨0x7020, 4, 1, 9, 1, .u32, .rw, 0, 15, .none, 0, 0xFFFFFFFF, false⟩ -- CH_EVENTS
  ]

/-- Objects 7400h to 74FFh. -/
def objRows74 : List ObjRow := [
  ⟨0x7400, 1, 0, 0, 1, .u8, .const, 6, 15, .none, 0, 0xFF, false⟩, -- TALLY
  ⟨0x7400, 1, 0, 1, 1, .u8, .rw, 1, 15, .p, 0, 0xFF, false⟩, -- TALLY_MODE
  ⟨0x7400, 1, 0, 2, 1, .u16, .rw, 0x3C, 15, .p, 1, 0xE10, false⟩, -- TALLY_PERIOD_S
  ⟨0x7400, 1, 0, 3, 1, .u8, .wo, 0, 15, .none, 0, 0xFF, false⟩, -- TALLY_TRIGGER
  ⟨0x7400, 1, 0, 4, 1, .u32, .ro, 1, 15, .none, 0, 0xFFFFFFFF, false⟩, -- TALLY_PERIOD_NOW
  ⟨0x7400, 1, 0, 5, 1, .u64, .ro, 60, 15, .none, 0, 0xFFFFFFFFFFFFFFFF, false⟩, -- TALLY_NEXT_S
  ⟨0x7400, 1, 0, 6, 1, .u8, .ro, 0, 15, .none, 0, 0xFF, false⟩, -- TALLY_HALF_FLAGS
  ⟨0x7410, 1, 0, 0, 1, .u8, .const, 6, 15, .none, 0, 0xFF, false⟩, -- LIVE
  ⟨0x7410, 1, 0, 1, 4, (.octets 160), .ro, 0, 15, .none, 0, 0xFFFFFFFFFFFFFFFFFFFFFFFFFFFFFFFFFFFFFFFFFFFFFFFFFFFFFFFFFFFFFFFFFFFFFFFFFFFFFFFFFFFFFFFFFFFFFFFFFFFFFFFFFFFFFFFFFFFFFFFFFFFFFFFFFFFFFFFFFFFFFFFFFFFFFFFFFFFFFFFFFFFFFFFFFFFFFFFFFFFFFFFFFFFFFFFFFFFFFFFFFFFFFFFFFFFFFFFFFFFFFFFFFFFFFFFFFFFFFFFFFFFFFFFFFFFFFFFFFFFFFFFFFFFFFFFFFFFFFFFFFFFFFFFFFFFFFFFFFFFFFFFFFFFFFFFFFFFFFFFF, false⟩, -- LIVE_PORT_0 to LIVE_PORT_3
  ⟨0x7410, 1, 0, 5, 2, (.octets 64), .ro, 0, 15, .none, 0, 0xFFFFFFFFFFFFFFFFFFFFFFFFFFFFFFFFFFFFFFFFFFFFFFFFFFFFFFFFFFFFFFFFFFFFFFFFFFFFFFFFFFFFFFFFFFFFFFFFFFFFFFFFFFFFFFFFFFFFFFFFFFFFFFFF, false⟩, -- LIVE_CAN_0, LIVE_CAN_1
  ⟨0x7420, 1, 0, 0, 1, .u8, .const, 6, 15, .none, 0, 0xFF, false⟩, -- SNAP
  ⟨0x7420, 1, 0, 1, 4, (.octets 176), .ro, 0, 15, .none, 0, 0xFFFFFFFFFFFFFFFFFFFFFFFFFFFFFFFFFFFFFFFFFFFFFFFFFFFFFFFFFFFFFFFFFFFFFFFFFFFFFFFFFFFFFFFFFFFFFFFFFFFFFFFFFFFFFFFFFFFFFFFFFFFFFFFFFFFFFFFFFFFFFFFFFFFFFFFFFFFFFFFFFFFFFFFFFFFFFFFFFFFFFFFFFFFFFFFFFFFFFFFFFFFFFFFFFFFFFFFFFFFFFFFFFFFFFFFFFFFFFFFFFFFFFFFFFFFFFFFFFFFFFFFFFFFFFFFFFFFFFFFFFFFFFFFFFFFFFFFFFFFFFFFFFFFFFFFFFFFFFFFFFFFFFFFFFFFFFFFFFFFFFFFFFFFFFFFF, false⟩, -- SNAP_PORT_0 to SNAP_PORT_3
  ⟨0x7420, 1, 0, 5, 2, (.octets 80), .ro, 0, 15, .none, 0, 0xFFFFFFFFFFFFFFFFFFFFFFFFFFFFFFFFFFFFFFFFFFFFFFFFFFFFFFFFFFFFFFFFFFFFFFFFFFFFFFFFFFFFFFFFFFFFFFFFFFFFFFFFFFFFFFFFFFFFFFFFFFFFFFFFFFFFFFFFFFFFFFFFFFFFFFFFFFFFFFFF, false⟩ -- SNAP_CAN_0, SNAP_CAN_1
  ]

/-- Objects 7800h to 78FFh. -/
def objRows78 : List ObjRow := [
  ⟨0x7800, 1, 0, 0, 1, .u8, .const, 4, 1, .none, 0, 0xFF, false⟩, -- INTC
  ⟨0x7800, 1, 0, 1, 1, .u32, .rw, 0, 1, .none, 0, 0xFFFFFFFF, false⟩, -- IC_COMPLETE_FAULTS
  ⟨0x7800, 1, 0, 2, 1, (.octets 12), .rw, 0, 1, .none, 0, 0xFFFFFFFFFFFFFFFFFFFFFFFF, false⟩, -- INT_MASK
  ⟨0x7800, 1, 0, 3, 1, (.octets 12), .rw, 0, 1, .none, 0, 0xFFFFFFFFFFFFFFFFFFFFFFFF, false⟩, -- INT_PENDING
  ⟨0x7800, 1, 0, 4, 1, (.octets 12), .ro, 0, 1, .none, 0, 0xFFFFFFFFFFFFFFFFFFFFFFFF, false⟩, -- INT_IN_SERVICE
  ⟨0x7810, 4, 1, 0, 1, .u8, .const, 7, 1, .none, 0, 0xFF, false⟩, -- TARGET_0
  ⟨0x7810, 4, 1, 1, 1, .u8, .rw, 0, 1, .p, 0, 0xF, false⟩, -- INT_THRESHOLD
  ⟨0x7810, 4, 1, 2, 1, .u8, .rw, 0, 1, .none, 0, 0xF, false⟩, -- INT_TASK_PRI
  ⟨0x7810, 4, 1, 3, 1, .u16, .ro, 0xFF, 1, .none, 0, 0xFFFF, false⟩, -- INT_CLAIM
  ⟨0x7810, 4, 1, 4, 1, .u8, .ro, 0, 1, .none, 0, 0xFF, false⟩, -- INT_STATE
  ⟨0x7810, 4, 1, 5, 1, (.octets 16), .ro, 0xFF00FF00FF00FF00FF00FF00FF00FF, 1, .none, 0, 0xFFFFFFFFFFFFFFFFFFFFFFFFFFFFFFFF, false⟩, -- INT_STACK
  ⟨0x7810, 4, 1, 6, 1, .u16, .ro, 0xFFFF, 1, .none, 0, 0xFFFF, false⟩, -- INT_FAULT_INFO
  ⟨0x7810, 4, 1, 7, 1, .u8, .wo, 0, 1, .none, 0, 0xFF, false⟩, -- INT_FAULT_CLEAR
  ⟨0x7840, 1, 0, 0, 1, .u8, .const, 0x60, 1, .none, 0, 0xFF, false⟩, -- SRC_CFGS
  ⟨0x7840, 1, 0, 1, 96, .u16, .rw, 0x10, 1, .p, 0, 0xFFFF, false⟩, -- SRC_CFG_0 to SRC_CFG_95
  ⟨0x7850, 1, 0, 0, 1, .u8, .const, 0x60, 1, .none, 0, 0xFF, false⟩, -- SRC_STATES
  ⟨0x7850, 1, 0, 1, 96, .u8, .rw, 0, 1, .none, 0, 0xFF, false⟩ -- SRC_STATE_0 to SRC_STATE_95
  ]

/-- Objects 7C00h to 7CFFh. -/
def objRows7C : List ObjRow := [
  ⟨0x7C00, 1, 0, 0, 1, .u8, .const, 8, 1, .none, 0, 0xFF, false⟩, -- FAULT_LOG
  ⟨0x7C00, 1, 0, 1, 1, .u8, .ro, 0, 1, .none, 0, 0xFF, false⟩, -- FL_HELD
  ⟨0x7C00, 1, 0, 2, 1, .u16, .ro, 0, 1, .none, 0, 0xFFFF, false⟩, -- FL_NEWEST_SEQ
  ⟨0x7C00, 1, 0, 3, 1, .u16, .rw, 0, 1, .none, 0, 0xFFFF, false⟩, -- FL_ACK_SEQ
  ⟨0x7C00, 1, 0, 4, 1, .u8, .ro, 0, 1, .none, 0, 0xFF, false⟩, -- FL_UNREAD
  ⟨0x7C00, 1, 0, 5, 1, .u32, .rw, 0, 1, .none, 0, 0xFFFFFFFF, false⟩, -- FL_WRITTEN
  ⟨0x7C00, 1, 0, 6, 1, .u32, .rw, 0, 1, .none, 0, 0xFFFFFFFF, false⟩, -- FL_LOST
  ⟨0x7C00, 1, 0, 7, 1, .u8, .wo, 0, 1, .none, 0, 0xFF, false⟩, -- FL_CLEAR
  ⟨0x7C00, 1, 0, 8, 1, .u16, .rw, 0x3E8, 1, .p, 0, 0xEA60, false⟩, -- FL_REPEAT_WINDOW
  ⟨0x7C10, 1, 0, 0, 1, .u8, .const, 0x40, 1, .none, 0, 0xFF, false⟩, -- FL_ENTRIES
  ⟨0x7C10, 1, 0, 1, 64, (.octets 32), .ro, 0, 1, .none, 0, 0xFFFFFFFFFFFFFFFFFFFFFFFFFFFFFFFFFFFFFFFFFFFFFFFFFFFFFFFFFFFFFFFF, false⟩ -- FL_ENTRY_0 to FL_ENTRY_63
  ]

/-- Objects 7F00h to 7FFFh. -/
def objRows7F : List ObjRow := [
  ⟨0x7F00, 1, 0, 0, 1, .u8, .const, 3, 1, .none, 0, 0xFF, false⟩, -- CLAIMS
  ⟨0x7F00, 1, 0, 1, 1, .u32, .rw, 0, 1, .none, 0, 0xFFFFFFFF, false⟩, -- CLAIM_REFUSALS
  ⟨0x7F00, 1, 0, 2, 1, (.octets 8), .ro, 0, 1, .none, 0, 0xFFFFFFFFFFFFFFFF, false⟩, -- CLAIM_LAST
  ⟨0x7F00, 1, 0, 3, 1, .u32, .rw, 0, 1, .none, 0, 0xFFFFFFFF, false⟩, -- CLAIM_PREEMPTIONS
  ⟨0x7F10, 1, 0, 0, 1, .u8, .const, 0x20, 1, .none, 0, 0xFF, false⟩, -- PATTERN_HOLDERS
  ⟨0x7F10, 1, 0, 1, 32, .u8, .ro, 0, 1, .none, 0, 0xFF, false⟩, -- PATTERN_SLOT_0 to PATTERN_SLOT_31
  ⟨0x7F20, 1, 0, 0, 1, .u8, .const, 2, 1, .none, 0, 0xFF, false⟩, -- TIMER_PIN_HOLDERS
  ⟨0x7F20, 1, 0, 1, 1, .u8, .ro, 0, 1, .none, 0, 0xFF, false⟩, -- CH3_HOLDER
  ⟨0x7F20, 1, 0, 2, 1, .u8, .ro, 0, 1, .none, 0, 0xFF, false⟩, -- EVT1_HOLDER
  ⟨0x7F30, 1, 0, 0, 1, .u8, .const, 6, 1, .none, 0, 0xFF, false⟩, -- SCRATCH_CLAIMS
  ⟨0x7F30, 1, 0, 1, 6, .u32, .ro, 0, 1, .none, 0, 0xFFFFFFFF, false⟩ -- SCRATCH_TSO_0, SCRATCH_TSO_1, SCRATCH_TO
  ]

/-- The rows whose index has the high octet `h` (02 Table 2.8). -/
def objRowsOf (h : Nat) : List ObjRow :=
  match h with
  | 0x10 => objRows10
  | 0x18 => objRows18
  | 0x1E => objRows1E
  | 0x1F => objRows1F
  | 0x20 => objRows20
  | 0x21 => objRows21
  | 0x22 => objRows22
  | 0x23 => objRows23
  | 0x24 => objRows24
  | 0x25 => objRows25
  | 0x26 => objRows26
  | 0x30 => objRows30
  | 0x31 => objRows31
  | 0x32 => objRows32
  | 0x33 => objRows33
  | 0x38 => objRows38
  | 0x40 => objRows40
  | 0x41 => objRows41
  | 0x50 => objRows50
  | 0x54 => objRows54
  | 0x58 => objRows58
  | 0x5A => objRows5A
  | 0x60 => objRows60
  | 0x68 => objRows68
  | 0x70 => objRows70
  | 0x74 => objRows74
  | 0x78 => objRows78
  | 0x7C => objRows7C
  | 0x7F => objRows7F
  | _ => []

end Sys2Proof.Machine
end

