-- ==== Sys2Proof/Machine/State.lean ====
section
/-!
DEFINITION. The state of the block as plain data. Values of dictionary objects, status objects and counters
included, stand in `store`, keyed by index * 256 + subindex, in canonical form (keys strictly rising, no entry equal
to the object's default); what the chapters give the engines beyond objects stands in the structures below.
-/
namespace Sys2Proof.Machine

/-- Why a step stops. -/
inductive Fault where
  /-- Raised by every meaning for a command whose operands name a part the device does not have (a port above 3, a
  slot above the last). Such a term is no command of the device: safe. -/
  | illFormed
  deriving DecidableEq, Repr

/-- Why a command has no meaning. -/
inductive Refusal where
  /-- Raised by `exec` for a command that has no meaning in the model: safe. No command is left without one. -/
  | notModelled (mnemonic : String)
  deriving DecidableEq, Repr

/-- Object values by key, keys strictly rising. -/
abbrev Store := List (Nat × Nat)

/-! ### Interrupt controller (18) -/

/-- The stacks and FAULTED marks of the four targets (18, Targets and routing). PENDING and COUNT of each source
stand in SRC_STATE_s. Each stack holds its top first, as (source, level). -/
structure Intc where
  serving : List (List (Nat × Nat))
  faulted : List Bool
  deriving DecidableEq, Repr

/-! ### Fault log (19) -/

/-- One detected fault, with the fields of 19 Table 19.3. `at_` is its CK of detection, `startup` the start-up. -/
structure FaultRec where
  kind : Nat
  block : Nat
  code : Nat
  whr : Nat
  detail : Nat
  ini : Nat
  at_ : Nat
  tsValid : Bool
  sec : Nat
  ns : Nat
  uptime : Nat
  startup : Nat
  deriving DecidableEq, Repr

/-- The writer's queue (at most 16, R655) and the newest entry written. -/
structure FaultLog where
  queue : List FaultRec
  newest : Option FaultRec
  deriving DecidableEq, Repr

/-! ### Shared resources (20) -/

/-- One claim in force: resource kind (20 Table 20.1), instance number, holder code (20 Table 20.2) and the
holder's port or praline number. -/
structure Claim where
  kind : Nat
  num : Nat
  holder : Nat
  inst : Nat
  deriving DecidableEq, Repr

/-! ### Power domains (06) and start-up (07) -/

/-- The three states of a domain (06 R188). -/
inductive DSt where
  | off | retention | on
  deriving DecidableEq, Repr

/-- A domain: its state, its pending request, LAST_FAILED (06 Table 6.1), a pending domain reset (07 R249), whether its
latest request was a shed (05 R161). -/
structure Dom where
  st : DSt
  pend : Option DSt
  lastFailed : Bool
  resetReq : Bool
  shed : Bool
  deriving DecidableEq, Repr

/-- The transition the domain controller runs or holds (06 R195-R197); `lost` marks a bank that is reset when it reports ON
(07 R235), `shed` a shed of 05 R161. -/
structure Trans where
  dom : Nat
  target : DSt
  isReset : Bool
  waiting : Bool
  drained : Bool
  pllWait : Bool
  lost : Bool
  start : Nat
  shed : Bool
  deriving DecidableEq, Repr

/-- The steps of start-up (07 Table 7.3). -/
inductive Startup where
  | none | oscStart | trims | supplySelect | pllLock | coreOn | nvLoad
  deriving DecidableEq, Repr

/-- AON: oscillator, PLL, reset pin, start-up, domain controller (06, 07). `rstLow` says RESET_n has taken effect
and is still low. `xtalStopped` says the clock monitor has reported a stopped crystal, at CK `stopAt`. `nvLoadDue` says an NV load skipped under R241 is due at MAIN. `wakePend` holds wake latches
whose requests wait for the oscillator or for the end of a lockout (R209, R220). `nvmOffAfter`: NVM goes OFF at the end of
step 6 (R240). `refRow`: the row each bank refreshed last, `refAt` when (R205; 09 R315). `coolSince`: the CK since which the sensor has read at or below
80 degrees; `tempAt`: the last sample. `coreDue`: a request for CORE OFF (0) or RETENTION (1), or a soft reset of CORE (2),
written by peer `n` as (n, what), that takes effect when its response has been sent (06 R224, 07 R247). `monitorAt`: a monitor
output changed while the oscillator was stopped; the CK of the change, then that at which the oscillator was stable (06 R714).
`upBase`: the CKX count at which step 5 of the latest start-up ended (19 R716). -/
structure Aon where
  inPor : Bool
  osc : Bool
  oscStarting : Bool
  xtalStopped : Bool
  pll : Bool
  pllStart : Option Nat
  rstLow : Bool
  startup : Startup
  startAt : Nat
  stepAt : Nat
  startups : Nat
  upBase : Option Nat
  nvLoadDue : Bool
  nvmOffAfter : Bool
  wakePend : Nat
  coolSince : Option Nat
  doms : List Dom
  trans : Option Trans
  refRow : List Nat
  refAt : List Nat
  lastCelsius : Int
  tempAt : Nat
  stopAt : Nat
  monitorAt : Option Nat
  coreDue : Option (Nat × Nat)
  deriving DecidableEq, Repr

/-! ### Packet memory (09) -/

/-- The owner codes of 09 Table 9.1. -/
inductive Owner where
  | free | host | txdma | rxdma | cls | brg
  | tow (n : Nat)
  | zeroing
  deriving DecidableEq, Repr

/-- A barge's owner record (09 Table 9.2); `next` is the new owner while a lock cycle runs. -/
structure Barge where
  owner : Owner
  valid : Nat
  poison : Bool
  retired : Bool
  next : Option Owner
  deriving DecidableEq, Repr

/-- A requested lock cycle (09 R305): barge, new owner, valid length, owner code of the requesting path (R308), the CK of the
request, of its CLOSE once it runs. -/
structure LockReq where
  barge : Nat
  dest : Owner
  len : Nat
  path : Nat
  at_ : Nat
  deriving DecidableEq, Repr

/-- Packet memory: contents (canonical, an unlisted octet reads 00h), errors that no read has found yet, the addresses of
words found to hold an uncorrectable error, owner records of barges that differ from `HOST, L = 0`, per-bank queues of lock
requests and the cycle each bank runs, free lists as (pound, bank, barges oldest first), the bank each pound's rotation reaches
next, banks whose owner array is not yet scanned (with the flag "kept through a reset" and the CK the scan began), banks kept
through a reset, banks a BANK_TEST holds and the pattern it wrote last (bank, pass; R319), the CK each barge in ZEROING was
freed, the pounds below their low water (R302). -/
structure Pmem where
  mem : List Host.Cell
  upsets : List Strike
  bad : List Nat
  barges : List (Nat × Barge)
  lockq : List (List LockReq)
  cycle : List (Option LockReq)
  frees : List (Nat × Nat × List Nat)
  rotor : List Nat
  scan : List (Nat × Bool × Nat)
  keptThrough : List Nat
  testing : List Nat
  filled : List (Nat × Nat)
  zeroAt : List (Nat × Nat)
  lowPounds : List Nat
  deriving DecidableEq, Repr

/-! ### Rings (10) -/

/-- A chain the ring engine has fetched: first index, the descriptors as read at fetch, the barges with their valid
length and FREE_AFTER, its completion code once decided, attempts, timestamp (seconds, nanoseconds), TSO segments,
and whether its barges have been returned. -/
structure Chain where
  start : Nat
  descs : List Oct
  barges : List (Nat × Nat × Bool)
  code : Option Nat
  attempts : Nat
  ts : Option (Nat × Nat)
  segments : Nat
  returned : Bool
  deriving DecidableEq, Repr

/-- A descriptor the ring engine is to write on an RX or CAN RX ring: its 32 octets, its barges, the reorder group and
number the frame holds. -/
structure RxWrite where
  desc : Oct
  barges : List Nat
  num : Option (Nat × Nat)
  deriving DecidableEq, Repr

/-- What a ring holds beyond its objects: chains fetched, RX descriptors waiting, a reset to follow STOPPING,
completions since the last event and the CK of the first. -/
structure Ring where
  chains : List Chain
  rxq : List RxWrite
  resetAfter : Bool
  coal : Nat
  coalSince : Option Nat
  deriving DecidableEq, Repr

/-! ### Time unit (17) -/

/-- A compare and capture channel beyond its objects: armed for a compare, a pulse in progress and its CK of start,
the pin at its active level, a target already passed (LATE). -/
structure Chan where
  armed : Bool
  pulse : Option Nat
  active : Bool
  deriving DecidableEq, Repr

/-- The time unit: the clock in units of 2^-22 ns (R592, R593), the CK at which the tally period began, PARTIAL and
STEPPED of that period, the channels; for each change of the clock or of its rate, the newest first, the CK, the clock and
the units added each CK before it (R599: a step leaves the timestamps of earlier points as they are). -/
structure TimeU where
  clock : Nat
  periodStart : Nat
  part : Bool
  stepped : Bool
  chans : List Chan
  was : List (Nat × Nat × Nat)
  deriving DecidableEq, Repr

/-! ### MACs (11) -/

/-- What a MAC has selected or sends (11 R378): nothing, a PAUSE frame (quanta, automatic), a ring whose chain is to
be fetched, a chain by ring and first index, a frame of the Towpath queue. -/
inductive TxSel where
  | idle
  | pause (quanta : Nat) (auto : Bool)
  | ring (r : Nat)
  | chain (r start : Nat)
  | tow
  deriving DecidableEq, Repr

/-- A frame in a port's Towpath transmit queue: its length from the destination address, without FCS, and the barges that hold
it (15 R532), `own` where they are freed once it has been sent (a forwarded frame, an ACK, a HELLO), `peer` the peer whose
session it belongs to (FFh none). -/
structure TowTx where
  len : Nat
  barges : List Nat
  own : Bool
  peer : Nat
  deriving DecidableEq, Repr

/-- A MAC beyond its objects: pause timer end, watchdog start, strikes, the CK since which the timer stayed zero
without a break, DEFEATED, XOFF_ACTIVE, automatic PAUSE running, the pending PAUSE frame (quanta, automatic), the CK of
the last automatic frame, the current and the next selection, the Towpath transmit queue, the last frame sent, partial
ms of TX_PAUSED_MS and LINK_DOWN_MS, the attempt number and back-off of a segment frame, TSO to be disabled, the receive
settings changed since the last frame ended, newest first (CK, key, earlier value; R362), the CK of the last update of T1L_SQI
(port 1; 12 R425), the CK in which a frame being received was last cut (19 R650), the selected frame kept from beginning by
WAKE_LISTEN (11 R392). -/
structure Mac where
  pauseEnd : Option Nat
  wdSince : Option Nat
  strikes : Nat
  quietSince : Option Nat
  defeated : Bool
  xoff : Bool
  autoOn : Bool
  pendPause : Option (Nat × Bool)
  lastAuto : Option Nat
  cur : TxSel
  nxt : TxSel
  towq : List TowTx
  lastTx : Oct
  pausedAcc : Nat
  downAcc : Nat
  attempts : Nat
  backoff : Option (Nat × Nat)
  tsoOff : Bool
  was : List (Nat × Nat × Nat)
  sqiAt : Nat
  cutAt : Option Nat
  hold : Bool
  deriving DecidableEq, Repr

/-- A received frame on its way through the classifier: port, octets stored, barges, the flag bits of octets 31-30 of
the RX descriptor, ingress timestamp, the CK its FCS check ended (13 R446). -/
structure RxFrame where
  port : Nat
  data : Oct
  barges : List Nat
  flags : Nat
  ts : Option (Nat × Nat)
  at_ : Nat
  deriving DecidableEq, Repr

/-! ### Ports (12) -/

/-- Who asked for an MDIO frame (12 R408): a sequence of the device (`mark` set on the BMCR write of a rate step), a
host command (its last frame carries the result), the poll of BMSR, the read of ANLPAR. -/
inductive MdioKind where
  | seq (mark : Bool)
  | host (last : Bool)
  | poll
  | anlpar
  deriving DecidableEq, Repr

/-- One MDIO frame: register written or read, its data. -/
structure MdioFrame where
  kind : MdioKind
  write : Bool
  phy : Nat
  reg : Nat
  data : Nat
  deriving DecidableEq, Repr

/-- The MDIO master (12 R407-R412): the frame on the wire and its CK of start, frames waiting by priority, whether
the last poll reported link, the advertisement last written, the CK of the last poll. -/
structure Mdio where
  cur : Option MdioFrame
  curAt : Nat
  seqq : List MdioFrame
  hostq : List MdioFrame
  pollq : List MdioFrame
  link : Bool
  adv : Nat
  lastPoll : Nat
  deriving DecidableEq, Repr

/-- A rate step (12 R417): target rate (0Ah or 64h), the job slot that asked for it, whether the MAC has drained, the
CK of the completed BMCR write, whether LINK_STATE has been UP since, the advertisement before the step. -/
structure GovStep where
  target : Nat
  job : Option Nat
  drained : Bool
  bmcrAt : Option Nat
  upSeen : Bool
  adv : Nat
  deriving DecidableEq, Repr

/-- The speed governor (12 R414-R421): octets sent and received in the window, its start, runs of windows below and
above, the step in progress, stepped down, halted. -/
structure Gov where
  txOct : Nat
  rxOct : Nat
  winStart : Nat
  downRun : Nat
  upRun : Nat
  step : Option GovStep
  halted : Bool
  deriving DecidableEq, Repr

/-- A segment port (12 R428-R442): CK of the last beacon, a beacon received before, coordinator stopped by a foreign
beacon, the CK each node was last measured, the yield run, the CK of the last carrier in the own opportunity, a
beacon waiting behind the carrier it yielded to, the own transmit opportunity under way (frames sent in it, the CK since which
the burst timer runs; R428, R437), the node whose opportunity the PLCA count has come to and the CK in which that opportunity
began (R428, R430), the hold as it was fixed at T0 (R433). -/
structure Seg where
  beaconAt : Option Nat
  hadBeacon : Bool
  coordOff : Bool
  measured : List (Option Nat)
  yieldRun : Nat
  conflictAt : Option Nat
  yielded : Bool
  opp : Option (Nat × Nat)
  count : Option Nat
  countAt : Nat
  held : Option Int
  deriving DecidableEq, Repr
/-! ### Table images (02) -/

/-- An open transfer of a DOMAIN object: its initiator, the octets received, the CK of the last segment (02 R61,
R66). -/
structure Xfer where
  ini : Nat
  data : Oct
  last : Nat
  deriving DecidableEq, Repr

/-- A DOMAIN object: the image in effect, the staged image, the open transfer, the complete transfer whose check runs
(02 R64, R65). -/
structure Img where
  eff : Option Oct
  staged : Option Oct
  xfer : Option Xfer
  check : Option Xfer
  deriving DecidableEq, Repr

/-! ### Classifier (13) -/

/-- Where a number of a reorder group stands: not yet released (with the slot index and the CK of its descriptor once
written), released with the descriptor read, discarded, skipped (13 R466-R470). -/
inductive NumSt where
  | out (written : Option (Nat × Nat))
  | released (desc : Oct)
  | discarded
  | skipped
  deriving DecidableEq, Repr

/-- An outstanding number of a reorder group and its worker ring. -/
structure SeqNum where
  seq : Nat
  ring : Nat
  st : NumSt
  deriving DecidableEq, Repr

/-- A reorder group beyond its objects: the outstanding numbers from GRP_HEAD_SEQ on, the place in the rotation, the
CK the head became the head, a number skipped since the last write, the number below which all were assigned before a
switch (R476), the slots of skipped numbers that may still be released (ring, slot index). -/
structure Grp where
  nums : List SeqNum
  rot : Nat
  headAt : Nat
  gap : Bool
  barrier : Option Nat
  late : List (Nat × Nat)
  deriving DecidableEq, Repr

/-- A received frame with what the classifier found: its mask entry, its mark (13 R454, R456). -/
structure Judged where
  fr : RxFrame
  entry : Option Nat
  mark : Nat
  deriving DecidableEq, Repr

/-- The classifier beyond its objects: frames that wait for their parse, frames held under R476 with their groups, the
groups, the CK TRANSIT began, per generation whether its tree memory and probe slots have been freed (R478), the
commit write whose check of R474 runs (command, initiator, CK of the write), the CK from which the next frame is accepted
(R447). -/
structure ClsU where
  queue : List RxFrame
  held : List (Nat × Judged)
  groups : List Grp
  transitAt : Option Nat
  treeFreed : List Bool
  slotsFreed : List Bool
  commit : Option (Nat × Nat × Nat)
  ready : Nat
  deriving DecidableEq, Repr

/-! ### CAN and the bridge (14) -/

/-- A CAN frame or a message built for one: identifier, format bits, DLC, data, start-of-frame timestamp. -/
structure CanMsg where
  id : Nat
  ide : Bool
  rtr : Bool
  fdf : Bool
  brs : Bool
  esi : Bool
  dlc : Nat
  data : Oct
  ts : Option (Nat × Nat)
  deriving DecidableEq, Repr

/-- The frame a channel sends: from the bridge's queue or from ring `ring` with its chain's first index; the timestamp
of its start of frame. -/
structure CanTx where
  fromBridge : Bool
  ring : Nat
  start : Nat
  msg : CanMsg
  ts : Option (Nat × Nat)
  deriving DecidableEq, Repr

/-- A channel beyond its objects: the frame on the bus it sends, the transmit error count past 255, CAN_RUN written
00h while a frame is on the bus, the CK in which it stopped. -/
structure Can where
  tx : Option CanTx
  pastLimit : Bool
  stopping : Bool
  stopAt : Option Nat
  deriving DecidableEq, Repr

/-- A frame of a channel's outbound queue: attempts made, the signals whose fetches it carries. -/
structure OutMsg where
  msg : CanMsg
  attempts : Nat
  fetch : List Nat
  deriving DecidableEq, Repr

/-- An input of the bridge (14 R511): a received CAN frame by channel, an Ethernet-ingress frame, a tacho reading. -/
inductive BrgIn where
  | can (c : Nat) (m : CanMsg)
  | eth (f : RxFrame)
  | tacho (i v : Nat)
  deriving DecidableEq, Repr

/-- A cache entry (14 Table 14.8): SC_VALUE as 64 bits, SC_RAW, SC_STALE, SC_FETCHED, the CK of the last update. -/
structure SigC where
  sig : Nat
  value : Nat
  raw : Nat
  stale : Bool
  fetched : Bool
  since : Nat
  deriving DecidableEq, Repr

/-- An outstanding fetch (14 R509, R510): the signal, the CK of acceptance, the initiators that wait for it, whether its
request has been sent. -/
structure Fetch where
  sig : Nat
  since : Nat
  readers : List Nat
  sent : Bool
  deriving DecidableEq, Repr

/-- An output message beyond its entry: its buffer, the CK of its last send, a send deferred to the end of OM_MIN_GAP, the
CK its period began. -/
structure OmS where
  buf : Oct
  last : Option Nat
  deferred : Bool
  period : Nat
  deriving DecidableEq, Repr

/-- The bridge beyond its objects: inputs in arrival order with their CK, the CK in which it can take the next one, values on
their way to the sluice (enable or level, output, value), outbound queues of C0 and C1, output messages, cache entries of the
signals that have run, fetches, barges of messages for Ethernet destinations and for mailboxes. -/
structure BrgU where
  inq : List (Nat × BrgIn)
  ready : Nat
  hand : List (Bool × Nat × Nat)
  outq : List (List OutMsg)
  oms : List OmS
  sigs : List SigC
  fetches : List Fetch
  ethHeld : List Nat
  towHeld : List Nat
  deriving DecidableEq, Repr

/-! ### Towpath (15) -/

/-- A DATA frame kept until acknowledged: its sequence number, the operation record and data it was built from, the barges that
hold it, the CK it was last sent. -/
structure TowFrame where
  seq : Nat
  body : Oct
  barges : List Nat
  sentAt : Nat
  deriving DecidableEq, Repr

/-- A session with a peer beyond the peer's objects: frames unacknowledged and frames that wait, the ACK and HELLO frames that wait
for a barge (by their subtype; R532), the run of
retransmission timeouts, the CK of the last frame from and to the peer, the CK of an accepted frame not yet
acknowledged, the CK of the last HELLO. -/
structure Sess where
  unacked : List TowFrame
  waiting : List Oct
  ctl : List Nat
  run : Nat
  lastRx : Nat
  lastTx : Nat
  ackDue : Option Nat
  helloAt : Nat
  deriving DecidableEq, Repr

/-- An accepted operation of a lane: the peer (FFh for the own node), the own epoch of the session at acceptance, its
record, its data and the barges that hold it, whether its window was being disabled, whether a barge of its data went with its
bank, the old value an atomic has read. -/
structure LaneOp where
  peer : Nat
  epoch : Nat
  op : Oct
  data : Oct
  barges : List Nat
  closed : Bool
  lost : Bool
  old : Option Nat
  deriving DecidableEq, Repr

/-- A lane (15 R533, R534): its operations and the scratch entry the next one takes. -/
structure Lane where
  ops : List LaneOp
  next : Nat
  deriving DecidableEq, Repr

/-- An operation slot beyond its object (15 Table 15.6): the record sent, its data, the local barge, the length for the
barge's return, IS_FREE_AFTER, the window reserved for the reply, attempts made, the CK and length of a back-off, the
offset and length asked for (before widening to lines). -/
structure OpSlot where
  op : Oct
  data : Oct
  barge : Option Nat
  len : Nat
  freeAfter : Bool
  rsvWin : Option Nat
  tries : Nat
  backoff : Option (Nat × Nat)
  off : Nat
  deriving DecidableEq, Repr

/-- An operation of a bridge mailbox or a classifier path towards a peer: its record and data, the barges that hold
it, attempts, back-off, whether a response is awaited. -/
structure PathOp where
  peer : Nat
  op : Oct
  data : Oct
  barges : List Nat
  tries : Nat
  backoff : Option (Nat × Nat)
  deriving DecidableEq, Repr

/-- A line of the remote read cache: peer, window, line number, its 64 octets. -/
structure CacheLine where
  peer : Nat
  win : Nat
  line : Nat
  data : Oct
  deriving DecidableEq, Repr

/-- A window beyond its objects: the CK its reservation was taken, the peer a local reservation awaits, WIN_ENABLE 00h
written and not yet in effect. -/
structure Win where
  rsvAt : Option Nat
  rsvPeer : Nat
  closing : Bool
  deriving DecidableEq, Repr

/-- A dictionary transaction of a peer that the engine has taken and that waits for its result (02 R58, 15 R554): the peer, the
own epoch at acceptance, its record. -/
structure PeerTxn where
  peer : Nat
  epoch : Nat
  op : Oct
  deriving DecidableEq, Repr

/-- Towpath beyond its objects: frames that wait (port, octets), sessions, lanes of ports 0 to 3 and LOCAL, operation
slots, path operations, cache lines oldest first, windows, dictionary transactions of peers that are not resolved, writes of
TOW_ISSUE whose operation has not begun for want of PM0 or a MAC, in their order (01 R16). -/
structure TowU where
  inbox : List (Nat × Oct)
  sess : List Sess
  lanes : List Lane
  slots : List (Option OpSlot)
  paths : List PathOp
  cache : List CacheLine
  wins : List Win
  dicts : List PeerTxn
  todo : List Oct
  deriving DecidableEq, Repr

/-! ### Host link (03) -/

/-- The result a retry slot holds: the response octets after the status of an OK, or an abort with its PEER_CODE. -/
inductive Res where
  | ok (body : Oct)
  | abort (code peer : Nat)
  deriving DecidableEq, Repr

/-- A retry slot that is PENDING (no result) or READY: tag, command code, PEER (FFh local), address, the CK it entered
its state, the result. -/
structure Slot where
  tag : Nat
  cmd : Nat
  peer : Nat
  idx : Nat
  sub : Nat
  since : Nat
  res : Option Res
  deriving DecidableEq, Repr

/-- A remote dictionary transaction under way: peer, slot number, command and address; `fate` is 0 while its slot waits,
1 once a host link reset has freed the slot, 2 once the slot has timed out (03 R105, R127). -/
structure Remote where
  peer : Nat
  slot : Nat
  cmd : Nat
  idx : Nat
  sub : Nat
  fate : Nat
  deriving DecidableEq, Repr

/-- The host link: retry slots, the next tag, SEQ, the read-ahead line and its octets, LINK_ERR, READY, the CK
the last MEM_WRITE ended, remote transactions under way, local transactions under way whose slot is gone (command,
index, subindex, freed by a reset rather than timed out), the turnaround octets of the last command (R87) and its response
octets from the status on. -/
structure Link where
  slots : List (Option Slot)
  tag : Nat
  seq : Nat
  ra : Option (Nat × Oct)
  linkErr : Bool
  ready : Bool
  wrote : Option Nat
  remotes : List Remote
  orphans : List (Nat × Nat × Nat × Bool)
  lead : Nat
  response : Oct
  deriving DecidableEq, Repr

/-! ### Sluice (16) -/

/-- The event of 16 Table 16.2 that an output has taken in a CKX (16 R582): the CKX, its rank in Table 16.4, and what it found: the
state, SLU_CAUSE, the entry into the state, the start of the heartbeat timer, the coast. -/
structure SluEv where
  ckx : Nat
  rank : Nat
  state : Nat
  cause : Nat
  since : Nat
  hbAt : Nat
  coast : Option (Oct × Nat)
  deriving DecidableEq, Repr

/-- An output beyond its objects, in CK of CKX time: the accumulator of R565, the period under way (start, length and
on-time in CKX), the start of the heartbeat timer, the entry into the state, the copied curve and L0 of a coast, the
limits of the timers and the safe level as the last tick took them, the event it took last. -/
structure SluOut where
  acc : Nat
  per : Option (Nat × Nat × Nat)
  hbAt : Nat
  since : Nat
  coast : Option (Oct × Nat)
  hbMs : Nat
  holdMs : Nat
  safeLv : Nat
  ev : Option SluEv
  deriving DecidableEq, Repr

/-- A tacho beyond its objects: the edges counted in the window with the times of the first and the last, the last edge
counted in any window, the window's start, length, output and whether its level stayed high enough, the run of windows
that count toward a stall, whether that run has raised the alarm. -/
structure Tacho where
  edges : Nat
  first : Nat
  last : Nat
  prev : Option Nat
  winAt : Nat
  winMs : Nat
  out : Nat
  high : Bool
  run : Nat
  alarmed : Bool
  deriving DecidableEq, Repr

/-- The sluice: outputs, tachos, the last tick, SAFE_n asserted, the CK that CKX has been absent for since KEEP reached
ON, the CK it stopped, events that wait for it to resume (as cause codes of Table 16.2), the CK in which it last took a
command. -/
structure Sluice where
  outs : List SluOut
  tachos : List Tacho
  tickAt : Nat
  safeN : Bool
  lost : Nat
  absent : Option Nat
  deferred : List Nat
  cmdAt : Nat
  deriving DecidableEq, Repr


/-! ### Jobs (04) -/

/-- A job slot beyond its objects: the CK its current unit began, a first abort code found, the octets of a table being
copied, what is left to do (keys of NV_COMMIT) or a mark that the unit under way has ended since SUSPEND or CANCEL, barges with
failed words, the cause with which it is asked to suspend (0 none; R146), the CK in which it was asked to suspend or to end
(R143), the echoes of a CABLE_DIAG (12 R438). -/
structure JobU where
  since : Nat
  code : Nat
  data : Oct
  items : List Nat
  failed : List Nat
  cause : Nat
  askAt : Nat
  echoes : List (Nat × Int)
  deriving DecidableEq, Repr

/-! ### Non-volatile store (08) -/

/-- A record (08 Table 8.3): kind, object, body without its padding, REC_SEQ and REC_CRC of its check word, its commit word (empty
while it is erased), whether the array no longer gives back what was written, the journal sectors it lies in. -/
structure NvRec where
  kind : Nat
  key : Nat
  body : Oct
  seq : Nat
  crc : Nat
  commit : Oct
  spoilt : Bool
  sectors : List Nat
  deriving DecidableEq, Repr

/-- A home bank (08 Table 8.5): HOME_MARK (empty while it is erased), HOME_LENGTH, HOME_GEN, HOME_CUT, its records, words
of records given up (R274), its sectors not erased. -/
structure NvHome where
  mark : Oct
  len : Nat
  gen : Nat
  cut : Nat
  recs : List NvRec
  spent : Nat
  dirty : List Nat
  deriving DecidableEq, Repr

/-- What a step programs or erases (08 Table 8.4, R285, R715). Sectors count from 0 in the whole array. -/
inductive NvAct where
  | chunk (n : Nat)
  | check
  | commit
  | home (n : Nat)
  | mark
  | erase (s : Nat)
  | void
  deriving DecidableEq, Repr

/-- The step in progress: what it does, whether it opens a journal sector, its CK of start. -/
structure NvStep where
  act : NvAct
  opens : Bool
  since : Nat
  deriving DecidableEq, Repr

/-- The record being written: the job slot it belongs to (none: a PW write of initiator `ini`), REC_SEQ, header and body
words, words written, whether the journal has closed its sector since it began (R273). -/
structure NvWrite where
  slot : Option Nat
  ini : Nat
  seq : Nat
  words : Nat
  written : Nat
  old : Bool
  deriving DecidableEq, Repr

/-- A PW write that waits for the journal: initiator, object, value, whether DOWN was entered since (05 R186). -/
structure PwReq where
  ini : Nat
  key : Nat
  value : Nat
  recheck : Bool
  deriving DecidableEq, Repr

/-- A compaction (08 R274): its slot, the cut, the bank written, the records left, words of the first already written,
the phase (0 E, 1 W, 2 M, 3 X), whether an erase or a home record of the phase has ended. -/
structure Compact where
  slot : Nat
  cut : Nat
  bank : Nat
  recs : List NvRec
  written : Nat
  phase : Nat
  between : Bool
  deriving DecidableEq, Repr

/-- The non-volatile array: home banks A and B, journal records by REC_SEQ, journal sectors not erased (oldest opened
first), their header words (sector, word) and the last opening number, words used in the newest and, sector by sector, in those before it, whether the next record opens a sector, the next sector in the circle, sectors found
partly erased, erase counts of all 64 sectors, the last REC_SEQ, a commit word to be voided, a mark cut by a collapse (the
record's, or a home bank's), the factory region found bad; the record being written, the step, PW writes that wait, octets
reserved, the compaction, whether the journal's attempt to go on without CORE has been logged (01 R17). -/
structure Nv where
  homes : List NvHome
  recs : List NvRec
  opened : List Nat
  heads : List (Nat × Oct)
  openNo : Nat
  off : Nat
  offs : List (Nat × Nat)
  closed : Bool
  nextSec : Nat
  partly : List Nat
  erases : List Nat
  seq : Nat
  voidDue : Bool
  cutMark : Option (Option Nat)
  factoryBad : Bool
  cur : Option NvWrite
  step : Option NvStep
  pws : List PwReq
  rsv : Nat
  comp : Option Compact
  stalled : Bool
  deriving DecidableEq, Repr

/-! ### Supply (05) -/

/-- The input that carries VSYS (05 R159). -/
inductive Vsys where
  | vin | vbak
  deriving DecidableEq, Repr

/-- The supply beyond its objects: brown-out lockout and its cause, the core rail's and main's comparators, VBAK_OK, the
level of VBAK_OK that waits for its hold after the oscillator was started (06 R714), the stretch and the CKs of bounces within the last second, the QUALIFY period (CK of its start, length in ms), the CK DOWN was
entered, DOWN entered with VBAK below VBAK_OK and its brown-out not yet recorded (R171), the input that carries VSYS (R159), the
core regulator in low-power mode, waiting for it, and the CK after which it takes it (R165), MAIN entered since the last POR, source 1 due at CORE ON (R170), the CK of the last energy
sample, VIO_SEL tied to VAON and not to GND, and the VIO supply applied from outside in mV (21 R678). -/
structure Supply where
  lockout : Bool
  lockCause : Nat
  mainIn : Bool
  vbakOk : Bool
  vbakDue : Option Bool
  stretch : Bool
  bounces : List Nat
  qualAt : Nat
  qualMs : Nat
  downAt : Nat
  lowBackup : Bool
  vsys : Vsys
  regLow : Bool
  regPend : Bool
  regDue : Option Nat
  everMain : Bool
  src1Due : Bool
  energyAt : Nat
  vioSel : Bool
  vioIn : Nat
  deriving DecidableEq, Repr

/-! ### The random source (01 R31) -/

/-- The generator of AON as plain data: its mixes so far, each as (advances since the mix before, CKX count mixed in), its
advances since the last mix, the count of CKX cycles since POR, and the CK and the requesting domain of the last draw. -/
structure Rng where
  mixes : List (Nat × Nat)
  steps : Nat
  ckx : Nat
  drawn : Option (Nat × Nat)
  deriving DecidableEq, Repr

/-! ### The device -/

/-- Everything but the command queue. -/
structure Dev where
  images : List Img
  jobs : List JobU
  ck : Nat
  rng : Rng
  opens : Nat
  store : Store
  aon : Aon
  sup : Supply
  intc : Intc
  fl : FaultLog
  claims : List Claim
  nv : Nv
  pm : Pmem
  rings : List Ring
  tm : TimeU
  macs : List Mac
  mdio : Mdio
  gov : Gov
  segs : List Seg
  cls : ClsU
  cans : List Can
  brg : BrgU
  tow : TowU
  slu : Sluice
  link : Link
  deriving DecidableEq, Repr

/-- The device while POR holds it (05 R151, R152; 07 Table 7.2): every domain OFF, the selector in BACKUP (05 Table 5.2),
the NV array as manufactured: erased (log entry 8). `startups` and `link.response` are the model's own records. -/
def Dev.initial : Dev where
  images := List.replicate 14 ⟨none, none, none, none⟩
  jobs := List.replicate 4 ⟨0, 0, [], [], [], 0, 0, []⟩
  ck := 0
  rng := ⟨[], 0, 0, none⟩
  opens := 0
  store := [(0x200001, 2)]
  aon := {
    inPor := true, osc := false, oscStarting := false, xtalStopped := false, pll := false, pllStart := none, rstLow := false,
    startup := .none, startAt := 0, stepAt := 0, startups := 0, upBase := none, nvLoadDue := false, nvmOffAfter := false,
    wakePend := 0, coolSince := none, doms := List.replicate 16 ⟨.off, none, false, false, false⟩, trans := none,
    refRow := [0, 0, 0, 0], refAt := [0, 0, 0, 0], lastCelsius := 0, tempAt := 0, stopAt := 0, monitorAt := none,
    coreDue := none }
  sup := {
    lockout := false, lockCause := 0, mainIn := false, vbakOk := false, vbakDue := none, stretch := false, bounces := [], qualAt := 0,
    qualMs := 0, downAt := 0, lowBackup := false, vsys := .vbak, regLow := false, regPend := false, regDue := none, everMain := false, src1Due := false,
    energyAt := 0, vioSel := true, vioIn := 0 }
  intc := ⟨[[], [], [], []], [false, false, false, false]⟩
  fl := ⟨[], none⟩
  claims := []
  nv := {
    homes := [⟨[], 0, 0, 0, [], 0, []⟩, ⟨[], 0, 0, 0, [], 0, []⟩], recs := [], opened := [], heads := [], openNo := 0, off := 0,
    offs := [], closed := false, nextSec := 0, partly := [], erases := List.replicate 64 0, seq := 0, voidDue := false, cutMark := none, factoryBad := false,
    cur := none, step := none, pws := [], rsv := 0, comp := none, stalled := false }
  pm := {
    mem := [], upsets := [], bad := [], barges := [], lockq := [[], [], [], []], cycle := [none, none, none, none],
    frees := [], rotor := List.replicate 16 0, scan := [], keptThrough := [], testing := [], filled := [], zeroAt := [],
    lowPounds := [] }
  rings := List.replicate 56 ⟨[], [], false, 0, none⟩
  tm := ⟨0, 0, false, false, List.replicate 4 ⟨false, none, false⟩, []⟩
  macs := List.replicate 4
    ⟨none, none, 0, none, false, false, false, none, none, .idle, .idle, [], [], 0, 0, 0, none, false, [], 0, none, false⟩
  mdio := ⟨none, 0, [], [], [], false, 0, 0⟩
  gov := ⟨0, 0, 0, 0, 0, none, false⟩
  segs := List.replicate 2 ⟨none, false, false, List.replicate 32 none, 0, none, false, none, none, 0, none⟩
  cls := ⟨[], [], List.replicate 4 ⟨[], 0, 0, false, none, []⟩, none, [false, false], [false, false], none, 0⟩
  cans := List.replicate 2 ⟨none, false, false, none⟩
  brg := ⟨[], 0, [], [[], []], List.replicate 64 ⟨[], none, false, 0⟩, [], [], [], []⟩
  tow := {
    inbox := [], sess := List.replicate 16 ⟨[], [], [], 0, 0, 0, none, 0⟩, lanes := List.replicate 5 ⟨[], 0⟩,
    slots := List.replicate 16 none, paths := [], cache := [], wins := List.replicate 8 ⟨none, 0, false⟩, dicts := [],
    todo := [] }
  slu := {
    outs := List.replicate 4 ⟨0, none, 0, 0, none, 1000, 5000, 0, none⟩,
    tachos := List.replicate 4 ⟨0, 0, 0, none, 0, 100, 0xFF, false, 0, false⟩,
    tickAt := 0, safeN := false, lost := 0, absent := none, deferred := [], cmdAt := 0 }
  link := ⟨List.replicate 8 none, 1, 0, none, false, false, none, [], [], 0, []⟩

/-- The block: the device and the commands that wait, first in, first out. -/
structure State where
  pending : List Instr
  dev : Dev
  deriving DecidableEq, Repr

/-- The machine right after reset: the device in POR, no command waiting. -/
def State.reset : State := ⟨[], Dev.initial⟩

end Sys2Proof.Machine
end

