-- ==== Sys2Proof/Machine/Ops.lean ====
section
/-!
DEFINITION. The named operations every block uses: bit fields and byte order, the dictionary store, domain states as
engines see them, interrupt events, faults, wake latches, claims, time.
-/
namespace Sys2Proof.Machine

/-! ### Bits and byte order (00 R7, R8) -/

/-- Bits `hi` down to `lo` of a value (00 R7). -/
def bits (v hi lo : Nat) : Nat := (v >>> lo) % 2 ^ (hi + 1 - lo)

/-- Bit `n` of a value. -/
def bit (v n : Nat) : Bool := v.testBit n

/-- A truth value as a bit. -/
def b2n (b : Bool) : Nat := if b then 1 else 0

/-- The value with bit `n` set to `b`. -/
def setBit (v n : Nat) (b : Bool) : Nat :=
  if v.testBit n == b then v else if b then v + 2 ^ n else v - 2 ^ n

/-- An octet with the low eight bits of a value. -/
def oct (v : Nat) : Octet := BitVec.ofNat 8 v

/-- A little-endian octet string as a number (00 R8). -/
def leNat : Oct → Nat
  | [] => 0
  | b :: t => b.toNat + 256 * leNat t

/-- The `n` octets of a value, little-endian (00 R8). -/
def leOct : Nat → Nat → Oct
  | 0, _ => []
  | n + 1, v => oct v :: leOct n (v / 256)

/-- A big-endian octet string as a number (fields inside network frames, 00 R8). -/
def beNat (l : Oct) : Nat := leNat l.reverse

/-- The `n` octets of a value, big-endian. -/
def beOct (n v : Nat) : Oct := (leOct n v).reverse

/-- `n` octets of 00h. -/
def zeros (n : Nat) : Oct := List.replicate n 0

/-- Octet `i` of a string, 0 beyond its end. -/
def octAt (l : Oct) (i : Nat) : Nat := (l.getD i 0).toNat

/-- `n` octets of a string from offset `o`, with 00h beyond its end. -/
def sub (l : Oct) (o n : Nat) : Oct := let t := (l.drop o).take n; t ++ zeros (n - t.length)

/-- The little-endian field of `n` octets at offset `o`. -/
def leAt (l : Oct) (o n : Nat) : Nat := leNat (sub l o n)

/-- The big-endian field of `n` octets at offset `o`. -/
def beAt (l : Oct) (o n : Nat) : Nat := beNat (sub l o n)

/-- `l` with the octets `v` written from offset `o` on, within its length. -/
def patch (l : Oct) (o : Nat) (v : Oct) : Oct := l.take o ++ v.take (l.length - o) ++ l.drop (o + v.length)

/-- The value of a two's complement field of `n` bits (02 Table 2.1). -/
def toSigned (n v : Nat) : Int := if v < 2 ^ (n - 1) then (v : Int) else (v : Int) - 2 ^ n

/-- The two's complement field of `n` bits of an integer. -/
def ofSigned (n : Nat) (i : Int) : Nat := (i % (2 ^ n : Int)).toNat

/-- An integer limited to a range. -/
def clampInt (lo hi v : Int) : Int := if v < lo then lo else if hi < v then hi else v

/-- `(a - b)` modulo 65,536. -/
def sub16 (a b : Nat) : Nat := (a + 65536 - b % 65536) % 65536

/-- The list with its `i`-th entry changed. -/
def updAt {α : Type} (l : List α) (i : Nat) (f : α → α) : List α :=
  match l, i with
  | [], _ => []
  | a :: t, 0 => f a :: t
  | a :: t, i + 1 => a :: updAt t i f

/-- Left to right application of a state change over a list. -/
def forEach {α σ : Type} (l : List α) (s : σ) (f : α → σ → σ) : σ := l.foldl (fun s a => f a s) s

/-! ### The store -/

/-- The value under a key, if listed. -/
def Store.get? : Store → Nat → Option Nat
  | [], _ => none
  | (k, v) :: t, x => if k = x then some v else Store.get? t x

/-- The store with the entry of a key removed. -/
def Store.erase (s : Store) (x : Nat) : Store := s.filter (fun e => e.1 != x)

/-- The store with a key set to a value. -/
def Store.put : Store → Nat → Nat → Store
  | [], x, w => [(x, w)]
  | (k, v) :: t, x, w =>
    if k = x then (x, w) :: t else if x < k then (x, w) :: (k, v) :: t else (k, v) :: Store.put t x w

/-! ### Object rows -/

/-- The object key of an index and a subindex. -/
def objKey (idx sb : Nat) : Nat := idx * 256 + sb

/-- Whether a row covers an index. -/
def ObjRow.hasIdx (r : ObjRow) (idx : Nat) : Bool :=
  if r.nIdx = 1 then idx == r.idx
  else r.idx ≤ idx && idx < r.idx + r.nIdx * r.step && (idx - r.idx) % r.step == 0

/-- Whether a row covers an index and a subindex. -/
def ObjRow.covers (r : ObjRow) (idx sb : Nat) : Bool :=
  r.hasIdx idx && (r.sub ≤ sb && sb < r.sub + r.nSub)

/-- The row of an object (02 R38, R39). -/
def rowAt (idx sb : Nat) : Option ObjRow := (objRowsOf (idx / 256)).find? (fun r => r.covers idx sb)

/-- The key of an object held separately for each initiator (02 R69, 09 Table 9.6): the host's is the plain key. -/
def iniKey (ini k : Nat) : Nat := ini * 0x1000000 + k

/-- The row of a key. -/
def rowOf (k : Nat) : Option ObjRow := rowAt (k / 256 % 65536) (k % 256)

/-- The size of a type in octets (02 Table 2.1); for DOMAIN the maximum image length. -/
def ObjType.size : ObjType → Nat
  | .u8 | .i8 | .bool8 => 1
  | .u16 | .i16 => 2
  | .u32 | .i32 => 4
  | .u64 | .i64 => 8
  | .octets n => n
  | .domain n => n

/-- The type code of 02 Table 2.1. -/
def ObjType.code : ObjType → Nat
  | .u8 => 1 | .u16 => 2 | .u32 => 3 | .u64 => 4 | .i8 => 5 | .i16 => 6 | .i32 => 7 | .i64 => 8
  | .bool8 => 9 | .octets _ => 10 | .domain _ => 11

/-- The default value of an object (its Default entry; R52). -/
def dflt (k : Nat) : Nat :=
  match rowOf k with
  | some r => r.dflt
  | none => 0

/-- The greatest value of an object's type. -/
def maxOf (k : Nat) : Nat :=
  match rowOf k with
  | some r => 2 ^ (8 * r.ty.size) - 1
  | none => 0

/-- The value of an object. -/
def Dev.rd (d : Dev) (k : Nat) : Nat := (d.store.get? k).getD (dflt k)

/-- The device with an object's value changed; the store keeps its canonical form. -/
def Dev.wr (d : Dev) (k v : Nat) : Dev :=
  { d with store := if v = dflt k then d.store.erase k else d.store.put k v }

/-- A counter raised by `n`, saturating (R80, R129, R226 and the other counter rules). -/
def Dev.add (d : Dev) (k n : Nat) : Dev := d.wr k (min (d.rd k + n) (maxOf k))

/-- A counter raised by one. -/
def Dev.inc (d : Dev) (k : Nat) : Dev := d.add k 1

/-- A flag object or a flag bit. -/
def Dev.flag (d : Dev) (k n : Nat) : Bool := (d.rd k).testBit n

/-- The signed value of an object of `n` bits. -/
def Dev.rdS (d : Dev) (k n : Nat) : Int := toSigned n (d.rd k)

/-! ### The outcome of a dictionary write's effect -/

/-- A write applied, or refused at order 10 or 11 of 02 Table 2.5 with what that refusal itself counts. -/
inductive WRes where
  | ok (d : Dev)
  | abort (code : Nat) (d : Dev)
  | pend (d : Dev)

/-! ### Free values -/

/-- The generator after `n` CKX (01 R31). -/
def Rng.run (g : Rng) (n : Nat) : Rng := { g with steps := g.steps + n, ckx := g.ckx + n }

/-- SERIAL_NUMBER and the CKX count mixed into the generator (01 R31). -/
def Rng.mix (g : Rng) : Rng := { g with mixes := g.mixes ++ [(g.steps, g.ckx)], steps := 0 }

/-- The 32-bit value the generator holds: a free value (log entry 4). -/
def Rng.value (g : Rng) : Nat := (Config.randomValue Config.serialNumber g.mixes g.steps).toNat


/-- The next free value for a point the spec leaves open (log entry 6). -/
def Dev.free (d : Dev) : Nat × Dev := (Config.freeValue d.opens, { d with opens := d.opens + 1 })

/-! ### Domains as engines and the dictionary see them -/

/-- Domain numbers of 01 Table 1.1. -/
abbrev dKEEP : Nat := 0
abbrev dCORE : Nat := 1
abbrev dNVM : Nat := 2
abbrev dPM0 : Nat := 3
abbrev dMACT : Nat := 7
abbrev dMACL : Nat := 8
abbrev dMACS0 : Nat := 9
abbrev dMACS1 : Nat := 10
abbrev dCLS : Nat := 11
abbrev dCAN : Nat := 12
abbrev dBRG : Nat := 13
abbrev dTOW : Nat := 14
abbrev dTIME : Nat := 15

/-- A domain in the state OFF with nothing pending. -/
def Dom.idle : Dom := ⟨.off, none, false, false, false⟩

/-- A domain's record. -/
def Dev.dom (d : Dev) (n : Nat) : Dom := d.aon.doms.getD n Dom.idle

/-- The transition that has begun on a domain, if any (06 R193). -/
def Dev.transOf (d : Dev) (n : Nat) : Option Trans :=
  match d.aon.trans with
  | some t => if t.dom = n then some t else none
  | none => none

/-- The state a domain counts as for access (02 R72): the target once a transition to RETENTION or OFF has begun, the source
until a transition to ON reports, OFF from the selection of a domain reset on. -/
def Dev.domEff (d : Dev) (n : Nat) : DSt :=
  match d.transOf n with
  | some t =>
    if t.isReset then .off
    else if t.waiting then (d.dom n).st
    else match t.target with
      | .on => (d.dom n).st
      | x => x
  | none => (d.dom n).st

/-- The state a domain counts as for its engines (01 R16): a domain selected for a reset works until its drain begins
(07 R250: from the selection on it counts as OFF for dictionary access alone). -/
def Dev.domRun (d : Dev) (n : Nat) : DSt :=
  match d.transOf n with
  | some t => if t.waiting then (d.dom n).st else d.domEff n
  | none => (d.dom n).st

/-- A domain is ON (01 R16). Numbers above 15 stand for AON, which counts as always ON. -/
def Dev.on (d : Dev) (n : Nat) : Bool := if n < 16 then d.domRun n == .on else true

/-- Every domain of a list is ON (01 R16). -/
def Dev.allOn (d : Dev) (l : List Nat) : Bool := l.all d.on

/-- The MAC domain of port `p`. -/
def macDom (p : Nat) : Nat := 7 + p

/-- The domain of packet-memory bank `b`. -/
def bankDom (b : Nat) : Nat := 3 + b

/-- The encoding of a state in DOM_REQ and DOM_STATUS (06 R189, Table 6.1). -/
def DSt.code : DSt → Nat
  | .off => 0
  | .retention => 1
  | .on => 2

/-- The device with domain `n` changed. -/
def Dev.setDom (d : Dev) (n : Nat) (f : Dom → Dom) : Dev :=
  { d with aon := { d.aon with doms := updAt d.aon.doms n f } }

/-- A request for a domain from any source (06 R191, R192, R213). -/
def Dev.placeReq (d : Dev) (n : Nat) (t : DSt) : Dev :=
  let o := d.dom n
  let d := d.wr (0x211001 + n) t.code
  match o.pend with
  | some p => if p = t then d else (d.setDom n (fun o => { o with pend := some t, shed := false })).inc 0x213001
  | none =>
    if o.st = t && (d.transOf n).isNone then d
    else d.setDom n (fun o => { o with pend := some t, shed := false })

/-! ### Time (01 R21, 17 R593) -/

/-- Units of the PTP clock in a nanosecond: the clock counts in 2^-22 ns (17). -/
abbrev clkUnit : Nat := 4194304

/-- The clock in whole seconds (48 bits). -/
def Dev.clkSec (d : Dev) : Nat := d.tm.clock / (1000000000 * clkUnit)

/-- The nanoseconds of the clock. -/
def Dev.clkNs (d : Dev) : Nat := d.tm.clock / clkUnit % 1000000000

/-- FL_UPTIME_MS now: whole ms of CKX time, which stands still while CKX does (19 R716). -/
def Dev.uptime (d : Dev) : Nat :=
  match d.aon.upBase with
  | some b => (d.rng.ckx - b) / 25000
  | none => 0xFFFFFFFF

/-! ### Interrupt sources (18) -/

/-- SRC_STATE_s: PENDING in bit 0, COUNT in bits 7-4 (18, Source configuration). -/
def srcStateKey (s : Nat) : Nat := 0x785001 + s

/-- SRC_CFG_s (18 Table 18.2). -/
def srcCfgKey (s : Nat) : Nat := 0x784001 + s

/-- A source is in service while it stands on the stack of any target (18 R623). -/
def Dev.inService (d : Dev) (s : Nat) : Bool := d.intc.serving.any (fun st => st.any (fun e => e.1 == s))

/-- PENDING of a source. -/
def Dev.isPending (d : Dev) (s : Nat) : Bool := (d.rd (srcStateKey s)).testBit 0

/-- PENDING of a source set. -/
def Dev.setPending (d : Dev) (s : Nat) : Dev := d.wr (srcStateKey s) (setBit (d.rd (srcStateKey s)) 0 true)

/-- An event of an edge source at the interrupt controller (18 R623, R624, R625). -/
def Dev.srcEvent (d : Dev) (s : Nat) : Dev :=
  let v := d.rd (srcStateKey s)
  if (d.rd (srcCfgKey s)).testBit 8 && (v.testBit 0 || d.inService s) then
    d.wr (srcStateKey s) (v % 16 + 16 * min 15 (v / 16 + 1))
  else d.setPending s

/-- A source fires: an event while CORE is ON, lost otherwise (18 R622, Edges while CORE is not ON). -/
def Dev.fire (d : Dev) (s : Nat) : Dev := if d.on dCORE then d.srcEvent s else d

/-- The domains for which the set latches `ls` place ON requests (06 R209, R219). -/
def Dev.wakeTargets (d : Dev) (ls : Nat) : List Nat :=
  let set := (List.range 16).foldl (fun a n => if ls.testBit n then a ||| d.rd (0x215001 + n) else a) 0
  let set := if d.rd 0x200001 = 0 then set else set &&& d.rd 0x201003
  (List.range 16).filter (fun n => set.testBit n && (d.dom n).pend != some .on
    && ((d.dom n).st != .on || ((d.transOf n).isSome)))

/-- The ON requests of latches carried out (06 R209). -/
def Dev.wakeRequests (d : Dev) (ls : Nat) : Dev := forEach (d.wakeTargets ls) d (fun n d => d.placeReq n .on)

/-- A wake latch sees an edge of its source (06 R208, R209, R220); in a brown-out lockout it keeps what it captures without
starting anything (05 R170). -/
def Dev.latch (d : Dev) (n : Nat) : Dev :=
  if d.flag 0x214001 n && !d.flag 0x214002 n && !d.aon.inPor then
    let d := d.wr 0x214002 (setBit (d.rd 0x214002) n true)
    if d.aon.osc && !d.sup.lockout then d.wakeRequests (2 ^ n)
    else { d with aon := { d.aon with wakePend := setBit d.aon.wakePend n true,
                                      oscStarting := d.aon.oscStarting
                                        || (!d.aon.osc && !d.aon.xtalStopped && !d.sup.lockout) } }
  else d

/-! ### Faults (19 R655, R716) -/

/-- Where a fault stands in the queue among those detected in the same CK: ascending FL_BLOCK with AON last, then
ascending FL_KIND (19 R655). -/
def FaultRec.before (a b : FaultRec) : Bool :=
  a.at_ != b.at_ || a.block < b.block || (a.block == b.block && a.kind ≤ b.kind)

/-- A fault put into the queue behind those that go before it. -/
def enqueueFault (f : FaultRec) : List FaultRec → List FaultRec
  | [] => [f]
  | g :: t => if g.before f then g :: enqueueFault f t else f :: g :: t

/-- A fault is detected: it waits in the writer's queue of 16, or is dropped from a full queue (19 R655, R657). -/
def Dev.fault (d : Dev) (kind block code whr detail : Nat) (ini : Nat := 0xFF) : Dev :=
  if 16 ≤ d.fl.queue.length then (d.inc 0x7C0006).fire 94
  else
    let valid := d.on dTIME && d.flag 0x700005 0
    let f : FaultRec :=
      { kind, block, code, whr, detail, ini, at_ := d.ck, tsValid := valid,
        sec := if valid then d.clkSec % 2 ^ 32 else 0, ns := if valid then d.clkNs else 0,
        uptime := d.uptime, startup := d.aon.startups }
    { d with fl := { d.fl with queue := enqueueFault f d.fl.queue } }

/-- An engine's attempt at a function whose required domains are not all ON (01 R17, 19 Table 19.4 kind 02h). -/
def Dev.engineOff (d : Dev) (own : Nat) (need : List Nat) : Dev :=
  let missing := need.filter (fun n => !d.on n)
  let code := if missing.any (fun n => d.domEff n == .off) then 0x0401 else 0x0402
  d.fault 2 own code (missing.foldl (fun a n => a ||| 2 ^ n) 0) own

/-! ### Shared resources (20) -/

/-- The claim on an instance of a resource, if any. -/
def Dev.claimOf (d : Dev) (kind num : Nat) : Option Claim :=
  d.claims.find? (fun c => c.kind == kind && c.num == num)

/-- CLAIM_REFUSALS and CLAIM_LAST for a refused claim (20 R663, R670, Table 20.3). -/
def Dev.claimRefused (d : Dev) (ini claimant : Nat) (c : Claim) : Dev :=
  (d.inc 0x7F0001).wr 0x7F0002
    (c.kind + 2 ^ 8 * c.num + 2 ^ 24 * c.holder + 2 ^ 32 * c.inst + 2 ^ 40 * claimant + 2 ^ 48 * ini)

/-- A claim taken. -/
def Dev.takeClaim (d : Dev) (c : Claim) : Dev := { d with claims := d.claims ++ [c] }

/-- The claims that a predicate picks out released. -/
def Dev.dropClaims (d : Dev) (p : Claim → Bool) : Dev := { d with claims := d.claims.filter (fun c => !p c) }

/-- The claim, among those wanted, that another claimant's claim stands in the way of (20 R663, R664). -/
def Dev.claimBlock (d : Dev) (want : List Claim) : Option Claim :=
  want.findSome? (fun w => (d.claimOf w.kind w.num).bind
    (fun c => if c.holder = w.holder && c.inst = w.inst then none else some c))

/-- The claims wanted taken, those already held kept. -/
def Dev.takeClaims (d : Dev) (want : List Claim) : Dev :=
  forEach want d (fun w d => if (d.claimOf w.kind w.num).isNone then d.takeClaim w else d)

end Sys2Proof.Machine
end

