-- ==== Sys2Proof/Machine/Frame.lean ====
section
/-!
DEFINITION. Computations over frame octets: check codes (02 Table 2.6, 11 R391), EtherType and header walks
(11 R358, R368, R372), checksums.
-/
namespace Sys2Proof.Machine

/-! ### Check codes -/

/-- One bit step of the reflected CRC-32 of IEEE 802.3. -/
def crc32Bit (c : Nat) : Nat := if c % 2 = 1 then (c / 2) ^^^ 0xEDB88320 else c / 2

/-- Eight bit steps with an octet. -/
def crc32Oct (c : Nat) (b : Octet) : Nat :=
  crc32Bit (crc32Bit (crc32Bit (crc32Bit (crc32Bit (crc32Bit (crc32Bit (crc32Bit (c ^^^ b.toNat))))))))

/-- The CRC-32 of IEEE 802.3: polynomial 04C1_1DB7h, reflected, initial value FFFF_FFFFh, final complement
(02 Table 2.6). -/
def crc32 (l : Oct) : Nat := (l.foldl crc32Oct 0xFFFFFFFF) ^^^ 0xFFFFFFFF

/-- One bit step of the CRC-16 of polynomial 1021h. -/
def crc16Bit (c : Nat) : Nat := if 0x8000 ≤ c then (c * 2 % 65536) ^^^ 0x1021 else c * 2 % 65536

/-- Eight bit steps with an octet. -/
def crc16Oct (c : Nat) (b : Octet) : Nat :=
  crc16Bit (crc16Bit (crc16Bit (crc16Bit (crc16Bit (crc16Bit (crc16Bit (crc16Bit (c ^^^ (b.toNat * 256)))))))))

/-- The CRC-16 with polynomial 1021h and initial value FFFFh (11 R391). -/
def crc16 (l : Oct) : Nat := l.foldl crc16Oct 0xFFFF

/-- The FCS of a frame as it stands on the wire. -/
def fcsOf (l : Oct) : Oct := leOct 4 (crc32 l)

/-- A frame, FCS included, whose FCS matches. -/
def fcsOk (l : Oct) : Bool := 4 ≤ l.length && crc32 (l.take (l.length - 4)) == leNat (l.drop (l.length - 4))

/-! ### EtherType (11 R358) -/

/-- A tag's EtherType value. -/
def isTag (v : Nat) : Bool := v == 0x8100 || v == 0x88A8

/-- The number of tags, at most two. -/
def tagCount (l : Oct) : Nat := if isTag (beAt l 12 2) then (if isTag (beAt l 16 2) then 2 else 1) else 0

/-- The offset of the EtherType field. -/
def etOffset (l : Oct) : Nat := 12 + 4 * tagCount l

/-- The EtherType of a frame. -/
def etherType (l : Oct) : Nat := beAt l (etOffset l) 2

/-- The group bit of the destination address. -/
def isGroup (l : Oct) : Bool := (octAt l 0).testBit 0

/-- The broadcast address. -/
def bcastAddr : Oct := List.replicate 6 (oct 0xFF)

/-- The destination is the broadcast address. -/
def isBcast (l : Oct) : Bool := l.take 6 == bcastAddr

/-! ### Checksums -/

/-- The ones' complement sum of 16-bit big-endian words, an odd octet padded with 00h. -/
def onesSum : Oct → Nat
  | [] => 0
  | [a] => a.toNat * 256
  | a :: b :: t => let s := a.toNat * 256 + b.toNat + onesSum t; s % 65536 + s / 65536

/-- The checksum that makes the sum FFFFh. -/
def onesCheck (l : Oct) : Nat := 65535 - onesSum l

/-- An IPv4 header that lies within the octets: version 4, IHL at least 5 (11 R368, R371). -/
def ip4HeaderOk (l : Oct) (o : Nat) : Bool :=
  octAt l o / 16 == 4 && 5 ≤ octAt l o % 16 && o + octAt l o % 16 * 4 ≤ l.length

/-- The IPv6 extension headers skipped before the transport header: at most 4 of types 0, 43 and 60 (11 R368).
Answers the protocol and the offset reached. -/
def ip6Walk (l : Oct) : Nat → Nat → Nat → Nat × Nat
  | 0, nh, o => (nh, o)
  | n + 1, nh, o =>
    if nh = 0 || nh = 43 || nh = 60 then ip6Walk l n (octAt l o) (o + 8 + 8 * octAt l (o + 1)) else (nh, o)

/-- The transport header of a packet whose IP header stands at `o`: protocol, its offset, the transport length from
the IP length fields, the pseudo-header. None when the packet is a fragment, the protocol is not TCP or UDP, or the
transport does not lie within the octets (11 R368, R372). -/
def transportAt (l : Oct) (o : Nat) : Option (Nat × Nat × Nat × Oct) :=
  if ip4HeaderOk l o then
    let h := octAt l o % 16 * 4
    let len := beAt l (o + 2) 2 - h
    let p := octAt l (o + 9)
    if beAt l (o + 6) 2 % 0x4000 = 0 && (p == 6 || p == 17) && h ≤ beAt l (o + 2) 2 && o + h + len ≤ l.length then
      some (p, o + h, len, sub l (o + 12) 8 ++ beOct 2 p ++ beOct 2 len)
    else none
  else if octAt l o / 16 = 6 && o + 40 ≤ l.length then
    let w := ip6Walk l 4 (octAt l (o + 6)) (o + 40)
    let total := beAt l (o + 4) 2 + 40
    let len := total - (w.2 - o)
    if (w.1 == 6 || w.1 == 17) && w.2 - o ≤ total && w.2 + len ≤ l.length then
      some (w.1, w.2, len, sub l (o + 8) 32 ++ beOct 4 len ++ beOct 4 w.1)
    else none
  else none

/-- The IP header's offset when the EtherType names IPv4 or IPv6. -/
def ipOffset (l : Oct) : Option Nat :=
  if etherType l = 0x0800 || etherType l = 0x86DD then some (etOffset l + 2) else none

/-- The header walk of a frame from its EtherType on (11 R368, R372). -/
def frameTransport (l : Oct) : Option (Nat × Nat × Nat × Oct) :=
  match ipOffset l with
  | none => none
  | some o => if (etherType l == 0x86DD) != (octAt l o / 16 == 6) then none else transportAt l o

/-- L3_CSUM of a received frame: 00 not checked, 01 good, 10 bad (11 R368). -/
def l3Csum (l : Oct) : Nat :=
  let o := etOffset l + 2
  if etherType l = 0x0800 && ip4HeaderOk l o then
    (if onesSum (sub l o (octAt l o % 16 * 4)) = 0xFFFF then 1 else 2)
  else 0

/-- L4_CSUM of a received frame (11 R368). -/
def l4Csum (l : Oct) : Nat :=
  if l3Csum l = 2 then 0
  else match frameTransport l with
    | none => 0
    | some (p, t, len, ph) =>
      if p = 17 && beAt l (t + 6) 2 = 0 then (if etherType l = 0x86DD then 2 else 0)
      else if onesSum (ph ++ sub l t len) = 0xFFFF then 1 else 2

/-- The transport checksum inserted over a transport header at `t` (11 R372). -/
def insertL4 (l : Oct) (p t len : Nat) (ph : Oct) : Oct :=
  let c := if p = 6 then t + 16 else t + 6
  let l0 := patch l c (zeros 2)
  let v := onesCheck (ph ++ sub l0 t len)
  patch l0 c (beOct 2 (if p = 17 && v = 0 then 0xFFFF else v))

/-- The IPv4 header checksum inserted at `o` (11 R371). -/
def insertL3 (l : Oct) (o : Nat) : Oct :=
  let l0 := patch l (o + 10) (zeros 2)
  patch l0 (o + 10) (beOct 2 (onesCheck (sub l0 o (octAt l o % 16 * 4))))

/-- The frame padded to 60 octets with 00h (11 R369). -/
def padFrame (l : Oct) : Oct := l ++ zeros (60 - l.length)

end Sys2Proof.Machine
end

