-- ==== Sys2Proof/Machine/Images.lean ====
section
/-!
DEFINITION. Table images: the DOMAIN objects, the common header and access to bodies (02, Table images).
-/
namespace Sys2Proof.Machine

/-- The DOMAIN objects: index, maximum image length, format code, owning domain (02 Table 2.7). -/
def imageObjs : List (Nat × Nat × Nat × Nat) :=
  [(0x4100, 2064, 0x0101, 11), (0x4101, 4128, 0x0102, 11), (0x4102, 49168, 0x0103, 11), (0x4103, 131088, 0x0104, 11),
   (0x4104, 576, 0x0105, 11), (0x4110, 2064, 0x0101, 11), (0x4111, 4128, 0x0102, 11), (0x4112, 49168, 0x0103, 11),
   (0x4113, 131088, 0x0104, 11), (0x4114, 576, 0x0105, 11), (0x5430, 16400, 0x0201, 13), (0x5800, 9248, 0x0202, 13),
   (0x5801, 2192, 0x0203, 13), (0x6840, 568, 0x0301, 0)]

/-- The number of an index among the DOMAIN objects. -/
def imgOf (idx : Nat) : Option Nat := imageObjs.findIdx? (fun e => e.1 == idx)

/-- Index, maximum length, format code and domain of image `n`. -/
def imgIdx (n : Nat) : Nat := (imageObjs.getD n (0, 0, 0, 0)).1
def imgMax (n : Nat) : Nat := (imageObjs.getD n (0, 0, 0, 0)).2.1
def imgFmt (n : Nat) : Nat := (imageObjs.getD n (0, 0, 0, 0)).2.2.1
def imgDom (n : Nat) : Nat := (imageObjs.getD n (0, 0, 0, 0)).2.2.2

/-- The initiator number of peer `n` (02 Table 2.4). -/
def peerIni (n : Nat) : Nat := 0x10 + n

/-- A DOMAIN object with nothing in it. -/
def Img.idle : Img := ⟨none, none, none, none⟩

/-- Image `n`. -/
def Dev.img (d : Dev) (n : Nat) : Img := d.images.getD n Img.idle

/-- The device with image `n` changed. -/
def Dev.setImg (d : Dev) (n : Nat) (f : Img → Img) : Dev := { d with images := updAt d.images n f }

/-- The open transfer discarded. -/
def Dev.imgDrop (d : Dev) (n : Nat) : Dev := d.setImg n (fun x => { x with xfer := none })

/-- The open transfers of an initiator discarded: its host link or its session is reset or lost (02 R77). -/
def Dev.imgReset (d : Dev) (ini : Nat) : Dev :=
  forEach (List.range 14) d (fun n d => if (((d.img n).xfer).map (·.ini)) == some ini then d.imgDrop n else d)

/-- The body of the image in effect. -/
def Dev.body (d : Dev) (n : Nat) : Option Oct := (d.img n).eff.map (·.drop 16)

/-- The header rules of R62: format, version, length, reserved octets. -/
def headerOk (n : Nat) (l : Oct) : Bool :=
  leAt l 0 2 == imgFmt n && leAt l 2 2 == 1 && 16 ≤ leAt l 4 4 && leAt l 4 4 ≤ imgMax n && leAt l 12 4 == 0

/-- IMG_CRC (02 Table 2.6). -/
def imgCrcOk (l : Oct) : Bool := crc32 (patch l 8 (zeros 4)) == leAt l 8 4

/-- `n` records of `w` octets of a body from offset `o` on. -/
def records (b : Oct) (o w : Nat) : Nat → List Oct
  | 0 => []
  | n + 1 => sub b o w :: records b (o + w) w n

/-! ### The bridge's destinations in use (14 R497) -/

/-- Entries of 16 octets of a body from offset `o` on. -/
def entries16 (b : Oct) (o : Nat) : Nat → List Oct := records b o 16

/-- The routing entries in effect (14 Table 14.3). -/
def Dev.routes (d : Dev) : List Oct :=
  match d.body 10 with
  | some b => entries16 b 0 (b.length / 16)
  | none => []

/-- The output messages in effect (14 Table 14.6). -/
def Dev.outMsgs (d : Dev) : List Oct :=
  match d.body 11 with
  | some b => entries16 b 16 (leAt b 0 2)
  | none => []

/-- The signal entries in effect (14 Table 14.7). -/
def Dev.signals (d : Dev) : List Oct :=
  match d.body 11 with
  | some b => entries16 b (16 + 16 * leAt b 0 2) (leAt b 2 2)
  | none => []

/-- BRG_ETH_DEST_e. -/
def Dev.ethDest (d : Dev) (e : Nat) : Oct := leOct 20 (d.rd (0x541001 + e))

/-- A route or an output message in effect names Ethernet destination `e`. -/
def Dev.ethUsed (d : Dev) (e : Nat) : Bool :=
  d.routes.any (fun x => octAt x 9 == 4 && octAt x 10 == e) || d.outMsgs.any (fun x => octAt x 5 == 4 && octAt x 6 == e)

/-- The bridge takes inputs (14 R493). -/
def Dev.brgRuns (d : Dev) : Bool := d.on dBRG && d.rd 0x540001 == 1

/-- The bridge is the producer of ring `r` (14 R497). -/
def Dev.brgRing (d : Dev) (r : Nat) : Bool :=
  d.brgRuns && (List.range 4).any (fun e => octAt (d.ethDest e) 19 == r && d.ethUsed e)

end Sys2Proof.Machine
end

