-- ==== Sys2Proof/Machine/Time.lean ====
section
/-!
DEFINITION. The passing of time (01 R21, 17 R593), frame timestamps, tally counters and boundaries, the compare and
capture channels (17).
-/
namespace Sys2Proof.Machine

/-! ### Tally counters (17 R611-R617) -/

/-- Counter `i` of a counter block held as one octet string value. -/
def cntOf (v i : Nat) : Nat := v / 2 ^ (32 * i) % 2 ^ 32

/-- The block with counter `i` raised by `n`, stopping at FFFF_FFFFh. -/
def cntAdd (v i n : Nat) : Nat := v + (min (cntOf v i + n) 0xFFFFFFFF - cntOf v i) * 2 ^ (32 * i)

/-- The half-range flag `b` after a counter went from `x` to `y` (17 R617). -/
def Dev.halfFlag (d : Dev) (b x y : Nat) : Dev :=
  if !x.testBit 31 && y.testBit 31 && !d.flag 0x740006 b then
    (d.wr 0x740006 (setBit (d.rd 0x740006) b true)).fire (if b < 4 then 89 else 90)
  else d

/-- Ethernet counter `i` of port `p` raised by `n`. -/
def Dev.cntRaise (d : Dev) (p i n : Nat) : Dev :=
  let v := d.rd (0x741001 + p)
  let w := cntAdd v i n
  (d.wr (0x741001 + p) w).halfFlag p (cntOf v i) (cntOf w i)

/-- Ethernet counter `i` of port `p` counts `n` (17 R611, Table 17.2). -/
def Dev.cnt (d : Dev) (p i : Nat) (n : Nat := 1) : Dev :=
  if d.on dTIME && d.on (macDom p) then d.cntRaise p i n else d

/-- CAN counter `i` of channel `c` counts `n` (17 R611, Table 17.3). -/
def Dev.canCnt (d : Dev) (c i : Nat) (n : Nat := 1) : Dev :=
  if d.on dTIME && d.on dCAN then
    let v := d.rd (0x741005 + c)
    let w := cntAdd v i n
    (d.wr (0x741005 + c) w).halfFlag (4 + c) (cntOf v i) (cntOf w i)
  else d

/-! ### The clock -/

/-- The largest clock value plus one: a 48-bit seconds count (17 R592). -/
abbrev clkLimit : Nat := 2 ^ 48 * 1000000000 * clkUnit

/-- Units the clock adds at every CK (17 R593). -/
def Dev.clkRate (d : Dev) : Nat := (41943040 + d.rdS 0x700004 32).toNat

/-- The device with port `p`'s MAC changed. -/
def Dev.setMac (d : Dev) (p : Nat) (f : Mac → Mac) : Dev := { d with macs := updAt d.macs p f }

/-- A MAC with nothing to do. -/
def Mac.idle : Mac := ⟨none, none, 0, none, false, false, false, none, none, .idle, .idle, [], [], 0, 0, 0, none, false, [], 0, none, false⟩

/-- Port `p`'s MAC. -/
def Dev.mac (d : Dev) (p : Nat) : Mac := d.macs.getD p Mac.idle

/-- PORT_RUN of port `p` (12 Table 12.6). -/
def portRunKey (p : Nat) : Nat := 0x300001 + 0x10000 * p

/-- LINK_STATE of port `p` (12 Table 12.2). -/
def Dev.linkState (d : Dev) (p : Nat) : Nat := d.rd (0x300002 + 0x10000 * p)

/-- Port `p` has its link: LINK_STATE UP or, on a segment, NEGOTIATING or PLCA_FALLBACK (12 R403). -/
def Dev.linkUp (d : Dev) (p : Nat) : Bool :=
  d.linkState p == 3 || (2 ≤ p && (d.linkState p == 2 || d.linkState p == 5))

/-- Whole ms of a port's paused time and down time while `n` CK pass (17 Table 17.2 counters 37 and 38). -/
def Dev.tickPort (d : Dev) (n p : Nat) : Dev :=
  if d.on (macDom p) then
    let m := d.mac p
    let pa := m.pausedAcc + (if p < 2 && m.pauseEnd.isSome then n else 0)
    let da := m.downAcc + (if d.rd (portRunKey p) = 1 && !d.linkUp p then n else 0)
    let d := d.setMac p (fun m => { m with pausedAcc := pa % ckPerMs, downAcc := da % ckPerMs })
    (if pa / ckPerMs = 0 then d else d.cnt p 37 (pa / ckPerMs))
      |> fun d => if da / ckPerMs = 0 then d else d.cnt p 38 (da / ckPerMs)
  else d

/-- The CK count, the random source at every CKX while CKX runs (01 R21, R31) and the clock while TIME is ON (17 R592, R593)
go on by `n` CK. -/
def Dev.pass (d : Dev) (n : Nat) : Dev :=
  let d := { d with
    ck := d.ck + n
    rng := if d.aon.osc then d.rng.run ((d.ck + n) / 4 - d.ck / 4) else d.rng }
  if d.on dTIME then { d with tm := { d.tm with clock := (d.tm.clock + n * d.clkRate) % clkLimit } } else d

/-- The counters of time of the ports count `n` CK (17 Table 17.2). -/
def Dev.tickPorts (d : Dev) (n : Nat) : Dev :=
  if d.on dTIME then forEach (List.range 4) d (fun p d => d.tickPort n p) else d

/-- `n` CK pass. -/
def Dev.tick (d : Dev) (n : Nat) : Dev := if n = 0 then d else (d.pass n).tickPorts n

/-- A random draw of a block of domain `n` takes the generator's next value. Draws of one CK have consecutive values in ascending
domain number: one that comes after a draw of a higher domain counts as requested in the next CK (01 R31; log entry 3). -/
def Dev.draw (d : Dev) (n : Nat) : Nat × Dev :=
  let d := if d.rng.drawn.any (fun e => e.1 == d.ck && n < e.2) then d.tick 1 else d
  let g := { d.rng with steps := d.rng.steps + 1, drawn := some (d.ck, n) }
  (g.value, { d with rng := g })

/-- Time moves on to the CK `due`, unless it is there already. -/
def Dev.advanceTo (d : Dev) (due : Nat) : Dev := d.tick (due - d.ck)

/-- Time moves on by whole microseconds since a recorded CK. -/
def Dev.afterUs (d : Dev) (since us : Nat) : Dev := d.advanceTo (since + us * ckPerUs)

/-- Time moves on by whole milliseconds since a recorded CK. -/
def Dev.afterMs (d : Dev) (since ms : Nat) : Dev := d.advanceTo (since + ms * ckPerMs)

/-- The clock or its rate is about to change: what both were, `rate` units for each CK (17 R599). -/
def Dev.noteClock (d : Dev) (rate : Nat) : Dev :=
  { d with tm := { d.tm with was := (d.ck, d.tm.clock, rate) :: d.tm.was } }

/-- The clock as it stood `ckAgo` CK ago: back from the first change after that CK, or from now where there was none (17 R597,
R599). -/
def Dev.clockAgo (d : Dev) (ckAgo : Nat) : Nat :=
  let t := d.ck - ckAgo
  match d.tm.was.reverse.find? (fun e => t < e.1) with
  | some e => e.2.1 - (e.1 - t) * e.2.2
  | none => d.tm.clock - ckAgo * d.clkRate

/-- The clock `ckAgo` CK ago, less `lat` ns: seconds and nanoseconds (17 R597, R598). -/
def Dev.stampAt (d : Dev) (ckAgo : Nat) (lat : Int) : Nat × Nat :=
  let ns := (d.clockAgo ckAgo / clkUnit : Int) - lat
  let ns := ns.toNat
  (ns / 1000000000 % 2 ^ 48, ns % 1000000000)

/-- The ingress timestamp of port `p`, `ckAgo` CK after its timestamp point (17 R597-R599). -/
def Dev.rxStamp (d : Dev) (p ckAgo : Nat) : Option (Nat × Nat) :=
  if d.on dTIME then some (d.stampAt ckAgo (d.rdS (0x701001 + 256 * p) 16)) else none

/-- The egress timestamp of port `p`, `ckAgo` CK after its timestamp point (17 R597-R599). -/
def Dev.txStamp (d : Dev) (p ckAgo : Nat) : Option (Nat × Nat) :=
  if d.on dTIME then some (d.stampAt ckAgo (- d.rdS (0x701002 + 256 * p) 16)) else none

/-! ### Tally boundary (17 R613-R616, R619) -/

/-- The smallest whole multiple of TALLY_PERIOD_S above the clock's seconds count (17 R613, R616). -/
def Dev.nextTally (d : Dev) : Nat := let p := d.rd 0x740002; if p = 0 then 0 else (d.clkSec / p + 1) * p

/-- The seconds count has reached TALLY_NEXT_S in the periodic mode (17 R613). -/
def Dev.tallyDue (d : Dev) : Bool := d.rd 0x740001 = 1 && d.rd 0x740005 ≤ d.clkSec

/-- The snapshot header (17 Table 17.4). -/
def Dev.tallyHeader (d : Dev) (periodic host : Bool) : Nat :=
  let dur := min ((d.ck - d.tm.periodStart) / ckPerMs) 0xFFFFFF
  let fl := b2n d.tm.part + 2 * b2n periodic + 4 * b2n host + 8 * b2n d.tm.stepped + 16 * b2n (!d.flag 0x700005 0)
  d.rd 0x740004 + 2 ^ 32 * (d.clkSec % 2 ^ 32) + 2 ^ 64 * d.clkNs + 2 ^ 96 * dur + 2 ^ 120 * fl

/-- A tally boundary (17 R613-R615). -/
def Dev.boundary (d : Dev) (periodic host : Bool) : Dev :=
  let h := d.tallyHeader periodic host
  let d := forEach (List.range 6) d (fun i d =>
    (d.wr (0x742001 + i) (h + 2 ^ 128 * d.rd (0x741001 + i))).wr (0x741001 + i) 0)
  let n := d.rd 0x740004
  let d := (d.wr 0x740004 (if n = 0xFFFFFFFF then 1 else n + 1)).wr 0x740006 0
  let d := { d with tm := { d.tm with periodStart := d.ck, part := false, stepped := false } }
  (d.wr 0x740005 d.nextTally).fire 88

/-- A periodic boundary of this CK, before a write applied in it changes what makes one (17 R613). -/
def Dev.boundaryDue (d : Dev) : Dev := if d.tallyDue then d.boundary true false else d

/-- A CK that may end in a boundary: an event counted in the boundary's CK counts in the new period (17 R614). -/
def Dev.boundaryCk (d : Dev) (f : Dev → Dev) : Dev := (f (d.pass 1)).tickPorts 1

/-- TALLY_TRIGGER: a boundary in the next CK, one with a periodic boundary of that CK (17 R613). -/
def Dev.tallyTrigger (d : Dev) : Dev := d.boundaryDue.boundaryCk (fun d => d.boundary d.tallyDue true)

/-- TALLY_MODE or TALLY_PERIOD_S is written: a boundary that the old values make in this CK occurs, and from the next CK
TALLY_NEXT_S follows the new ones (17 R613, R616). -/
def Dev.tallyWrite (d : Dev) (k v : Nat) : Dev :=
  let d := d.boundaryDue.wr k v
  (d.wr 0x740005 d.nextTally).boundaryCk (fun d => if d.tallyDue then d.boundary true false else d.wr 0x740005 d.nextTally)

/-! ### Channels (17 R604-R610) -/

/-- A channel with nothing armed. -/
def Chan.idle : Chan := ⟨false, none, false⟩

/-- Channel `k` beyond its objects. -/
def Dev.chan (d : Dev) (k : Nat) : Chan := d.tm.chans.getD k Chan.idle

/-- The device with channel `k` changed. -/
def Dev.setChan (d : Dev) (k : Nat) (f : Chan → Chan) : Dev :=
  { d with tm := { d.tm with chans := updAt d.tm.chans k f } }

/-- Object `s` of channel `k` (17 Table 17.5). -/
def chKey (k s : Nat) : Nat := 0x702000 + 256 * k + s

/-- The speed governor holds channel 3 (17 R610, 20 Table 20.1). -/
def Dev.govHolds (d : Dev) : Bool := ((d.claimOf 2 3).map (·.holder)) == some 5

/-- The sluice holds EVT1 (17 R610, 20 R671). -/
def Dev.sluEvt1 (d : Dev) : Bool := ((d.claimOf 3 1).map (·.holder)) == some 6

/-- CH_TARGET as seconds and nanoseconds in one number of nanoseconds. -/
def Dev.chTarget (d : Dev) (k : Nat) : Nat :=
  let v := d.rd (chKey k 3)
  v / 2 ^ 32 * 1000000000 + v % 2 ^ 32

/-- The clock with the low 32 bits of its seconds, in nanoseconds (17 R604). -/
def Dev.clkLow (d : Dev) : Nat := d.clkSec % 2 ^ 32 * 1000000000 + d.clkNs

/-- The pin pulse or toggle of a firing (17 R604); channel 1 without its pin has none (20 R672). -/
def Dev.chPin (d : Dev) (k : Nat) : Dev :=
  if !d.flag (chKey k 2) 3 || (k == 1 && d.sluEvt1) then d
  else if d.rd (chKey k 5) = 0 then d.setChan k (fun c => { c with active := !c.active })
  else d.setChan k (fun c => { c with active := true, pulse := some d.ck })

/-- The target of a periodic channel moved on until it lies beyond the clock (17 R605). -/
def Dev.chAdvance (d : Dev) (k : Nat) : Dev :=
  let t := d.chTarget k
  let per := d.rd (chKey k 4)
  let now := d.clkLow
  if per = 0 || now < t then d
  else
    let t := (t + ((now - t) / per + 1) * per) % (2 ^ 32 * 1000000000)
    d.wr (chKey k 3) (t % 1000000000 + 2 ^ 32 * (t / 1000000000))

/-- Channel `k` fires (17 R604, R605). -/
def Dev.chFire (d : Dev) (k : Nat) (late : Bool) : Dev :=
  let st := setBit (d.rd (chKey k 7)) 0 true
  let d := d.wr (chKey k 7) (if late then setBit st 2 true else st)
  let d := ((d.inc (chKey k 9)).fire (84 + k)).latch (11 + k)
  let d := d.chPin k
  if d.rd (chKey k 1) = 1 then d.setChan k (fun c => { c with armed := false }) else d.chAdvance k

/-- A compare channel that may fire (17 R604). -/
def Dev.chArmed (d : Dev) (k : Nat) : Bool :=
  d.on dTIME && !(k == 3 && d.govHolds) && ((d.rd (chKey k 1) == 1 && (d.chan k).armed) || d.rd (chKey k 1) == 2)

/-- After a step, or a write that leaves a target already passed: the firing falls in a later CK than the first at or beyond the
target, and is LATE. The clock lies within `slack` units of a target that it reaches in this CK itself: by counting, those of
one CK; by a step, none (17 R604, R605; log entry 86). -/
def Dev.chLateCheck (d : Dev) (k slack : Nat) : Dev :=
  if d.chArmed k && d.chTarget k ≤ d.clkLow then
    d.chFire k (slack ≤ (d.clkLow - d.chTarget k) * clkUnit + d.tm.clock % clkUnit && d.chTarget k != d.clkLow)
  else d

/-- The clock reaches CH_TARGET of channel `k` (17 R604). -/
def Dev.chCompare (d : Dev) (k : Nat) : Dev :=
  if d.chArmed k then
    let gap := (d.chTarget k - d.clkLow) * clkUnit - (d.tm.clock % clkUnit)
    let d := if d.chTarget k ≤ d.clkLow then d else d.tick ((gap + d.clkRate - 1) / d.clkRate)
    d.chFire k false
  else d

/-- The pulse of channel `k` ends after CH_WIDTH ns (17 R604, R606). -/
def Dev.chPulseEnd (d : Dev) (k : Nat) : Dev :=
  match (d.chan k).pulse with
  | some t => (d.advanceTo (t + (d.rd (chKey k 5) + 9) / 10)).setChan k (fun c => { c with pulse := none, active := false })
  | none => d

/-- The nanoseconds count passes through zero by counting: PPS on channel 3 (17 R606). -/
def Dev.pps (d : Dev) : Dev :=
  if d.on dTIME && d.rd (chKey 3 1) = 4 && !d.govHolds then
    let toSec := 1000000000 * clkUnit - d.tm.clock % (1000000000 * clkUnit)
    let d := d.tick ((toSec + d.clkRate - 1) / d.clkRate)
    let d := (((d.inc (chKey 3 9)).fire 87).latch 14)
    if d.flag (chKey 3 2) 3 then d.setChan 3 (fun c => { c with active := true, pulse := some d.ck }) else d
  else d

/-- An edge at a channel in mode 03h (17 R607; channel 1 without its pin takes PPS_IN only, 20 R672). -/
def Dev.chCapture (d : Dev) (k : Nat) (ppsIn rising : Bool) : Dev :=
  let ctl := d.rd (chKey k 2)
  if d.on dTIME && d.rd (chKey k 1) = 3 && ctl.testBit 2 == ppsIn && ctl.testBit (if rising then 0 else 1)
      && !(k == 3 && d.govHolds) && !(k == 1 && d.sluEvt1 && !ppsIn) then
    let s := d.stampAt 0 20
    let st := d.rd (chKey k 7)
    let d := d.wr (chKey k 6) (s.2 + 2 ^ 32 * (s.1 % 2 ^ 32))
    let d := d.wr (chKey k 7) (setBit (if st.testBit 0 then setBit st 1 true else st) 0 true)
    ((d.inc (chKey k 9)).fire (84 + k)).latch (11 + k)
  else d

/-- TIME leaves ON: every channel pin at its inactive level, pulses ended, and the clock stands (17 R592, R620). -/
def Dev.chPinsOff (d : Dev) : Dev :=
  let d := d.noteClock d.clkRate
  { d with tm := { d.tm with chans := d.tm.chans.map (fun c => { c with pulse := none, active := false }) } }

/-! ### Dictionary hooks -/

/-- A step of the clock (17 R595, R605, R606, R619). -/
def Dev.clockStep (d : Dev) (c : Nat) : Dev :=
  let d := d.noteClock d.clkRate
  let d := { d with tm := { d.tm with clock := c, stepped := true } }
  let d := ((d.wr 0x700005 1).inc 0x700006).fire 91
  let d := if d.tallyDue then d.boundary true false else d.wr 0x740005 d.nextTally
  forEach (List.range 4) d (fun k d => d.chLateCheck k 0)

/-- The clock after TIME_ADJUST of a signed number of nanoseconds (17 R595). -/
def Dev.adjusted (d : Dev) (ns : Int) : Int := (d.tm.clock : Int) + ns * clkUnit

/-- The objects of channel 3, CH_ACK apart, are held while the governor holds the channel (17 R610). -/
def Dev.timeHeld (d : Dev) (k : Nat) : Bool := k / 256 = 0x7023 && k % 256 != 8 && k % 256 != 0 && d.govHolds

/-- The value of a time object is in its range (order 9; 17 R595, R609, R621). -/
def Dev.timeValue (d : Dev) (k v : Nat) : Bool :=
  let ch := k / 256 - 0x7020
  if k = 0x700002 then v % 2 ^ 32 ≤ 999999999
  else if k = 0x700003 then 0 ≤ d.adjusted (toSigned 64 v) && d.adjusted (toSigned 64 v) < clkLimit
  else if k = 0x700004 then -41943 ≤ toSigned 32 v && toSigned 32 v ≤ 41943
  else if k = 0x700006 then v = 0
  else if 0x7010 ≤ k / 256 && k / 256 < 0x7014 then
    (match k % 256 with
     | 1 | 2 => -1000 ≤ toSigned 16 v && toSigned 16 v ≤ 1000
     | 4 => v == 0
     | _ => true)
  else if 0x7020 ≤ k / 256 && k / 256 < 0x7024 then
    (match k % 256 with
     | 1 => v ≤ 4 && (v != 4 || (ch == 3 && 10 ≤ d.rd (chKey 3 5) && d.rd (chKey 3 5) ≤ 999999990))
            && (v != 2 || d.rd (chKey ch 5) < d.rd (chKey ch 4) || d.rd (chKey ch 5) == 0)
     | 2 => v < 32
     | 3 => v % 2 ^ 32 ≤ 999999999
     | 4 => v % 10 == 0 && 100 ≤ v && v ≤ 4000000000 && (d.rd (chKey ch 1) != 2 || d.rd (chKey ch 5) < v)
     | 5 => (d.rd (chKey ch 1) != 2 || v == 0 || v < d.rd (chKey ch 4))
            && (d.rd (chKey ch 1) != 4 || (10 ≤ v && v ≤ 999999990))
     | 8 => v < 8
     | 9 => v == 0
     | _ => true)
  else if k = 0x740001 then v ≤ 1
  else if k = 0x740003 then v = 1
  else true

/-- A write of CH_MODE or CH_CTRL taking effect (17 R609). DEDUCED: a mode begins armed; CH_CTRL leaves a channel that has
fired once as it is, since a write of CH_TARGET arms it again (R605). -/
def Dev.chConfig (d : Dev) (k : Nat) : Dev :=
  let ch := k / 256 - 0x7020
  let d := d.setChan ch (fun c => ⟨k % 256 == 1 || c.armed, none, false⟩)
  let st := d.rd (chKey ch 7)
  (d.wr (chKey ch 7) (st / 8 * 8)).chLateCheck ch d.clkRate

/-- The effect of a write of a time object (17 R595, R605, R608, R609, R613, R616). -/
def Dev.timeEffect (d : Dev) (k v : Nat) : Dev :=
  let ch := k / 256 - 0x7020
  if k = 0x700002 then d.clockStep ((v / 2 ^ 32 * 1000000000 + v % 2 ^ 32) * clkUnit)
  else if k = 0x700003 then d.clockStep (d.adjusted (toSigned 64 v)).toNat
  else if 0x7020 ≤ k / 256 && k / 256 < 0x7024 then
    (match k % 256 with
     | 1 | 2 => (d.wr k v).chConfig k
     | 3 => ((d.wr k v).setChan ch (fun c => { c with armed := true })).chLateCheck ch d.clkRate
     | 8 => d.wr (chKey ch 7) (d.rd (chKey ch 7) - ((d.rd (chKey ch 7)) &&& (v % 8)))
     | _ => d.wr k v)
  else if k = 0x700004 then (d.noteClock d.clkRate).wr k v
  else if k = 0x740003 then d.tallyTrigger
  else if k = 0x740001 || k = 0x740002 then d.tallyWrite k v
  else d.wr k v

/-- CH_STATUS with its bits 3 (PREEMPTED) and 4 (held by the governor) (17 R610). -/
def Dev.chStatus (d : Dev) (k : Nat) : Nat :=
  d.rd (chKey k 7) % 8 + 8 * b2n (k == 1 && d.sluEvt1) + 16 * b2n (k == 3 && d.govHolds)

/-- TIME reports ON after OFF (17 R596, R615, R620). -/
def Dev.timeOn (d : Dev) : Dev :=
  let d := { d with tm := ⟨0, d.ck, true, false, List.replicate 4 ⟨true, none, false⟩, [(d.ck, 0, 0)]⟩ }
  ((d.wr 0x740005 d.nextTally).wr 0x700005 0).fire 91

/-- TIME reports ON after RETENTION: the clock goes on, and VALID is gone (17 R592, R596). -/
def Dev.timeBack (d : Dev) : Dev := ((d.noteClock 0).wr 0x700005 0).fire 91

end Sys2Proof.Machine
end

