-- ==== Sys2Proof/Machine/Pmem.lean ====
section
/-!
DEFINITION. Packet memory (09): octets, words and ECC, barge records, pounds, transfers and lock cycles.
-/
namespace Sys2Proof.Machine

/-! ### Octets -/

/-- What an octet reads as; an unlisted octet reads 00h (09 R309: INIT zeroes every barge). -/
def memGet : List Host.Cell → Nat → Octet
  | [], _ => 0
  | (k, v) :: t, a => if k = a then v else memGet t a

/-- Memory with an octet listed in its place. -/
def memSet : List Host.Cell → Nat → Octet → List Host.Cell
  | [], a, v => [(a, v)]
  | (k, w) :: t, a, v =>
    if k = a then (a, v) :: t else if a < k then (a, v) :: (k, w) :: t else (k, w) :: memSet t a v

/-- Memory with an octet written, in canonical form: addresses rising, no 00h entry. -/
def memPut (m : List Host.Cell) (a : Nat) (v : Octet) : List Host.Cell :=
  if v = 0 then m.filter (fun c => c.1 != a) else memSet m a v

/-- Memory with octets written from an address on. -/
def memWrite : List Host.Cell → Nat → Oct → List Host.Cell
  | m, _, [] => m
  | m, a, v :: t => memWrite (memPut m a v) (a + 1) t

/-- The `n` octets from an address on. -/
def memRead (m : List Host.Cell) (a : Nat) : Nat → Oct
  | 0 => []
  | n + 1 => memGet m a :: memRead m (a + 1) n

/-- Memory with the `n` octets from an address on zeroed. -/
def memZero (m : List Host.Cell) (a n : Nat) : List Host.Cell := m.filter (fun c => c.1 < a || a + n ≤ c.1)

/-- The canonical form of memory. -/
def memWf : List Host.Cell → Bool
  | [] => true
  | [(_, v)] => v != 0
  | (k, v) :: (k', v') :: t => v != 0 && k < k' && memWf ((k', v') :: t)

/-! ### Places (00 R9, 09 R290) -/

/-- The number of barges. -/
abbrev nBarges : Nat := 8192

/-- The bank of a barge (09 R290). -/
def bankOf (b : Nat) : Nat := b / 2048

/-- The bank of an address. -/
def bankOfAddr (a : Nat) : Nat := a / 0x80000

/-- The word addresses that `n` octets from `a` on touch (09 R290). -/
def wordsOf (a n : Nat) : List Nat :=
  if n = 0 then [] else (List.range ((a + n - 1) / 8 + 1 - a / 8)).map (fun i => (a / 8 + i) * 8)

/-- The barges that `n` octets from `a` on touch. -/
def bargesOf (a n : Nat) : List Nat :=
  if n = 0 then [] else (List.range ((a + n - 1) / 256 + 1 - a / 256)).map (fun i => a / 256 + i)

/-- A bank can be reached: it and PM0 are ON (01 Table 1.2). -/
def Dev.bankOn (d : Dev) (b : Nat) : Bool := d.on (bankDom b) && d.on dPM0

/-! ### Barge records -/

/-- The record of a barge after INIT outside every enabled pound (09 R309). -/
def Barge.init : Barge := ⟨.host, 0, false, false, none⟩

/-- The owner code of 09 Table 9.1. -/
def Owner.code : Owner → Nat
  | .free => 0x00 | .host => 0x01 | .txdma => 0x02 | .rxdma => 0x03 | .cls => 0x04 | .brg => 0x05
  | .tow n => 0x10 + n | .zeroing => 0xFE

/-- A barge's record. -/
def Dev.barge (d : Dev) (b : Nat) : Barge := ((d.pm.barges.find? (fun e => e.1 == b)).map (·.2)).getD Barge.init

/-- Records with one entry replaced, in rising order, default entries left out. -/
def putBarge : List (Nat × Barge) → Nat → Barge → List (Nat × Barge)
  | [], b, r => if r = Barge.init then [] else [(b, r)]
  | (k, v) :: t, b, r =>
    if k = b then (if r = Barge.init then t else (b, r) :: t)
    else if b < k then (if r = Barge.init then (k, v) :: t else (b, r) :: (k, v) :: t)
    else (k, v) :: putBarge t b r

/-- The device with packet memory changed. -/
def Dev.setPm (d : Dev) (f : Pmem → Pmem) : Dev := { d with pm := f d.pm }

/-- Free lists without a barge. -/
def unlisted (l : List (Nat × Nat × List Nat)) (b : Nat) : List (Nat × Nat × List Nat) :=
  (l.map (fun e => (e.1, e.2.1, e.2.2.filter (· != b)))).filter (fun e => !e.2.2.isEmpty)

/-- The device with a barge's record changed; no free list holds a barge that is not FREE (09 R324). -/
def Dev.setBarge (d : Dev) (b : Nat) (f : Barge → Barge) : Dev :=
  let r := f (d.barge b)
  { d with pm := { d.pm with
      barges := putBarge d.pm.barges b r
      frees := if r.owner = .free then d.pm.frees else unlisted d.pm.frees b } }

/-- Pound `p`'s objects: POUND_BASE, POUND_COUNT, POUND_STATE (09 R294). -/
def Dev.poundBase (d : Dev) (p : Nat) : Nat := d.rd (0x252001 + 256 * p)
def Dev.poundCount (d : Dev) (p : Nat) : Nat := d.rd (0x252002 + 256 * p)
def Dev.poundState (d : Dev) (p : Nat) : Nat := d.rd (0x252007 + 256 * p)

/-- A barge lies in a pound's range. -/
def Dev.inPound (d : Dev) (p b : Nat) : Bool := d.poundBase p ≤ b && b < d.poundBase p + d.poundCount p

/-- The enabled pound a barge belongs to (09 R293, R294). -/
def Dev.poundOf (d : Dev) (b : Nat) : Option Nat :=
  (List.range 16).find? (fun p => d.poundState p == 2 && d.inPound p b)

/-- The pound a free barge belongs to: one that is enabled or being enabled (09 R296). -/
def Dev.poundTo (d : Dev) (b : Nat) : Option Nat :=
  (List.range 16).find? (fun p => d.poundState p != 0 && d.inPound p b)

/-- A barge belongs to an enabled pound. -/
def Dev.pooled (d : Dev) (b : Nat) : Bool := (d.poundOf b).isSome

/-- The ranges of the enabled pounds: first barge and number. -/
def Dev.pools (d : Dev) : List (Nat × Nat) :=
  ((List.range 16).filter (fun p => d.poundState p == 2)).map (fun p => (d.poundBase p, d.poundCount p))

/-- The barges of a bank that lie in enabled pounds, in rising order. -/
def Dev.pooledIn (d : Dev) (bk : Nat) : List Nat :=
  let ps := d.pools
  if ps.isEmpty then []
  else ((List.range 2048).map (· + 2048 * bk)).filter (fun b => ps.any (fun e => e.1 ≤ b && b < e.1 + e.2))

/-! ### ECC (09 R310, R311, R314) -/

/-- A corrected single-bit error in bank `bk` (09 R310). -/
def Dev.eccCorrect (d : Dev) (bk : Nat) : Dev :=
  let d := d.inc (0x254001 + 256 * bk)
  if d.rd (0x254001 + 256 * bk) % d.rd 0x250004 = 0 then d.fire 16 else d

/-- A read that finds an uncorrectable error in the word at `w` (09 R311). -/
def Dev.eccFail (d : Dev) (w : Nat) : Dev :=
  let bk := bankOfAddr w
  (((d.setBarge (w / 256) (fun r => { r with poison := true })).wr (0x254003 + 256 * bk) w).inc
    (0x254002 + 256 * bk)).fire 17

/-- Errors that come about in memory while a command runs; a read of their words finds them. -/
def Dev.strike (d : Dev) (ss : List Strike) : Dev := { d with pm := { d.pm with upsets := d.pm.upsets ++ ss } }

/-- The word an error lies in. -/
def strikeWord (s : Strike) : Nat := s.addr / 8 * 8

/-- The words of an access are read: errors that have come about before or come with the command (`ss`) and lie in one of
them are found, the single-bit ones corrected, the uncorrectable ones poisoned and answered; the others stay unfound. -/
def Dev.eccScan (d : Dev) (ws : List Nat) (ss : List Strike) : List Nat × Dev :=
  let all := d.pm.upsets ++ ss
  let hit := all.filter (fun s => ws.contains (strikeWord s))
  let new := ((hit.filter (·.double)).map strikeWord).filter (fun w => !d.pm.bad.contains w)
  let bad := d.pm.bad ++ new.eraseDups
  let d := { d with pm := { d.pm with bad := bad, upsets := all.filter (fun s => !ws.contains (strikeWord s)) } }
  let failed := ws.filter (fun w => bad.contains w)
  let singles := hit.filter (fun s => !s.double && !failed.contains (strikeWord s))
  (failed, forEach failed (forEach singles d (fun s d => d.eccCorrect (bankOfAddr s.addr))) (fun w d => d.eccFail w))

/-- Octets of failed words read as 00h (09 R311). -/
def maskFailed (failed : List Nat) : Nat → Oct → Oct
  | _, [] => []
  | a, v :: t => (if failed.contains (a / 8 * 8) then 0 else v) :: maskFailed failed (a + 1) t

/-- The octet at an address that pass `k` of a BANK_TEST has written (09 R319). -/
def testOct (k a : Nat) : Octet :=
  match k with
  | 1 => 0x55
  | 2 => 0xAA
  | _ => oct (if a % 2 = 0 then a % 0x80000 / 8 else a % 0x80000 / 2048)

/-- The `n` octets from an address on; a bank that a BANK_TEST has filled holds the pattern of its last pass (09 R319). -/
def Dev.memAt (d : Dev) (a n : Nat) : Oct :=
  match d.pm.filled.find? (fun e => e.1 == bankOfAddr a) with
  | some e => (List.range n).map (fun i => testOct e.2 (a + i))
  | none => memRead d.pm.mem a n

/-- A read of `n` octets at `a` with the errors its words show: the data, the failed words, the device after it. -/
def Dev.readMem (d : Dev) (a n : Nat) (ss : List Strike) : Oct × List Nat × Dev :=
  let r := d.eccScan (wordsOf a n) ss
  (maskFailed r.1 a (d.memAt a n), r.1, r.2)

/-- Places, each an address and a number of octets, read one after the other: the data, the failed words, the device. -/
def Dev.readPlaces (d : Dev) : List (Nat × Nat) → Oct × List Nat × Dev
  | [] => ([], [], d)
  | e :: t =>
    let a := d.readMem e.1 e.2 []
    let b := a.2.2.readPlaces t
    (a.1 ++ b.1, a.2.1 ++ b.2.1, b.2.2)

/-- The places of the `n` octets from offset `a` on of a buffer that lies in places. -/
def slicePlaces : List (Nat × Nat) → Nat → Nat → List (Nat × Nat)
  | [], _, _ => []
  | (ad, len) :: t, a, n =>
    if n = 0 then [] else if len ≤ a then slicePlaces t (a - len) n
    else (ad + a, min (len - a) n) :: slicePlaces t 0 (n - (len - a))

/-- The words that `n` octets at `a` cover in part: a write reads and merges them (01 R30). -/
def partWords (a n : Nat) : List Nat := (wordsOf a n).filter (fun w => w < a || a + n < w + 8)

/-- The reads of the partial words of a write of `n` octets at `a`: a word found uncorrectable keeps nothing of what it held
(09 R310, R311, R314), and the words written hold no error afterwards. -/
def Dev.mergeScan (d : Dev) (a n : Nat) (ss : List Strike) : Dev :=
  let r := d.eccScan (partWords a n) ss
  let ws := wordsOf a n
  { r.2 with pm := { r.2.pm with
      mem := forEach r.1 r.2.pm.mem (fun w m => memZero m w 8)
      bad := r.2.pm.bad.filter (fun w => !ws.contains w)
      upsets := r.2.pm.upsets.filter (fun s => !ws.contains (strikeWord s)) } }

/-- A write of octets at `a` (01 R30, 09 R314). -/
def Dev.writeMem (d : Dev) (a : Nat) (v : Oct) : Dev :=
  let d := d.mergeScan a v.length []
  { d with pm := { d.pm with mem := memWrite d.pm.mem a v } }

/-- Octets zeroed from `a` on (09 R306, R314). -/
def Dev.zeroMem (d : Dev) (a n : Nat) (ss : List Strike) : Dev :=
  let d := d.mergeScan a n ss
  { d with pm := { d.pm with mem := memZero d.pm.mem a n } }

/-- All 32 words of a barge written with zero (09 R301). -/
def Dev.zeroBarge (d : Dev) (b : Nat) : Dev :=
  { d with pm := { d.pm with
      mem := memZero d.pm.mem (256 * b) 256
      bad := d.pm.bad.filter (fun w => w / 256 != b)
      upsets := d.pm.upsets.filter (fun s => strikeWord s / 256 != b) } }

/-! ### Free lists and allocation (09 R298-R302) -/

/-- The free list of a pound in a bank, oldest first. -/
def Dev.freeList (d : Dev) (p bk : Nat) : List Nat :=
  ((d.pm.frees.find? (fun e => e.1 == p && e.2.1 == bk)).map (·.2.2)).getD []

/-- The device with the free list of a pound in a bank replaced. -/
def Dev.setFree (d : Dev) (p bk : Nat) (l : List Nat) : Dev :=
  let rest := d.pm.frees.filter (fun e => !(e.1 == p && e.2.1 == bk))
  { d with pm := { d.pm with frees := if l.isEmpty then rest else rest ++ [(p, bk, l)] } }

/-- A bank allocation may draw from (09 R298, R323). -/
def Dev.allocBank (d : Dev) (bk : Nat) : Bool := d.bankOn bk && !d.pm.testing.contains bk

/-- POUND_FREE: the allocatable FREE barges of a pound (09 Table 9.6). -/
def Dev.poundFree (d : Dev) (p : Nat) : Nat :=
  ((List.range 4).map (fun bk => if d.allocBank bk then (d.freeList p bk).length else 0)).foldl (· + ·) 0

/-- The low-water watch of a pound (09 R302). -/
def Dev.watchPound (d : Dev) (p : Nat) : Dev :=
  let low := d.poundState p == 2 && d.poundFree p < d.rd (0x252004 + 256 * p)
  if low && !d.pm.lowPounds.contains p then
    ({ d with pm := { d.pm with lowPounds := p :: d.pm.lowPounds } } : Dev).fire 18
  else if !low && d.pm.lowPounds.contains p then
    { d with pm := { d.pm with lowPounds := d.pm.lowPounds.filter (· != p) } }
  else d

/-- The low-water watch of every pound. -/
def Dev.watchPounds (d : Dev) : Dev := forEach (List.range 16) d (fun p d => d.watchPound p)

/-- One barge of a pound allocated to an owner, from the next bank in turn (09 R298). -/
def Dev.allocOne (d : Dev) (p : Nat) (o : Owner) : Option (Nat × Dev) :=
  let r := d.pm.rotor.getD p 0
  let bks := (List.range 4).map (fun i => (r + i) % 4)
  match bks.find? (fun bk => d.allocBank bk && !(d.freeList p bk).isEmpty) with
  | none => none
  | some bk =>
    match d.freeList p bk with
    | [] => none
    | b :: t =>
      let d := (d.setFree p bk t).setBarge b (fun x => { x with owner := o, valid := 0 })
      some (b, { d with pm := { d.pm with rotor := updAt d.pm.rotor p (fun _ => (bk + 1) % 4) } })

/-- `n` barges allocated one after the other. -/
def Dev.allocMany (d : Dev) (p : Nat) (o : Owner) : Nat → List Nat × Dev
  | 0 => ([], d)
  | n + 1 =>
    match d.allocOne p o with
    | none => ([], d)
    | some (b, d') => let r := d'.allocMany p o n; (b :: r.1, r.2)

/-- Allocation by an engine or an initiator: all `n` barges or a counted failure (09 R299, R302). With PM0 not ON there is
no allocation and nothing to count it (01 R17, Table 1.2). -/
def Dev.alloc (d : Dev) (p : Nat) (o : Owner) (n : Nat) : Option (List Nat) × Dev :=
  if n = 0 then (some [], d)
  else if !d.on dPM0 then (none, d)
  else if d.poundState p = 2 && n ≤ d.poundFree p then
    let r := d.allocMany p o n
    (some r.1, r.2.watchPound p)
  else (none, ((d.inc (0x252006 + 256 * p)).fire 19))

/-- Barges put at the tail of their pound's free list in a bank; no list holds a barge twice (09 R298, R324). -/
def Dev.addFree (d : Dev) (p bk : Nat) (bs : List Nat) : Dev :=
  let l := d.freeList p bk
  d.setFree p bk (l ++ bs.filter (fun b => !l.contains b))

/-- A zeroed barge joins the tail of its bank's free list, or is an unpooled HOST barge (09 R293, R301). -/
def Dev.joinFree (d : Dev) (b : Nat) : Dev :=
  match d.poundTo b with
  | some p =>
    ((d.setBarge b (fun r => { r with owner := .free, valid := 0 })).addFree p (bankOf b) [b]).watchPound p
  | none => d.setBarge b (fun r => { r with owner := .host, valid := 0 })

/-! ### Transfers and lock cycles (09 R303-R308) -/

/-- The transfers of 09 Table 9.3. -/
def transferOk : Owner → Owner → Bool
  | .free, .host | .free, .rxdma | .free, .brg | .free, .tow _ => true
  | .host, .txdma | .host, .tow _ | .host, .zeroing => true
  | .txdma, .host | .txdma, .zeroing => true
  | .rxdma, .host | .rxdma, .cls | .rxdma, .txdma | .rxdma, .brg | .rxdma, .tow _ | .rxdma, .zeroing => true
  | .cls, .host | .cls, .txdma | .cls, .brg | .cls, .tow _ | .cls, .zeroing => true
  | .brg, .txdma | .brg, .tow _ | .brg, .host | .brg, .zeroing => true
  | .tow _, .host | .tow _, .txdma | .tow _, .zeroing => true
  | _, _ => false

/-- The lock requests that wait or run for a barge. -/
def Dev.locksOf (d : Dev) (b : Nat) : List LockReq :=
  ((d.pm.cycle.getD (bankOf b) none).toList ++ d.pm.lockq.getD (bankOf b) []).filter (fun q => q.barge == b)

/-- A lock cycle is requested or runs on a barge. -/
def Dev.lockBusy (d : Dev) (b : Nat) : Bool := !(d.locksOf b).isEmpty

/-- A lock cycle runs on a barge: CLOSE has passed and OPEN has not (09 R305). -/
def Dev.lockClosed (d : Dev) (b : Nat) : Bool := ((d.pm.cycle.getD (bankOf b) none).map (·.barge)) == some b

/-- The owner a barge has once the cycles requested so far have passed. -/
def Dev.ownerAfter (d : Dev) (b : Nat) : Owner := ((d.locksOf b).getLast?.map (·.dest)).getD (d.barge b).owner

/-- A refused transfer or host access (09 R303, R304; 19 Table 19.4 kind 0Ah); `own` is the owner it was judged against. -/
def Dev.ownerRefusedAs (d : Dev) (own : Owner) (b req : Nat) (ini : Nat := 0xFF) : Dev :=
  ((d.fault 0x0A dPM0 0x0203 b (own.code + 256 * req) ini).inc 0x250003).fire 21

/-- A host access refused for the owner the barge has. -/
def Dev.ownerRefused (d : Dev) (b req : Nat) (ini : Nat := 0xFF) : Dev := d.ownerRefusedAs (d.barge b).owner b req ini

/-- The owner code of the path that requests a transfer: the owner it takes the barge from, or, where it takes the barge from
the host, the owner it takes it for (09 R308). -/
def lockPath (own dst : Owner) : Nat := if own = .host && dst != .zeroing then dst.code else own.code

/-- A request put into its bank's queue: behind those of earlier CKs and those for its own barge; among those of its CK in the
order of R308. -/
def queueLock (q : LockReq) : List LockReq → List LockReq
  | [] => [q]
  | x :: t =>
    if !((x :: t).any (fun y => y.barge == q.barge)) && x.at_ == q.at_
        && (q.path < x.path || (q.path == x.path && q.barge < x.barge)) then q :: x :: t
    else x :: queueLock q t

/-- A lock cycle requested (09 R305, R308). -/
def Dev.pushLock (d : Dev) (b : Nat) (own dst : Owner) (len : Nat) : Dev :=
  { d with pm := { d.pm with lockq := updAt d.pm.lockq (bankOf b) (queueLock ⟨b, dst, len, lockPath own dst, d.ck⟩) } }

/-- The new owner of a requested transfer: HOST in place of ZEROING for an unpooled barge (09 R293, R303). -/
def Dev.lockDest (d : Dev) (b : Nat) (dst : Owner) : Owner := if dst = .zeroing && !d.pooled b then .host else dst

/-- A transfer request with valid length `len` (09 R303, R305-R307). -/
def Dev.requestLock (d : Dev) (b : Nat) (dst : Owner) (len : Nat) : Dev :=
  let o := d.ownerAfter b
  if transferOk o (d.lockDest b dst) then d.pushLock b o (d.lockDest b dst) len
  else d.ownerRefusedAs o b (d.lockDest b dst).code

/-- A path frees a barge with valid length `len`, which an unpooled barge goes back to HOST with (09 R293, R301, R307). -/
def Dev.freeWith (d : Dev) (b len : Nat) : Dev := d.requestLock b .zeroing len

/-- A path that states no length frees a barge: L = 256 (09 R307). -/
def Dev.freeBarge (d : Dev) (b : Nat) : Dev := d.freeWith b 256

/-- FREE_REQ of a HOST barge: an unpooled one goes through a lock cycle and stays HOST (09 R293, R300). -/
def Dev.freeReq (d : Dev) (b : Nat) : Dev := if d.pooled b then d.freeBarge b else d.pushLock b .host .host 256

/-- A path frees a list of barges. -/
def Dev.freeBarges (d : Dev) (bs : List Nat) : Dev := forEach bs d (fun b d => d.freeBarge b)

/-- The valid length of barge `i` of a buffer of `len` octets (10 R342). -/
def bufLen (len i : Nat) : Nat := min 256 (len - 256 * i)

/-- The barges of a buffer of `len` octets handed over (10 R342, R351). -/
def Dev.handBarges (d : Dev) (bs : List Nat) (dst : Owner) (len : Nat) : Dev :=
  forEach bs.zipIdx d (fun e d => d.requestLock e.1 dst (bufLen len e.2))

/-- CLOSE of the next lock cycle of a bank (09 R305, R308). -/
def Dev.lockClose (d : Dev) (bk : Nat) : Dev :=
  match d.pm.cycle.getD bk none, d.pm.lockq.getD bk [] with
  | none, q :: t =>
    if d.bankOn bk then
      let d := d.setBarge q.barge (fun r => { r with next := some q.dest })
      { d with pm := { d.pm with
          lockq := updAt d.pm.lockq bk (fun _ => t)
          cycle := updAt d.pm.cycle bk (fun _ => some { q with at_ := d.ck }) } }
    else d
  | _, _ => d

/-- The CK of the ZERO phase of a cycle: none towards ZEROING, else 3 for a partial word and one for each whole word beyond L
(09 R306). -/
def zeroCk (dst : Owner) (len : Nat) : Nat :=
  if dst = .zeroing then 0 else 32 - (len + 7) / 8 + (if len % 8 = 0 then 0 else 3)

/-- The CK from which a barge counts as freed, kept until its zeroing ends. -/
def Dev.zeroFrom (d : Dev) (b : Nat) : Dev :=
  d.setPm (fun m => { m with zeroAt := m.zeroAt.filter (fun e => e.1 != b) ++ [(b, d.ck)] })

/-- ZERO and OPEN of the lock cycle a bank runs: OPEN follows CLOSE and the ZERO phase (09 R305-R307, Table 9.4; no accesses
to drain, no contention: log entry 74). -/
def Dev.lockOpen (d : Dev) (bk : Nat) (ss : List Strike) : Dev :=
  match d.pm.cycle.getD bk none with
  | some q =>
    let d := d.advanceTo (q.at_ + 1 + zeroCk q.dest q.len)
    let d := { d with pm := { d.pm with cycle := updAt d.pm.cycle bk (fun _ => none) } }
    let d := if q.dest = .zeroing then d.zeroFrom q.barge else d.zeroMem (256 * q.barge + q.len) (256 - q.len) ss
    d.setBarge q.barge (fun r => { r with owner := q.dest, valid := q.len, next := none })
  | none => d

/-- The lock cycle a bank runs, or its next, from CLOSE to OPEN. -/
def Dev.bankCycle (d : Dev) (bk : Nat) : Dev := (d.lockClose bk).lockOpen bk []

/-- An access to barges waits for the cycles that run on them, and for no cycle that is only requested (09 R305). -/
def Dev.awaitOpen (d : Dev) (bs : List Nat) : Dev :=
  forEach (List.range 4) d (fun bk d =>
    if bs.any (fun b => bankOf b == bk && d.lockClosed b) then d.lockOpen bk [] else d)

/-- Lock cycles of a bank run until none is requested for a barge of the list. -/
def Dev.lockThrough (d : Dev) (bk : Nat) (bs : List Nat) : Nat → Dev
  | 0 => d
  | n + 1 => if bs.any (fun b => bankOf b == bk && d.lockBusy b) then (d.bankCycle bk).lockThrough bk bs n else d

/-- A path waits for its own transfers of these barges: the cycles of every bank run, in their order, until those have
passed OPEN (01 R19, 09 R308). -/
def Dev.awaitLocks (d : Dev) (bs : List Nat) : Dev :=
  forEach (List.range 4) d (fun bk d => d.lockThrough bk bs ((d.pm.lockq.getD bk []).length + 1))

/-- The result of a verify read of a zeroed barge; `bad` says whether a word does not read zero (09 R313). -/
def Dev.verified (d : Dev) (b : Nat) (bad : Bool) : Dev :=
  if (d.barge b).poison && bad then ((d.setBarge b (fun r => { r with retired := true })).inc 0x250002).fire 20
  else d.setBarge b (fun r => { r with poison := false })

/-- Zeroing on free ends after its 32 slots, after 64 with the verify read of a poisoned barge (09 R301, R313). `stuck` names
the words that do not read zero. A retired barge stays ZEROING, in no list (DEDUCED, log entry 75). -/
def Dev.zeroingDone (d : Dev) (b : Nat) (stuck : List Nat) : Dev :=
  let r := d.barge b
  if r.owner = .zeroing && r.next.isNone && !r.retired && d.bankOn (bankOf b) then
    let since := ((d.pm.zeroAt.find? (fun e => e.1 == b)).map (·.2)).getD d.ck
    let d := (d.advanceTo (since + if r.poison then 64 else 32)).zeroBarge b
    let d := (d.setPm (fun m => { m with zeroAt := m.zeroAt.filter (fun e => e.1 != b) })).verified b (stuck.any (fun w => w < 32))
    if (d.barge b).retired then d else d.joinFree b
  else d

/-! ### Host rights (09 R304, 15 WIN_HOST_RIGHTS) -/

/-- Window `w` is exposed and holds barge `b` (15 Table 15.9). -/
def Dev.inWindow (d : Dev) (w b : Nat) : Bool :=
  d.rd (0x604001 + 256 * w) = 1 && d.rd (0x604002 + 256 * w) ≤ b
    && b < d.rd (0x604002 + 256 * w) + d.rd (0x604003 + 256 * w)

/-- The host may access a barge: HOST-owned outside every window, or owned by HOST or TOW:n in a window whose host rights admit the
access, read in bit 0 and write in bit 1 (09 R304, 15 R541). -/
def Dev.hostMay (d : Dev) (b : Nat) (write : Bool) : Bool :=
  let ws := (List.range 8).filter (fun w => d.inWindow w b)
  let right := ws.any (fun w => d.flag (0x604006 + 256 * w) (b2n write))
  match (d.barge b).owner with
  | .host => ws.isEmpty || right
  | .tow _ => right
  | _ => false

/-! ### Banks leaving and reaching ON (09 R309, R321-R323) -/

/-- The records of a bank after INIT: FREE in enabled pounds, HOST otherwise, `L = 0` (09 R309). -/
def Dev.bankInit (d : Dev) (bk : Nat) : Dev :=
  let keep := d.pm.barges.filter (fun e => bankOf e.1 != bk)
  let fresh := (d.pooledIn bk).map (fun b => (b, (⟨.free, 0, false, false, none⟩ : Barge)))
  { d with pm := { d.pm with
      barges := keep.filter (fun e => e.1 < 2048 * bk) ++ fresh ++ keep.filter (fun e => 2048 * bk ≤ e.1),
      mem := memZero d.pm.mem (0x80000 * bk) 0x80000,
      bad := d.pm.bad.filter (fun w => bankOfAddr w != bk),
      upsets := d.pm.upsets.filter (fun s => bankOfAddr s.addr != bk),
      zeroAt := d.pm.zeroAt.filter (fun e => bankOf e.1 != bk),
      lockq := updAt d.pm.lockq bk (fun _ => []), cycle := updAt d.pm.cycle bk (fun _ => none),
      frees := d.pm.frees.filter (fun e => e.2.1 != bk),
      keptThrough := d.pm.keptThrough.filter (· != bk) } }

/-- The barges lost with a bank: neither FREE nor unpooled HOST (09 R321). -/
def Dev.bargesLost (d : Dev) (bk : Nat) : List Nat :=
  let pooled := d.pooledIn bk
  let recs := d.pm.barges.filter (fun e => bankOf e.1 == bk)
  pooled.filter (fun b => (d.barge b).owner != .free)
    ++ (recs.filter (fun e => !pooled.contains e.1 && e.2.owner != .host)).map (·.1)

/-- A bank leaves ON for OFF: its contents and records are lost (09 R321). -/
def Dev.bankLost (d : Dev) (bk : Nat) : Dev :=
  let lost := (d.bargesLost bk).length
  let retired := (d.pm.barges.filter (fun e => bankOf e.1 == bk && e.2.retired)).length
  let d := if lost = 0 then d else ((d.add 0x250001 lost).fire 22)
  let d := d.wr 0x250002 (d.rd 0x250002 - retired)
  let d := { d with pm := { d.pm with
      barges := d.pm.barges.filter (fun e => bankOf e.1 != bk),
      mem := memZero d.pm.mem (0x80000 * bk) 0x80000,
      bad := d.pm.bad.filter (fun w => bankOfAddr w != bk),
      upsets := d.pm.upsets.filter (fun s => bankOfAddr s.addr != bk),
      zeroAt := d.pm.zeroAt.filter (fun e => bankOf e.1 != bk),
      lockq := updAt d.pm.lockq bk (fun _ => []), cycle := updAt d.pm.cycle bk (fun _ => none),
      frees := d.pm.frees.filter (fun e => e.2.1 != bk), scan := d.pm.scan.filter (fun e => e.1 != bk),
      testing := d.pm.testing.filter (· != bk), filled := d.pm.filled.filter (fun e => e.1 != bk),
      keptThrough := d.pm.keptThrough.filter (· != bk) } }
  d.watchPounds

/-- A barge of a bank kept through a reset that an engine owned, or that was found locked, is freed with zeroing, by a lock cycle
(01 R19, 09 R323); one found in ZEROING is zeroed again. -/
def Dev.scanFrees (d : Dev) (b : Nat) : Dev :=
  let own := (d.barge b).owner
  let d := d.setBarge b (fun r => { r with next := none })
  if own = .zeroing && d.pooled b then d.zeroFrom b else d.pushLock b own (d.lockDest b .zeroing) 256

/-- The scan of a bank's owner array ends, 2,048 CK after it began (09 R323). -/
def Dev.scanDone (d : Dev) (bk : Nat) : Dev :=
  match d.pm.scan.find? (fun e => e.1 == bk) with
  | none => d
  | some e =>
    if !d.bankOn bk then d
    else
      let d := d.advanceTo (e.2.2 + 2048)
      let d := { d with pm := { d.pm with scan := d.pm.scan.filter (fun x => x.1 != bk) } }
      let recs := d.pm.barges.filter (fun x => bankOf x.1 == bk)
      let d := forEach recs d (fun x d =>
        if x.2.owner == .free && x.2.next.isNone then
          match d.poundTo x.1 with
          | some p => if x.2.retired then d else d.addFree p bk [x.1]
          | none => d.requestLock x.1 .host 0
        else if e.2.1 && (x.2.next.isSome || x.2.owner != .host && x.2.owner != .free) && !x.2.retired then d.scanFrees x.1
        else d)
      d.watchPounds

/-! ### Dictionary hooks -/

/-- The overlap of two ranges of barges. -/
def overlap (a n b m : Nat) : Bool := 0 < n && 0 < m && a < b + m && b < a + n

/-- The barges of a pound. -/
def Dev.poundBarges (d : Dev) (p : Nat) : List Nat := (List.range (d.poundCount p)).map (· + d.poundBase p)

/-- The barges of a pound in banks that are ON. -/
def Dev.poundOnBarges (d : Dev) (p : Nat) : List Nat := (d.poundBarges p).filter (fun b => d.bankOn (bankOf b))

/-- The barges of a pound that have an owner record: their bank is ON or in RETENTION (09 R321, R322). -/
def Dev.poundKnown (d : Dev) (p : Nat) : List Nat := (d.poundBarges p).filter (fun b => d.domEff (bankDom (bankOf b)) != .off)

/-- The barges of ring `r`'s area (10 R327). -/
def Dev.ringArea (d : Dev) (r : Nat) : Nat × Nat :=
  (d.rd (0x260001 + 256 * r), 2 ^ d.rd (0x260002 + 256 * r) * 32 / 256)

/-- A ring's state (10 Table 10.1). -/
def Dev.ringState (d : Dev) (r : Nat) : Nat := d.rd (0x260003 + 256 * r)

/-- Rings that are not STOPPED with an area over a range of barges (10 R328, R329). -/
def Dev.ringsOver (d : Dev) (base n : Nat) : List Nat :=
  (List.range 56).filter (fun r => d.ringState r != 0 && overlap base n (d.ringArea r).1 (d.ringArea r).2)

/-- POUND_ENABLE 01h is refused: a barge of the range is not HOST-owned and unpooled, or a ring lies there
(09 R296, 10 R329). A barge without a record, its bank OFF, stands in nobody's way (DEDUCED from R309, log entry 76). -/
def Dev.poundEnableBlocked (d : Dev) (p : Nat) : Bool :=
  (d.poundKnown p).any (fun b => (d.barge b).owner != .host || d.lockBusy b || d.pooled b)
    || !(d.ringsOver (d.poundBase p) (d.poundCount p)).isEmpty

/-- POUND_ENABLE 00h is refused: a barge in an ON bank is not FREE or is in a lock cycle (09 R297). -/
def Dev.poundDisableBlocked (d : Dev) (p : Nat) : Bool :=
  (d.poundOnBarges p).any (fun b => (d.barge b).owner != .free || d.lockBusy b)

/-- A write of packet-memory objects breaks a state rule (order 5; 09 R295-R297, R300). -/
def Dev.pmState (d : Dev) (k v : Nat) : Bool :=
  let p := (k - 0x252000) / 256
  if k = 0x250803 then
    v < nBarges && ((d.barge v).owner != .host || d.lockBusy v || !d.bankOn (bankOf v))
  else if 0x252000 ≤ k && k < 0x253000 then
    match k % 256 with
    | 1 | 2 | 4 => d.poundState p != 0
    | 3 => if v = 1 then d.poundState p = 0 && d.poundEnableBlocked p
           else if v = 0 then d.poundDisableBlocked p else false
    | _ => false
  else false

/-- The value of a packet-memory object is in its range (order 9; 09 R294, R300, R325, R326). -/
def Dev.pmValue (d : Dev) (k v : Nat) : Bool :=
  let p := (k - 0x252000) / 256
  if k = 0x250803 || k = 0x250901 then v < nBarges
  else if k = 0x250801 then
    bits v 7 4 = 0 && 1 ≤ bits v 15 8 && bits v 15 8 ≤ 8 && d.poundState (bits v 3 0) = 2
  else if k = 0x250001 || k = 0x250003 then v = 0
  else if 0x252000 ≤ k && k < 0x253000 && (k % 256 = 1 || k % 256 = 2) then
    let base := if k % 256 = 1 then v else d.poundBase p
    let n := if k % 256 = 2 then v else d.poundCount p
    base + n ≤ nBarges &&
      (List.range 16).all (fun q => q == p || !overlap base n (d.poundBase q) (d.poundCount q))
  else if 0x252000 ≤ k && k < 0x253000 && k % 256 = 6 then v = 0
  else if 0x254000 ≤ k && k < 0x254400 then v = 0
  else true

/-- ALLOC_REQ (09 R299): the numbers appear in the initiator's ALLOC_RESULT. -/
def Dev.allocReq (d : Dev) (ini v : Nat) : WRes :=
  match d.alloc (bits v 3 0) .host (bits v 15 8) with
  | (some bs, d) =>
    .ok (d.wr (iniKey ini 0x250802)
      (leNat ((bs.map (leOct 2)).flatten ++ List.replicate (16 - 2 * bs.length) (oct 0xFF))))
  | (none, d) => .abort 0x0502 d

/-- POUND_ENABLE (09 R296, R297). -/
def Dev.poundEnable (d : Dev) (p v : Nat) : Dev :=
  let d' := d.wr (0x252003 + 256 * p) v
  if v = 1 then
    (if d.poundState p = 0 then d'.wr (0x252007 + 256 * p) 1 else d')
  else if d.poundState p = 0 then d'
  else
    let d := forEach ((d.poundKnown p).filter (fun b => (d.barge b).owner == .free)) d' (fun b d =>
      d.setBarge b (fun r => { r with owner := .host, valid := 0 }))
    let d := { d with pm := { d.pm with frees := d.pm.frees.filter (fun e => e.1 != p) } }
    (d.wr (0x252007 + 256 * p) 0).watchPound p

/-- A barge of an enabling pound that the lock engine has moved or taken out: FREE, or retired. -/
def Dev.moved (d : Dev) (b : Nat) : Bool := (d.barge b).owner == .free || (d.barge b).retired

/-- A barge of an enabling pound that is being zeroed. -/
def Dev.moving (d : Dev) (b : Nat) : Bool := (d.barge b).owner == .zeroing && !(d.barge b).retired

/-- Every barge of an enabling pound in an ON bank has been moved: the pound is enabled (09 R296). -/
def Dev.poundReady (d : Dev) (p : Nat) : Dev :=
  let d := d.wr (0x252007 + 256 * p) 2
  (if d.poundFree p < d.rd (0x252004 + 256 * p) then d.setPm (fun m => { m with lowPounds := p :: m.lowPounds }) else d).fire 23

/-- In POUND_STATE 01h the lock engine zeroes the HOST barges of the range one after the other, in ascending order (09 R296). -/
def Dev.poundMove (d : Dev) (p : Nat) : Dev :=
  if d.poundState p = 1 && d.on dPM0 then
    let bs := d.poundOnBarges p
    if bs.any d.moving then d
    else match bs.find? (fun b => (d.barge b).owner == .host && !d.lockBusy b) with
      | some b => (d.setBarge b (fun r => { r with owner := .zeroing })).zeroFrom b
      | none => if bs.all d.moved then d.poundReady p else d
  else d

/-- POUND_ENABLED: what is left of an enabling pound is zeroed, 32 slots for each barge as on free and 32 more for the verify read of
a poisoned one, and the pound is enabled; `stuck` names the words, by address, that do not read zero (09 R296, R301, R313). -/
def Dev.poundEnabled (d : Dev) (p : Nat) (stuck : List Nat) : Dev :=
  let bs := d.poundOnBarges p
  let left := bs.filter (fun b => d.moving b || ((d.barge b).owner == .host && !d.lockBusy b))
  if d.poundState p = 1 && d.on dPM0 && bs.all (fun b => d.moved b || left.contains b) then
    let since := ((d.pm.zeroAt.find? (fun e => left.contains e.1)).map (·.2)).getD d.ck
    let d := d.advanceTo (since + (left.map (fun b => if (d.barge b).poison then 64 else 32)).sum)
    let d := forEach left (d.setPm (fun m => { m with zeroAt := m.zeroAt.filter (fun e => !left.contains e.1) })) (fun b d =>
      ((d.zeroBarge b).verified b (stuck.any (fun w => w / 256 == b))).setBarge b (fun r =>
        { r with owner := if r.retired then .zeroing else .free, valid := 0 }))
    let d := forEach (List.range 4) d (fun bk d =>
      d.addFree p bk (left.filter (fun b => bankOf b == bk && !(d.barge b).retired)))
    d.poundReady p
  else d

/-- BQ_RECORD of an initiator's BQ_BARGE (09 Table 9.2). -/
def Dev.bqRecord (d : Dev) (ini : Nat) : Nat :=
  let b := d.rd (iniKey ini 0x250901)
  if !d.bankOn (bankOf b) then 0xFF + 2 ^ 32 * b
  else
    let r := d.barge b
    let flags := b2n r.next.isSome + 2 * b2n r.retired + 4 * b2n r.poison + 8 * b2n (d.pooled b)
      + 16 * (d.poundOf b).getD 0
    r.owner.code + 2 ^ 8 * flags + 2 ^ 16 * r.valid + 2 ^ 32 * b
      + 2 ^ 56 * ((r.next.map Owner.code).getD 0)

end Sys2Proof.Machine
end

