-- ==== Sys2Proof/Machine/Groups.lean ====
section
/-!
DEFINITION. Numbers of the reorder groups (13 R464-R471): where each outstanding number stands and how the head moves.
-/
namespace Sys2Proof.Machine

/-- Object `s` of reorder group `g` (13 Table 13.10). -/
def grpKey (g s : Nat) : Nat := 0x402000 + 256 * g + s

/-- RX ring `n` (0 to 15) as a ring number. -/
def rxRing (n : Nat) : Nat := 32 + n

/-- A group with nothing outstanding. -/
def Grp.idle : Grp := ⟨[], 0, 0, false, none, []⟩

/-- Group `g` beyond its objects. -/
def Dev.grp (d : Dev) (g : Nat) : Grp := d.cls.groups.getD g Grp.idle

/-- The device with group `g` changed. -/
def Dev.setGrp (d : Dev) (g : Nat) (f : Grp → Grp) : Dev :=
  { d with cls := { d.cls with groups := updAt d.cls.groups g f } }

/-- The leading discarded and skipped numbers of a list: how many, and whether one was skipped. -/
def passed : List SeqNum → Nat × Bool
  | [] => (0, false)
  | n :: t =>
    match n.st with
    | .discarded => let r := passed t; (r.1 + 1, r.2)
    | .skipped => let r := passed t; (r.1 + 1, true)
    | _ => (0, false)

/-- The head moves past `n` numbers; once every number assigned before a switch has passed, the wait of R476 ends. -/
def Dev.headPast (d : Dev) (g n : Nat) : Dev :=
  if n = 0 then d
  else
    let h := (d.rd (grpKey g 7) + n) % 65536
    let d := d.wr (grpKey g 7) h
    d.setGrp g (fun x =>
      let nums := x.nums.drop n
      let wait := match x.barrier with
        | some b => nums.any (fun m => sub16 b m.seq ≤ 256 && m.seq != b)
        | none => false
      { x with nums := nums, headAt := d.ck, barrier := if wait then x.barrier else none })

/-- The head passes the numbers that were discarded or skipped (13 R467-R469). -/
def Dev.grpAdvance (d : Dev) (g : Nat) : Dev :=
  let r := passed (d.grp g).nums
  (d.setGrp g (fun x => { x with gap := x.gap || r.2 })).headPast g r.1

/-- A number of a group changed. -/
def Dev.setNum (d : Dev) (g q : Nat) (f : SeqNum → SeqNum) : Dev :=
  d.setGrp g (fun x => { x with nums := x.nums.map (fun n => if n.seq = q then f n else n) })

/-- The descriptor of a numbered frame has been written to its worker ring at index `slot` (13 R469). -/
def Dev.numWritten (d : Dev) (num : Option (Nat × Nat)) (slot : Nat) : Dev :=
  match num with
  | some (g, q) => d.setNum g q (fun n => { n with st := .out (some (slot, d.ck)) })
  | none => d

/-- A numbered frame dropped at its worker ring counts as released and discarded (13 R466). -/
def Dev.numDropped (d : Dev) (num : Option (Nat × Nat)) : Dev :=
  match num with
  | some (g, q) => (d.setNum g q (fun n => { n with st := .discarded })).grpAdvance g
  | none => d

/-- A number is skipped: GRP_GAPS counts and source 66 fires; a frame released later is late (13 R469). -/
def Dev.numSkip (d : Dev) (g : Nat) (n : SeqNum) : Dev :=
  let d := d.setNum g n.seq (fun n => { n with st := .skipped })
  let d := match n.st with
    | .out (some (slot, _)) => d.setGrp g (fun x => { x with late := x.late ++ [(n.ring, slot)] })
    | _ => d
  (d.inc (grpKey g 8)).fire 66

/-- A worker ring is reset: every number it held and had not released is skipped (13 R470). -/
def Dev.ringSkip (d : Dev) (r : Nat) : Dev :=
  forEach (List.range 4) d (fun g d =>
    let hit := (d.grp g).nums.filter (fun n => n.ring + 32 == r && (n.st matches .out _))
    let d := (forEach hit d (fun n d => d.numSkip g n)).grpAdvance g
    d.setGrp g (fun x => { x with late := x.late.filter (fun e => e.1 + 32 != r) }))

end Sys2Proof.Machine
end

