-- ==== Sys2Proof/Machine/Rings.lean ====
section
/-!
DEFINITION. Rings and descriptors (10): ring states, doorbells, chains, completions, RX descriptors, ring events.
-/
namespace Sys2Proof.Machine

/-- The number of rings (10, Ring numbers and placement). -/
abbrev nRings : Nat := 56

/-- Object `s` of ring `r`. -/
def ringKey (r s : Nat) : Nat := 0x260000 + 256 * r + s

/-- A ring with nothing in progress. -/
def Ring.idle : Ring := ⟨[], [], false, 0, none⟩

/-- What ring `r` holds beyond its objects. -/
def Dev.ring (d : Dev) (r : Nat) : Ring := d.rings.getD r Ring.idle

/-- The device with ring `r` changed. -/
def Dev.setRing (d : Dev) (r : Nat) (f : Ring → Ring) : Dev := { d with rings := updAt d.rings r f }

/-- TX rings of the ports and of the CAN channels (03 Table 3.4). -/
def isTxRing (r : Nat) : Bool := r < 32 || (48 ≤ r && r % 4 < 2)

/-- CAN rings. -/
def isCanRing (r : Nat) : Bool := 48 ≤ r

/-- The descriptors of a ring (10 R327). -/
def Dev.ringN (d : Dev) (r : Nat) : Nat := 2 ^ d.rd (ringKey r 2)

/-- RING_HOST_INDEX, RING_DEV_INDEX and RING_FETCH_INDEX. -/
def Dev.ringHost (d : Dev) (r : Nat) : Nat := d.rd (ringKey r 4)
def Dev.ringDev (d : Dev) (r : Nat) : Nat := d.rd (ringKey r 5)
def Dev.ringFetch (d : Dev) (r : Nat) : Nat := d.rd (ringKey r 6)

/-- The address of the slot of an index value (10 R327). -/
def Dev.slotAddr (d : Dev) (r x : Nat) : Nat := d.rd (ringKey r 1) * 256 + x % d.ringN r * 32

/-- The bank of a ring's area. -/
def Dev.ringBank (d : Dev) (r : Nat) : Nat := bankOf (d.rd (ringKey r 1))

/-- The ring engine can reach the ring's area (01 Table 1.2, 10 R355). -/
def Dev.ringReach (d : Dev) (r : Nat) : Bool := d.on dCORE && d.bankOn (d.ringBank r)

/-! ### Events (10 R353) -/

/-- The ring raises an event on its line; both counts restart. -/
def Dev.ringEvent (d : Dev) (r : Nat) : Dev :=
  (d.setRing r (fun x => { x with coal := 0, coalSince := none })).fire (24 + d.rd (ringKey r 7))

/-- One completion or RX descriptor written; `ev` when it asks for the event. -/
def Dev.ringCount (d : Dev) (r : Nat) (ev : Bool) : Dev :=
  let n := (d.ring r).coal + 1
  if ev || d.rd (ringKey r 8) ≤ n then d.ringEvent r
  else d.setRing r (fun x => { x with coal := n, coalSince := some (x.coalSince.getD d.ck) })

/-- RING_COAL_TIME after the first such descriptor (10 R353). -/
def Dev.ringCoalTimeout (d : Dev) (r : Nat) : Dev :=
  match (d.ring r).coalSince with
  | some t => if d.rd (ringKey r 9) = 0 then d else (d.afterUs t (d.rd (ringKey r 9))).ringEvent r
  | none => d

/-- A ring that is not STOPPED becomes FAULTED (10 R355, 19 R652). -/
def Dev.ringFault (d : Dev) (r code : Nat) : Dev :=
  if d.ringState r = 0 || d.ringState r = 4 then d
  else
    let d := d.wr (ringKey r 3) 4
    (d.fault 0x0C dCORE code r (d.ringDev r + 65536 * d.ringFetch r)).ringEvent r

/-! ### Descriptor fields (10 Tables 10.2, 10.3, 10.6) -/

def dFlags (x : Oct) : Nat := leAt x 26 2
def dLen (x : Oct) : Nat := leAt x 24 2 % 4096
def dIsTso (x : Oct) : Bool := (dFlags x).testBit 15
def dFirst (x : Oct) : Bool := (dFlags x).testBit 14
def dLast (x : Oct) : Bool := (dFlags x).testBit 13
def dTsReq (x : Oct) : Bool := (dFlags x).testBit 12
def dFree (x : Oct) : Bool := (dFlags x).testBit 11
def dEvent (x : Oct) : Bool := (dFlags x).testBit 10
/-- BARGE k of a data descriptor; its bits 15-13 are reserved and ignored (00 R10). -/
def dBarge (x : Oct) (k : Nat) : Nat := leAt x (2 * k) 2 % 8192
/-- The barges of a data descriptor with their valid lengths and FREE_AFTER (10 R342, R347). -/
def dBarges (x : Oct) : List (Nat × Nat × Bool) :=
  (List.range ((dLen x + 255) / 256)).map (fun k => (dBarge x k, bufLen (dLen x) k, dFree x))
/-- The TSO context fields of 10 Table 10.3. -/
def tsoTotal (x : Oct) : Nat := leAt x 8 4
def tsoKind (x : Oct) : Nat := octAt x 5
def tsoL4Len (x : Oct) : Nat := octAt x 4
def tsoL4 (x : Oct) : Nat := octAt x 3
def tsoL3 (x : Oct) : Nat := octAt x 2
def tsoMss (x : Oct) : Nat := leAt x 0 2

/-! ### Chains (10 R343-R345) -/

/-- The descriptor at an index of a ring, as the octets stand in memory. -/
def Dev.descAt (d : Dev) (r x : Nat) : Oct := memRead d.pm.mem (d.slotAddr r x) 32

/-- What the boundary rules of R343 to R345 make of the descriptors from `x` on, `n` of them posted: how many
descriptors the chain takes and whether the boundaries already fail it; none while the chain waits for its LAST.
`room` is how many further descriptors the limit of R343 admits. -/
def Dev.chainSpan (d : Dev) (r x : Nat) : Nat → Nat → Nat → Option (Nat × Bool)
  | _, 0, k => some (k, true)
  | 0, _ + 1, _ => none
  | n + 1, room + 1, k =>
    let de := d.descAt r (x + k)
    if k ≠ 0 && dFirst de then some (k, true)
    else if dLast de && !dIsTso de then some (k + 1, false)
    else d.chainSpan r x n room (k + 1)

/-- The chain at RING_FETCH_INDEX: its number of descriptors and whether its boundaries break R345. A chain waits
until its LAST is posted (R344). -/
def Dev.nextChain (d : Dev) (r : Nat) : Option (Nat × Bool) :=
  let x := d.ringFetch r
  let n := sub16 (d.ringHost r) x
  if n = 0 then none
  else if isCanRing r then some (1, false)
  else
    let de := d.descAt r x
    if !dFirst de then some (1, true)
    else d.chainSpan r x n (if dIsTso de then 33 else 32) 0

/-- The FORMAT rules of R345 on the descriptors of a chain of an Ethernet port. -/
def chainFormatBad (seg : Bool) (ds : List Oct) : Bool :=
  match ds with
  | [] => true
  | c :: t =>
    let data := if dIsTso c then t else ds
    data.isEmpty || data.any (fun x => dIsTso x || dLen x = 0 || 2048 < dLen x || (dBarges x).any (fun e => nBarges ≤ e.1))
      || (dIsTso c && (seg || (data.map dLen).foldl (· + ·) 0 != tsoTotal c || data.any dTsReq))

/-- The data length ISO 11898-1 gives a data length code (10 R352). -/
def canDlcLen (fdf : Bool) (dlc : Nat) : Nat :=
  if dlc ≤ 8 then dlc else if !fdf then 8
  else match dlc with
    | 9 => 12 | 10 => 16 | 11 => 20 | 12 => 24 | 13 => 32 | 14 => 48 | _ => 64

/-- The rules of R345 and R352 on a CAN TX descriptor: DATA_BARGE is a barge's number, FFFFh where and only where LENGTH is 0
(Table 10.6). -/
def canFormatBad (x : Oct) : Bool :=
  let id := leAt x 0 4
  let fdf := (octAt x 5).testBit 0
  let brs := (octAt x 5).testBit 1
  let rtr := id.testBit 30
  let dlc := octAt x 4 % 16
  let len := leAt x 24 2 % 128
  let brg := leAt x 6 2
  (if rtr then len != 0 else len != canDlcLen fdf dlc)
    || (rtr && fdf) || (brs && !fdf) || (!id.testBit 29 && 2048 ≤ id % 2 ^ 29)
    || (if len = 0 then brg != 0xFFFF else nBarges ≤ brg)

/-- The barges of a chain: of its data descriptors, or the data barge of a CAN descriptor. -/
def chainBarges (can : Bool) (ds : List Oct) : List (Nat × Nat × Bool) :=
  if can then
    match ds with
    | x :: _ => let len := leAt x 24 2 % 128; if len = 0 then [] else [(leAt x 6 2, len, dFree x)]
    | [] => []
  else (ds.filter (fun x => !dIsTso x)).flatMap dBarges

/-! ### Taking and returning a chain's barges (10 R346, R347) -/

/-- The owner a chain's barges are taken from: HOST, or BRG for a ring the bridge feeds (10 R346, 14 R497). -/
def Dev.chainSource (d : Dev) (r : Nat) : Owner := if d.brgRing r then .brg else .host

/-- The first barge of a chain that cannot be taken from its source (one named before in the chain has left it by then), lies
in the area of a ring that is not STOPPED, or in a bank that is not ON (log entry 41). -/
def Dev.chainRefused (d : Dev) (src : Owner) (bs : List (Nat × Nat × Bool)) : Option Nat :=
  let l := bs.map (·.1)
  l.zipIdx.findIdx? (fun e => d.ownerAfter e.1 != src || (l.take e.2).contains e.1 || !(d.ringsOver e.1 1).isEmpty
    || !d.bankOn (bankOf e.1))

/-- Lock cycles to TXDMA in order, each with its valid length. -/
def Dev.takeBarges (d : Dev) (bs : List (Nat × Nat × Bool)) : Dev :=
  forEach bs d (fun e d => d.requestLock e.1 .txdma e.2.1)

/-- Lock cycles back to HOST after a refusal or poison. -/
def Dev.backToHost (d : Dev) (bs : List (Nat × Nat × Bool)) : Dev :=
  forEach bs d (fun e d => d.requestLock e.1 .host e.2.1)

/-- After sending or failing, each barge passes to ZEROING or HOST, with its L (10 R342, R347). -/
def Dev.returnBarges (d : Dev) (bs : List (Nat × Nat × Bool)) : Dev :=
  forEach bs d (fun e d => if (d.barge e.1).owner = .txdma || d.lockBusy e.1 then
    (if e.2.2 then d.freeWith e.1 e.2.1 else d.requestLock e.1 .host e.2.1) else d)

/-- No lock cycle of the barges waits or runs. -/
def Dev.locksClear (d : Dev) (bs : List Nat) : Bool := bs.all (fun b => !d.lockBusy b)

/-- The chain of a ring that starts at an index. -/
def Dev.chainOf (d : Dev) (r start : Nat) : Option Chain := (d.ring r).chains.find? (fun c => c.start == start)

/-- The device with that chain changed. -/
def Dev.setChain (d : Dev) (r start : Nat) (f : Chain → Chain) : Dev :=
  d.setRing r (fun x => { x with chains := x.chains.map (fun c => if c.start == start then f c else c) })

/-- A chain gets its code, unless it has one, and its barges return (10 R347, R348). -/
def Dev.endChain (d : Dev) (r start code : Nat) : Dev :=
  match d.chainOf r start with
  | some c =>
    if c.code.isSome then d
    else (d.setChain r start (fun c => { c with code := some code, returned := true })).returnBarges c.barges
  | none => d

/-- Descriptors of a chain read at fetch; answers them, whether a read failed, the device. -/
def Dev.readDescs (d : Dev) (r x : Nat) : Nat → List Oct × Bool × Dev
  | 0 => ([], false, d)
  | n + 1 =>
    let a := d.readMem (d.slotAddr r x) 32 []
    if !a.2.1.isEmpty then ([], true, a.2.2)
    else
      let rest := a.2.2.readDescs r (x + 1) n
      (a.1 :: rest.1, rest.2.1, rest.2.2)

/-- The ring engine fetches the chain at RING_FETCH_INDEX. `early` is a code that the descriptors alone give before
any lock cycle (FORMAT, OVERSIZE, TSO_HEADER), judged from the descriptors read (10 R345, R346, 11 R370, R374). -/
def Dev.fetchChain (d : Dev) (r : Nat) (ss : List Strike) (early : Dev → List Oct → Option Nat × Dev) : Dev :=
  match d.nextChain r with
  | none => d
  | some (n, badSpan) =>
    let x := d.ringFetch r
    let rd := (d.strike ss).readDescs r x n
    let d := rd.2.2
    if rd.2.1 then d.ringFault r 0x0701
    else
      let ds := rd.1
      let d := d.wr (ringKey r 6) ((x + n) % 65536)
      let bs := chainBarges (isCanRing r) ds
      let mk (code : Option Nat) (bs : List (Nat × Nat × Bool)) : Chain :=
        ⟨x, ds, bs, code, 0, none, 0, code.isSome⟩
      let put (d : Dev) (c : Chain) : Dev := d.setRing r (fun y => { y with chains := y.chains ++ [c] })
      match (if badSpan then (some 1, d) else early d ds) with
      | (some code, d) => put d (mk (some code) [])
      | (none, d) =>
        match d.chainRefused (d.chainSource r) bs with
        | some i =>
          let bad := (bs.getD i (0, 0, false)).1
          let src := d.chainSource r
          let moved := bs.take i
          let d := d.takeBarges moved
          let d := if d.ownerAfter bad != src then d.ownerRefusedAs (d.ownerAfter bad) bad Owner.txdma.code else d
          put (d.backToHost moved) (mk (some 2) moved)
        | none =>
          if bs.any (fun e => (d.barge e.1).poison) then
            put ((d.takeBarges bs).backToHost bs) (mk (some 3) bs)
          else put (d.takeBarges bs) (mk none bs)

/-! ### Completion (10 R340, R347, R348) -/

/-- Octets 28 to 31 of a completed descriptor: CODE, DONE and TS_VALID, then `hi`, reserved octets and bits as zero
(00 R10; 19, Example). -/
def doneWord (code : Nat) (ts : Bool) (hi : Nat) : Oct := leOct 2 (code + 0x8000 + (if ts then 0x4000 else 0)) ++ leOct 2 hi

/-- Word 3 of the descriptors of a completed chain: DONE, CODE, ATTEMPTS and timestamp in the LAST, SEGMENTS in the
context; a device field that has nothing to say is zero. -/
def chainWriteBack (can : Bool) (c : Chain) (code i : Nat) (x : Oct) : Oct :=
  let last := i + 1 == c.descs.length
  let ctx := !can && dIsTso x
  let ts := if (last || can) && code == 0 then c.ts else none
  let x := match ts with
    | some (s, ns) => patch (patch x 16 (leOct 4 s)) 20 (leOct 4 ns)
    | none => x
  patch x 28 (doneWord code ts.isSome (if ctx then c.segments else if last || can then min c.attempts 255 else 0))

/-- The head chain of a ring completes once its barges' lock cycles have passed OPEN; the completions of a ring that was
FAULTED, and those left when it is reset, are not written (19 R652). -/
def Dev.chainComplete (d : Dev) (r : Nat) : Dev :=
  match (d.ring r).chains with
  | [] => d
  | c :: t =>
    match c.code with
    | none => d
    | some code =>
      if !c.returned || !d.locksClear (c.barges.map (·.1)) then d
      else if d.ringState r = 3 || d.ringState r = 4 then d.setRing r (fun x => { x with chains := t })
      else if !d.ringReach r || (d.ringState r != 1 && d.ringState r != 2) then d
      else
        let can := isCanRing r
        let d := forEach c.descs.zipIdx d (fun e d =>
          d.writeMem (d.slotAddr r (c.start + e.2)) (chainWriteBack can c code e.2 e.1))
        let d := d.wr (ringKey r 5) ((d.ringDev r + c.descs.length) % 65536)
        let d := d.setRing r (fun x => { x with chains := t })
        let d := if code = 0 then d else
          let d := d.inc (ringKey r 11)
          if can then d else d.cnt (r / 8) 31
        let d := if !can && code = 0 && c.ts.isSome then d.cnt (r / 8) 39 else d
        d.ringCount r (c.descs.any (fun x => dEvent x && !(!can && dIsTso x)))

/-! ### Ring states (10 R331-R335) -/

/-- The FLUSHED completion of a posted descriptor that was not fetched: octets 28 to 31 of its slot, its event, and an error of
its port (10 R335, R353; a TSO context has no EVENT bit), and the chain it begins an error of its port (17 counter 31). -/
def Dev.flushSlot (d : Dev) (r x : Nat) : Dev :=
  let a := d.slotAddr r x
  let m := d.readMem a 32 []
  let de := m.1
  let d := (m.2.2.writeMem (a + 28) (doneWord 6 false 0)).inc (ringKey r 11)
  let d := if !isCanRing r && (dFirst de || x == d.ringFetch r) then d.cnt (r / 8) 31 else d
  d.ringCount r (dEvent de && !(!isCanRing r && dIsTso de))

/-- A worker ring's doorbell has passed the slot at index `x` (10 R337, 13 R467). -/
def Dev.slotReleased (d : Dev) (w x : Nat) : Bool :=
  let r := rxRing w
  sub16 (d.ringDev r) (d.ringHost r) ≤ sub16 x (d.ringHost r)

/-- The domains the ring engine needs to reach a ring's area (01 Table 1.2). -/
def ringNeeds (d : Dev) (r : Nat) : List Nat := [dCORE, dPM0, bankDom (d.ringBank r)]

/-- A released descriptor read by the merge stage. -/
def Dev.mergeRead (d : Dev) (g : Nat) (n : SeqNum) (slot : Nat) (ss : List Strike) : Dev :=
  let r := rxRing n.ring
  if !d.ringReach r then (d.engineOff dCLS (ringNeeds d r)).setNum g n.seq (fun n => { n with st := .discarded })
  else
    let a := d.readMem (d.slotAddr r slot) 32 ss
    if !a.2.1.isEmpty then (a.2.2.setNum g n.seq (fun n => { n with st := .discarded })).ringFault r 0x0701
    else a.2.2.setNum g n.seq (fun n => { n with st := if (octAt a.1 31).testBit 7 then .released a.1 else .discarded })

/-- Frames of ring `w` released after their number was skipped are late (13 R469). -/
def Dev.lateReleased (d : Dev) (g : Nat) (ok : Nat → Bool) : Dev :=
  let hit (d : Dev) (e : Nat × Nat) : Bool := ok e.1 && d.slotReleased e.1 e.2
  let late := (d.grp g).late.filter (hit d)
  forEach late (d.setGrp g (fun x => { x with late := x.late.filter (fun e => !hit d e) })) (fun _ d =>
    (d.inc (grpKey g 9)).fire 66)

/-- The descriptors of group `g` that the doorbells of the workers `ok` have passed are read (13 R467). -/
def Dev.releasedRead (d : Dev) (g : Nat) (ok : Nat → Bool) (ss : List Strike) : Dev :=
  forEach (d.grp g).nums (d.lateReleased g ok) (fun n d =>
    match n.st with
    | .out (some (slot, _)) => if ok n.ring && d.slotReleased n.ring slot then d.mergeRead g n slot ss else d
    | _ => d)

/-- RESETTING runs (10 R335): posted descriptors not yet fetched complete FLUSHED, the indices return to 0, the ring is left
STOPPED. An area whose bank or PM0 is OFF takes no completion. Frames a worker has released are not skipped (13 R467, R470). -/
def Dev.ringFlush (d : Dev) (r : Nat) : Dev :=
  let n := if isTxRing r then sub16 (d.ringHost r) (d.ringFetch r) else 0
  let d := if d.ringReach r then forEach (List.range n) d (fun i d => d.flushSlot r (d.ringFetch r + i)) else d
  let d := if 32 ≤ r && r < 48
    then (forEach (List.range 4) d (fun g d => d.releasedRead g (· + 32 == r) [])).ringSkip r else d
  let d := ((d.wr (ringKey r 4) 0).wr (ringKey r 5) 0).wr (ringKey r 6) 0
  (d.setRing r (fun x => { x with resetAfter := false })).wr (ringKey r 3) 0

/-- A ring has no work in progress (10 R334). -/
def Dev.ringQuiet (d : Dev) (r : Nat) : Bool := (d.ring r).chains.isEmpty && (d.ring r).rxq.isEmpty

/-- The bank of the ring's area, or PM0, is in RETENTION: the ring makes no progress (10 R355). -/
def Dev.ringRetained (d : Dev) (r : Nat) : Bool :=
  d.domEff (bankDom (d.ringBank r)) == .retention || d.domEff dPM0 == .retention

/-- A reset begins: RESETTING runs at once, or waits until the area can be reached again (10 R355) and, on a ring that was
FAULTED, until the chains fetched have run to their end (19 R652). -/
def Dev.ringReset (d : Dev) (r : Nat) : Dev :=
  if d.ringRetained r || !d.ringQuiet r then (d.wr (ringKey r 3) 3).setRing r (fun x => { x with resetAfter := false })
  else d.ringFlush r

/-- A STOPPING ring without work reads STOPPED, and a reset that waited follows. -/
def Dev.ringStopped (d : Dev) (r : Nat) : Dev :=
  if d.ringQuiet r && d.on dCORE && !d.ringRetained r then
    if d.ringState r = 3 || (d.ringState r = 2 && (d.ring r).resetAfter) then d.ringFlush r
    else if d.ringState r = 2 then d.wr (ringKey r 3) 0 else d
  else d

/-- A write of RING_CTRL breaks a state rule (order 5; 10 Table 10.1, R332). -/
def Dev.ringCtrlBlocked (d : Dev) (r v : Nat) : Bool :=
  let st := d.ringState r
  if v = 1 then st = 2 || st = 3 || st = 4 || (st = 0 && !d.bankOn (d.ringBank r))
  else v = 0 && st = 4

/-- The area rules of R328 for a ring that is to run. -/
def Dev.ringAreaOk (d : Dev) (r : Nat) : Bool :=
  let a := d.ringArea r
  a.1 + a.2 ≤ nBarges && bankOf a.1 == bankOf (a.1 + a.2 - 1)
    && (List.range 16).all (fun p => !overlap a.1 a.2 (d.poundBase p) (d.poundCount p))
    && ((d.ringsOver a.1 a.2).filter (· != r)).isEmpty

/-- The value of RING_CTRL is accepted (order 9; 10 R328, R331). -/
def Dev.ringCtrlOk (d : Dev) (r v : Nat) : Bool := v ≤ 2 && (v != 1 || d.ringState r == 1 || d.ringAreaOk r)

/-- The effect of a write of RING_CTRL (10 Table 10.1). -/
def Dev.ringCtrl (d : Dev) (r v : Nat) : Dev :=
  let st := d.ringState r
  if v = 1 then (if st = 0 then d.wr (ringKey r 3) 1 else d)
  else if v = 0 then (if st = 1 then d.wr (ringKey r 3) 2 else d)
  else match st with
    | 0 | 4 => d.ringReset r
    | 1 => (d.wr (ringKey r 3) 2).setRing r (fun x => { x with resetAfter := true })
    | 2 => d.setRing r (fun x => { x with resetAfter := true })
    | _ => d

/-- The answers DOORBELL can have (03 R116). -/
inductive BellRes where
  | ok (d : Dev)
  | off
  | abort (code : Nat)

/-- DOORBELL (03 R116, 10 R336, R337, 14 R497; log entry 99). -/
def Dev.doorbell (d : Dev) (r i : Nat) : BellRes :=
  if nRings ≤ r then .abort 0x0301
  else if d.ringState r != 1 && d.ringState r != 2 then .abort 0x0203
  else if d.brgRing r then .abort 0x0203
  else if !d.on dPM0 then .off
  else if isTxRing r then
    if sub16 (d.ringHost r) (d.ringDev r) ≤ sub16 i (d.ringDev r) && sub16 i (d.ringDev r) ≤ d.ringN r then
      .ok (d.wr (ringKey r 4) i)
    else .abort 0x0301
  else if sub16 (d.ringDev r) i ≤ sub16 (d.ringDev r) (d.ringHost r) then .ok (d.wr (ringKey r 4) i)
  else .abort 0x0301

/-! ### RX descriptors (10 R350, R351, R354) -/

/-- An RX ring has room for one more descriptor, those waiting counted (10 R338). -/
def Dev.rxRoom (d : Dev) (r : Nat) : Bool :=
  sub16 (d.ringDev r) (d.ringHost r) + (d.ring r).rxq.length < d.ringN r

/-- A frame for a ring that is not RUNNING or is full is dropped (10 R354). -/
def Dev.rxAccepts (d : Dev) (r : Nat) : Bool := d.ringState r == 1 && d.rxRoom r

/-- A frame for an RX or CAN RX ring: its barges handed to HOST and its descriptor queued, or dropped
(10 R351, R354). `num` is the reorder group and number it holds. Answers whether it was taken. -/
def Dev.deliverRx (d : Dev) (r : Nat) (desc : Oct) (bs : List Nat) (len : Nat) (num : Option (Nat × Nat) := none) :
    Bool × Dev :=
  if d.rxAccepts r then
    let d := d.handBarges bs .host len
    (true, d.setRing r (fun x => { x with rxq := x.rxq ++ [⟨desc, bs, num⟩] }))
  else (false, ((d.freeBarges bs).inc (ringKey r 10)).numDropped num)

/-- The ring engine writes the RX descriptor at the head (10 R340, R351). -/
def Dev.rxWrite (d : Dev) (r : Nat) : Dev :=
  match (d.ring r).rxq with
  | [] => d
  | w :: t =>
    if !d.locksClear w.barges then d
    else if d.ringState r = 3 || d.ringState r = 4 then
      (((d.setRing r (fun x => { x with rxq := t })).freeBarges w.barges).inc (ringKey r 10)).numDropped w.num
    else if !d.ringReach r then d
    else
      let poison := w.barges.any (fun b => (d.barge b).poison)
      let desc := if poison && !isCanRing r then patch w.desc 30 (leOct 2 (setBit (leAt w.desc 30 2) 11 true)) else w.desc
      let d := d.writeMem (d.slotAddr r (d.ringDev r)) desc
      let d := d.numWritten w.num (d.ringDev r)
      let n := (d.ringDev r + 1) % 65536
      let d := ((d.wr (ringKey r 5) n).wr (ringKey r 6) n).setRing r (fun x => { x with rxq := t })
      d.ringCount r false

/-- The RX descriptor of 10 Table 10.4. `flags` are octets 31-30 without DONE, TS_VALID and POISON. -/
def rxDesc (port len flags seq mark entry tags : Nat) (entryValid : Bool) (ts : Option (Nat × Nat))
    (bs : List Nat) : Oct :=
  let brg := (List.range 8).flatMap (fun k => leOct 2 (bs.getD k 0xFFFF))
  let t := ts.getD (0, 0)
  brg ++ leOct 4 t.1 ++ leOct 4 t.2 ++ leOct 2 (len + 16384 * port)
    ++ leOct 2 (entry + 1024 * tags + (if entryValid then 0x8000 else 0)) ++ [oct mark, oct seq]
    ++ leOct 2 (flags + 0x8000 + (if ts.isSome then 0x4000 else 0))

/-! ### Bank losses (10 R355, 19 R651) -/

/-- Every ring whose area lies in a bank that leaves ON for OFF becomes FAULTED. -/
def Dev.ringsFault (d : Dev) (p : Nat → Bool) (code : Nat) : Dev :=
  forEach ((List.range nRings).filter p) d (fun r d => d.ringFault r code)

/-- Every TX chain that holds a barge of a bank completes with code BANK (19 R651). -/
def Dev.chainsBank (d : Dev) (bk : Nat) : Dev :=
  forEach (List.range nRings) d (fun r d =>
    forEach ((d.ring r).chains.filter (fun c => c.code.isNone && c.barges.any (fun e => bankOf e.1 == bk))) d
      (fun c d => d.endChain r c.start 8))

/-- Every ring disabled with every object at its default (07 Table 7.2, 10 Resets). -/
def Dev.ringsOff (d : Dev) : Dev := { d with rings := List.replicate nRings Ring.idle }

end Sys2Proof.Machine
end

