-- ==== Sys2Proof/Machine/Mac.lean ====
section
/-!
DEFINITION. Frame handling common to all Ethernet ports (11): receive steps, errors, PAUSE, wake-listen, transmit
scheduling, checksum insertion, TSO.
-/
namespace Sys2Proof.Machine

/-! ### Objects of port `p` -/

/-- Object `s` of record 38x0h of port `p`. -/
def macKey (rec p s : Nat) : Nat := (rec + p) * 256 + s

def Dev.frameMax (d : Dev) (p : Nat) : Nat := d.rd (macKey 0x3800 p 2)
def Dev.wakeListen (d : Dev) (p : Nat) : Bool := d.rd (macKey 0x3800 p 5) == 1

/-- The port can send: its MAC is ON, its link is up, it is not in wake-listen (10 R349, 11 R392). -/
def Dev.canSend (d : Dev) (p : Nat) : Bool := d.on (macDom p) && d.linkUp p && !d.wakeListen p

/-- The rate of a port in Mb/s (12 R410: the trunk's resolved rate; 10 Mb/s on the others). -/
def Dev.portRate (d : Dev) (p : Nat) : Nat := if p = 0 && d.rd 0x300003 = 100 then 100 else 10

/-! ### PAUSE (11 R380-R389) -/

/-- A pending PAUSE frame replaces an earlier one that has not begun (11 R384). -/
def Dev.askPause (d : Dev) (p q : Nat) (auto : Bool) : Dev := d.setMac p (fun m => { m with pendPause := some (q, auto) })

/-- The automatic PAUSE frames of a port against its RX pound's POUND_FREE (11 R382). A port without link asks for none: what
R396 dropped stays dropped until the link is up, when POUND_FREE below PAUSE_XOFF counts as a fall (DEDUCED, log entry 77). -/
def Dev.pauseWatch (d : Dev) (p : Nat) : Dev :=
  let pd := d.rd (0x268001 + p)
  if p < 2 && d.on (macDom p) && d.linkUp p && d.flag (macKey 0x3820 p 1) 1 && d.poundState pd = 2 then
    let fr := d.poundFree pd
    if !(d.mac p).autoOn then
      if fr < d.rd (macKey 0x3820 p 3) then
        (d.askPause p (d.rd (macKey 0x3820 p 2)) true).setMac p (fun m => { m with autoOn := true, lastAuto := some d.ck })
      else d
    else if d.rd (macKey 0x3820 p 4) ≤ fr then
      (d.askPause p 0 true).setMac p (fun m => { m with autoOn := false, lastAuto := none })
    else d
  else d

/-- PAUSE_REFRESH after the last automatic frame while POUND_FREE stays below PAUSE_XON (11 R382). -/
def Dev.pauseRefresh (d : Dev) (p : Nat) : Dev :=
  match (d.mac p).lastAuto with
  | some t =>
    let pd := d.rd (0x268001 + p)
    if p < 2 && d.on (macDom p) && d.flag (macKey 0x3820 p 1) 1 && d.poundState pd = 2
        && d.poundFree pd < d.rd (macKey 0x3820 p 4) then
      let d := d.afterUs t (d.rd (macKey 0x3820 p 5))
      (d.askPause p (d.rd (macKey 0x3820 p 2)) true).setMac p (fun m => { m with lastAuto := some d.ck })
    else d
  | none => d

/-- The timer becomes zero without a break: the watchdog stops, the quiet time starts (11 R387, R388). -/
def Dev.pauseZero (d : Dev) (p : Nat) : Dev :=
  d.setMac p (fun m => { m with pauseEnd := none, wdSince := none, quietSince := some d.ck })

/-- A valid PAUSE frame with quanta `q` (11 R381, R387, R389). -/
def Dev.pauseReceived (d : Dev) (p q : Nat) : Dev :=
  if !d.flag (macKey 0x3820 p 1) 0 || (d.mac p).defeated then d
  else if q = 0 then (if (d.mac p).pauseEnd.isSome then d.pauseZero p else d)
  else
    let n := q * 512 * (if d.portRate p = 100 then 1 else 10)
    d.setMac p (fun m => { m with pauseEnd := some (d.ck + n), wdSince := some (m.wdSince.getD d.ck), quietSince := none })

/-- The pause timer counts down to zero (11 R381). -/
def Dev.pauseExpire (d : Dev) (p : Nat) : Dev :=
  match (d.mac p).pauseEnd with
  | some t => (d.advanceTo t).pauseZero p
  | none => d

/-- The watchdog reaches PAUSE_WD_LIMIT and breaks the pause (11 R387, R389). A timer that reaches zero by then stops the
measure first (in the very CK of the limit too: DEDUCED, log entry 77). -/
def Dev.pauseBreak (d : Dev) (p : Nat) : Dev :=
  match (d.mac p).wdSince with
  | some t =>
    if !d.on (macDom p) || (d.mac p).pauseEnd.all (fun e => e ≤ t + d.rd (macKey 0x3820 p 7) * ckPerUs) then d
    else
      let d := d.afterUs t (d.rd (macKey 0x3820 p 7))
      let n := min ((d.mac p).strikes + 1) 15
      let d := d.setMac p (fun m => { m with pauseEnd := none, wdSince := none, quietSince := some d.ck, strikes := n })
      let d := (d.inc (macKey 0x3820 p 0xB)).fire 60
      let lim := d.rd (macKey 0x3820 p 8)
      if lim ≠ 0 && lim ≤ n && !(d.mac p).defeated then (d.setMac p (fun m => { m with defeated := true })).fire 60 else d
  | none => d

/-- The timer has stayed zero for PAUSE_WD_LIMIT without a break (11 R388). -/
def Dev.strikeReset (d : Dev) (p : Nat) : Dev :=
  match (d.mac p).quietSince with
  | some t =>
    if d.on (macDom p) && (d.mac p).pauseEnd.isNone then
      (d.afterUs t (d.rd (macKey 0x3820 p 7))).setMac p (fun m => { m with strikes := 0, quietSince := none })
    else d
  | none => d

/-- PAUSE_STATUS (11 Table 11.5). -/
def Dev.pauseStatus (d : Dev) (p : Nat) : Nat :=
  let m := d.mac p
  b2n m.pauseEnd.isSome + 2 * b2n m.xoff + 4 * b2n m.defeated + 8 * b2n m.pendPause.isSome + 16 * min m.strikes 15

/-- PAUSE_REMAIN in microseconds. -/
def Dev.pauseRemain (d : Dev) (p : Nat) : Nat := (((d.mac p).pauseEnd.getD d.ck) - d.ck) / ckPerUs

/-- The octets of a PAUSE frame without FCS (11 R385). -/
def Dev.pauseFrame (d : Dev) (p q : Nat) : Oct :=
  padFrame ([0x01, 0x80, 0xC2, 0x00, 0x00, 0x01] ++ leOct 6 (d.rd (macKey 0x3820 p 0xD)) ++ beOct 2 0x8808 ++ beOct 2 1 ++ beOct 2 q)

/-! ### Receive (11 Table 11.1) -/

/-- The objects a frame of port `p` is received under: RX_CTRL, FRAME_MAX, ERR_RING, PM_ENABLE, WAKE_LISTEN, the perfect-match
addresses, the pralines and PRALINE_ENABLE (11 R362), and the port's RX_POUND (10 R357). -/
def rxSetting (p k : Nat) : Bool :=
  let s := k % 256
  (k / 256 == 0x3800 + p && 1 ≤ s && s ≤ 5) || (k / 256 == 0x3810 + p && 1 ≤ s) || k == 0x268001 + p
    || (k / 256 == 0x3850 && 1 ≤ s)

/-- A write is about to change an object: what a receive setting was before is kept. -/
def Dev.noteRx (d : Dev) (k : Nat) : Dev :=
  forEach (List.range 4) d (fun p d =>
    if rxSetting p k then d.setMac p (fun m => { m with was := (d.ck, k, d.rd k) :: m.was }) else d)

/-- The device with port `p`'s receive settings as they stood in the CK in which a frame's SFD was received, `ago` CK before
(11 R362); a write applied in that CK counts. -/
def Dev.atSfd (d : Dev) (p ago : Nat) : Dev :=
  forEach (d.mac p).was d (fun e d => if d.ck - ago < e.1 then d.wr e.2.1 e.2.2 else d)

/-- The address filter (11 R363). -/
def Dev.acceptAddr (d : Dev) (p : Nat) (l : Oct) : Bool :=
  let c := d.rd (macKey 0x3800 p 1)
  let da := l.take 6
  c.testBit 0
    || (List.range 8).any (fun k => d.flag (macKey 0x3800 p 4) k && leOct 6 (d.rd (macKey 0x3810 p (1 + k))) == da)
    || (isBcast l && c.testBit 2)
    || (isGroup l && !isBcast l && c.testBit 1)
    || (da == [0x01, 0x80, 0xC2, 0x00, 0x00, 0x01] && etherType l == 0x8808)

/-- The error flags of a frame, as bits of octets 31-30 of the RX descriptor (11 Table 11.2, R365). -/
def Dev.rxErrors (d : Dev) (p : Nat) (f : WireFrame) : Nat :=
  let n := f.octets.length
  let ok := fcsOk f.octets
  let part := f.partialOctet && p == 0
  32 * b2n (!ok && !part) + 16 * b2n (!ok && part) + 8 * b2n (n < 64) + 4 * b2n (d.frameMax p < n) + 2 * b2n f.symErr

/-- Error counters 6 to 10 (17 R612). -/
def Dev.countErrors (d : Dev) (p e : Nat) : Dev :=
  let d := if e.testBit 3 then d.cnt p 6 else d
  let d := if e.testBit 5 then d.cnt p 7 else d
  let d := if e.testBit 4 then d.cnt p 8 else d
  let d := if e.testBit 2 then d.cnt p 9 else d
  if e.testBit 1 then d.cnt p 10 else d

/-- Counters 0 to 4 of an error-free frame passed on (17 Table 17.2). -/
def Dev.countOk (d : Dev) (p : Nat) (l : Oct) (n : Nat) : Dev :=
  let d := (d.cnt p 0).cnt p 1 n
  d.cnt p (if isBcast l then 4 else if isGroup l then 3 else 2)

/-- A praline matches the octets of a frame before the FCS on port `p` (11 R393). -/
def pralineMatch (pr : Oct) (p : Nat) (l : Oct) : Bool :=
  (octAt pr 148).testBit p &&
    (List.range 128).all (fun j => !((octAt pr (128 + j / 8)).testBit (j % 8)) ||
      (leAt pr 146 2 + j < l.length && octAt l (leAt pr 146 2 + j) == octAt pr j))

/-- The lowest enabled praline that matches (11 R394). -/
def Dev.pralineHit (d : Dev) (p : Nat) (l : Oct) : Option Nat :=
  (List.range 16).find? (fun n => d.flag 0x385011 n && pralineMatch (leOct 256 (d.rd (0x385001 + n))) p l)

/-- An error-free frame in wake-listen, with the pralines of `c` (11 R362, R393, R394; 01 R17). -/
def Dev.wakeFrame (d c : Dev) (p : Nat) (l : Oct) : Dev :=
  if !d.on dCLS then d.engineOff (macDom p) [dCLS]
  else match c.pralineHit p l with
    | some n => (((d.inc (macKey 0x3800 p 6)).wr (macKey 0x3800 p 7) n).latch (2 + p)).fire (56 + p)
    | none => d

/-- The barges of a stored frame: allocated from the RX pound `pd` and written (10 R350, 11 R359). -/
def Dev.storeFrame (d : Dev) (p pd : Nat) (data : Oct) : Option (List Nat) × Dev :=
  match d.alloc pd .rxdma ((data.length + 255) / 256) with
  | (none, d) => (none, (d.inc (0x269001 + p)).cnt p 21)
  | (some bs, d) =>
    (some bs, forEach bs.zipIdx d (fun e d => d.writeMem (256 * e.1) ((data.drop (256 * e.2)).take 256)))

/-- The EtherType is the Towpath EtherType (11 Table 11.1 step 7). -/
def Dev.isTowFrame (d : Dev) (l : Oct) : Bool := etherType l == d.rd 0x600003

/-- A frame that reached step 6 with error flags, under the settings of `c` (11 R367). -/
def Dev.rxErrored (d c : Dev) (p e : Nat) (data : Oct) (trunc : Bool) (ts : Option (Nat × Nat)) : Dev :=
  if !c.flag (macKey 0x3800 p 1) 3 then d.cnt p 12
  else if !d.allOn [dCORE, dPM0] then d.engineOff (macDom p) [dCORE, dPM0]
  else match d.storeFrame p (c.rd (0x268001 + p)) data with
    | (none, d) => d
    | (some bs, d) =>
      let d := if trunc then d.cnt p 14 else d
      let desc := rxDesc p data.length (e + 1024 * b2n trunc) 0 0 0 (tagCount data) false ts bs
      let r := d.deliverRx (rxRing (c.rd (macKey 0x3800 p 3))) desc bs data.length
      r.2.cnt p (if r.1 then 13 else 22)

/-- A frame put into the arrival order: by the CK its FCS check ended, in one CK by port number (13 R446). -/
def arrive (f : RxFrame) : List RxFrame → List RxFrame
  | [] => [f]
  | x :: t => if x.at_ == f.at_ && f.port < x.port then f :: x :: t else x :: arrive f t

/-- A frame at step 8, under the settings of `c` (11 R368; 17 counter 19; 01 R17). -/
def Dev.rxToCls (d c : Dev) (p n : Nat) (data : Oct) (trunc : Bool) (ts : Option (Nat × Nat)) : Dev :=
  let d := d.countOk p data n
  let cs := c.flag (macKey 0x3800 p 1) 4
  let c3 := if cs then l3Csum data else 0
  let c4 := if cs then l4Csum data else 0
  let d := if c3 = 2 then d.cnt p 23 else d
  let d := if c4 = 2 then d.cnt p 24 else d
  if !d.on dCLS then (d.cnt p 19).engineOff (macDom p) [dCLS]
  else if !d.allOn [dCORE, dPM0] then d.engineOff (macDom p) [dCORE, dPM0]
  else match d.storeFrame p (c.rd (0x268001 + p)) data with
    | (none, d) => d
    | (some bs, d) =>
      let d := if trunc then d.cnt p 14 else d
      { d with cls := { d.cls with
          queue := arrive ⟨p, data, bs, 64 * c3 + 256 * c4 + 1024 * b2n trunc, ts, d.ck⟩ d.cls.queue } }

/-- A port can receive. -/
def Dev.canReceive (d : Dev) (p : Nat) : Bool := d.on (macDom p) && d.rd (portRunKey p) != 0 && d.linkUp p

/-- Loss of link, PORT_RUN 00h or the drain step of the MAC cuts the frame that is being received (19 R650). -/
def Dev.cutReceive (d : Dev) (p : Nat) : Dev := if d.canReceive p then d.setMac p (fun m => { m with cutAt := some d.ck }) else d

/-- A segment port just brought up. -/
def Seg.idle : Seg := ⟨none, false, false, List.replicate 32 none, 0, none, false, none, none, 0, none⟩

/-- Segment port `p`, 2 or 3. -/
def Dev.seg (d : Dev) (p : Nat) : Seg := d.segs.getD (p - 2) Seg.idle

/-- The device with segment port `p` changed. -/
def Dev.setSeg (d : Dev) (p : Nat) (f : Seg → Seg) : Dev := { d with segs := updAt d.segs (p - 2) f }

/-- A carrier ends on a segment: the opportunity the count has come to begins no earlier (12 R428). -/
def Dev.carrierEnd (d : Dev) (p : Nat) : Dev :=
  if 2 ≤ p then d.setSeg p (fun s => { s with countAt := if s.count.isSome then d.ck else s.countAt }) else d

/-- The frame in reception when it was cut, whatever its length: discarded and counted in RX_FRAGMENTS (19 R650). -/
def Dev.rxCut (d : Dev) (p : Nat) : Dev :=
  let d := d.setMac p (fun m => { m with cutAt := none })
  if d.on dTIME then d.cntRaise p 5 1 else d

/-- A received frame passes the steps of 11 Table 11.1 in order, with the settings as they stood at its SFD (R362). -/
def Dev.rxFrame (d : Dev) (p : Nat) (f : WireFrame) : Dev :=
  if (d.mac p).cutAt.any (fun t => d.ck - f.sfdAgo < t) then d.rxCut p
  else if !d.canReceive p then d
  else
    let c := d.atSfd p f.sfdAgo
    let d := (d.carrierEnd p).setMac p (fun m => { m with was := [] })
    let n := f.octets.length
    let d := if p = 0 then { d with gov := { d.gov with rxOct := d.gov.rxOct + n + 20 } } else d
    if f.cut || n < 18 then d.cnt p 5
    else
      let e := c.rxErrors p f
      let d := d.countErrors p e
      let l := f.octets.take (n - 4)
      let data := l.take 2048
      let trunc := 2048 < l.length
      let ts := d.rxStamp p f.sfdAgo
      if !c.acceptAddr p l then d.cnt p 11
      else if etherType l = 0x8808 then
        if p < 2 && e = 0 && beAt l 12 2 = 0x8808 && beAt l 14 2 = 1
            && (l.take 6 == [0x01, 0x80, 0xC2, 0x00, 0x00, 0x01] ||
              (List.range 8).any (fun k => c.flag (macKey 0x3800 p 4) k && leOct 6 (c.rd (macKey 0x3810 p (1 + k))) == l.take 6)) then
          (d.cnt p 15).pauseReceived p (beAt l 16 2)
        else d.cnt p 16
      else if c.wakeListen p then
        let d := d.cnt p 17
        if e = 0 then d.wakeFrame c p l else d
      else if e ≠ 0 then d.rxErrored c p e data trunc ts
      else if d.isTowFrame l then
        let d := d.cnt p 18
        if d.on dTOW && d.rd 0x600001 = 1 && d.flag 0x600004 p then
          let d := d.countOk p l n
          { d with tow := { d.tow with inbox := d.tow.inbox ++ [(p, l)] } }
        else d
      else d.rxToCls c p n data trunc ts

/-! ### Segment ports: the transmit opportunity (12 R428, R437) -/

/-- Object `s` of record 32xxh of segment port `p`. -/
def segKey (rec p s : Nat) : Nat := (rec + 0x100 * (p - 2)) * 256 + s

def Dev.plcaId (d : Dev) (p : Nat) : Nat := d.rd (segKey 0x3210 p 2)

/-- PLCA runs on the port (12 R428). -/
def Dev.plcaOn (d : Dev) (p : Nat) : Bool :=
  d.on (macDom p) && d.rd (portRunKey p) == 1 && d.rd (segKey 0x3210 p 1) == 1

/-- The port sends by PLCA: only in its own transmit opportunity (12 R428, R437). -/
def Dev.plcaSends (d : Dev) (p : Nat) : Bool := 2 ≤ p && d.plcaOn p && d.linkState p == 3

/-- The MAC may put a frame on the wire: a port that sends by PLCA is in its own opportunity. -/
def Dev.mayStart (d : Dev) (p : Nat) : Bool := !d.plcaSends p || (d.seg p).opp.isSome

/-- A frame sent in an opportunity: PLCA_BURST_MAX further ones may follow, each within PLCA_BURST_TIMER (12 R428, Clause 148).
An opportunity in which no further frame may be sent is over. -/
def Dev.oppSent (d : Dev) (p : Nat) : Dev :=
  if 2 ≤ p then
    d.setSeg p (fun s => { s with opp := s.opp.bind (fun o =>
      if o.1 < d.rd (segKey 0x3210 p 5) then some (o.1 + 1, d.ck) else none), countAt := if s.opp.isSome then d.ck else s.countAt })
  else d

/-- An idle MAC whose burst timer has run out has left its opportunity. -/
def Dev.oppWatch (d : Dev) (p : Nat) : Dev :=
  if 2 ≤ p && (d.mac p).cur = .idle then
    d.setSeg p (fun s => { s with opp := s.opp.filter (fun o => d.ck ≤ o.2 + 10 * d.rd (segKey 0x3210 p 6)) })
  else d

/-- The own opportunity is over, and the next node's begins. -/
def Dev.oppEnd (d : Dev) (p : Nat) : Dev :=
  if 2 ≤ p then d.setSeg p (fun s => { s with opp := none, countAt := if s.opp.isSome then d.ck else s.countAt }) else d

/-! ### Transmit -/

/-- The headers' length H of a TSO chain (11, TSO and UDP segmentation). -/
def tsoH (c : Oct) : Nat := tsoL4 c + tsoL4Len c

/-- The conditions of R374 on a TSO chain that its context descriptor `c` and the length of its first data descriptor show. -/
def tsoContextBad (enabled : Bool) (c : Oct) (firstLen : Nat) : Bool :=
  let h := tsoH c
  let kind := tsoKind c
  !enabled || 256 < h || firstLen < h || tsoMss c == 0 || tsoTotal c ≤ h || kind == 0 || 4 < kind
    || ((kind == 2 || kind == 4) && tsoL4 c < tsoL3 c + 40)
    || ((kind == 1 || kind == 2) && (tsoL4Len c % 4 != 0 || tsoL4Len c < 20 || 60 < tsoL4Len c))
    || ((kind == 3 || kind == 4) && tsoL4Len c != 8)

/-- The conditions of R374 that the chain's first H octets `hd` show. -/
def tsoHeaderBad (c hd : Oct) : Bool :=
  let kind := tsoKind c
  let v4 := kind == 1 || kind == 3
  let o := tsoL3 c
  octAt hd o / 16 != (if v4 then 4 else 6)
    || (v4 && (octAt hd o % 16 * 4 + o != tsoL4 c || beAt hd (o + 6) 2 % 0x4000 != 0
        || octAt hd (o + 9) != (if kind == 1 then 6 else 17)))
    || ((kind == 1 || kind == 2) && octAt hd (tsoL4 c + 12) / 16 * 4 != tsoL4Len c)

/-- The codes that a chain gets before any lock cycle (10 R345, 11 R370, R374). Of a TSO chain the first H octets are read, all in
its first barge; headers with an uncorrectable word cannot be replicated (10 Table 10.5). Where the bank of that barge is not ON
the conditions on the headers stay open and the chain goes on to OWNER (log entry 41). -/
def Dev.earlyCode (d : Dev) (p : Nat) (ds : List Oct) : Option Nat × Dev :=
  if chainFormatBad (2 ≤ p) ds then (some 1, d)
  else match ds with
    | [] => (some 1, d)
    | c :: t =>
      if dIsTso c then
        let x := t.headD []
        let h := tsoH c
        let bs := (dBarges x).take 1
        if tsoContextBad (d.rd (macKey 0x3830 p 1) == 1) c (dLen x) then (some 9, d)
        else if !bs.all (fun e => d.bankOn (bankOf e.1)) then (none, d)
        else
          let a := d.readPlaces (slicePlaces (bs.map (fun e => (256 * e.1, e.2.1))) 0 h)
          (if !a.2.1.isEmpty || tsoHeaderBad c a.1 then some 9
           else if d.frameMax p < h + tsoMss c + 4 then some 4 else none, a.2.2)
      else (if d.frameMax p < (ds.map dLen).foldl (· + ·) 0 + 4 then some 4 else none, d)

/-- The number of segments of a TSO chain. -/
def tsoCount (c : Oct) : Nat := let m := tsoMss c; if m = 0 then 0 else (tsoTotal c - tsoH c + m - 1) / m

/-- The domains an engine needs to send a fetched chain: CORE, PM0 and the banks of its barges (01 Table 1.2). -/
def chainNeeds (c : Chain) : List Nat := [dCORE, dPM0] ++ (c.barges.map (fun e => bankDom (bankOf e.1))).eraseDups

/-- What ring `r` offers the MAC: a chain it has fetched and not finished, other than the one that starts at `cur` and ends with
the frame being sent, else the next chain it can fetch (10 R344, 11 R378, R379; 19 R652 for a ring no longer running). -/
def Dev.ringOffer (d : Dev) (r : Nat) (cur : Option Nat := none) : Option TxSel :=
  match (d.ring r).chains.find? (fun c => c.code.isNone && cur != some c.start) with
  | some c => if d.allOn (chainNeeds c) then some (.chain r c.start) else none
  | none => if d.ringState r = 1 && d.ringReach r && (d.nextChain r).isSome then some (.ring r) else none

/-- The chain of ring `r` that ends with the frame MAC `p` is sending: no segment of it follows. -/
def Dev.endingChain (d : Dev) (p r : Nat) : Option Nat :=
  match (d.mac p).cur with
  | .chain r' s =>
    if r' = r then (d.chainOf r s).bind (fun c =>
      let x := c.descs.headD []
      if dIsTso x && c.segments + 1 < tsoCount x then none else some s)
    else none
  | _ => none

/-- The order in which a port's sources are looked at: ring 7 down to ring 0, the Towpath queue (without the frame being sent)
below ring TOW_TX_LEVEL + 1 (11 R378). -/
def Dev.txOrder (d : Dev) (p : Nat) : List TxSel :=
  let lvl := d.rd (macKey 0x3840 p 1)
  let waits := if (d.mac p).cur = .tow then 1 else 0
  (List.range 8).reverse.flatMap (fun r =>
    (if r = lvl && waits < (d.mac p).towq.length then [TxSel.tow] else [])
      ++ (d.ringOffer (p * 8 + r) (d.endingChain p (p * 8 + r))).toList)

/-- What a MAC would select now (11 R378); nothing at all during a rate step (12 R417). -/
def Dev.txChoose (d : Dev) (p : Nat) : TxSel :=
  if !d.canSend p || (p == 0 && d.gov.step.isSome) then .idle
  else match (d.mac p).pendPause with
    | some (q, a) => .pause q a
    | none => if (d.mac p).pauseEnd.isSome then .idle else (d.txOrder p).headD .idle

/-- What was selected begins: a PAUSE frame is then no longer pending (11 R384). -/
def Mac.begin (m : Mac) (s : TxSel) : Mac :=
  match s with
  | .pause _ _ =>
    match m.pendPause with
    | some (q, a) => { m with cur := .pause q a, nxt := .idle, attempts := 0, pendPause := none }
    | none => { m with cur := .idle, nxt := .idle, attempts := 0 }
  | s => { m with cur := s, nxt := .idle, attempts := 0 }

/-- The frame on the wire is done: what the MAC selected at its last octet follows, but nothing in wake-listen (11 R392). -/
def Dev.txNext (d : Dev) (p : Nat) : Dev := d.setMac p (fun m => m.begin (if d.wakeListen p then .idle else m.nxt))

/-- A chain is on the wire: its barges have reached TXDMA. -/
def Dev.sending (d : Dev) (p : Nat) : Bool :=
  match (d.mac p).cur with
  | .pause _ _ => true
  | .tow => (d.mac p).towq.head?.all (fun f => d.locksClear f.barges)
  | .chain r s => (d.chainOf r s).any (fun c => c.code.isNone && d.locksClear (c.barges.map (·.1)))
  | _ => false

/-- The selected frame is on the wire. -/
def Dev.onWire (d : Dev) (p : Nat) : Bool := d.sending p && (d.mac p).backoff.isNone && d.mayStart p && !(d.mac p).hold

/-- WAKE_LISTEN changes to `v`: a selected frame not yet on the wire does not begin while it reads 01h (11 R392). -/
def Dev.wakeHold (d : Dev) (p v : Nat) : Dev :=
  let b := v == 1 && (d.mac p).cur != .idle && !d.onWire p
  d.setMac p (fun m => { m with hold := b })

/-- A MAC selects: an idle one what it sends now, one whose frame begins its last octet what it sends next (11 R378). -/
def Dev.txSelect (d : Dev) (p : Nat) : Dev :=
  let d := d.oppWatch p
  if (d.mac p).cur = .idle then let s := d.txChoose p; d.setMac p (fun m => m.begin s)
  else if (d.mac p).nxt = .idle && (d.mac p).backoff.isNone && d.sending p then
    let s := d.txChoose p
    d.setMac p (fun m => { m with nxt := s })
  else d

/-- The device with MAC `p`'s selection `s`, current or next, replaced. -/
def Dev.setSel (d : Dev) (p : Nat) (s t : TxSel) : Dev :=
  d.setMac p (fun m => if m.cur = s then { m with cur := t } else if m.nxt = s then { m with nxt := t } else m)

/-- The ring engine fetches the chain of an Ethernet ring that its MAC has selected (10 R346, R349; 01 R17). -/
def Dev.macFetch (d : Dev) (r : Nat) (ss : List Strike) : Dev :=
  let p := r / 8
  if (d.mac p).cur != .ring r && (d.mac p).nxt != .ring r then d
  else if d.ringState r = 1 && d.ringReach r && d.canSend p then
    let x := d.ringFetch r
    let d := d.fetchChain r ss (fun d ds => d.earlyCode p ds)
    match d.chainOf r x with
    | some c => d.setSel p (.ring r) (if c.code.isNone then .chain r x else .idle)
    | none => d.setSel p (.ring r) .idle
  else
    let need := [dCORE, dPM0, bankDom (d.ringBank r)]
    let d := if d.ringState r = 1 && !d.allOn need then d.engineOff (macDom p) need else d
    d.setSel p (.ring r) .idle

/-- The frame with the checksums that CSUM_L3 and CSUM_L4 ask for, and whether one was skipped (11 R371-R373). -/
def insertCsums (last : Oct) (l : Oct) : Oct × Bool :=
  let fl := dFlags last
  let o := octAt last 16
  let t := octAt last 17
  let a := if fl.testBit 9 then (if ip4HeaderOk l o then (insertL3 l o, false) else (l, true)) else (l, false)
  if fl.testBit 8 then
    match frameTransport a.1 with
    | some (p, t', len, ph) => if t' = t then (insertL4 a.1 p t len ph, a.2) else (a.1, true)
    | none => (a.1, true)
  else a

/-- The PTP header's offset when the frame is a one-step Sync (17 R601). -/
def oneStepAt (last : Oct) (l : Oct) : Option Nat :=
  let o := octAt last 16
  let t := octAt last 17
  let h :=
    if t = 0 then (if etherType l = 0x88F7 then some (etOffset l + 2) else none)
    else if octAt l o / 16 = 4 && octAt l (o + 9) = 17 && beAt l (t + 2) 2 = 319 then some (t + 8) else none
  match h with
  | some h => if octAt l h % 16 = 0 && !(octAt l (h + 6)).testBit 1 && h + 44 ≤ l.length then some h else none
  | none => none

/-- The egress timestamp written into a one-step Sync (17 R602). -/
def oneStepWrite (last : Oct) (l : Oct) (h : Nat) (ts : Nat × Nat) : Oct :=
  let l := patch (patch l (h + 34) (beOct 6 ts.1)) (h + 40) (beOct 4 ts.2)
  if octAt last 17 = 0 then l else patch l (octAt last 17 + 6) (zeros 2)

/-- The governor's count of a frame of `n` octets sent (12 R415). -/
def Dev.govSent (d : Dev) (p n : Nat) : Dev :=
  if p = 0 then { d with gov := { d.gov with txOct := d.gov.txOct + n + 20 } } else d

/-- Counters 25 to 29 of a frame sent, and the governor's octets (17 Table 17.2, 12 R415). -/
def Dev.countTx (d : Dev) (p : Nat) (l : Oct) : Dev :=
  let n := l.length + 4
  let d := ((d.govSent p n).cnt p 25).cnt p 26 n
  (d.cnt p (if isBcast l then 29 else if isGroup l then 28 else 27)).setMac p (fun m => { m with lastTx := l ++ fcsOf l })

/-- Segment `k` of a TSO chain: its octets (11 R375, Table 11.3) from the chain's first H octets `l` and the segment's
payload. -/
def tsoSegment (c l pay : Oct) (k : Nat) : Oct :=
  let h := tsoH c
  let mss := tsoMss c
  let n := tsoCount c
  let o := tsoL3 c
  let t := tsoL4 c
  let v4 := tsoKind c == 1 || tsoKind c == 3
  let s := l ++ pay
  let s := if v4 then
      insertL3 (patch (patch s (o + 2) (beOct 2 (h - o + pay.length))) (o + 4) (beOct 2 ((beAt l (o + 4) 2 + k) % 65536))) o
    else patch s (o + 4) (beOct 2 (h - o - 40 + pay.length))
  let p := if tsoKind c ≤ 2 then 6 else 17
  let s := if p = 6 then
      let fl := octAt l (t + 13)
      let fl := if k + 1 = n then fl else setBit (setBit fl 0 false) 3 false
      let fl := if k = 0 then fl else setBit fl 7 false
      patch (patch s (t + 4) (beOct 4 ((beAt l (t + 4) 4 + k * mss) % 2 ^ 32))) (t + 13) [oct fl]
    else patch s (t + 4) (beOct 2 (8 + pay.length))
  let len := s.length - t
  let ph := if v4 then sub s (o + 12) 8 ++ beOct 2 p ++ beOct 2 len else sub s (o + 8) 32 ++ beOct 4 len ++ beOct 4 p
  insertL4 s p t len ph

/-- The places of a chain's barges, address and valid length. -/
def chainPlaces (bs : List (Nat × Nat × Bool)) : List (Nat × Nat) := bs.map (fun e => (256 * e.1, e.2.1))

/-- How many octets read from places come before the first that lies in a failed word. -/
def readBefore (ps : List (Nat × Nat)) (failed : List Nat) : Nat :=
  (ps.flatMap (fun e => (List.range e.2).map (e.1 + ·))).findIdx (fun a => failed.contains (a / 8 * 8))

/-- A frame cut after the octets `sent`: the ones' complement of their FCS ends it on the wire (19 R649). -/
def Dev.cutFrame (d : Dev) (p : Nat) (sent : Oct) : Dev :=
  d.setMac p (fun m => { m with lastTx := sent ++ (fcsOf sent).map (fun b => ~~~b) })

/-- The chain's frame meets an uncorrectable word: it is cut after the octets read before it, the chain completes with POISON
(19 R649; log entry 91). -/
def Dev.cutChain (d : Dev) (p r start att : Nat) (sent : Oct) : Dev :=
  ((((d.cutFrame p sent).setChain r start (fun c => { c with attempts := att })).endChain r start 3).oppSent p).txNext p

/-- TSO_SCRATCH of port `p`. -/
def Dev.tsoScratch (d : Dev) (p : Nat) : Nat := d.rd (macKey 0x3830 p 2)

/-- The H header octets of a TSO chain: before the first segment copied from the chain's first octets into TSO_SCRATCH, from
where every segment takes them (11 R375, R376). -/
def Dev.tsoHeaders (d : Dev) (p : Nat) (c : Chain) : Oct × List Nat × Dev :=
  let h := tsoH (c.descs.headD [])
  let sc := 256 * d.tsoScratch p
  if c.segments = 0 then
    let a := d.readPlaces (slicePlaces (chainPlaces c.barges) 0 h)
    if a.2.1.isEmpty then (a.2.2.writeMem sc a.1).readMem sc h [] else a
  else d.readMem sc h []

/-- A segment of a TSO chain has been sent (11 R375-R379). -/
def Dev.sendSegment (d : Dev) (p r : Nat) (c : Chain) : Dev :=
  let x := c.descs.headD []
  let h := tsoH x
  let k := c.segments
  let off := h + k * tsoMss x
  let hd := d.tsoHeaders p c
  let ps := slicePlaces (chainPlaces c.barges) off (min (tsoMss x) (tsoTotal x - off))
  let a := hd.2.2.readPlaces ps
  let d := a.2.2
  let att := (d.mac p).attempts + 1
  if !hd.2.1.isEmpty || !a.2.1.isEmpty then
    let hp := if k = 0 then slicePlaces (chainPlaces c.barges) 0 h else [(256 * d.tsoScratch p, h)]
    let n := if hd.2.1.isEmpty then h + readBefore ps a.2.1 else readBefore hp hd.2.1
    d.cutChain p r c.start att ((tsoSegment x hd.1 a.1 k).take n)
  else
    let d := (d.countTx p (padFrame (tsoSegment x hd.1 a.1 k))).cnt p 32
    let d := d.setChain r c.start (fun c => { c with segments := k + 1, attempts := att })
    (if k + 1 = tsoCount x then d.endChain r c.start 0 else d).txNext p

/-- The frame of a chain that is no TSO chain has been sent (10 R347, 11 R369-R373, 17 R599-R603). -/
def Dev.sendWhole (d : Dev) (p r : Nat) (c : Chain) (sfdAgo : Nat) : Dev :=
  let a := d.readPlaces (chainPlaces c.barges)
  let d := a.2.2
  let att := (d.mac p).attempts + 1
  let last := c.descs.getLastD []
  let sum := insertCsums last a.1
  if !a.2.1.isEmpty then d.cutChain p r c.start att (sum.1.take (readBefore (chainPlaces c.barges) a.2.1))
  else
    let ts := if c.descs.any dTsReq then d.txStamp p sfdAgo else none
    let one := d.flag (0x701003 + 256 * p) (r % 8) && c.descs.any dTsReq && d.on dTIME
    let hd := if one then oneStepAt last a.1 else none
    let l := match hd, ts with
      | some h, some t => oneStepWrite last sum.1 h t
      | _, _ => sum.1
    let d := if one && hd.isNone then d.inc (0x701004 + 256 * p) else d
    let d := if sum.2 then d.inc (macKey 0x3840 p 2) else d
    let d := d.countTx p (padFrame l)
    (((d.setChain r c.start (fun c => { c with attempts := att, ts := ts })).endChain r c.start 0).oppSent p).txNext p

/-- A frame of a chain has been sent, or found an uncorrectable word (10 R347, 19 R649). A chain waits for its lock cycles, and
for the scratch barge's; a domain it needs that is not ON stops the attempt (01 R16, R17); a scratch barge whose bank is not ON
counts as a barge of the chain in that bank (19 R651; log entry 77). -/
def Dev.sendChain (d : Dev) (p r start sfdAgo : Nat) : Dev :=
  match d.chainOf r start with
  | none => d.txNext p
  | some c =>
    let tso := dIsTso (c.descs.headD [])
    let sc := if tso then [d.tsoScratch p] else []
    if c.code.isSome then d.txNext p
    else if !d.locksClear (sc ++ c.barges.map (·.1)) then d
    else if !d.allOn (chainNeeds c) then (d.engineOff (macDom p) (chainNeeds c)).setMac p (fun m => { m with cur := .idle, nxt := .idle })
    else if !sc.all (fun b => d.bankOn (bankOf b)) then (d.endChain r start 8).txNext p
    else if tso then d.sendSegment p r c
    else d.sendWhole p r c sfdAgo

/-- The places of a frame of `len` octets in its barges. -/
def framePlaces (bs : List Nat) (len : Nat) : List (Nat × Nat) := bs.zipIdx.map (fun e => (256 * e.1, bufLen len e.2))

/-- The frame at the head of the Towpath queue leaves it, and its barges are freed if they are its own. -/
def Dev.towTxGone (d : Dev) (p : Nat) (f : TowTx) : Dev :=
  let d := d.setMac p (fun m => { m with towq := m.towq.drop 1 })
  if f.own then d.freeBarges f.barges else d

/-- The Towpath frame at the head of the queue has been sent as its barges hold it (15 R532), or found an uncorrectable word and
was cut (19 R649). One with a poisoned barge, or in a bank that is not ON, is not sent (09 R312; 01 R17). -/
def Dev.sendTowTx (d : Dev) (p : Nat) : Dev :=
  match (d.mac p).towq with
  | [] => d.txNext p
  | f :: _ =>
    let need := dPM0 :: (f.barges.map (fun b => bankDom (bankOf b))).eraseDups
    if !d.locksClear f.barges then d
    else if !d.allOn need then ((d.engineOff (macDom p) need).towTxGone p f).txNext p
    else if f.barges.any (fun b => (d.barge b).poison) then (d.towTxGone p f).txNext p
    else
      let ps := framePlaces f.barges f.len
      let a := d.readPlaces ps
      let d := if a.2.1.isEmpty then a.2.2.countTx p (padFrame a.1) else a.2.2.cutFrame p (a.1.take (readBefore ps a.2.1))
      ((d.towTxGone p f).oppSent p).txNext p

/-- A frame ends its transmission, `sfdAgo` CK after its timestamp point (10 R347, 11 R382-R385, 17 R597); a port that sends by
PLCA sends only in its own opportunity (12 R437). -/
def Dev.txDone (d : Dev) (p : Nat) (deferred : Bool) (ss : List Strike) (sfdAgo : Nat) : Dev :=
  if !d.on (macDom p) || (d.mac p).backoff.isSome || !d.mayStart p || (d.mac p).hold then d
  else match (d.mac p).cur with
    | .idle => d
    | .ring _ => d
    | .pause q auto =>
      let l := d.pauseFrame p q
      let d := (d.govSent p (l.length + 4)).cnt p 30
      (d.setMac p (fun m => { m with lastTx := l ++ fcsOf l, xoff := if auto then q != 0 else m.xoff })).txNext p
    | .chain r s =>
      (if deferred && 2 ≤ p && (d.mac p).attempts = 0 && d.sending p then d.cnt p 36 else d).strike ss |>.sendChain p r s sfdAgo
    | .tow => ((if deferred && 2 ≤ p && (d.mac p).attempts = 0 && d.sending p then d.cnt p 36 else d).strike ss).sendTowTx p

/-- A frame put into the Towpath transmit queue of a port. -/
def Dev.queueTow (d : Dev) (p len : Nat) (bs : List Nat) (own : Bool) (peer : Nat) : Dev :=
  d.setMac p (fun m => { m with towq := m.towq ++ [⟨len, bs, own, peer⟩] })

/-! ### Link loss (10 R349, 11 R396, 19 R650) -/

/-- The attempts made for a chain when the link is lost: those that ended, and the one under way. -/
def Dev.attemptsMade (d : Dev) (p r : Nat) (c : Chain) : Nat :=
  let m := d.mac p
  if m.cur = .chain r c.start then
    m.attempts + b2n (m.backoff.isNone && d.locksClear (c.barges.map (·.1)))
  else c.attempts

/-- Chains already fetched complete with LINK. -/
def Dev.chainsLost (d : Dev) (p : Nat) : Dev :=
  forEach (List.range 8) d (fun r d =>
    forEach ((d.ring (p * 8 + r)).chains.filter (·.code.isNone)) d (fun c d =>
      (d.setChain (p * 8 + r) c.start (fun c => { c with attempts := d.attemptsMade p (p * 8 + r) c })).endChain
        (p * 8 + r) c.start 5))

/-- The frame being sent is cut, PAUSE state goes. -/
def Dev.macLost (d : Dev) (p : Nat) : Dev :=
  d.setMac p (fun m => { m with
    cur := .idle, nxt := .idle, backoff := none, attempts := 0, hold := false, pauseEnd := none, wdSince := none,
    strikes := 0, quietSince := none, xoff := false, autoOn := false, pendPause := none, lastAuto := none })

/-- A port loses its link. -/
def Dev.linkLost (d : Dev) (p : Nat) : Dev := (d.chainsLost p).macLost p

/-- A rate step has drained the trunk MAC: the loss of link that it brings about cuts no chain (12 R417). -/
def Dev.stepDrops (d : Dev) (p : Nat) : Bool := p == 0 && d.gov.step.any (·.drained)

/-- The governor begins a new window, on channel 3's clock, and its dwell counts start at zero (12 R416, R420, R421; 17 R610). -/
def Dev.govRestart (d : Dev) : Dev :=
  { d with gov := { d.gov with downRun := 0, upRun := 0, txOct := 0, rxOct := 0, winStart := d.tm.clock } }

/-- A change of LINK_STATE (12 R402). -/
def Dev.setLink (d : Dev) (p v : Nat) : Dev :=
  if d.linkState p = v then d
  else
    let was := d.linkUp p
    let d := if v = 3 || (2 ≤ p && (v = 2 || v = 5)) then d else d.cutReceive p
    let d := ((d.wr (0x300002 + 0x10000 * p) v).inc (0x300004 + 0x10000 * p)).fire (56 + p)
    let d := if v = 3 then (if p = 0 then d else d.wr (0x300003 + 0x10000 * p) 10) else d.wr (0x300003 + 0x10000 * p) 0
    let d := if p = 0 then d.govRestart else d
    if was && !d.linkUp p then (if d.stepDrops p then d.macLost p else d.linkLost p) else d

/-! ### Dictionary hooks (11) -/

/-- TSO_ENABLE 01h is refused: the scratch barge is no unpooled HOST barge, or lies in a ring's area (11 R376). -/
def Dev.tsoBlocked (d : Dev) (p : Nat) : Bool :=
  let b := d.rd (macKey 0x3830 p 2)
  !d.bankOn (bankOf b) || (d.barge b).owner != .host || d.lockBusy b || d.pooled b || !(d.ringsOver b 1).isEmpty

/-- Order 5 rules of 11: R376, R390, R392. -/
def Dev.macState (d : Dev) (k v : Nat) : Bool :=
  let idx := k / 256
  let p := idx % 16
  if idx / 16 = 0x380 then k % 256 = 5 && v = 1 && !d.on dCLS
  else if idx / 16 = 0x383 then
    if k % 256 = 1 then v = 1 && d.rd k = 0 && d.tsoBlocked p
    else k % 256 = 2 && (d.rd (macKey 0x3830 p 1) = 1 || (d.mac p).tsoOff)
  else if idx = 0x3850 then k % 256 < 17 && 1 ≤ k % 256 && d.flag 0x385011 (k % 256 - 1)
  else false

/-- A praline record whose check value and offset are in order (11 R391). -/
def pralineOk (pr : Oct) : Bool :=
  let sel := (List.range 128).filter (fun j => (octAt pr (128 + j / 8)).testBit (j % 8))
  leAt pr 146 2 ≤ 384 && crc16 (sel.map (fun j => pr.getD j 0)) == leAt pr 144 2

/-- Order 9 rules of 11: R386, R390 (reserved fields), R391, R397. -/
def Dev.macValue (d : Dev) (k v : Nat) : Bool :=
  let idx := k / 256
  let p := idx % 16
  if idx / 16 = 0x380 then (match k % 256 with
    | 1 => v < 32
    | 6 => v == 0
    | _ => true)
  else if idx / 16 = 0x382 then (match k % 256 with
    | 1 => v < 4
    | 3 => v ≤ d.rd (macKey 0x3820 p 4)
    | 4 => d.rd (macKey 0x3820 p 3) ≤ v
    | 0xA => v == 1
    | 0xB => v == 0
    | _ => true)
  else if idx / 16 = 0x384 then k % 256 ≠ 2 || v = 0
  else if k = 0x385011 then
    (List.range 16).all (fun n => !v.testBit n || d.flag 0x385011 n || pralineOk (leOct 256 (d.rd (0x385001 + n))))
  else if idx = 0x3850 && 1 ≤ k % 256 && k % 256 ≤ 16 then
    (let o := leOct 256 v; octAt o 148 < 16 && (o.drop 149).all (· == 0))
  else true

/-- The claims a write of PRALINE_ENABLE wants (20 Table 20.1). -/
def pralineClaims (v : Nat) : List Claim :=
  ((List.range 16).filter (fun n => v.testBit n)).flatMap (fun n => [⟨1, 2 * n, 1, n⟩, ⟨1, 2 * n + 1, 1, n⟩])

/-- The scratch barge of TSO returns to HOST with L = 0, unless it went with its bank (11 R376, 20 R668). -/
def Dev.tsoReturn (d : Dev) (p : Nat) : Dev :=
  if d.ownerAfter (d.tsoScratch p) = .txdma then d.requestLock (d.tsoScratch p) .host 0 else d

/-- The scratch barge returns once the TSO chains in progress have completed, their completions written (11 R376, 10 R348). -/
def Dev.tsoRelease (d : Dev) (p : Nat) : Dev :=
  let busy := (List.range 8).any (fun r => (d.ring (p * 8 + r)).chains.any (fun c => dIsTso (c.descs.headD [])))
  if (d.mac p).tsoOff && !busy then (d.tsoReturn p).setMac p (fun m => { m with tsoOff := false }) else d

/-- The scratch barge of port `p` is on its way back to HOST. -/
def Dev.tsoHeld (d : Dev) (p b : Nat) : Bool := (d.mac p).tsoOff || d.lockBusy b

/-- The scratch barge is back with HOST: its claim ends (20 R666, R668). -/
def Dev.tsoUnclaim (d : Dev) (p : Nat) : Dev :=
  match d.claims.find? (fun c => c.holder == 7 && c.inst == p) with
  | some c =>
    if (d.rd (macKey 0x3830 p 1) = 0 || (d.dom (macDom p)).st == .off) && !d.tsoHeld p c.num then
      d.dropClaims (fun c => c.holder == 7 && c.inst == p)
    else d
  | none => d

/-- The effect of a write of an object of 11 (R376, R383, R389, R391, R392). -/
def Dev.macEffect (d : Dev) (ini k v : Nat) : WRes :=
  let idx := k / 256
  let p := idx % 16
  if idx / 16 = 0x382 && k % 256 = 6 then .ok (d.askPause p v false)
  else if idx / 16 = 0x382 && k % 256 = 0xA then
    .ok (d.setMac p (fun m => { m with defeated := false, strikes := 0 }))
  else if idx / 16 = 0x383 && k % 256 = 1 then
    if v = 1 && d.rd k = 0 then
      let c : Claim := ⟨4, d.rd (macKey 0x3830 p 2), 7, p⟩
      match d.claimBlock [c] with
      | some h => .abort 0x0501 (d.claimRefused ini 7 h)
      | none => .ok (((d.takeClaims [c]).wr k 1).requestLock c.num .txdma 0)
    else if v = 0 && d.rd k = 1 then .ok (((d.wr k 0).setMac p (fun m => { m with tsoOff := true })).tsoRelease p)
    else .ok d
  else if idx / 16 = 0x380 && k % 256 = 5 then .ok ((d.wakeHold p v).wr k v)
  else if k = 0x385011 then
    match d.claimBlock (pralineClaims v) with
    | some h => .abort 0x0501 (d.claimRefused ini 1 h)
    | none => .ok (((d.dropClaims (fun c => c.kind == 1 && c.holder == 1 && !v.testBit c.inst)).takeClaims
        (pralineClaims v)).wr k v)
  else .ok (d.wr k v)

end Sys2Proof.Machine
end

