-- ==== Sys2Proof/Machine/JobCore.lean ====
section
/-!
DEFINITION. The objects of the four job slots and how a slot ends (04 Table 4.3, R136, R141, R142).
-/
namespace Sys2Proof.Machine

/-- Object `i` of job slot `s` (04 Table 4.5). -/
def jobKey (s i : Nat) : Nat := (0x2310 + 0x10 * s) * 256 + i

/-- JOB_KIND, JOB_STATE and parameter octet `i` of slot `s`. -/
def Dev.jobKind (d : Dev) (s : Nat) : Nat := d.rd (jobKey s 1)
def Dev.jobState (d : Dev) (s : Nat) : Nat := d.rd (jobKey s 3)
def Dev.jobParam (d : Dev) (s i : Nat) : Nat := d.rd (jobKey s 6) / 256 ^ i % 256

/-- A job slot with nothing to do, slot `s`, and the device with it changed. -/
def JobU.idle : JobU := ⟨0, 0, [], [], [], 0, 0, []⟩
def Dev.jobU (d : Dev) (s : Nat) : JobU := d.jobs.getD s JobU.idle
def Dev.setJobU (d : Dev) (s : Nat) (f : JobU → JobU) : Dev := { d with jobs := updAt d.jobs s f }

/-- A slot is active: RUNNING, SUSPENDING, SUSPENDED or CANCELLING (04 R134). -/
def jobActive (st : Nat) : Bool := 1 ≤ st && st ≤ 4

/-- A slot enters a state; source 8 + s fires at DONE, FAILED, CANCELLED and SUSPENDED (04 R142). -/
def Dev.setJob (d : Dev) (s st : Nat) : Dev :=
  let d := d.wr (jobKey s 3) st
  if st = 3 || st = 5 || st = 6 || st = 7 then d.fire (8 + s) else d

/-- JOB_PROGRESS set. -/
def Dev.jobProgress (d : Dev) (s n : Nat) : Dev := d.wr (jobKey s 4) n

/-- A slot ends DONE, or CANCELLED when its final unit meets a CANCEL (04 R136, R143). -/
def Dev.jobDone (d : Dev) (s : Nat) : Dev :=
  let d := (d.setJobU s (fun _ => JobU.idle)).jobProgress s (d.rd (jobKey s 5))
  (d.wr (jobKey s 7) 0).setJob s (if d.jobState s = 4 then 7 else 5)

/-- A slot ends FAILED with a result (04 R141). -/
def Dev.jobFail (d : Dev) (s code : Nat) : Dev :=
  let d := d.setJobU s (fun _ => JobU.idle)
  ((d.wr (jobKey s 7) code).inc 0x230002).setJob s 6

/-- A job has been asked to suspend or to end: SUSPENDING, CANCELLING, or a domain it requires is to leave ON (04 R133, R146). -/
def Dev.jobAsked (d : Dev) (s : Nat) : Bool := d.jobState s == 2 || d.jobState s == 4 || (d.jobU s).cause != 0

/-- A unit that ends at CK `t` is carried out: the job has not been asked, or was asked in that very CK (04 R143), or the unit
was under way when it was asked and takes the job to its next suspend point (`last`). -/
def Dev.jobUnit (d : Dev) (s kind t : Nat) (last : Bool) : Bool :=
  d.jobKind s == kind && (d.jobState s == 1 || d.jobState s == 2 || d.jobState s == 4) &&
    (!d.jobAsked s || t ≤ (d.jobU s).askAt || (last && (d.jobU s).items.isEmpty))

/-- The final unit of a job has ended: the job ends with it, unless it was asked to suspend before this CK; then it stands at its
suspend point (04 R133, R143). -/
def Dev.jobLast (d : Dev) (s : Nat) (fin : Dev → Dev) : Dev :=
  if d.jobAsked s && d.jobState s != 4 && (d.jobU s).askAt < d.ck then d else fin d

/-- The slot that runs a job of a kind with parameter octet 0 `v`, in one of the given states. -/
def Dev.jobFind (d : Dev) (kind v : Nat) (sts : List Nat) : Option Nat :=
  (List.range 4).find? (fun s => d.jobKind s == kind && d.jobParam s 0 == v && sts.contains (d.jobState s))

/-- A TABLE_LOAD of the DOMAIN object at `idx` is in a slot that is active (04 R134, 02 R79). -/
def Dev.tableJob (d : Dev) (idx : Nat) : Bool :=
  (List.range 4).any (fun s => d.jobKind s == 4 && d.rd (jobKey s 6) % 65536 == idx && jobActive (d.jobState s))

/-- A CABLE_DIAG runs on port `p` (12 R438, R439). -/
def Dev.diagOn (d : Dev) (p : Nat) : Bool := (d.jobFind 7 p [1, 4]).isSome

end Sys2Proof.Machine
end

