-- ==== Sys2Proof/Machine/Ports.lean ====
section
/-!
DEFINITION. Trunk, long-reach and segment ports (12): bring-up, MDIO, speed governor, 10BASE-T1L, PLCA, slot guard,
collisions.
-/
namespace Sys2Proof.Machine

/-! ### MDIO master (12 R407-R413) -/

/-- The device with the MDIO master changed. -/
def Dev.setMdio (d : Dev) (f : Mdio → Mdio) : Dev := { d with mdio := f d.mdio }

/-- The device with the governor changed. -/
def Dev.setGov (d : Dev) (f : Gov → Gov) : Dev := { d with gov := f d.gov }

/-- The master starts its next frame by priority (12 R408). -/
def Dev.mdioKick (d : Dev) : Dev :=
  if d.mdio.cur.isSome || !d.on dMACT then d
  else match d.mdio.seqq, d.mdio.hostq, d.mdio.pollq with
    | f :: t, _, _ => d.setMdio (fun m => { m with cur := some f, curAt := d.ck, seqq := t })
    | [], f :: t, _ => d.setMdio (fun m => { m with cur := some f, curAt := d.ck, hostq := t })
    | [], [], f :: t => d.setMdio (fun m => { m with cur := some f, curAt := d.ck, pollq := t })
    | [], [], [] => d

/-- A register of the trunk PHY written by a sequence of the device. -/
def Dev.seqFrame (d : Dev) (reg data : Nat) (mark : Bool) : MdioFrame := ⟨.seq mark, true, d.rd 0x301001, reg, data⟩

/-- ANAR from TRUNK_ADVERTISE (12 R411). -/
def Dev.anarFull (d : Dev) : Nat := 1 + 0x100 * b2n (d.flag 0x301004 1) + 0x40 * b2n (d.flag 0x301004 0)

/-- ANAR and BMCR queued: auto-negotiation enabled and restarted (12 R411, R417, R444). -/
def Dev.renegotiate (d : Dev) (anar : Nat) (mark : Bool) : Dev :=
  (d.setMdio (fun m => { m with seqq := m.seqq ++ [d.seqFrame 4 anar false, d.seqFrame 0 0x1200 mark] })).mdioKick

/-- LINK_STATE is UP during a rate step: the first UP after the BMCR write ends the outage, UP at the target rate ends the step
(12 R417, R419). -/
def Dev.govStepUp (d : Dev) : Dev :=
  match d.gov.step with
  | some g =>
    match g.bmcrAt with
    | some t =>
      let d := if g.upSeen || d.linkState 0 ≠ 3 then d
        else (d.wr 0x30200B ((d.ck - t) / ckPerMs)).setGov (fun v => { v with step := some { g with upSeen := true } })
      if d.linkState 0 = 3 && d.rd 0x300003 = g.target then
        let d := (d.inc 0x302009).fire 61
        let d := (d.setGov (fun v => { v with step := none })).govRestart
        match g.job with
        | some s => d.jobDone s
        | none => d
      else d
    | none => d
  | none => d

/-- ANLPAR read: the link resolves (12 R410). -/
def Dev.trunkResolve (d : Dev) (anlpar : Nat) : Dev :=
  let adv := d.mdio.adv
  if adv.testBit 8 && anlpar.testBit 8 then ((d.wr 0x300003 100).setLink 0 3).govStepUp
  else if adv.testBit 6 && anlpar.testBit 6 then ((d.wr 0x300003 10).setLink 0 3).govStepUp
  else d.setLink 0 4

/-- BMSR read by the poll (12 R409, R410). -/
def Dev.bmsrRead (d : Dev) (v : Nat) : Dev :=
  let d := d.wr 0x301007 v
  let link := v ≠ 0xFFFF && v.testBit 2 && v.testBit 5
  let was := d.mdio.link
  let d := d.setMdio (fun m => { m with link := link })
  if d.rd (portRunKey 0) = 0 then d
  else if link && !was then
    d.setMdio (fun m => { m with cur := some ⟨.anlpar, false, d.rd 0x301001, 5, 0⟩, curAt := d.ck })
  else if !link && was then d.setLink 0 1
  else d

/-- The MDIO frame on the wire completes, 64 MDC cycles after its start; `data` is what a read returned. -/
def Dev.mdioDone (d : Dev) (data : Nat) : Dev :=
  match d.mdio.cur with
  | none => d
  | some f =>
    let d := d.advanceTo (d.mdio.curAt + 64 * d.rd 0x301002)
    let d := d.setMdio (fun m => { m with cur := none })
    let d := match f.kind with
      | .seq mark =>
        let d := if f.reg = 4 then d.setMdio (fun m => { m with adv := f.data }) else d
        if mark then
          match d.gov.step with
          | some g =>
            let d := d.setGov (fun v => { v with step := some { g with bmcrAt := some d.ck, upSeen := false } })
            (match g.job with
             | some s => d.jobProgress s 2
             | none => d)
          | none => d
        else d
      | .host last =>
        if last then d.wr 0x301006 (2 + (if f.write then 0 else 65536 * data))
        else match d.mdio.hostq with
          | g :: t => d.setMdio (fun m => { m with cur := some g, curAt := d.ck, hostq := t })
          | [] => d
      | .poll => d.bmsrRead data
      | .anlpar => if d.rd (portRunKey 0) = 1 then d.trunkResolve data else d
    d.mdioKick

/-- The poll timer expires (12 R409). -/
def Dev.mdioPoll (d : Dev) : Dev :=
  if d.on dMACT && d.rd (portRunKey 0) = 1 then
    let d := d.afterMs d.mdio.lastPoll (d.rd 0x301003)
    let d := d.setMdio (fun m => { m with
      lastPoll := d.ck, pollq := if m.pollq.isEmpty then [⟨.poll, false, d.rd 0x301001, 1, 0⟩] else m.pollq })
    d.mdioKick
  else d

/-- The frames of a host command (12 Table 12.3, R412). -/
def mdioFrames (v : Nat) : List MdioFrame :=
  let op := v % 256
  let phy := bits v 12 8
  let reg := bits v 20 16
  let c45 := bits v 47 32
  let data := bits v 63 48
  match op with
  | 1 => [⟨.host true, false, phy, reg, 0⟩]
  | 2 => [⟨.host true, true, phy, reg, data⟩]
  | _ => [⟨.host false, true, phy, 13, reg⟩, ⟨.host false, true, phy, 14, c45⟩, ⟨.host false, true, phy, 13, 0x4000 + reg⟩,
          ⟨.host true, op == 4, phy, 14, if op = 4 then data else 0⟩]

/-- A write of MDIO_CMD starts a command (12 R413). -/
def Dev.mdioCmd (d : Dev) (v : Nat) : Dev :=
  ((d.wr 0x301006 1).setMdio (fun m => { m with hostq := mdioFrames v })).mdioKick

/-! ### Segment ports: PLCA and the slot guard -/

/-- G and T in CK (12, Slot guard). -/
def Dev.sgG (d : Dev) (p : Nat) : Int := d.rd (segKey 0x3220 p 2) * 10
def Dev.sgT (d : Dev) (p : Nat) : Int := d.rd (segKey 0x3210 p 4) * 10

/-- A bit of PLCA_STATUS set or cleared. -/
def Dev.plcaBit (d : Dev) (p n : Nat) (b : Bool) : Dev :=
  d.wr (segKey 0x3210 p 7) (setBit (d.rd (segKey 0x3210 p 7)) n b)

/-- The self estimate E of a follower: the mean, truncated, of the known estimates of all other nodes when at least
two are known (12 R432). -/
def Dev.selfEst (d : Dev) (p : Nat) : Int :=
  if d.plcaId p = 0 then 0
  else
    let ks := ((List.range 32).filter (fun j => j != d.plcaId p)).map (fun j => d.rd (segKey 0x3240 p (1 + j)))
    let ks := ks.filter (· != 0x8000)
    if ks.length < 2 then 0 else ((ks.map (toSigned 16)).foldl (· + ·) 0).tdiv ks.length

/-- E formed anew, and the alarm of a device that drifts itself (12 R432, R440). -/
def Dev.selfUpdate (d : Dev) (p : Nat) : Dev :=
  let e := d.selfEst p
  let d := d.wr (segKey 0x3220 p 6) (ofSigned 16 e)
  let st := d.rd (segKey 0x3220 p 4)
  if e < - d.sgG p && !st.testBit 1 then ((d.wr (segKey 0x3220 p 4) (setBit st 1 true)).inc (segKey 0x3220 p 8)).fire 62
  else if (- d.sgG p).tdiv 2 ≤ e then d.wr (segKey 0x3220 p 4) (setBit st 1 false)
  else d

/-- The drift estimates of a port become unknown (12 R431), and E 0 with them (R432, R440). -/
def Dev.driftReset (d : Dev) (p : Nat) : Dev :=
  let d := forEach (List.range 32) d (fun j d => d.wr (segKey 0x3240 p (1 + j)) 0x8000)
  (d.setSeg p (fun s => { s with measured := List.replicate 32 none })).selfUpdate p

/-- The predecessor of the own opportunity, or of the coordinator's beacon (12, Slot guard). -/
def Dev.predecessor (d : Dev) (p : Nat) : Nat :=
  if d.plcaId p = 0 then d.rd (segKey 0x3210 p 3) - 1 else d.plcaId p - 1

/-- The hold s of the own start (12 R433). -/
def Dev.sgHold (d : Dev) (p : Nat) : Int :=
  if d.rd (segKey 0x3220 p 1) = 0 then 0
  else
    let v := d.rd (segKey 0x3240 p (1 + d.predecessor p))
    let dr : Int := if v = 0x8000 then 0 else toSigned 16 v
    min (d.sgG p) (max (max 0 (dr + d.sgG p - d.sgT p)) (toSigned 16 (d.rd (segKey 0x3220 p 6))))

/-- The hold of the own start or beacon, as it was fixed at T0 (12 R433). -/
def Dev.heldFor (d : Dev) (p : Nat) : Int := ((d.seg p).held).getD (d.sgHold p)

/-- The drift estimate of node `j` takes in a carrier at offset `o` (12 R430, R431, R435). -/
def Dev.sgEstimate (d : Dev) (p j : Nat) (o : Int) : Dev :=
  let o := clampInt (-32767) 32767 o
  let k := segKey 0x3240 p (1 + j)
  let v := d.rd k
  let n := if v = 0x8000 then o else let e := toSigned 16 v; e + (o - e).tdiv 8
  let d := (d.wr k (ofSigned 16 n)).setSeg p (fun s => { s with measured := updAt s.measured j (fun _ => some d.ck) })
  let d := if j = d.predecessor p && d.sgT p ≤ o then d.inc (segKey 0x3220 p 9) else d
  d.selfUpdate p

/-- The PLCA count goes on to node `j`, whose opportunity begins at CK `t` (12 R428). -/
def Dev.countTo (d : Dev) (p j t : Nat) : Dev := d.setSeg p (fun s => { s with count := some j, countAt := t })

/-- The port has something to send in its opportunity: a frame, or as coordinator its beacon. -/
def Dev.sgWants (d : Dev) (p : Nat) : Bool := d.plcaId p == 0 || (d.sending p && (d.mac p).backoff.isNone)

/-- A neighbour's carrier measured at offset `o` from the counted start of its opportunity (12 R430): the count goes on to the
next node behind it. The predecessor's carrier at or after T0 finds the own hold fixed. -/
def Dev.sgMeasure (d : Dev) (p j : Nat) (o : Int) : Dev :=
  if d.plcaOn p && j < d.rd (segKey 0x3210 p 3) && j ≠ d.plcaId p &&
      (d.seg p).count.any (fun c => c ≤ j || j == d.predecessor p) then
    let late := j == d.predecessor p && d.sgT p ≤ o
    let e := if late then d.setSeg p (fun s => { s with held := some (d.heldFor p) }) else d
    (e.sgEstimate p j o).countTo p (if late && !d.sgWants p then j + 2 else j + 1) d.ck
  else d

/-- A node not measured for 1 s becomes unknown (12 R431). -/
def Dev.sgDriftExpiry (d : Dev) (p j : Nat) : Dev :=
  match (d.seg p).measured.getD j none with
  | some t =>
    let d := d.afterMs t 1000
    let d := d.setSeg p (fun s => { s with measured := updAt s.measured j (fun _ => none) })
    (d.wr (segKey 0x3240 p (1 + j)) 0x8000).selfUpdate p
  | none => d

/-- The yield run returns to 0 (12 R436). -/
def Dev.yieldClear (d : Dev) (p : Nat) : Dev :=
  (d.setSeg p (fun s => { s with yieldRun := 0 })).wr (segKey 0x3220 p 4) (setBit (d.rd (segKey 0x3220 p 4)) 0 false)

/-- The CK in which the PLCA count places the opportunity of node `j`, with nothing heard meanwhile: each opportunity before it
passes in T (12 R428, R430). -/
def Dev.oppStart (d : Dev) (p j : Nat) : Nat :=
  (d.seg p).countAt + (j - ((d.seg p).count).getD j) * (d.sgT p).toNat

/-- The own opportunity, placed at `t0`, has begun: a frame that is ready starts, else it passes unused in T (12 R437, Clause
148). The next one follows the next beacon. -/
def Dev.oppBegin (d : Dev) (p t0 : Nat) : Dev :=
  let has := d.sending p && (d.mac p).backoff.isNone
  (d.setSeg p (fun s => { s with opp := if has then some (0, d.ck) else none, held := none })).countTo p
    (d.plcaId p + 1) (if has then d.ck else t0 + (d.sgT p).toNat)

/-- SG_LAST_HOLD records the hold, and time goes on to its end behind T0 (12 R433). -/
def Dev.holdEnd (d : Dev) (p t0 : Nat) : Dev :=
  let s := (d.heldFor p).toNat
  (d.wr (segKey 0x3220 p 7) s).advanceTo (t0 + s)

/-- The coordinator's beacon goes out and its own opportunity follows: the first at once, each later one when the opportunities of
PLCA_NODE_COUNT nodes have passed and its hold has ended, or behind the carrier it yielded to (12 R428, R433, R434, R436). -/
def Dev.beaconSend (d : Dev) (p : Nat) : Dev :=
  if d.plcaOn p && d.plcaId p = 0 && !(d.seg p).coordOff then
    let d :=
      if (d.seg p).yielded then d.setSeg p (fun s => { s with yielded := false })
      else (if (d.seg p).count.isSome then d.holdEnd p (d.oppStart p (d.rd (segKey 0x3210 p 3))) else d).yieldClear p
    (((d.plcaBit p 0 true).plcaBit p 1 true).setLink p 3).oppBegin p d.ck
  else d

/-- A beacon arrives (12 R428, R441). -/
def Dev.beaconRecv (d : Dev) (p : Nat) : Dev :=
  if !d.plcaOn p then d
  else if d.plcaId p = 0 then
    if (d.seg p).coordOff then d
    else
      let d := d.setSeg p (fun s => { s with coordOff := true, opp := none, count := none, held := none, yielded := false })
      let d := ((d.plcaBit p 0 false).plcaBit p 1 false).plcaBit p 2 true
      ((d.inc (segKey 0x3210 p 8)).fire 63).setLink p 5
  else
    let d := (d.setSeg p (fun s => { s with beaconAt := some d.ck, hadBeacon := true, opp := none, held := none })).countTo p 0 d.ck
    (d.plcaBit p 0 true).setLink p 3

/-- 4,000 bit times without a beacon (12 R428). -/
def Dev.beaconLoss (d : Dev) (p : Nat) : Dev :=
  match (d.seg p).beaconAt with
  | some t =>
    if d.plcaOn p && d.linkState p = 3 && d.plcaId p ≠ 0 then
      let d := d.advanceTo (t + 40000)
      ((d.setSeg p (fun s => { s with beaconAt := none, opp := none, count := none, held := none })).plcaBit p 0 false).setLink p 5
    else d
  | none => d

/-- A foreign carrier in the own opportunity after the start (12 R442). -/
def Dev.idConflict (d : Dev) (p : Nat) : Dev :=
  if d.plcaSends p && d.plcaId p ≠ 0 && (d.seg p).opp.isSome && d.sending p then
    (((d.plcaBit p 3 true).setSeg p (fun s => { s with conflictAt := some d.ck })).inc (segKey 0x3210 p 8)).fire 63
  else d

/-- One second without such a carrier (12 R442). -/
def Dev.idConflictClear (d : Dev) (p : Nat) : Dev :=
  match (d.seg p).conflictAt with
  | some t => ((d.afterMs t 1000).plcaBit p 3 false).setSeg p (fun s => { s with conflictAt := none })
  | none => d

/-- The own opportunity of this cycle is still to come: the count has come to no later node than the device itself. -/
def Dev.ownAhead (d : Dev) (p : Nat) : Bool := d.plcaSends p && (d.seg p).count.any (· ≤ d.plcaId p)

/-- The hold ends with no carrier: the device starts its transmission or beacon (12 R433, R436). -/
def Dev.sgHoldExpiry (d : Dev) (p : Nat) : Dev :=
  if d.plcaOn p && d.plcaId p = 0 then d.beaconSend p
  else if d.ownAhead p then
    let t0 := d.oppStart p (d.plcaId p)
    ((d.holdEnd p t0).yieldClear p).oppBegin p t0
  else d

/-- A beacon that has still to go out, or an own opportunity still to come with a frame to send (12 R434). -/
def Dev.sgHolds (d : Dev) (p : Nat) : Bool :=
  if d.plcaId p = 0 then d.plcaOn p && !(d.seg p).coordOff && !(d.seg p).yielded && (d.seg p).count.isSome
  else d.ownAhead p && d.sgWants p

/-- A carrier inside the hold: the device yields its opportunity or beacon (12 R434, R436). The carrier, `into` CK behind T0 where
its measurement comes with it, counts as the predecessor's (R430); the hold is the one fixed at T0. -/
def Dev.sgYield (d : Dev) (p : Nat) (into : Option Nat) : Dev :=
  let s := (d.heldFor p).toNat
  if d.sgHolds p && 0 < s && into.all (· < s) then
    let n := (d.seg p).yieldRun + 1
    let d := (d.inc (segKey 0x3220 p 5)).wr (segKey 0x3220 p 7) s
    let d := match into with
      | some i => d.sgEstimate p (d.predecessor p) (d.sgT p + i)
      | none => d
    let d := (d.setSeg p (fun x => { x with yieldRun := n, yielded := d.plcaId p == 0, opp := none, held := none })).countTo p
      (if d.plcaId p = 0 then d.rd (segKey 0x3210 p 3) else d.plcaId p + 1) d.ck
    if d.rd (segKey 0x3220 p 3) ≤ n && !(d.rd (segKey 0x3220 p 4)).testBit 0 then
      ((d.wr (segKey 0x3220 p 4) (setBit (d.rd (segKey 0x3220 p 4)) 0 true)).inc (segKey 0x3220 p 8)).fire 62
    else d
  else d

/-- The frame a segment MAC gives up after its last attempt (12 R443): a chain completes with LINK, a Towpath frame is
left to the session's retransmission. -/
def Dev.giveUp (d : Dev) (p att : Nat) : Dev :=
  let s := (d.mac p).cur
  let d := d.setMac p (fun m => { m with cur := .idle, backoff := none, attempts := 0 })
  match s with
  | .chain r st => (d.setChain r st (fun c => { c with attempts := att })).endChain r st 5
  | .tow => (d.mac p).towq.head?.elim d (fun f => d.towTxGone p f)
  | _ => d

/-- A collision ends a transmission attempt, `deferred` a first one that waited for carrier to end (12 R427, R443; 17 counters 33
to 36). In wake-listen no retry begins (11 R392). -/
def Dev.collision (d : Dev) (p : Nat) (late deferred : Bool) : Dev :=
  if !d.on (macDom p) || (d.mac p).backoff.isSome || !((d.mac p).cur matches .chain _ _ | .tow) || (d.mac p).hold then d
  else
    let n := (d.mac p).attempts + 1
    let d := if deferred && n = 1 then d.cnt p 36 else d
    let d := (d.oppEnd p).cnt p 33
    let d := if late then d.cnt p 34 else d
    if late then d.giveUp p n
    else if n = 16 then (if (d.mac p).cur = .tow then d else d.cnt p 35).giveUp p n
    else
      let r := d.draw (macDom p)
      r.2.setMac p (fun m => { m with attempts := n, backoff := some (d.ck, r.1 % 2 ^ min n 10), hold := d.wakeListen p })

/-- A back-off interval of whole slot times of 512 bit times ends (12 R427). -/
def Dev.backoffEnd (d : Dev) (p : Nat) : Dev :=
  match (d.mac p).backoff with
  | some (t, n) => (d.advanceTo (t + n * 5120)).setMac p (fun m => { m with backoff := none })
  | none => d

/-! ### Run control (12 R399-R401) -/

/-- Link bring-up (12 R401, R411, R422, R426, R428). -/
def Dev.bringUp (d : Dev) (p : Nat) : Dev :=
  match p with
  | 0 =>
    let d := d.setMdio (fun m => { m with link := false, lastPoll := d.ck })
    (d.setLink 0 2).renegotiate d.anarFull false
  | 1 => d.setLink 1 2
  | _ =>
    let d := (d.setSeg p (fun s => { Seg.idle with
      yieldRun := s.yieldRun, coordOff := s.coordOff, conflictAt := s.conflictAt })).driftReset p
    let d := (d.plcaBit p 0 false).plcaBit p 1 false
    d.setLink p (if d.rd (segKey 0x3210 p 1) = 1 then (if (d.seg p).coordOff then 5 else 2) else 3)

/-- PORT_RUN is written 01h: a coordinator that a foreign beacon has stopped sends beacons again (12 R441). -/
def Dev.portStart (d : Dev) (p : Nat) : Dev :=
  (if 2 ≤ p then (d.setSeg p (fun s => { s with coordOff := false })).plcaBit p 2 false else d).bringUp p

/-- A rate step whose BMCR write has not gone out stands again before its MDIO frames: they are written once the trunk runs
(12 R400, R417; log entry 77). -/
def Dev.govHalt (d : Dev) : Dev :=
  d.setGov (fun v => { v with step := v.step.map (fun g => if g.bmcrAt.isNone then { g with drained := false } else g) })

/-- The port stops (12 R400): the sequence frames not yet begun are dropped, LINK_STATE as given. -/
def Dev.portHalt (d : Dev) (p ls : Nat) : Dev :=
  let d := if p = 0 then (d.setMdio (fun m => { m with seqq := [], pollq := [], link := false })).govHalt else d.oppEnd p
  let d := d.linkLost p
  d.setLink p ls

/-- The role of Clause 98 from the own preference and the far end's, each 0 none, 1 MASTER, 2 SLAVE; `draw` decides where they
leave it open (12 R422; PRESUMED, log entry 47). -/
def t1lRole (own far : Nat) (draw : Bool) : Bool :=
  if own = far then draw else if own = 0 then far == 2 else if far = 0 then own == 1 else own == 1

/-- T1L link status changes; the far end's ability, request and preference, and the draw Clause 98 makes between equal
preferences (12 R422, R423, R425). -/
def Dev.t1lLink (d : Dev) (up able req : Bool) (far : Nat) (draw : Bool) : Dev :=
  if !d.on dMACL || d.rd (portRunKey 1) = 0 || d.linkState 1 = 6 then d
  else if up then
    let an := d.rd 0x311002 = 1
    let c := d.rd 0x311001
    let hi := if an then c.testBit 0 && able && (c.testBit 1 || req) else d.flag 0x311003 0
    let ms := if an then t1lRole (d.rd 0x311004) far draw else d.flag 0x311003 1
    let d := if d.linkState 1 = 3 then d else d.setMac 1 (fun m => { m with sqiAt := d.ck })
    (d.wr 0x311005 (b2n hi + 2 * b2n ms + 4 * b2n an)).setLink 1 3
  else if d.linkState 1 = 3 then d.setLink 1 1
  else d

/-- T1L_SQI and T1L_MSE, every 1 ms while UP (12 R425). -/
def Dev.t1lSqi (d : Dev) (sqi mse : Nat) : Dev :=
  if d.on dMACL && d.linkState 1 = 3 then
    let d := d.afterMs (d.mac 1).sqiAt 1
    ((d.setMac 1 (fun m => { m with sqiAt := d.ck })).wr 0x311006 sqi).wr 0x311007 mse
  else d

/-! ### Speed governor (12 R414-R421, R444) -/

/-- A RATE_STEP job is active (12 R420). -/
def Dev.rateJob (d : Dev) : Option Nat := (List.range 4).find? (fun s => d.jobKind s == 8 && jobActive (d.jobState s))

/-- A rate step begins: what the MAC had selected and not begun waits (12 R417; log entry 77). -/
def Dev.govStep (d : Dev) (target : Nat) (job : Option Nat) : Dev :=
  (d.setMac 0 (fun m => { m with nxt := .idle })).setGov (fun v => { v with
    step := some ⟨target, job, false, none, false, d.mdio.adv⟩, downRun := 0, upRun := 0 })


/-- Windows of a dwell, rounded up (12 R416). -/
def Dev.dwellWindows (d : Dev) (k : Nat) : Nat := let w := d.rd 0x302006; (d.rd k + w - 1) / w

/-- The clock counts on to `t`, unless it is there already or beyond (17 R604). -/
def Dev.clockReach (d : Dev) (t : Nat) : Dev :=
  if t ≤ d.tm.clock || d.clkRate = 0 then d else d.tick ((t - d.tm.clock + d.clkRate - 1) / d.clkRate)

/-- A governor window ends (12 R415, R416, R420, R421; 01 R17): channel 3 compares the clock with the window's end, and the next
window begins at the last end that the clock has passed (17 R605, R610). While a step runs the windows are measured and judge
nothing (log entry 46). -/
def Dev.govWindow (d : Dev) : Dev :=
  if d.on dMACT && !d.on dTIME && d.rd 0x302001 = 1 then d.engineOff dMACT [dTIME]
  else if d.allOn [dMACT, dTIME] && d.rd 0x302001 = 1 && d.govHolds && d.linkState 0 = 3 && d.rateJob.isNone then
    let span := d.rd 0x302006 * 1000000 * clkUnit
    let d := d.clockReach (d.gov.winStart + span)
    let util := max d.gov.txOct d.gov.rxOct * 8 / (100 * d.rd 0x302006)
    let next := d.gov.winStart + (d.tm.clock - d.gov.winStart) / span * span
    let hi := d.rd 0x300003 = 100
    let down := if hi && util < d.rd 0x302002 then d.gov.downRun + 1 else 0
    let up := if !hi && d.rd 0x302003 < util then d.gov.upRun + 1 else 0
    let d := d.wr 0x302008 (min util 65535)
    let run := d.gov.step.isSome
    let d := d.setGov (fun v => { v with
      txOct := 0, rxOct := 0, winStart := next, downRun := if run then 0 else down, upRun := if run then 0 else up })
    if d.gov.halted || run then d
    else if hi && d.dwellWindows 0x302004 ≤ down then d.govStep 10 none
    else if !hi && d.dwellWindows 0x302005 ≤ up then d.govStep 100 none
    else d
  else d

/-- The MAC has drained: ANAR and BMCR are written (12 R417, R419). -/
def Dev.govDrained (d : Dev) : Dev :=
  match d.gov.step with
  | some g =>
    if g.drained || g.bmcrAt.isSome || (d.mac 0).cur != .idle || !d.on dMACT || d.rd (portRunKey 0) = 0 then d
    else
      let d := d.setGov (fun v => { v with step := some { g with drained := true } })
      let d := match g.job with
        | some s => d.jobProgress s 1
        | none => d
      d.renegotiate (if g.target = 10 then 0x41 else d.anarFull) true
  | none => d

/-- The hold limit passes without UP at the target rate (12 R444). -/
def Dev.govHoldLimit (d : Dev) : Dev :=
  match d.gov.step with
  | some g =>
    match g.bmcrAt with
    | some t =>
      let d := d.afterMs t (d.rd 0x302007)
      let d := d.setGov (fun v => { v with step := none, halted := true, downRun := 0, upRun := 0 })
      let d := (d.inc 0x30200A).fire 61
      let d := if d.rd (portRunKey 0) = 1 then d.renegotiate d.anarFull false else d
      match g.job with
      | some s => d.jobFail s 0x0203
      | none => d
    | none => d
  | none => d

/-- GOV_STATUS (12 Table 12.6). DEDUCED: stepped down is what the steps that have ended left, the advertisement last written
lacking 100 Mb/s that TRUNK_ADVERTISE holds; a step in progress changes it when it ends. -/
def Dev.govStatus (d : Dev) : Nat :=
  let low := d.mdio.adv != 0 && !d.mdio.adv.testBit 8 && d.flag 0x301004 1
  let down := match d.gov.step with
    | some g => if g.drained then g.target != 10 else low
    | none => low
  b2n down + 2 * b2n d.gov.step.isSome + 4 * b2n d.gov.halted
    + 8 * b2n d.govHolds

/-! ### Dictionary hooks (12) -/

/-- Order 5 rules of 12: R413, R414. -/
def Dev.portState (d : Dev) (k v : Nat) : Bool :=
  if k = 0x301005 then
    d.rd 0x301006 % 256 = 1 ||
      (d.rd (portRunKey 0) = 1 && bits v 12 8 = d.rd 0x301001 && v % 256 = 2 && (bits v 20 16 = 0 || bits v 20 16 = 4))
  else k = 0x302001 && v = 1 && d.rd 0x301004 ≠ 3

/-- Objects a CABLE_DIAG job holds: PORT_RUN and 3x50h of its port (12 R439). -/
def Dev.portHeld (d : Dev) (k : Nat) : Bool :=
  let p := k / 0x10000 - 0x30
  p < 4 && (k = portRunKey p || k / 256 = 0x3050 + 0x100 * p) && d.diagOn p

/-- Order 9 rules of 12: R413, R418, R423, R429, R445. -/
def Dev.portValue (d : Dev) (k v : Nat) : Bool :=
  let p := k / 0x10000 - 0x30
  let low := k % 0x10000
  if low = 0x0004 then v = 0
  else if k = 0x301002 then v % 2 = 0
  else if k = 0x301004 then 1 ≤ v && v ≤ 3
  else if k = 0x301005 then
    1 ≤ v % 256 && v % 256 ≤ 4 && bits v 15 13 = 0 && bits v 31 21 = 0
  else if k = 0x302002 then v < d.rd 0x302003
  else if k = 0x302003 then d.rd 0x302002 < v
  else if k = 0x302009 || k = 0x30200A then v = 0
  else if k = 0x311001 then v ≤ 3 && v ≠ 2
  else if k = 0x311003 then v ≤ 3
  else if k = 0x311004 then v ≤ 2
  else if 2 ≤ p && low = 0x1002 then v = 0 || v < d.rd (segKey 0x3210 p 3)
  else if 2 ≤ p && low = 0x1004 then 16 ≤ v && 4 * d.rd (segKey 0x3220 p 2) ≤ v
  else if 2 ≤ p && low = 0x2002 then 4 * v ≤ d.rd (segKey 0x3210 p 4)
  else if 2 ≤ p && (low = 0x1008 || low = 0x2005 || low = 0x2008 || low = 0x2009) then v = 0
  else true

/-- The claim of compare channel 3 by the governor (12 R414, 20 R663, R717). -/
def govClaim : Claim := ⟨2, 3, 5, 0xFF⟩

/-- The effect of a write of an object of 12. -/
def Dev.portEffect (d : Dev) (ini k v : Nat) : WRes :=
  let p := k / 0x10000 - 0x30
  let low := k % 0x10000
  if low = 0x0001 && p < 4 then
    if d.rd k = v then .ok d
    else if v = 1 then .ok ((d.wr k 1).portStart p) else .ok (((d.cutReceive p).wr k 0).portHalt p 0)
  else if k = 0x301005 then .ok (d.mdioCmd v)
  else if k = 0x302001 then
    if v = 1 then
      match (if d.domEff dTIME = .off then none else d.claimBlock [govClaim]) with
      | some h => .abort 0x0501 (d.claimRefused ini 5 h)
      | none =>
        let d := if d.domEff dTIME = .off then d else d.takeClaims [govClaim]
        let d := if d.rd k = 1 then d
          else d.govRestart
        .ok (if d.rd k = 1 then d.setGov (fun g => { g with halted := false }) else d.wr k 1)
    else .ok ((d.wr k 0).dropClaims (fun c => c.kind == 2 && c.holder == 5))
  else if 2 ≤ p && low / 256 = 0x10 then .ok ((d.wr k v).driftReset p)
  else .ok (d.wr k v)

/-- A MAC domain leaves ON: the port stops as by PORT_RUN 00h (12 Edges). -/
def Dev.macLeaves (d : Dev) (p : Nat) : Dev :=
  let d := d.portHalt p (if d.rd (portRunKey p) = 1 then 1 else 0)
  if p = 0 then (d.setMdio (fun m => { m with cur := none, hostq := [] })).wr 0x301006 0 else d

end Sys2Proof.Machine
end

