-- ==== Sys2Proof/Machine/Cls.lean ====
section
/-!
DEFINITION. The classifier (13): parse graph, probes, mask table, tree, spreading, reorder groups, generations.
-/
namespace Sys2Proof.Machine

/-- The device with the classifier changed. -/
def Dev.setCls (d : Dev) (f : ClsU → ClsU) : Dev := { d with cls := f d.cls }

/-- CLS_STATE and CLS_ACTIVE_GEN (13 Table 13.10). -/
def Dev.clsState (d : Dev) : Nat := d.rd 0x400002
def Dev.clsActive (d : Dev) : Nat := d.rd 0x400003

/-- The body of table `t` (0 parse, 1 probes, 2 mask, 3 tree, 4 indirection) of generation `g`. -/
def Dev.clsBody (d : Dev) (g t : Nat) : Oct := (d.body (5 * g + t)).getD []

/-- The tree of a generation still lies in the tree memory; its probe set still holds its slots (13 R478, R674). -/
def Dev.treeKept (d : Dev) (g : Nat) : Bool := !d.cls.treeFreed.getD g false
def Dev.slotsKept (d : Dev) (g : Nat) : Bool := !d.cls.slotsFreed.getD g false

/-- The nodes of a generation's tree. -/
def Dev.treeNodes (d : Dev) (g : Nat) : Nat := if d.treeKept g then (d.clsBody g 3).length / 16 else 0

/-- PROBE_MAP of a generation's probe set in effect (13 Table 13.8). -/
def Dev.probeMap (d : Dev) (g : Nat) : Nat := if d.slotsKept g then leAt (d.clsBody g 1) 0 4 else 0

/-! ### Body rules (13 Table 13.8) -/

/-- An action code with its argument as Table 13.6 gives it; TREE only where `tree` admits it. -/
def actionOk (tree : Bool) (act arg : Nat) : Bool :=
  match act with
  | 0 | 3 | 5 => arg == 0
  | 1 => arg < 16
  | 2 => arg < 8
  | 4 => arg < 4
  | 6 => tree
  | _ => false

/-- An extraction PS_EXT at octet `o` of a state entry. -/
def extOk (e : Oct) (o : Nat) : Bool :=
  let n := octAt e (o + 1) % 32
  n ≤ 16 && (n == 0 || (6 ≤ octAt e (o + 2) && octAt e (o + 2) + n ≤ 40))

/-- A parse graph of format 0101h. -/
def parseOk (b : Oct) : Bool :=
  let n := b.length / 32
  let codeOk (c : Nat) : Bool := 128 ≤ c || c % 64 < n
  b.length % 32 == 0 && n ≤ 64 && (records b 0 32 n).all (fun e =>
    octAt e 1 / 2 % 8 ≤ 4 && extOk e 10 && extOk e 13 && codeOk (octAt e 28)
      && (List.range 4).all (fun k => codeOk (octAt e (18 + 3 * k))))

/-- The slots set in a map. -/
def mapSlots (m : Nat) : List Nat := (List.range 32).filter (fun p => m.testBit p)

/-- A probe set of format 0102h. -/
def probesOk (b : Oct) : Bool :=
  let n := (mapSlots (leAt b 0 4)).length
  b.length == 16 + 128 * n && (records b 16 128 n).all (fun e =>
    1 ≤ octAt e 6 && octAt e 6 ≤ 32 && leAt e 0 2 ≤ leAt e 2 2 && leAt e 2 2 ≤ 511)

/-- A mask table of format 0103h. -/
def maskOk (b : Oct) : Bool :=
  let n := b.length / 96
  b.length % 96 == 0 && n ≤ 512 && (records b 0 96 n).all (fun e =>
    (List.range 40).all (fun i => octAt e i &&& octAt e (40 + i) == octAt e i)
      && actionOk true (octAt e 80) (leAt e 82 2))

/-- A tree of format 0104h. -/
def treeOk (b : Oct) : Bool :=
  let n := b.length / 16
  b.length % 16 == 0 && n ≤ 8192 && (records b 0 16 n).all (fun e =>
    if octAt e 0 = 0 then octAt e 1 + octAt e 2 % 4 < 40 else octAt e 0 == 1 && octAt e 1 < 6)

/-- An indirection table of format 0105h. -/
def indirOk (b : Oct) : Bool := b.length == 560 && (records b 48 2 256).all (fun e => leNat e / 0x4000 != 3)

/-! ### Parse and probes (13 R449-R453) -/

/-- A walk of the parse graph: the key, the header start, BEYOND, LIMIT, END. -/
structure Walk where
  key : Oct
  hdr : Nat
  beyond : Bool
  limit : Bool
  fin : Bool

/-- A frame octet can be read (13 R451). -/
def seen (l : Oct) (a : Nat) : Bool := a < l.length && a ≤ 511

/-- A frame octet as the parse reads it (13 R451). -/
def pget (l : Oct) (a : Nat) : Octet := if seen l a then l.getD a 0 else 0

/-- A copy PS_EXT into the key. -/
def Walk.extract (w : Walk) (l e : Oct) (o : Nat) : Walk :=
  let n := octAt e (o + 1) % 32
  let a := w.hdr + octAt e o
  let v := (List.range n).map (fun i => pget l (a + i))
  { w with key := patch w.key (octAt e (o + 2)) v, beyond := w.beyond || (List.range n).any (fun i => !seen l (a + i)) }

/-- One state of the walk (13 R450): the walk after it and the next code. -/
def Walk.step (w : Walk) (l e : Oct) : Walk × Nat :=
  let w := (w.extract l e 10).extract l e 13
  let o := w.hdr + octAt e 0
  let wide := (octAt e 1).testBit 0
  let sel := (if wide then (pget l o).toNat * 256 + (pget l (o + 1)).toNat else (pget l o).toNat) &&& leAt e 2 2
  let bad := !seen l o || (wide && !seen l (o + 1))
  let code := ((List.range (octAt e 1 / 2 % 8)).find? (fun k => leAt e (16 + 3 * k) 2 == sel)).map
    (fun k => octAt e (18 + 3 * k))
  let h := w.hdr + octAt e 5
  let dyn := (octAt e 6).testBit 7
  let len := if dyn then
      ((((pget l h).toNat >>> (octAt e 6 % 8)) &&& octAt e 7) + octAt e 8 % 16) * 2 ^ (octAt e 8 / 16 % 4)
    else octAt e 4
  ({ w with hdr := w.hdr + len, beyond := w.beyond || bad || (dyn && !seen l h) }, code.getD (octAt e 28))

/-- The walk from state `s` on, with `n` states left: it stops at END, behind a state that read beyond the octets, and with the
limit (13 R450, R451; log entry 49). -/
def Walk.run (l b : Oct) : Nat → Nat → Walk → Walk
  | 0, _, w => w
  | n + 1, s, w =>
    let r := w.step l (sub b (32 * s) 32)
    if 128 ≤ r.2 then { r.1 with fin := true }
    else if r.1.beyond then r.1
    else if n = 0 then { r.1 with limit := true }
    else Walk.run l b n (r.2 % 64) r.1

/-- The walk of a frame under a generation's parse graph (13 R450, R452). -/
def Dev.parse (d : Dev) (g p : Nat) (l : Oct) : Walk :=
  let b := d.clsBody g 0
  let w : Walk := ⟨zeros 40, 0, false, false, false⟩
  if b.isEmpty then w else Walk.run l b 16 (d.rd (0x401001 + 256 * p)) w

/-- A probe record matches a frame (13 R453). -/
def probeHit (e l : Oct) (anchor : Nat) : Bool :=
  let a := if (octAt e 4).testBit 0 then anchor else 0
  let st := leAt e 0 2
  (List.range (leAt e 2 2 + 1 - st)).any (fun i =>
    (List.range (octAt e 6)).all (fun m =>
      seen l (a + st + i + m) &&
        (octAt e (8 + m) ^^^ octAt l (a + st + i + m)) &&& octAt e (40 + m) == 0))

/-- The probe bits of a frame under a generation (13 R453, R478, R674). -/
def Dev.probeBits (d : Dev) (g : Nat) (l : Oct) (anchor : Nat) : Nat :=
  let slots := mapSlots (d.probeMap g)
  let recs := records (d.clsBody g 1) 16 128 slots.length
  forEach (slots.zip recs) 0 (fun e v => if probeHit e.2 l anchor then v + 2 ^ e.1 else v)

/-- The classification key of a frame under a generation (13 Table 13.2). -/
def Dev.clsKey (d : Dev) (g : Nat) (f : RxFrame) : Oct :=
  let w := d.parse g f.port f.data
  let k4 := 4 * tagCount f.data + f.port
  let k5 := 64 * bits f.flags 9 8 + 16 * bits f.flags 7 6 + 8 * b2n w.beyond + 4 * b2n w.limit + b2n w.fin
  leOct 4 (d.probeBits g f.data w.hdr) ++ [oct k4, oct k5] ++ w.key.drop 6

/-! ### Mask table, tree, spreading (13 R454-R461) -/

/-- A mask entry matches a key (13 R454). -/
def entryHit (key e : Oct) : Bool :=
  (octAt e 84).testBit 0 && (List.range 40).all (fun i => octAt key i &&& octAt e (40 + i) == octAt e i)

/-- The first match of the mask table: its number and the entry. -/
def Dev.firstMatch (d : Dev) (g : Nat) (key : Oct) : Option (Nat × Oct) :=
  let b := d.clsBody g 2
  let es := records b 0 96 (b.length / 96)
  (es.findIdx? (entryHit key)).map (fun i => (i, es.getD i []))

/-- A test node holds for a key (13 R457). `open_` is the free value that settles an undefined T_OP. -/
def testHolds (key e : Oct) (open_ : Bool) : Bool :=
  let v := beNat (sub key (octAt e 1) (octAt e 2 % 4 + 1)) &&& leAt e 4 4
  let x := leAt e 8 4
  match octAt e 2 / 4 % 8 with
  | 0 => v == x
  | 1 => v != x
  | 2 => v < x
  | 3 => x ≤ v
  | 4 => v != 0
  | _ => open_

/-- The leaf a walk from a node reaches, within the visits left (13 R457, R458). Each visit has a bit of `open_` of its own. -/
def treeWalk (b key : Oct) (count open_ : Nat) : Nat → Nat → Option Oct
  | 0, _ => none
  | n + 1, i =>
    if count ≤ i then none
    else
      let e := sub b (16 * i) 16
      if octAt e 0 = 1 then some e
      else treeWalk b key count open_ n (if testHolds key e (open_.testBit n) then leAt e 12 2 else leAt e 14 2)

/-- A tree image holds a test node whose T_OP is 101, 110 or 111, which 13 R457 gives no meaning (log entry 6). -/
def opensTest (b : Oct) : Bool := (records b 0 16 (b.length / 16)).any (fun e => octAt e 0 == 0 && 5 ≤ octAt e 2 / 4 % 8)

/-- The 32 key bits from bit `i` of the 320-bit string on (13 R461). -/
def keyBits (hk i : Nat) : Nat := ((hk * (2 ^ 320 + 1)) >>> (608 - i % 320)) % 2 ^ 32

/-- The hash of a key under an indirection table (13 R461). -/
def hashOf (b key : Oct) : Nat :=
  let sel := leAt b 40 5
  let hk := beNat (sub b 0 40)
  let input := ((List.range 40).filter (fun i => sel.testBit i)).map (fun i => octAt key i)
  forEach input.zipIdx 0 (fun e r =>
    forEach (List.range 8) r (fun j r => if e.1.testBit (7 - j) then r ^^^ keyBits hk (8 * e.2 + j) else r))

/-- The hash under the active generation; a free value where no indirection image is in effect (log entry 6). -/
def Dev.hash (d : Dev) (key : Oct) : Nat × Dev :=
  match d.body (5 * d.clsActive + 4) with
  | some b => (hashOf b key, d)
  | none => d.free

/-- The entry of the indirection table a frame takes (13 R461); a free value without a table. -/
def Dev.indirEntry (d : Dev) (key : Oct) : Nat × Dev :=
  match d.body (5 * d.clsActive + 4) with
  | some b => (leAt b (48 + 2 * (hashOf b key % 256)) 2, d)
  | none => let r := d.free; (r.1 % 65536, r.2)

/-! ### Disposal -/

/-- A frame dropped by a judgment at step 8 (17 counter 20). -/
def Dev.clsDrop (d : Dev) (f : RxFrame) : Dev := (d.freeBarges f.barges).cnt f.port 20

/-- The RX descriptor of a judged frame (10 Table 10.4). -/
def Judged.desc (j : Judged) (seq extra : Nat) : Oct :=
  rxDesc j.fr.port j.fr.data.length (j.fr.flags + extra) seq j.mark (j.entry.getD 0) (tagCount j.fr.data) j.entry.isSome
    j.fr.ts j.fr.barges

/-- Delivery to an RX ring (10 R351, R354; 17 counter 22). -/
def Dev.clsRing (d : Dev) (j : Judged) (r seq extra : Nat) (num : Option (Nat × Nat)) : Dev :=
  let x := d.deliverRx (rxRing r) (j.desc seq extra) j.fr.barges j.fr.data.length num
  if x.1 then x.2 else x.2.cnt j.fr.port 22

/-- What Towpath requires: PM0 and one MAC that carries it (01 Table 1.2). Where no MAC that carries Towpath is ON, MACL stands
for them in the fault entry (DESIGN CHOICE, log entry 78). -/
def Dev.towNeeds (d : Dev) : List Nat :=
  if (List.range 4).any (fun q => d.flag 0x600004 q && d.on (macDom q)) then [dTOW, dPM0] else [dTOW, dPM0, dMACL]

/-- The path's own domain and those it requires (01 Table 1.2): the receiving port's MAC for the bridge; for Towpath, where no
MAC that carries it is ON, MACL is the one named (DESIGN CHOICE, log entry 78). -/
def Dev.pathNeeds (d : Dev) (kind p : Nat) : Nat × List Nat :=
  if kind = 1 then (dBRG, [dBRG, dCORE, dPM0, macDom p]) else (dTOW, d.towNeeds)

/-- A frame sent to a path (13 R463); what the path does with a frame it takes is `brg` and `tow`. -/
def Dev.clsPath (d : Dev) (j : Judged) (n : Nat) (brg tow : Dev → RxFrame → Nat → Dev) : Dev :=
  let v := d.rd (0x403001 + n)
  let kind := v / 256
  if kind = 0 then (d.inc 0x40000A).clsDrop j.fr
  else
    let need := d.pathNeeds kind j.fr.port
    if !d.allOn need.2 then (d.engineOff need.1 need.2).clsDrop j.fr
    else if kind = 1 then brg (d.handBarges j.fr.barges .brg j.fr.data.length) j.fr n
    else tow (d.handBarges j.fr.barges (.tow (v % 16)) j.fr.data.length) j.fr (v % 16)

/-- The worker rings of a group in the order of GRP_WORKERS. -/
def Dev.workers (d : Dev) (g : Nat) : List Nat := (leOct 4 (d.rd (grpKey g 3))).map (·.toNat) |>.filter (· != 0xFF)

/-- A frame enters a round-robin group: it takes the next number and the next worker ring (13 R464, R466). -/
def Dev.grpEnter (d : Dev) (g : Nat) (j : Judged) : Dev :=
  let ws := d.workers g
  let q := d.rd (grpKey g 6)
  if d.rd (grpKey g 1) ≠ 1 || ws.isEmpty || 256 ≤ sub16 q (d.rd (grpKey g 7)) then (d.inc (grpKey g 10)).clsDrop j.fr
  else
    let w := ws.getD ((d.grp g).rot % ws.length) 0
    let d := d.wr (grpKey g 6) ((q + 1) % 65536)
    let d := d.setGrp g (fun x => { x with
      nums := x.nums ++ [⟨q, w, .out none⟩], rot := (x.rot + 1) % ws.length,
      headAt := if x.nums.isEmpty then d.ck else x.headAt })
    d.clsRing j w (q % 256) 0 (some (g, q))

/-- A frame sent to a reorder group (13 R464, R466, R476). -/
def Dev.clsGroup (d : Dev) (g : Nat) (j : Judged) (key : Oct) : Dev :=
  if d.rd (grpKey g 1) ≠ 1 then (d.inc (grpKey g 10)).clsDrop j.fr
  else if d.rd (grpKey g 2) = 1 then
    let ws := d.workers g
    let h := d.hash key
    h.2.clsRing j (ws.getD (h.1 % ws.length) 0) 0 0 none
  else if (d.grp g).barrier.isSome || d.cls.held.any (fun e => e.1 == g) then
    if 64 ≤ d.cls.held.length then ((d.inc 0x40000B).fire 67).clsDrop j.fr
    else (d.handBarges j.fr.barges .cls j.fr.data.length).setCls (fun c => { c with held := c.held ++ [(g, j)] })
  else d.grpEnter g j

/-- Held frames whose wait has ended enter their groups in arrival order (13 R476). -/
def Dev.heldRelease (d : Dev) : Dev :=
  let go := d.cls.held.filter (fun e => (d.grp e.1).barrier.isNone)
  if go.isEmpty then d
  else
    let d := d.setCls (fun c => { c with held := c.held.filter (fun e => (d.grp e.1).barrier.isSome) })
    forEach go d (fun e d => d.grpEnter e.1 e.2)

/-- An action other than MARK and TREE applied to a frame (13 R455). -/
def Dev.clsAct (d : Dev) (j : Judged) (key : Oct) (act arg : Nat) (brg tow : Dev → RxFrame → Nat → Dev) : Dev :=
  match act with
  | 1 => d.clsRing j (arg % 16) 0 0 none
  | 2 => d.clsPath j (arg % 8) brg tow
  | 3 =>
    let r := d.indirEntry key
    (match r.1 / 0x4000 with
     | 0 => r.2.clsRing j (r.1 % 16) 0 0 none
     | 1 => r.2.clsPath j (r.1 % 8) brg tow
     | _ => r.2.clsDrop j.fr)
  | 4 => d.clsGroup (arg % 4) j key
  | _ => d.clsDrop j.fr

/-- The port's CLS_DEFAULT action with its mark (13 R454, R456). -/
def Dev.clsDefault (d : Dev) (j : Judged) (key : Oct) (brg tow : Dev → RxFrame → Nat → Dev) : Dev :=
  let v := d.rd (0x401002 + 256 * j.fr.port)
  let m := bits v 15 8
  d.clsAct { j with mark := if m = 0 then j.mark else m } key (v % 256) (v / 65536) brg tow

/-- A matched entry whose action is TREE: the walk from its node, with the port's default where it ends without a
leaf (13 R457, R458). -/
def Dev.clsTree (d : Dev) (j : Judged) (key : Oct) (node : Nat) (brg tow : Dev → RxFrame → Nat → Dev) : Dev :=
  let g := d.clsActive
  let b := d.clsBody g 3
  let r := if opensTest b then d.free else (0, d)
  match treeWalk b key (d.treeNodes g) r.1 32 node with
  | some e =>
    let m := octAt e 2
    let j := { j with mark := if m = 0 then j.mark else m }
    if octAt e 1 = 5 then r.2.clsDefault j key brg tow else r.2.clsAct j key (octAt e 1) (leAt e 4 2) brg tow
  | none => ((r.2.inc 0x40000A).fire 67).clsDefault j key brg tow

/-- A frame delivered to the transit ring (13 R477, R478). -/
def Dev.clsTransitRing (d : Dev) (j : Judged) : Dev :=
  let x := d.deliverRx (rxRing (d.rd 0x400006)) (j.desc 0 0x2000) j.fr.barges j.fr.data.length
  if x.1 then x.2.inc 0x400009 else x.2.cnt j.fr.port 22

/-- A barge of a received frame is poisoned (09 R312). -/
def Dev.framePoisoned (d : Dev) (f : RxFrame) : Bool := f.barges.any (fun b => (d.barge b).poison)

/-- The classifier accepts a frame 64 CK after the one before it, at the earliest (13 R447). -/
def Dev.clsAccept (d : Dev) : Dev :=
  if d.cls.queue.isEmpty || !d.on dCLS then d
  else let d := d.advanceTo d.cls.ready; d.setCls (fun c => { c with ready := d.ck + 64 })

/-- The frame at the head of the arrival order passes the stages (13 R446-R448, R472, R477). One with a poisoned barge is not
matched and takes the port's default ring with POISON in its descriptor, or is dropped (09 R312; DESIGN CHOICE, log entry 79). -/
def Dev.classify (d : Dev) (brg tow : Dev → RxFrame → Nat → Dev) : Dev :=
  match d.cls.queue with
  | [] => d
  | f :: t =>
    let d := d.setCls (fun c => { c with queue := t })
    if !d.on dCLS then (d.freeBarges f.barges).cnt f.port 19
    else if !d.allOn [dCORE, dPM0] then (d.engineOff dCLS [dCORE, dPM0]).freeBarges f.barges
    else if d.rd 0x400001 = 0 || d.framePoisoned f then
      let v := d.rd (0x401002 + 256 * f.port)
      if v % 256 = 1 then d.clsRing ⟨f, none, bits v 15 8⟩ (v / 65536 % 16) 0 0 none
      else ((d.inc 0x40000A).freeBarges f.barges).cnt f.port 19
    else
      let g := d.clsActive
      let key := d.clsKey g f
      match d.firstMatch g key with
      | none => d.clsDefault ⟨f, none, 0⟩ key brg tow
      | some (n, e) =>
        let j : Judged := ⟨f, some n, octAt e 81⟩
        let act := octAt e 80
        if 2 ≤ d.clsState && (d.flag 0x400008 n || (3 ≤ d.clsState && act = 6)) then d.clsTransitRing j
        else if act = 5 then d.clsDefault j key brg tow
        else if act = 6 then d.clsTree j key (leAt e 82 2) brg tow
        else d.clsAct j key act (leAt e 82 2) brg tow

/-! ### Merge (13 R467-R471) -/

/-- The merge stage reads the descriptors the workers of a group have released; frames released after their number was
skipped are late (13 R467, R469). -/
def Dev.mergeRelease (d : Dev) (g : Nat) (ss : List Strike) : Dev :=
  if !d.on dCLS then d
  else
    ((d.releasedRead g (fun _ => true) ss).grpAdvance g).heldRelease

/-- An RX descriptor with its reserved bits zero (00 R10, 10 Table 10.4). -/
def rxDescClean (e : Oct) : Oct :=
  patch (patch (patch e 24 (leOct 2 (leAt e 24 2 &&& 0xCFFF))) 26 (leOct 2 (leAt e 26 2 &&& 0x8DFF))) 30
    (leOct 2 (leAt e 30 2 &&& 0xFFFE))

/-- The merge stage writes the frame of GRP_HEAD_SEQ to the merge ring (13 R468); without the ring's area the attempt is logged
(01 R17). A GRP_MERGE_RING that names no RX ring takes no frame (log entry 94). -/
def Dev.mergeWrite (d : Dev) (g : Nat) : Dev :=
  let r := rxRing (d.rd (grpKey g 4))
  match (d.grp g).nums with
  | n :: _ =>
    match n.st with
    | .released desc =>
      if !d.on dCLS || 48 ≤ r || !d.rxAccepts r then d
      else if !d.ringReach r then d.engineOff dCLS (ringNeeds d r)
      else
        let fl := setBit (setBit (leAt desc 30 2) 15 true) 12 (d.grp g).gap
        let desc := rxDescClean (patch (patch desc 29 [oct n.seq]) 30 (leOct 2 fl))
        let d := d.writeMem (d.slotAddr r (d.ringDev r)) desc
        let x := (d.ringDev r + 1) % 65536
        let d := (((d.wr (ringKey r 5) x).wr (ringKey r 6) x).setGrp g (fun x => { x with gap := false })).ringCount r false
        ((d.headPast g 1).grpAdvance g).heldRelease
    | _ => d
  | [] => d

/-- The head number has waited GRP_MERGE_TIMEOUT and is skipped (13 R469). -/
def Dev.mergeTimeout (d : Dev) (g : Nat) : Dev :=
  match (d.grp g).nums with
  | n :: _ =>
    match n.st with
    | .out (some (slot, t)) =>
      if d.on dCLS && !d.slotReleased n.ring slot then
        let d := d.afterUs (max t (d.grp g).headAt) (d.rd (grpKey g 5))
        ((d.numSkip g n).grpAdvance g).heldRelease
      else d
    | _ => d
  | [] => d

/-- A stopping group has no number outstanding: GRP_RUN reads 00h and the numbers restart (13 R471); a frame whose number
was skipped may still be released later (R469). -/
def Dev.grpStopped (d : Dev) (g : Nat) : Dev :=
  if d.rd (grpKey g 1) = 2 && (d.grp g).nums.isEmpty then
    (((d.wr (grpKey g 1) 0).wr (grpKey g 6) 0).wr (grpKey g 7) 0).setGrp g (fun x => { Grp.idle with late := x.late })
  else d

/-! ### Commit and TRANSIT (13 R473-R480) -/

/-- The rings of a group: its workers and, in mode 00h, its merge ring (13 R464). -/
def Dev.grpRings (d : Dev) (g : Nat) : List Nat :=
  d.workers g ++ (if d.rd (grpKey g 2) = 0 && d.rd (grpKey g 4) != 0xFF then [d.rd (grpKey g 4)] else [])

/-- A write of 01h to GRP_RUN keeps R465. -/
def Dev.grpRunOk (d : Dev) (g : Nat) : Bool :=
  let ws := d.workers g
  let m := d.rd (grpKey g 4)
  let rr := d.rd (grpKey g 2) == 0
  let used := ws ++ (if rr then [m] else [])
  !ws.isEmpty && ws.all (· ≤ 15) && ws.eraseDups.length == ws.length
    && (!rr || (m != 0xFF && !ws.contains m)) && !used.contains (d.rd 0x400006)
    && (List.range 4).all (fun h => h == g || d.rd (grpKey h 1) == 0 || used.all (fun r => !(d.grpRings h).contains r))

/-- CLS_TRANSIT_RING is RUNNING and belongs to no group that runs (13 R479). -/
def Dev.transitRingOk (d : Dev) : Bool :=
  let r := d.rd 0x400006
  d.ringState (rxRing r) == 1 && (List.range 4).all (fun g => d.rd (grpKey g 1) == 0 || !(d.grpRings g).contains r)

/-- A COMMIT or END switches in this state (13 Table 13.9). -/
def switches (st cmd : Nat) : Bool := (cmd == 1 && st ≤ 1) || (cmd == 4 && 2 ≤ st)

/-- A commit command has an effect in a state (13 Table 13.9). -/
def commitAllowed (st cmd : Nat) : Bool :=
  switches st cmd || ((cmd == 2 || cmd == 3) && st == 1) || (cmd == 5 && st == 2)

/-- An action of a generation that needs something: TREE a node, PATH a kind, HASH an indirection image (13 R474). -/
def Dev.actReady (d : Dev) (g act arg : Nat) : Bool :=
  match act with
  | 2 => d.rd (0x403001 + arg % 8) / 256 != 0
  | 3 => (d.body (5 * g + 4)).isSome
  | 6 => arg < d.treeNodes g
  | _ => true

/-- The checks of R474 on a generation. -/
def Dev.genOk (d : Dev) (g : Nat) : Bool :=
  let mask := d.clsBody g 2
  let tree := d.clsBody g 3
  let parse := d.clsBody g 0
  (records mask 0 96 (mask.length / 96)).all (fun e => d.actReady g (octAt e 80) (leAt e 82 2))
    && (records tree 0 16 (d.treeNodes g)).all (fun e => octAt e 0 != 1 || d.actReady g (octAt e 1) (leAt e 4 2))
    && (List.range 4).all (fun p =>
      let v := d.rd (0x401002 + 256 * p)
      d.actReady g (v % 256) (v / 65536)
        && (parse.isEmpty || d.rd (0x401001 + 256 * p) < parse.length / 32))

/-- CLS_STATE between STOPPED and RUNNING follows CLS_RUN (13 R472, R481). -/
def Dev.clsRunState (d : Dev) : Dev := d.wr 0x400002 (b2n (d.rd 0x400001 == 1))

/-- TRANSIT ends without a switch: RUNNING under the old generation (13 Table 13.9, R480). -/
def Dev.transitBack (d : Dev) : Dev := (d.setCls (fun c => { c with transitAt := none })).wr 0x400002 1

/-- The switch of generations (13 R475, R476): the new one is active from the CK after it on. -/
def Dev.clsSwitch (d : Dev) : Dev :=
  let d := forEach (List.range 4) d (fun g d =>
    if (d.grp g).nums.isEmpty then d else d.setGrp g (fun x => { x with barrier := some (d.rd (grpKey g 6)) }))
  let d := (d.wr 0x400003 (1 - d.clsActive)).setCls (fun c => { c with transitAt := none })
  (((d.clsRunState).inc 0x40000E).fire 64).tick 1

/-- Slots and tree memory of the active generation freed (13 R478, 20 R666). -/
def Dev.freeActive (d : Dev) : Dev :=
  let g := d.clsActive
  (d.setCls (fun c => { c with
    treeFreed := updAt c.treeFreed g (fun _ => true), slotsFreed := updAt c.slotsFreed g (fun _ => true) })).dropClaims
    (fun c => c.kind == 1 && c.holder == 2 + g)

/-- TRANSIT or TRANSIT_RELEASED entered (13 Table 13.9, R477, R478). -/
def Dev.enterTransit (d : Dev) (st : Nat) : Dev :=
  let d := (d.wr 0x400002 st).setCls (fun c => { c with transitAt := some (c.transitAt.getD d.ck) })
  if st = 3 then d.freeActive else d

/-- A write of CLS_COMMIT takes effect (13 R473, R474): a switch waits for its check. -/
def Dev.clsCommit (d : Dev) (ini cmd : Nat) : WRes :=
  if switches d.clsState cmd then .pend (d.setCls (fun c => { c with commit := some (cmd, ini, d.ck) }))
  else match cmd with
    | 2 => .ok (d.enterTransit 2)
    | 3 => .ok (d.enterTransit 3)
    | _ => .ok d.transitBack

/-- The check of the inactive generation ends, `n` CK after the write: the abort code of the commit write, if any
(13 R474, R475). -/
def Dev.clsCheckDone (d : Dev) (n : Nat) : Option (Nat × Option Nat × Dev) :=
  match d.cls.commit with
  | none => none
  | some (cmd, ini, t) =>
    let d := (d.advanceTo (t + n)).setCls (fun c => { c with commit := none })
    if !switches d.clsState cmd then some (ini, some 0x0203, d)
    else if d.genOk (1 - d.clsActive) then some (ini, none, d.clsSwitch)
    else some (ini, some 0x0702, d)

/-- TRANSIT has lasted CLS_TRANSIT_TIMEOUT (13 R480). -/
def Dev.transitTimeout (d : Dev) : Dev :=
  match d.cls.transitAt with
  | some t =>
    if d.on dCLS && (d.clsState = 2 || d.clsState = 3) then
      let d := d.afterMs t (d.rd 0x400007)
      let d := if d.genOk (1 - d.clsActive) then d.clsSwitch
        else if d.clsState = 2 then d.transitBack
        else (d.wr 0x400002 4).setCls (fun c => { c with transitAt := none })
      d.fire 65
    else d
  | none => d

/-! ### Images of a generation (13 R459, R460; 20 R665) -/

/-- A probe set named by a PROBE_MAP meets a praline's slot, or a slot of the other generation where that one is
active (13 R460). -/
def Dev.probeClash (d : Dev) (g m : Nat) : Option Nat :=
  if (mapSlots m).any (fun p => ((d.claimOf 1 p).map (·.holder)) == some 1) then some 0x0501
  else if g ≠ d.clsActive && d.probeMap d.clsActive &&& m ≠ 0 then some 0x0502
  else if (mapSlots m).any (fun p => ((d.claimOf 1 p).map (·.holder)) == some (3 - g)) then some 0x0502
  else none

/-- What stands in the way of an image for a generation (13 R460): tree memory or probe slots. -/
def Dev.genClash (d : Dev) (n : Nat) (img : Oct) : Option Nat :=
  let g := n / 5
  if n % 5 = 1 then d.probeClash g (leAt img 16 4)
  else if n % 5 = 3 then
    (if 131072 < img.length - 16 + 16 * d.treeNodes (1 - g) && g ≠ d.clsActive then some 0x0502 else none)
  else none

/-- An image takes effect in a generation; the slots of a probe set are claimed (13 R459, 20 R665). -/
def Dev.genPut (d : Dev) (n : Nat) (img : Oct) : Dev :=
  let g := n / 5
  let d := d.setImg n (fun x => { x with eff := some img })
  if n % 5 = 1 then
    let m := leAt img 16 4
    let d := d.setCls (fun c => { c with slotsFreed := updAt c.slotsFreed g (fun _ => false) })
    let d := d.dropClaims (fun c => c.kind == 1 && c.holder == 2 + g && !m.testBit c.num)
    d.takeClaims ((mapSlots m).map (fun p => ⟨1, p, 2 + g, 0xFF⟩))
  else if n % 5 = 3 then d.setCls (fun c => { c with treeFreed := updAt c.treeFreed g (fun _ => false) })
  else d

/-! ### Dictionary hooks -/

/-- Order 5 rules of 13: Table 13.9, R479. -/
def Dev.clsHeldState (d : Dev) (k v : Nat) : Bool :=
  k = 0x400005 && 1 ≤ v && v ≤ 5
    && (d.cls.commit.isSome || !commitAllowed d.clsState v || ((v == 2 || v == 3) && !d.transitRingOk))

/-- Order 6: a commit that switches while a TABLE_LOAD holds an image of the inactive generation (13 R475). -/
def Dev.clsBusy (d : Dev) (k v : Nat) : Bool :=
  k = 0x400005 && switches d.clsState v
    && (List.range 5).any (fun t => d.tableJob (imgIdx (5 * (1 - d.clsActive) + t)))

/-- Order 9 rules of 13: R456, R462, R465, R473, R482. -/
def Dev.clsValue (d : Dev) (k v : Nat) : Bool :=
  if k = 0x400004 then v ≤ 1
  else if k = 0x400005 then 1 ≤ v && v ≤ 5
  else if k = 0x400009 || k = 0x40000A || k = 0x40000B || k = 0x40000E then v = 0
  else if 0x4010 ≤ k / 256 && k / 256 < 0x4014 && k % 256 = 2 then
    v % 256 ≤ 4 && actionOk false (v % 256) (v / 65536)
  else if 0x4020 ≤ k / 256 && k / 256 < 0x4024 then
    (match k % 256 with
     | 1 => v == 0 || (v == 1 && d.grpRunOk (k / 256 - 0x4020))
     | 2 => v ≤ 1
     | 8 | 9 | 10 => v == 0
     | _ => true)
  else if k / 256 = 0x4030 then
    v / 256 ≤ 2 && (if v / 256 = 2 then v % 256 < 16 else v % 256 == 0)
  else true

/-- The effect of a write of a classifier object. -/
def Dev.clsEffect (d : Dev) (ini k v : Nat) : WRes :=
  if k = 0x400005 then d.clsCommit ini v
  else if k = 0x400001 then
    let d := d.wr k v
    .ok (if d.clsState ≤ 1 then d.clsRunState else d)
  else if 0x4020 ≤ k / 256 && k / 256 < 0x4024 && k % 256 = 1 then
    let g := k / 256 - 0x4020
    if v = 1 then .ok (d.wr k 1)
    else if d.rd k = 0 then .ok d
    else .ok ((d.wr k 2) |> fun d => if (d.grp g).nums.isEmpty then d.grpStopped g else d)
  else .ok (d.wr k v)

/-- CLS_PROBE_SLOTS and CLS_TREE_FREE (13 Table 13.10). -/
def Dev.probeSlots (d : Dev) : Nat :=
  forEach (List.range 32) 0 (fun p v => if (d.claimOf 1 p).isSome then v + 2 ^ p else v)
def Dev.treeFree (d : Dev) : Nat := 131072 - 16 * d.treeNodes d.clsActive

/-! ### CLS leaves and reaches ON -/

/-- CLS leaves ON: frames not yet classified are dropped, held frames pass to ZEROING, numbers, merge progress and
TRANSIT are lost (13, CLS leaves ON). -/
def Dev.clsLeaves (d : Dev) : Dev :=
  let d := forEach d.cls.queue d (fun f d => (d.freeBarges f.barges).cnt f.port 19)
  let d := forEach d.cls.held d (fun e d => d.freeBarges e.2.fr.barges)
  let d := forEach (List.range 4) d (fun g d => ((d.wr (grpKey g 6) 0).wr (grpKey g 7) 0).setGrp g (fun _ => Grp.idle))
  d.setCls (fun c => { c with queue := [], held := [], transitAt := none, commit := none, ready := 0 })

/-- CLS reaches ON: generation CLS_BOOT_GEN first, then the other where it fits (13 R481). `stored` gives the images
NVM holds; `fromOff` says that the domain's memory was lost. -/
def Dev.clsOn (d : Dev) (fromOff : Bool) (stored : Nat → Option Oct) : Dev :=
  let d := if fromOff then
      let d := (d.wr 0x400003 (d.rd 0x400004)).setCls (fun c => { c with
        treeFreed := [false, false], slotsFreed := [false, false] })
      let a := d.rd 0x400004
      let order := (List.range 5).map (· + 5 * a) ++ (List.range 5).map (· + 5 * (1 - a))
      forEach order d (fun n d =>
        match stored n with
        | some img =>
          if n / 5 ≠ a && (d.genClash n img).isSome then (d.fault 4 dCLS 0x0502 (imgFmt n) (n / 5)).fire 67
          else d.genPut n img
        | none => d)
    else d
  d.clsRunState

end Sys2Proof.Machine
end

