-- ==== Sys2Proof/Machine/Can.lean ====
section
/-!
DEFINITION. The CAN FD channels (14): configuration, fault confinement after ISO 11898-1, transmission, reception.
-/
namespace Sys2Proof.Machine

/-- Object `s` of channel `c`. -/
def canKey (c s : Nat) : Nat := 0x500000 + 256 * c + s

/-- A channel with nothing on the bus. -/
def Can.idle : Can := ⟨none, false, false, none⟩

/-- Channel `c` beyond its objects. -/
def Dev.can (d : Dev) (c : Nat) : Can := d.cans.getD c Can.idle

/-- The device with channel `c` changed. -/
def Dev.setCan (d : Dev) (c : Nat) (f : Can → Can) : Dev := { d with cans := updAt d.cans c f }

/-- The device with the bridge changed. -/
def Dev.setBrg (d : Dev) (f : BrgU → BrgU) : Dev := { d with brg := f d.brg }

def Dev.canRun (d : Dev) (c : Nat) : Bool := d.rd (canKey c 1) == 1
def Dev.canState (d : Dev) (c : Nat) : Nat := d.rd (canKey c 10)
def Dev.canTec (d : Dev) (c : Nat) : Nat := d.rd (canKey c 11)
def Dev.canRec (d : Dev) (c : Nat) : Nat := d.rd (canKey c 12)

/-- A change of CAN_STATE (14 R487). -/
def Dev.setCanState (d : Dev) (c v : Nat) : Dev := if d.canState c = v then d else (d.wr (canKey c 10) v).fire (68 + c)

/-- Bit timing in CAN_NBT or CAN_DBT: BRP, TSEG1, TSEG2, SJW, each plus one (14 Table 14.2). -/
def btBrp (v : Nat) : Nat := v % 256 + 1
def btSeg1 (v : Nat) : Nat := bits v 15 8 + 1
def btSeg2 (v : Nat) : Nat := bits v 22 16 + 1
def btSjw (v : Nat) : Nat := bits v 30 24 + 1
/-- The CK of a bit. -/
def btCk (v : Nat) : Nat := btBrp v * (1 + btSeg1 v + btSeg2 v)

/-- The rules of R484. -/
def Dev.canTimingOk (d : Dev) (c : Nat) : Bool :=
  let n := d.rd (canKey c 3)
  let b := d.rd (canKey c 4)
  2 ≤ btSeg1 n && btSeg2 n ≤ 128 && btSjw n ≤ btSeg2 n && 8 ≤ 1 + btSeg1 n + btSeg2 n && 100 ≤ btCk n
    && (d.rd (canKey c 6) == 0 || (btBrp b ≤ 32 && btSeg1 b ≤ 64 && btSeg2 b ≤ 16 && btSjw b ≤ btSeg2 b
      && 20 ≤ btCk b && btCk b ≤ btCk n))

/-! ### Fault confinement (14 R487; ISO 11898-1, PRESUMED, log entry 52) -/

/-- CAN_TEC or CAN_REC set; source 70 + c when it reaches 96 from below. -/
def Dev.setErr (d : Dev) (c s v : Nat) : Dev :=
  let v := min v 255
  let o := d.rd (canKey c s)
  let d := d.wr (canKey c s) v
  if o < 96 && 96 ≤ v then d.fire (70 + c) else d

/-- Error active or error passive after the counts. -/
def Dev.errState (d : Dev) (c : Nat) : Dev :=
  if d.canState c = 2 || d.canState c = 3 then d.setCanState c (if d.canTec c ≤ 127 && d.canRec c ≤ 127 then 2 else 3)
  else d

/-- CAN_LAST_ERROR and the error counter of Table 17.3. -/
def Dev.noteErr (d : Dev) (c kind : Nat) : Dev :=
  (d.wr (canKey c 13) kind).canCnt c (match kind with | 1 => 10 | 2 => 11 | 3 => 12 | 4 => 13 | 5 => 13 | _ => 14)

/-- A receiver's error. -/
def Dev.canRxError (d : Dev) (c kind : Nat) (plus8 : Bool) : Dev :=
  if d.on dCAN && (d.canState c = 2 || d.canState c = 3) then
    ((d.noteErr c kind).setErr c 12 (d.canRec c + if plus8 then 8 else 1)).errState c
  else d

/-- A frame received without error lowers CAN_REC; from above 127 to a value from 119 to 127 that is free. -/
def Dev.canRxGood (d : Dev) (c : Nat) : Dev :=
  let r := d.canRec c
  if r = 0 then d
  else if r ≤ 127 then (d.setErr c 12 (r - 1)).errState c
  else let f := d.free; (f.2.setErr c 12 (119 + f.1 % 9)).errState c

/-! ### Frames as messages and descriptors (10 Table 10.6) -/

/-- A CAN TX descriptor's frame without its data. -/
def descMsg (x : Oct) (data : Oct) : CanMsg :=
  let id := leAt x 0 4
  ⟨id % 2 ^ 29, id.testBit 29, id.testBit 30, (octAt x 5).testBit 0, (octAt x 5).testBit 1, false, octAt x 4 % 16, data, none⟩

/-- The arbitration value of a frame (14 R488). -/
def arbValue (m : CanMsg) : Nat :=
  let base := if m.ide then m.id / 2 ^ 18 else m.id % 2048
  let ext := if m.ide then m.id % 2 ^ 18 else 0
  base * 2 ^ 20 + b2n m.ide * 2 ^ 19 + ext * 2 + b2n m.rtr

/-- The CAN RX descriptor of a frame. -/
def canRxDesc (m : CanMsg) (b : Nat) : Oct :=
  let t := m.ts.getD (0, 0)
  leOct 4 (m.id + 2 ^ 29 * b2n m.ide + 2 ^ 30 * b2n m.rtr)
    ++ [oct m.dlc, oct (b2n m.fdf + 2 * b2n m.brs + 4 * b2n m.esi)] ++ leOct 2 b ++ zeros 8
    ++ leOct 4 t.1 ++ leOct 4 t.2 ++ leOct 2 m.data.length ++ zeros 2
    ++ leOct 2 (0x8000 + if m.ts.isSome then 0x4000 else 0) ++ zeros 2

/-- A frame delivered to RX ring `k` of channel `c` (14 R493, 10 R350, R351). -/
def Dev.canDeliver (d : Dev) (c k : Nat) (m : CanMsg) : Dev :=
  let r := 48 + 4 * c + k
  if !d.allOn [dCAN, dCORE, dPM0] then d.engineOff dCAN [dCAN, dCORE, dPM0]
  else if m.data.isEmpty then (d.deliverRx r (canRxDesc m 0xFFFF) [] 0).2
  else match d.alloc (d.rd (0x268005 + c)) .rxdma 1 with
    | (some (b :: _), d) => ((d.writeMem (256 * b) m.data).deliverRx r (canRxDesc m b) [b] m.data.length).2
    | (_, d) => d.inc (0x269005 + c)

/-- CAN_RX_DEFAULT (14 R493). -/
def Dev.canDefault (d : Dev) (c : Nat) (m : CanMsg) : Dev :=
  let v := d.rd (canKey c 9)
  if v = 0 then d else d.canDeliver c v m

/-! ### Inputs of the bridge (14 R511) -/

/-- The order in which inputs of one CK are taken: C0, C1, Ethernet ingress, tachos 0 to 3. -/
def BrgIn.rank : BrgIn → Nat
  | .can c _ => c
  | .eth _ => 2
  | .tacho n _ => 3 + n

/-- An input of this CK put behind those that came before it. -/
def queueIn (t : Nat) (i : BrgIn) : List (Nat × BrgIn) → List (Nat × BrgIn)
  | [] => [(t, i)]
  | x :: l => if x.1 = t && i.rank < x.2.rank then (t, i) :: x :: l else x :: queueIn t i l

/-- An input reaches the bridge. -/
def Dev.brgEnter (d : Dev) (i : BrgIn) : Dev := d.setBrg (fun b => { b with inq := queueIn d.ck i b.inq })

/-! ### Transmission (14 R488-R491) -/

/-- The chain of a CAN TX ring that is not finished. -/
def Dev.openChain (d : Dev) (r : Nat) : Option Chain := (d.ring r).chains.find? (·.code.isNone)

/-- The channel can send (14 R490). -/
def Dev.canCanSend (d : Dev) (c : Nat) : Bool :=
  d.on dCAN && d.canRun c && d.rd (canKey c 2) == 0 && (d.canState c == 2 || d.canState c == 3) && !(d.can c).pastLimit

/-- The ring engine fetches the head chain of a CAN TX ring (10 R346, R349, R352; 01 R17). -/
def Dev.canFetch (d : Dev) (r : Nat) (ss : List Strike) : Dev :=
  if d.ringState r = 1 && d.canCanSend ((r - 48) / 4) && (d.openChain r).isNone then
    let need := [dCORE, dPM0, bankDom (d.ringBank r)]
    if !d.allOn need then d.engineOff dCAN need
    else d.fetchChain r ss (fun d ds => (if canFormatBad (ds.headD []) then some 1 else none, d))
  else d

/-- The frame of a ring's open chain, its barge's lock cycle having passed and the domains it needs ON: the chain's first index
and the frame without data (01 Table 1.2). -/
def Dev.ringCand (d : Dev) (r : Nat) : Option (Nat × CanMsg) :=
  match d.openChain r with
  | some c =>
    if d.locksClear (c.barges.map (·.1)) && d.allOn (chainNeeds c) then some (c.start, descMsg (c.descs.headD []) []) else none
  | none => none

/-- A chain whose frame would be a candidate but for a domain that is not ON: the attempt is a fault (01 R17). -/
def Dev.candOff (d : Dev) (r : Nat) : Dev :=
  match d.openChain r with
  | some c =>
    if d.locksClear (c.barges.map (·.1)) && !d.allOn (chainNeeds c) then d.engineOff dCAN (chainNeeds c) else d
  | none => d

/-- The candidates of a channel with their arbitration values in the order that settles equals (14 R488); the bridge's only while
BRG is ON (01 R16). -/
def Dev.canCands (d : Dev) (c : Nat) : List (Nat × CanTx) :=
  let brg := if !d.on dBRG then none
    else (d.brg.outq.getD c []).head?.map (fun m => (arbValue m.msg, (⟨true, 0, 0, m.msg, none⟩ : CanTx)))
  let ring (k : Nat) := (d.ringCand (48 + 4 * c + k)).map
    (fun e => (arbValue e.2, (⟨false, 48 + 4 * c + k, e.1, e.2, none⟩ : CanTx)))
  brg.toList ++ (ring 0).toList ++ (ring 1).toList

/-- The candidate with the lowest arbitration value. -/
def bestCand : List (Nat × CanTx) → Option (Nat × CanTx)
  | [] => none
  | a :: t =>
    match bestCand t with
    | some b => if b.1 < a.1 then some b else some a
    | none => some a

/-- The bridge frame at the head of a channel's queue leaves it. -/
def Dev.popOut (d : Dev) (c : Nat) : Dev := d.setBrg (fun b => { b with outq := updAt b.outq c (·.drop 1) })

/-- A bridge frame given up: counted, and the fetches it carries fail (14 R489, R491, R510). `fail` ends the fetch of a
signal with a PEER_CODE. -/
def Dev.dropOut (d : Dev) (c : Nat) (fail : Dev → Nat → Nat → Dev) : Dev :=
  match (d.brg.outq.getD c []).head? with
  | none => d
  | some m =>
    let d := (d.popOut c).inc 0x540007
    forEach m.fetch d (fun s d => fail d s 0x0203)

/-- The frame a channel sends is given up (14 R489). -/
def Dev.abandon (d : Dev) (c : Nat) (t : CanTx) (fail : Dev → Nat → Nat → Dev) : Dev :=
  let d := d.canCnt c 9
  if t.fromBridge then d.dropOut c fail else d.endChain t.ring t.start 7

/-- The places of a chain's barges with the octets they hold. -/
def bargePlaces (bs : List (Nat × Nat × Bool)) : List (Nat × Nat) := bs.map (fun e => (256 * e.1, e.2.1))

/-- The bus allows a new frame (14 R488; 19 R649). An FD frame on a channel without FD is given up (14 R486; log entry 80). -/
def Dev.canTxStart (d : Dev) (c : Nat) (ss : List Strike) (fail : Dev → Nat → Nat → Dev) : Dev :=
  if !d.canCanSend c || (d.can c).tx.isSome then d
  else
    let d := (d.candOff (48 + 4 * c)).candOff (49 + 4 * c)
    match bestCand (d.canCands c) with
    | none => d
    | some (_, t) =>
      if t.msg.fdf && d.rd (canKey c 6) = 0 then d.abandon c t fail
      else if t.fromBridge then
        let d := d.setBrg (fun b => { b with outq := updAt b.outq c (fun q => updAt q 0 (fun m =>
          { m with attempts := m.attempts + 1 })) })
        d.setCan c (fun x => { x with tx := some t })
      else
        let bs := ((d.chainOf t.ring t.start).map (·.barges)).getD []
        let a := (d.strike ss).readPlaces (bargePlaces bs)
        if !a.2.1.isEmpty then a.2.2.endChain t.ring t.start 3
        else
          let d := a.2.2.setChain t.ring t.start (fun x => { x with attempts := x.attempts + 1 })
          let ts := if d.on dTIME then some (d.stampAt 0 20) else none
          d.setCan c (fun x => { x with tx := some { t with msg := { t.msg with data := a.1 }, ts := ts } })

/-- A stopped channel whose frame on the bus has ended (14 R490). -/
def Dev.canStopNow (d : Dev) (c : Nat) : Dev :=
  if (d.can c).stopping && (d.can c).tx.isNone then
    (d.setCan c (fun _ => { Can.idle with
      stopAt := if d.canState c = 2 || d.canState c = 3 then some d.ck else none })).setCanState c 0
  else d

/-- The attempts made so far for the frame a channel sends. -/
def Dev.txAttempts (d : Dev) (c : Nat) (t : CanTx) : Nat :=
  if t.fromBridge then (((d.brg.outq.getD c []).head?).map (·.attempts)).getD 0
  else ((d.chainOf t.ring t.start).map (·.attempts)).getD 0

/-- A failed attempt is made again, up to CAN_RETRY_LIMIT attempts (14 R489). -/
def Dev.canRetry (d : Dev) (c : Nat) (t : CanTx) (fail : Dev → Nat → Nat → Dev) : Dev :=
  let lim := d.rd (canKey c 7)
  if lim ≠ 0 && lim ≤ d.txAttempts c t then d.abandon c t fail else d

/-- The transceiver delay measured in an FD frame (14 R485). -/
def Dev.canDelay (d : Dev) (c : Nat) (t : CanTx) (v : Nat) : Dev :=
  if t.msg.fdf && d.flag (canKey c 5) 15 then d.wr (canKey c 15) (min v 255) else d

/-- A transmission attempt ends (14 R485, R487, R489; 17 Table 17.3). -/
def Dev.canTxEnd (d : Dev) (c : Nat) (e : CanEnd) (fail : Dev → Nat → Nat → Dev) : Dev :=
  match (d.can c).tx with
  | none => d
  | some t =>
    let d := d.setCan c (fun x => { x with tx := none })
    let d := match e with
      | .sent delay =>
        let d := (d.canCnt c 5).canCnt c 7 t.msg.data.length
        let d := if t.msg.fdf then d.canCnt c 6 else d
        let d := d.canDelay c t delay
        let d := (d.setErr c 11 (d.canTec c - 1)).errState c
        if t.fromBridge then d.popOut c
        else
          let req := match d.chainOf t.ring t.start with
            | some x => dTsReq (x.descs.headD [])
            | none => false
          (d.setChain t.ring t.start (fun x => { x with ts := if req then t.ts else none })).endChain t.ring t.start 0
      | .lost => (d.canCnt c 8).canRetry c t fail
      | .error kind kept delay =>
        let d := match delay with
          | some v => d.canDelay c t v
          | none => d
        let n := d.canTec c + if kept then 0 else 8
        let d := ((d.noteErr c kind).setErr c 11 n).errState c
        let d := if 256 ≤ n then d.setCan c (fun x => { x with pastLimit := true }) else d
        d.canRetry c t fail
    d.canStopNow c

/-- The channel enters bus-off (14 R487, R491). -/
def Dev.canBusOff (d : Dev) (c : Nat) (fail : Dev → Nat → Nat → Dev) : Dev :=
  if !(d.can c).pastLimit || !d.on dCAN then d
  else
    let d := d.setCan c (fun x => { x with pastLimit := false })
    let d := ((d.setCanState c 4).inc (canKey c 16)).canCnt c 15
    let d := forEach [0, 1] d (fun k d =>
      match d.openChain (48 + 4 * c + k) with
      | some x => if x.attempts = 0 then d else (d.canCnt c 9).endChain (48 + 4 * c + k) x.start 7
      | none => d)
    let d := forEach (d.brg.outq.getD c []) d (fun _ d => (d.canCnt c 9).dropOut c fail)
    if d.rd (canKey c 8) = 1 then d.setCanState c 5 else d

/-- Recovery has seen 128 occurrences of 11 recessive bits (14 R487). -/
def Dev.canRecovered (d : Dev) (c : Nat) : Dev :=
  if d.on dCAN && d.canRun c && d.canState c = 5 then ((d.setErr c 11 0).setErr c 12 0).setCanState c 2 else d

/-- The channel has seen 11 recessive bits after its start (14 R487). -/
def Dev.canIntegrated (d : Dev) (c : Nat) : Dev :=
  if d.on dCAN && d.canRun c && d.canState c = 1 then d.setCanState c 2 else d

/-! ### Reception (14 R486, R492, R493) -/

/-- The frames of channel `c` that wait for the bridge. -/
def Dev.canWaiting (d : Dev) (c : Nat) : Nat := (d.brg.inq.filter (fun i => match i.2 with | .can x _ => x == c | _ => false)).length

/-- The channel takes part in a frame whose start of frame was `ago` CK ago: also one that was on the bus when it stopped
(14 R490; log entry 80). -/
def Dev.canHears (d : Dev) (c ago : Nat) : Bool :=
  d.on dCAN && (d.canState c == 2 || d.canState c == 3 || (d.can c).stopAt.any (fun t => d.ck - ago < t))

/-- A frame's end of frame passes (14 R486, R492, R493, 17 R600). -/
def Dev.canRxFrame (d : Dev) (c : Nat) (f : CanFrame) : Dev :=
  if !d.canHears c f.sofAgo then d
  else if f.fdf && d.rd (canKey c 6) = 0 then d.canRxError c 2 false
  else
    let d := d.canRxGood c
    let ts := if d.on dTIME then some (d.stampAt f.sofAgo 20) else none
    let m : CanMsg := ⟨f.id, f.ide, f.rtr, f.fdf, f.brs, f.esi, f.dlc, f.data, ts⟩
    let d := (d.canCnt c 0).canCnt c 2 m.data.length
    let d := if m.fdf then d.canCnt c 1 else d
    let d := if m.rtr then d.canCnt c 3 else d
    if d.brgRuns then
      if 4 ≤ d.canWaiting c then ((d.inc (canKey c 17)).canCnt c 4).fire (70 + c)
      else d.brgEnter (.can c m)
    else d.canDefault c m

/-! ### Run control and the domain -/

/-- CAN_RUN 01h: the channel starts integrating with its counts at 0. -/
def Dev.canStart (d : Dev) (c : Nat) : Dev :=
  ((((d.setCan c (fun x => { x with stopping := false, pastLimit := false, stopAt := none })).wr (canKey c 11) 0).wr
    (canKey c 12) 0)).setCanState c 1

/-- A write of a CAN object breaks a state rule (14 R518). -/
def Dev.canStateBad (d : Dev) (k : Nat) : Bool := (k = canKey 0 14 || k = canKey 1 14) && d.rd (k - 4) ≠ 4

/-- Order 9 rules of the channels (14 R484, R518, Table 14.2). -/
def Dev.canValue (d : Dev) (k v : Nat) : Bool :=
  let c := k / 256 - 0x5000
  match k % 256 with
  | 1 => v == 0 || d.canTimingOk c
  | 2 => v ≤ 1
  | 3 | 4 => !v.testBit 31 && !v.testBit 23
  | 5 => bits v 14 8 == 0
  | 9 => v == 0 || v == 2 || v == 3
  | 14 => v == 1
  | 16 | 17 => v == 0
  | _ => true

/-- The effect of a write of a CAN object (14 R487, R490). -/
def Dev.canEffect (d : Dev) (k v : Nat) : Dev :=
  let c := k / 256 - 0x5000
  match k % 256 with
  | 1 =>
    if v = d.rd k then d
    else if v = 1 then (d.wr k 1).canStart c
    else ((d.wr k 0).setCan c (fun x => { x with stopping := true })).canStopNow c
  | 14 => d.setCanState c 5
  | _ => d.wr k v

/-- CAN leaves ON: chains fetched complete with LINK, frames on the buses and in the buffers are gone (10 Table 10.5,
14 R517). -/
def Dev.canLeaves (d : Dev) : Dev :=
  let d := forEach [48, 49, 52, 53] d (fun r d =>
    forEach ((d.ring r).chains.filter (·.code.isNone)) d (fun c d => d.endChain r c.start 5))
  let d := { d with cans := [Can.idle, Can.idle] }
  let d := forEach [0, 1] d (fun c d => d.setCanState c 0)
  d.setBrg (fun b => { b with inq := b.inq.filter (fun i => match i.2 with | .can _ _ => false | _ => true) })

/-- CAN reaches ON: the channels whose CAN_RUN reads 01h start. -/
def Dev.canOn (d : Dev) : Dev := forEach [0, 1] d (fun c d => if d.canRun c then d.canStart c else d)

end Sys2Proof.Machine
end

