-- ==== Sys2Proof/Machine/LinkCore.lean ====
section
/-!
DEFINITION. Retry slots and results that arrive later (03 R99-R105, R127).
-/
namespace Sys2Proof.Machine

/-! ### LAST_ABORT and the counters of aborts (02 R60, R80, Table 2.11) -/

/-- The LAST_ABORT entry of an initiator. -/
def lastAbortKey (ini : Nat) : Nat := if ini = 0 then 0x1E0001 else 0x1E0002 + (ini - 0x10)

/-- A transaction is counted (02 R80). -/
def Dev.countTxn (d : Dev) : Dev := d.inc 0x1E1001

/-- A transaction ends in ABORT. -/
def Dev.noteAbort (d : Dev) (ini cmd idx sb code : Nat) : Dev :=
  let k := lastAbortKey ini
  let n := min (d.rd k / 2 ^ 48 + 1) 0xFFFF
  (d.wr k (code + 2 ^ 16 * idx + 2 ^ 32 * sb + 2 ^ 40 * cmd + 2 ^ 48 * n)).inc 0x1E1002

/-! ### Retry slots -/

/-- The device with the host link changed. -/
def Dev.setLk (d : Dev) (f : Link → Link) : Dev := { d with link := f d.link }

/-- Slot `s`. -/
def Dev.slot (d : Dev) (s : Nat) : Option Slot := d.link.slots.getD s none

/-- A slot's new content. -/
def Dev.setSlot (d : Dev) (s : Nat) (x : Option Slot) : Dev :=
  d.setLk (fun l => { l with slots := updAt l.slots s (fun _ => x) })

/-- A slot becomes READY with a result (03 R99, R105). -/
def Dev.slotReady (d : Dev) (s : Nat) (r : Res) : Dev :=
  match d.slot s with
  | some x => d.setSlot s (some { x with res := some r, since := d.ck })
  | none => d

/-- The PENDING local slot (03 R124). -/
def Dev.localPending (d : Dev) : Option Nat :=
  d.link.slots.findIdx? (fun o => match o with | some x => x.res.isNone && x.peer == 0xFF | none => false)

/-- A fault-log entry for an abort nobody collects (19 Table 19.4 kind 08h; 03 R105, R127). -/
def Dev.slotAbort (d : Dev) (cmd idx sb code peer : Nat) : Dev :=
  d.fault 8 dCORE code (idx * 256 + sb) (cmd + 65536 * (if code = 0x0602 then peer else 0)) 0

/-- The counts and the LAST_ABORT entry of a transaction that has its result (02 R60, R80). -/
def Dev.settleTxn (d : Dev) (ini cmd idx sb : Nat) : Option Nat → Dev
  | none => d.countTxn
  | some c => d.countTxn.noteAbort ini cmd idx sb c

/-- The abort code of a result. -/
def Res.code : Res → Option Nat
  | .ok _ => none
  | .abort c _ => some c

/-- The result of a local transaction of the host that was answered RETRY. An abort from the far side whose slot a reset
has freed is logged (03 R127). -/
def Dev.hostDone (d : Dev) (idx sb : Nat) (r : Res) : Dev :=
  match d.link.orphans.findIdx? (fun o => o.2.1 == idx && o.2.2.1 == sb) with
  | some i =>
    let o := d.link.orphans.getD i (0, 0, 0, false)
    let d := d.setLk (fun l => { l with orphans := l.orphans.eraseIdx i })
    (match r with
     | .abort c p => if o.2.2.2 && c / 256 = 6 then d.slotAbort o.1 idx sb c p else d
     | .ok _ => d)
  | none =>
    match d.localPending with
    | some s => d.slotReady s r
    | none => d

/-- The response of a peer to a remote dictionary transaction (15 R556, 03 R127); one whose slot timed out has been counted then
(02 R60, R80; 03 R105). -/
def Dev.remoteDone (d : Dev) (peer slot : Nat) (r : Res) : Dev :=
  match d.link.remotes.findIdx? (fun x => x.peer == peer && x.slot == slot) with
  | none => d
  | some i =>
    match d.link.remotes[i]? with
    | none => d
    | some x =>
      let d := d.setLk (fun l => { l with remotes := l.remotes.eraseIdx i })
      let d := if x.fate = 2 then d else d.settleTxn 0 x.cmd x.idx x.sub r.code
      if x.fate = 0 then d.slotReady slot r
      else match r with
        | .abort c p => if x.fate = 1 then d.slotAbort x.cmd x.idx x.sub c p else d
        | .ok _ => d

/-- Every remote transaction to a peer ends with 0601h, or all of them for FFh (19 R653, 15 R560). -/
def Dev.remotesLost (d : Dev) (peer : Nat) : Dev :=
  forEach (d.link.remotes.filter (fun x => peer == 0xFF || x.peer == peer)) d
    (fun x d => d.remoteDone x.peer x.slot (.abort 0x0601 0))

/-- The host link reset (03 R126): slots, read-ahead, open transfers of the host, tags and SEQ. -/
def Dev.linkReset (d : Dev) : Dev :=
  let gone := d.link.slots.filterMap (fun o => o.bind (fun x =>
    if x.res.isNone && x.peer = 0xFF then some (x.cmd, x.idx, x.sub, true) else none))
  (d.imgReset 0).setLk (fun l => { l with
    slots := List.replicate 8 none, tag := 1, seq := 0, ra := none, orphans := l.orphans ++ gone,
    remotes := l.remotes.map (fun (x : Remote) => if x.fate = 0 then { x with fate := 1 } else x) })

end Sys2Proof.Machine
end

