-- ==== Sys2Proof/Machine/Tow.lean ====
section
/-!
DEFINITION. Towpath (15): sessions, frames, reliability, lanes, windows, operations, reservations, forwarding.
-/
namespace Sys2Proof.Machine

/-- The device with Towpath changed. -/
def Dev.setTow (d : Dev) (f : TowU → TowU) : Dev := { d with tow := f d.tow }

/-- A session with nothing outstanding. -/
def Sess.idle : Sess := ⟨[], [], [], 0, 0, 0, none, 0⟩

/-- The session with peer `n`. -/
def Dev.sess (d : Dev) (n : Nat) : Sess := d.tow.sess.getD n Sess.idle

/-- The device with a session changed. -/
def Dev.setSess (d : Dev) (n : Nat) (f : Sess → Sess) : Dev := d.setTow (fun t => { t with sess := updAt t.sess n f })

/-- Object `s` of peer `n` and of window `w` (15 Table 15.9). -/
def peerKey (n s : Nat) : Nat := 0x602000 + 256 * n + s
def winKey (w s : Nat) : Nat := 0x604000 + 256 * w + s

def Dev.towOn (d : Dev) : Bool := d.on dTOW && d.rd 0x600001 == 1
def Dev.peerState (d : Dev) (n : Nat) : Nat := d.rd (peerKey n 6)
def Dev.ownEpoch (d : Dev) (n : Nat) : Nat := d.rd (peerKey n 7) % 65536
def Dev.peerEpoch (d : Dev) (n : Nat) : Nat := d.rd (peerKey n 7) / 65536
def Dev.nextSend (d : Dev) (n : Nat) : Nat := d.rd (peerKey n 8) % 65536
def Dev.nextExp (d : Dev) (n : Nat) : Nat := d.rd (peerKey n 8) / 65536

/-- A change of PEER_STATE (15 R522). -/
def Dev.setPeer (d : Dev) (n v : Nat) : Dev :=
  if d.peerState n = v then d else (((d.wr (peerKey n 6) v).fire 76).latch 15)

/-- Statistics counter `i` of 6008h. -/
def Dev.towStat (d : Dev) (i : Nat) : Dev := d.inc (0x600800 + i)

/-- The enabled peer with a node number. -/
def Dev.peerOfNode (d : Dev) (node : Nat) : Option Nat :=
  (List.range 16).find? (fun n => d.rd (peerKey n 1) == 1 && d.rd (peerKey n 2) == node)

/-! ### Frames (15 Tables 15.1, 15.2) -/

/-- The peer whose address and port a frame for peer `n` takes: the forwarding peer, or `n` itself (15 R520, R532). -/
def Dev.carrier (d : Dev) (n : Nat) : Nat :=
  let via := d.rd (peerKey n 5)
  if via = 0xFF then n else (d.peerOfNode via).getD n

/-- The Ethernet octets before the Towpath header. -/
def Dev.towEth (d : Dev) (n : Nat) : Oct :=
  leOct 6 (d.rd (peerKey (d.carrier n) 3)) ++ leOct 6 (d.rd 0x600006) ++ beOct 2 (d.rd 0x600003)

/-- A Towpath frame for peer `n`: subtype, sequence number, body. -/
def Dev.towFrame (d : Dev) (n subtype seq : Nat) (body : Oct) : Oct :=
  d.towEth n ++ [oct (16 + subtype), 0, oct (d.rd 0x600002), oct (d.rd (peerKey n 2)), 0, 0]
    ++ leOct 2 (d.ownEpoch n) ++ leOct 2 (d.peerEpoch n) ++ leOct 2 seq
    ++ leOct 2 (if subtype = 3 then 0 else d.nextExp n) ++ leOct 2 body.length ++ body

/-- The port a frame for peer `n` leaves on. -/
def Dev.peerPort (d : Dev) (n : Nat) : Nat := d.rd (peerKey (d.carrier n) 4)

/-- A frame in its barges handed to the Towpath transmit queue of the peer's port (15 R532); a MAC that is not ON takes none (01
R17). -/
def Dev.sendTow (d : Dev) (n subtype len : Nat) (bs : List Nat) (own : Bool) : Dev :=
  let p := d.peerPort n
  let d := if d.on (macDom p) then d.queueTow p len bs own n
    else (if own then d.freeBarges bs else d).engineOff dTOW [dTOW, macDom p]
  d.setSess n (fun s => { s with lastTx := d.ck, ackDue := if subtype = 3 then s.ackDue else none })

/-- PEER_SEQS and PEER_UNACKED after a change. -/
def Dev.setSeqs (d : Dev) (n snd exp : Nat) : Dev := d.wr (peerKey n 8) (snd % 65536 + 65536 * (exp % 65536))
def Dev.setUnacked (d : Dev) (n : Nat) : Dev := d.wr (peerKey n 9) (d.sess n).unacked.length

/-- Barges for `len` octets from TOW_POUND, owned by TOW:n; a shortage is counted as every failed allocation. -/
def Dev.towAlloc (d : Dev) (n len : Nat) : Option (List Nat) × Dev := d.alloc (d.rd 0x600005) (.tow n) ((len + 255) / 256)

/-- Octets written into barges. -/
def Dev.fillBarges (d : Dev) (bs : List Nat) (data : Oct) : Dev :=
  forEach bs.zipIdx d (fun e d => d.writeMem (256 * e.1) ((data.drop (256 * e.2)).take 256))

/-- TOW_POUND can supply barges for `len` octets. -/
def Dev.towCanAlloc (d : Dev) (len : Nat) : Bool :=
  d.on dPM0 && d.poundState (d.rd 0x600005) == 2 && (len + 255) / 256 ≤ d.poundFree (d.rd 0x600005)

/-- An ACK or HELLO frame built in barges of TOW_POUND and sent; while TOW_POUND has none it waits (15 R532). -/
def Dev.towCtl (d : Dev) (n subtype : Nat) : Dev :=
  let d := d.setSess n (fun s => { s with ctl := s.ctl.filter (· != subtype) })
  let f := d.towFrame n subtype 0 []
  if !d.towCanAlloc f.length then d.setSess n (fun s => { s with ctl := s.ctl ++ [subtype] })
  else match d.towAlloc n f.length with
    | (some bs, d) => (d.fillBarges bs f).sendTow n subtype f.length bs true
    | (none, d) => d

/-- An ACK or HELLO frame is due; without PM0 its attempt is a fault entry (01 R17). -/
def Dev.sendCtl (d : Dev) (n subtype : Nat) : Dev :=
  (if d.on dPM0 then d else d.engineOff dTOW [dTOW, dPM0]).towCtl n subtype

def Dev.sendAck (d : Dev) (n : Nat) : Dev := d.sendCtl n 2
def Dev.sendHello (d : Dev) (n : Nat) : Dev := d.sendCtl n 3

/-- A MAC that carries Towpath is ON (01 Table 1.2). -/
def Dev.towMac (d : Dev) : Bool := (List.range 4).any (fun q => d.flag 0x600004 q && d.on (macDom q))

/-- Towpath memory operations run: TOW, PM0 and a MAC that carries them are ON (01 R16, Table 1.2). -/
def Dev.towReady (d : Dev) : Bool := d.on dTOW && d.on dPM0 && d.towMac

/-- An operation that Towpath cannot run waits, and its attempt is a fault entry (01 R16, R17; log entry 78). -/
def Dev.towMacOff (d : Dev) : Dev := d.engineOff dTOW d.towNeeds

/-- The frames that wait are built and sent while fewer than 8 are unacknowledged and TOW_POUND supplies their barges: a frame
that waits is no failed allocation (15 R528, R532; log entry 81). -/
def Dev.towPump (d : Dev) (n : Nat) : Nat → Dev
  | 0 => d
  | k + 1 =>
    match (d.sess n).waiting with
    | [] => d
    | body :: t =>
      if d.peerState n ≠ 2 || 8 ≤ (d.sess n).unacked.length || !d.towReady || !d.towCanAlloc (30 + body.length) then d
      else
        let q := d.nextSend n
        let f := d.towFrame n 1 q body
        match d.towAlloc n f.length with
        | (some bs, d) =>
          let d := d.fillBarges bs f
          let d := d.setSess n (fun s => { s with
            waiting := t, unacked := s.unacked ++ [⟨q, body, bs, d.ck⟩] })
          let d := (d.setSeqs n (q + 1) (d.nextExp n)).setUnacked n
          (d.sendTow n 1 f.length bs false).towPump n k
        | (none, d) => d

/-- A DATA frame's body queued for a peer (15 R528, R532, 19 R645). -/
def Dev.towQueue (d : Dev) (n : Nat) (body : Oct) : Dev :=
  ((if d.towReady then d else d.towMacOff).setSess n (fun s => { s with waiting := s.waiting ++ [body] })).towPump n 8

/-- Every session's waiting frames looked at again. -/
def Dev.towPumpAll (d : Dev) : Dev :=
  if d.towOn then
    forEach (List.range 16) d (fun n d =>
      let d := forEach (d.sess n).ctl d (fun k d => d.towCtl n k)
      if (d.sess n).waiting.isEmpty then d else d.towPump n 8)
  else d

/-- Barges that a session gives up are freed: the frames in them leave the transmit queues, the one that is being sent keeps its
barges until then. -/
def Dev.towGive (d : Dev) (bs : List Nat) : Dev :=
  let hit (f : TowTx) : Bool := f.barges.any bs.contains
  let busy := (List.range 4).flatMap (fun p => match (d.mac p).cur, (d.mac p).towq with
    | .tow, f :: _ => if hit f then f.barges else []
    | _, _ => [])
  let d := forEach (List.range 4) d (fun p d => d.setMac p (fun m => { m with
    towq := match m.cur, m.towq with
      | .tow, f :: t => (if hit f then { f with own := true } else f) :: t.filter (fun f => !hit f)
      | _, q => q.filter (fun f => !hit f) }))
  d.freeBarges (bs.filter (fun b => !busy.contains b))

/-- The barges of ACK and HELLO frames of peer `n` that wait in transmit queues. -/
def Dev.ctlBarges (d : Dev) (n : Nat) : List Nat :=
  (List.range 4).flatMap (fun p => ((d.mac p).towq.filter (fun f => f.own && f.peer == n)).flatMap (·.barges))

/-! ### Operation records -/

/-- A request's operation record (15 Table 15.2). -/
def opRecord (code tag win3 off len idx sb ty : Nat) : Oct :=
  [oct code, oct tag, 0, oct win3] ++ leOct 4 off ++ leOct 2 len ++ leOct 2 idx ++ [oct sb, oct ty, 0, 0]

def opCode (r : Oct) : Nat := octAt r 0
def opTag (r : Oct) : Nat := octAt r 1
def opWin (r : Oct) : Nat := octAt r 3 % 8
def opScope (r : Oct) : Nat := octAt r 3 / 16 % 4
def opRelease (r : Oct) : Bool := (octAt r 3).testBit 6
def opConflict (r : Oct) : Bool := (octAt r 3).testBit 7
def opOffset (r : Oct) : Nat := leAt r 4 4
def opLen (r : Oct) : Nat := leAt r 8 2
def opStatus (r : Oct) : Nat := leAt r 14 2

/-- The response record of a request, its reserved fields zero (00 R10). -/
def opReply (r : Oct) (status len : Nat) (conflict : Bool) : Oct :=
  [oct (128 + opCode r), oct (opTag r), 0, oct (opWin r + octAt r 3 / 16 % 8 * 16 + 128 * b2n conflict)]
    ++ sub r 4 4 ++ leOct 2 len ++ sub r 10 4 ++ leOct 2 status

/-! ### Operation slots (15 Table 15.7) -/

/-- The object of slot `s`. -/
def opSlotKey (s : Nat) : Nat := 0x607001 + s

/-- OS_STATE of slot `s`. -/
def Dev.osState (d : Dev) (s : Nat) : Nat := d.rd (opSlotKey s) % 256

/-- The slots in a state, as a set. -/
def Dev.osMask (d : Dev) (p : Nat → Bool) : Nat :=
  forEach (List.range 16) 0 (fun s v => if p (d.osState s) then v + 2 ^ s else v)

/-- What slot `s` holds beyond its object. -/
def Dev.opSlot (d : Dev) (s : Nat) : Option OpSlot := d.tow.slots.getD s none

/-- The device with that changed. -/
def Dev.setOpSlot (d : Dev) (s : Nat) (x : Option OpSlot) : Dev :=
  d.setTow (fun t => { t with slots := updAt t.slots s (fun _ => x) })

/-- The local barge of slot `s`. -/
def Dev.slotBarge (d : Dev) (s : Nat) : List Nat := ((d.opSlot s).bind (·.barge)).toList

/-- The local barge returns to the host, or is freed after a WRITE with IS_FREE_AFTER (15 R547). -/
def Dev.slotReturn (d : Dev) (s : Nat) : Dev :=
  match d.opSlot s with
  | some x =>
    (match x.barge with
     | some b => if x.freeAfter then d.freeBarge b else d.requestLock b .host x.len
     | none => d)
  | none => d


/-- A slot becomes DONE when its local barge has returned (15 R547, R548; 19 R647). -/
def Dev.slotDone (d : Dev) (s status len value : Nat) : Dev :=
  let bs := d.slotBarge s
  let d := (d.slotReturn s).awaitLocks bs
  let v := d.rd (opSlotKey s)
  (d.wr (opSlotKey s) (2 + v / 256 % 65536 * 256 + 2 ^ 32 * status + 2 ^ 48 * len + 2 ^ 64 * value)).setOpSlot s none

/-! ### Remote read cache (15 R549, R550) -/

/-- Lines dropped from the cache. -/
def Dev.cacheDrop (d : Dev) (p : CacheLine → Bool) : Dev :=
  d.setTow (fun t => { t with cache := t.cache.filter (fun c => !p c) })

/-- The lines that `len` octets at an offset touch. -/
def linesOf (off len : Nat) : List Nat := (List.range ((off + len - 1) / 64 + 1 - off / 64)).map (· + off / 64)

/-- A write or atomic issued to a peer invalidates the lines it touches. -/
def Dev.cacheTouch (d : Dev) (peer win off len : Nat) : Dev :=
  d.cacheDrop (fun c => c.peer == peer && c.win == win && (linesOf off len).contains c.line)

/-- A line of the cache. -/
def Dev.cacheLine (d : Dev) (peer win l : Nat) : Option Oct :=
  (d.tow.cache.find? (fun c => c.peer == peer && c.win == win && c.line == l)).map (·.data)

/-- The lines of a response stored, the oldest-filled of 64 replaced. -/
def Dev.cacheFill (d : Dev) (peer win off : Nat) (data : Oct) : Dev :=
  let new := (List.range (data.length / 64)).map (fun i => (⟨peer, win, off / 64 + i, sub data (64 * i) 64⟩ : CacheLine))
  forEach new d (fun c d =>
    let d := d.cacheDrop (fun x => x.peer == c.peer && x.win == c.win && x.line == c.line)
    d.setTow (fun t => { t with cache := (if t.cache.length < 64 then t.cache else t.cache.drop 1) ++ [c] }))

/-! ### Reservations (15 R551-R553) -/

/-- A window with nothing pending. -/
def Win.idle : Win := ⟨none, 0, false⟩

/-- Window `w` beyond its objects. -/
def Dev.win (d : Dev) (w : Nat) : Win := d.tow.wins.getD w Win.idle

/-- The device with that changed. -/
def Dev.setWin (d : Dev) (w : Nat) (f : Win → Win) : Dev := d.setTow (fun t => { t with wins := updAt t.wins w f })

/-- WIN_RSV of window `w`. -/
def Dev.rsv (d : Dev) (w : Nat) : Nat := d.rd (winKey w 7)

/-- A reservation taken by peer `n`, or locally (FEh) for a reply from `n`. -/
def Dev.rsvTake (d : Dev) (w v n : Nat) : Dev := (d.wr (winKey w 7) v).setWin w (fun x => { x with rsvAt := some d.ck, rsvPeer := n })

/-- A reservation released. -/
def Dev.rsvFree (d : Dev) (w : Nat) : Dev := (d.wr (winKey w 7) 0xFF).setWin w (fun x => { x with rsvAt := none })

/-- TOW_RSV_HOLD_MS since the reservation was taken (15 R553). -/
def Dev.rsvExpiry (d : Dev) (w : Nat) : Dev :=
  match (d.win w).rsvAt with
  | some t => if d.on dTOW then (d.afterMs t (d.rd 0x60000E)).rsvFree w else d
  | none => d

/-! ### Loss of a session (15 R525, R550, R553; 19 R653) -/

/-- A path operation ends: its barges are freed. -/
def Dev.pathEnd (d : Dev) (x : PathOp) : Dev := d.freeBarges x.barges

/-- A path operation of a mailbox (a write) rather than of a classifier path. -/
def PathOp.mailbox (x : PathOp) : Bool := opCode x.op != 8

/-- The operations of a list whose frames are among the bodies of frames still queued. -/
def pathsQueued : List PathOp → List Oct → List PathOp
  | [], _ => []
  | x :: t, bodies =>
    if x.backoff.isNone && bodies.contains (x.op ++ x.data) then x :: pathsQueued t (bodies.erase (x.op ++ x.data))
    else pathsQueued t bodies

/-- The mailbox messages towards peer `n` whose frames are queued: they wait, or no TP_ACK has passed them. -/
def Dev.mboxQueued (d : Dev) (n : Nat) : List PathOp :=
  pathsQueued (d.tow.paths.filter (fun x => x.peer == n && x.mailbox)).reverse
    ((d.sess n).waiting ++ (d.sess n).unacked.map (·.body))

/-- What a session held is given up (15 R525, 19 R653): queued frames, operation slots, remote transactions, mailbox
messages, cache lines, reservations of its peer, its open DOMAIN transfers (02 R77). -/
def Dev.sessDrop (d : Dev) (n : Nat) : Dev :=
  let d := d.add 0x540007 (d.mboxQueued n).length
  let d := (d.imgReset (peerIni n)).towGive ((d.sess n).unacked.flatMap (·.barges) ++ d.ctlBarges n)
  let d := d.setTow (fun t => { t with todo := t.todo.filter (fun v => octAt v 2 != n) })
  let d := forEach (List.range 16) d (fun k d =>
    if d.osState k = 1 && d.rd (opSlotKey k) / 65536 % 256 = n then d.slotDone k 0x0601 0 0 else d)
  let d := d.remotesLost n
  let mine := d.tow.paths.filter (fun x => x.peer == n)
  let d := forEach mine d (fun x d => d.pathEnd x)
  let d := d.setTow (fun t => { t with paths := t.paths.filter (fun x => x.peer != n) })
  let d := d.cacheDrop (fun c => c.peer == n)
  let d := forEach (List.range 8) d (fun w d => if d.rsv w = n then d.rsvFree w else d)
  (d.setSess n (fun _ => { Sess.idle with lastRx := d.ck, lastTx := d.ck, helloAt := d.ck })).setUnacked n

/-- Entry into OPENING with a new nonzero epoch (15 R523). -/
def Dev.sessOpening (d : Dev) (n : Nat) : Dev :=
  let r := d.draw dTOW
  let e := r.1 % 65535 + 1
  let d := r.2.wr (peerKey n 7) (e + 65536 * r.2.peerEpoch n)
  (d.setSess n (fun s => { s with helloAt := d.ck })).setPeer n 1

/-- A session is lost (15 R525); `why` is FL_DETAIL of kind 0Eh (19 Table 19.4). -/
def Dev.sessLost (d : Dev) (n why : Nat) : Dev :=
  let d := (d.inc (peerKey n 10)).fault 0x0E dTOW 0x0601 n why
  (d.sessDrop n).sessOpening n

/-- A session ends with TOW_RUN or PEER_ENABLE 00h: what it held is given up. -/
def Dev.sessEnd (d : Dev) (n : Nat) : Dev := if d.peerState n = 0 then d else (d.sessDrop n).setPeer n 0

/-! ### Received frames (15 R523-R531, R558) -/

/-- The offset of the Towpath header in a frame. -/
def towAt (l : Oct) : Nat := etOffset l + 2

/-- The header of a frame keeps Table 15.1 and the frame holds TP_LENGTH octets. -/
def towHeaderOk (l : Oct) : Bool :=
  let o := towAt l
  let st := octAt l o % 16
  o + 16 ≤ l.length && octAt l o / 16 == 1 && 1 ≤ st && st ≤ 3 && octAt l (o + 1) == 0 && octAt l (o + 2) < 32
    && octAt l (o + 3) < 32 && octAt l (o + 4) < 2 && octAt l (o + 5) == 0 && o + 16 + leAt l (o + 14) 2 ≤ l.length
    && (st != 1 || 16 ≤ leAt l (o + 14) 2)

/-- The kind of a waiting frame: 0 dropped as stale, 1 DATA, 2 ACK, 3 HELLO, 4 for another node. -/
def Dev.towKind (d : Dev) (l : Oct) : Nat :=
  let o := towAt l
  if !towHeaderOk l then 0
  else if octAt l (o + 3) ≠ d.rd 0x600002 then 4
  else if (d.peerOfNode (octAt l (o + 2))).isNone then 0
  else octAt l o % 16

/-- The frame at the head of the inbox, if it is of a kind; frames to be dropped before it go first. Once TOW is no longer ON, or
TOW_RUN reads 00h, the frames that wait are dropped (15 R560). -/
def Dev.towHead (d : Dev) (kind : Nat) : Option (Nat × Oct) × Dev :=
  match d.tow.inbox with
  | [] => (none, d)
  | (p, l) :: t =>
    let k := d.towKind l
    if !d.towOn then (none, d.setTow (fun x => { x with inbox := [] }))
    else if k = 0 then (none, (d.setTow (fun x => { x with inbox := t })).towStat 2)
    else if k = kind then (some (p, l), d.setTow (fun x => { x with inbox := t }))
    else (none, d)

/-- The epochs of a frame agree with the session's (15 R524). -/
def Dev.epochsOk (d : Dev) (n : Nat) (l : Oct) : Bool :=
  let o := towAt l
  leAt l (o + 6) 2 == d.peerEpoch n && leAt l (o + 8) 2 == d.ownEpoch n

/-- Frames acknowledged by TP_ACK leave the sender, their barges freed (15 R531, R532). -/
def Dev.ackTaken (d : Dev) (n ack : Nat) : Dev :=
  match (d.sess n).unacked with
  | [] => d
  | f :: _ =>
    let k := sub16 ack f.seq
    if k = 0 || (d.sess n).unacked.length < k then d
    else
      let gone := (d.sess n).unacked.take k
      let d := d.towGive (gone.flatMap (·.barges))
      let d := d.setSess n (fun s => { s with unacked := s.unacked.drop k, run := 0 })
      (d.setUnacked n).towPump n 8

/-- A frame has arrived from the peer. -/
def Dev.heard (d : Dev) (n : Nat) : Dev := d.setSess n (fun s => { s with lastRx := d.ck })

/-- A HELLO arrives (15 R523-R525). -/
def Dev.helloRx (d : Dev) : Dev :=
  match d.towHead 3 with
  | (none, d) => d
  | (some (_, l), d) =>
    let o := towAt l
    match d.peerOfNode (octAt l (o + 2)) with
    | none => d
    | some n =>
      let src := leAt l (o + 6) 2
      let d := d.heard n
      let d := if d.peerState n = 2 && src ≠ d.peerEpoch n then d.sessLost n 1 else d
      if d.peerState n = 1 then
        let d := d.wr (peerKey n 7) (d.ownEpoch n + 65536 * src)
        if leAt l (o + 8) 2 = d.ownEpoch n then
          let d := (d.setSeqs n 0 0).setPeer n 2
          let d := d.setSess n (fun s => { s with lastRx := d.ck, run := 0, ackDue := none })
          (d.sendHello n).towPump n 8
        else d
      else d

/-- TOW_HELLO_MS passes in OPENING (15 R523). -/
def Dev.helloTimer (d : Dev) (n : Nat) : Dev :=
  if d.towOn && d.peerState n = 1 then
    let d := d.afterMs (d.sess n).helloAt (d.rd 0x60000B)
    (d.setSess n (fun s => { s with helloAt := d.ck })).sendHello n
  else d

/-- An ACK frame arrives (15 R524, R531). -/
def Dev.ackRx (d : Dev) : Dev :=
  match d.towHead 2 with
  | (none, d) => d
  | (some (_, l), d) =>
    let o := towAt l
    match d.peerOfNode (octAt l (o + 2)) with
    | none => d
    | some n =>
      let d := d.heard n
      if d.peerState n ≠ 2 || !d.epochsOk n l then d.towStat 2 else d.ackTaken n (leAt l (o + 12) 2)

/-- Lane `i`. -/
def Dev.lane (d : Dev) (i : Nat) : Lane := d.tow.lanes.getD i ⟨[], 0⟩

/-- The device with a lane changed. -/
def Dev.setLane (d : Dev) (i : Nat) (f : Lane → Lane) : Dev := d.setTow (fun t => { t with lanes := updAt t.lanes i f })

/-- The header and record of an accepted frame held in the port's scratch barge (15 R534). -/
def Dev.scratchWrite (d : Dev) (p : Nat) (v : Oct) : Dev :=
  let b := d.rd (0x601801 + p)
  let i := (d.lane p).next
  let need := [dTOW, dPM0, bankDom (bankOf b)]
  let d := if d.allOn need then d.writeMem (256 * b + 32 * i) v else d.engineOff dTOW need
  d.setLane p (fun x => { x with next := (i + 1) % 8 })

/-- A DATA frame arrives (15 R524, R529, R533, R534). -/
def Dev.dataRx (d : Dev) : Dev :=
  match d.towHead 1 with
  | (none, d) => d
  | (some (p, l), d) =>
    let o := towAt l
    match d.peerOfNode (octAt l (o + 2)) with
    | none => d
    | some n =>
      let d := d.heard n
      if d.peerState n ≠ 2 || !d.epochsOk n l then d.towStat 2
      else
        let d := d.ackTaken n (leAt l (o + 12) 2)
        let body := sub l (o + 16) (leAt l (o + 14) 2)
        let q := sub16 (leAt l (o + 10) 2) (d.nextExp n)
        if q = 0 then
          let data := body.drop 16
          let d := if d.on dPM0 then d else d.engineOff dTOW [dTOW, dPM0]
          if 8 ≤ (d.lane p).ops.length then (d.towStat 4).sendAck n
          else match d.towAlloc n data.length with
            | (some bs, d) =>
              let d := (d.fillBarges bs data).scratchWrite p (sub l o 32)
              let w := opWin body
              let d := d.setLane p (fun x => { x with
                ops := x.ops ++ [⟨n, d.ownEpoch n, body.take 16, data, bs, (d.win w).closing, false, none⟩] })
              let d := d.setSeqs n (d.nextSend n) (d.nextExp n + 1)
              d.setSess n (fun s => { s with ackDue := some (s.ackDue.getD d.ck) })
            | (none, d) => (d.towStat 4).sendAck n
        else if q < 32768 then (d.towStat 3).sendAck n
        else d.sendAck n

/-- TOW_ACK_DELAY passes without outgoing DATA (15 R530). -/
def Dev.ackDelay (d : Dev) (n : Nat) : Dev :=
  match (d.sess n).ackDue with
  | some t => if d.towOn && d.peerState n = 2 then (d.afterUs t (d.rd 0x60000C)).sendAck n else d
  | none => d

/-- An unacknowledged frame sent again, with the present TP_ACK; one that has lost a barge with its bank cannot be (log entry
82). -/
def Dev.resend (d : Dev) (n : Nat) (f : TowFrame) : Dev :=
  let len := 30 + f.body.length
  match f.barges with
  | b :: _ =>
    if f.barges.length * 256 < len || !d.bankOn (bankOf b) then d
    else (d.writeMem (256 * b + 26) (leOct 2 (d.nextExp n))).sendTow n 1 len f.barges false
  | [] => d

/-- TOW_RTO passes without an advance of TP_ACK (15 R525, R531). -/
def Dev.rtoExpiry (d : Dev) (n : Nat) : Dev :=
  match (d.sess n).unacked with
  | [] => d
  | f :: _ =>
    if !d.towOn || d.peerState n ≠ 2 then d
    else
      let d := (d.afterUs f.sentAt (d.rd 0x600008)).towStat 1
      let run := (d.sess n).run + 1
      let d := d.setSess n (fun s => { s with run := run })
      let d := if run = (d.rd 0x600009 + 1) / 2 then d.fire 79 else d
      if d.rd 0x600009 ≤ run then d.sessLost n 2
      else
        let d := forEach (d.sess n).unacked d (fun f d => d.resend n f)
        d.setSess n (fun s => { s with unacked := s.unacked.map (fun f => { f with sentAt := d.ck }) })

/-- TOW_DEAD_MS without a frame from the peer (15 R525). -/
def Dev.deadTimeout (d : Dev) (n : Nat) : Dev :=
  if d.towOn && d.peerState n = 2 then (d.afterMs (d.sess n).lastRx (d.rd 0x60000A)).sessLost n 3 else d

/-- TOW_DEAD_MS / 4 without a frame to the peer (15 R526). -/
def Dev.keepalive (d : Dev) (n : Nat) : Dev :=
  if d.towOn && d.peerState n = 2 then (d.advanceTo ((d.sess n).lastTx + d.rd 0x60000A * ckPerMs / 4)).sendAck n else d

/-- A frame for another node (15 R558). -/
def Dev.forward (d : Dev) : Dev :=
  match d.towHead 4 with
  | (none, d) => d
  | (some (_, l), d) =>
    let o := towAt l
    let drop (d : Dev) : Dev := (d.towStat 7).fire 79
    match d.peerOfNode (octAt l (o + 3)) with
    | none => drop d
    | some n =>
      if d.rd 0x600007 ≠ 1 || (octAt l (o + 4)).testBit 0 || d.rd (peerKey n 5) ≠ 0xFF then drop d
      else
        let f := leOct 6 (d.rd (peerKey n 3)) ++ leOct 6 (d.rd 0x600006) ++ beOct 2 (d.rd 0x600003)
          ++ patch (sub l o (16 + leAt l (o + 14) 2)) 4 [1]
        match d.towAlloc n f.length with
          | (some bs, d) => ((d.fillBarges bs f).queueTow (d.rd (peerKey n 4)) f.length bs true 0xFF).towStat 6
          | (none, d) => drop d

/-! ### Windows (15 R539-R542, R561) -/

/-- The range of a window: first barge and number. -/
def Dev.winRange (d : Dev) (w : Nat) : Nat × Nat := (d.rd (winKey w 2), d.rd (winKey w 3))

/-- The rest owner of a window. -/
def Dev.winRest (d : Dev) (w : Nat) : Owner := let v := d.rd (winKey w 4); if v = 1 then .host else .tow (v % 16)

/-- The range rules of R539. -/
def Dev.winRangeOk (d : Dev) (w : Nat) : Bool :=
  let r := d.winRange w
  r.1 + r.2 ≤ nBarges
    && (List.range 16).all (fun p => !overlap r.1 r.2 (d.poundBase p) (d.poundCount p))
    && (d.ringsOver r.1 r.2).isEmpty
    && (List.range 4).all (fun p => !d.flag 0x600004 p || !overlap r.1 r.2 (d.rd (0x601801 + p)) 1)
    && (List.range 8).all (fun v => v == w || d.rd (winKey v 1) == 0 || !overlap r.1 r.2 (d.winRange v).1 (d.winRange v).2)

/-- The barges of a window. -/
def Dev.winBarges (d : Dev) (w : Nat) : List Nat := (List.range (d.winRange w).2).map (· + (d.winRange w).1)

/-- A barge of the range is not a HOST barge (15 R539). -/
def Dev.winBlocked (d : Dev) (w : Nat) : Bool :=
  (d.winBarges w).any (fun b => b < nBarges && ((d.barge b).owner != .host || d.lockBusy b || !d.bankOn (bankOf b)))

/-- WIN_ENABLE 01h (15 R540). -/
def Dev.winEnable (d : Dev) (w : Nat) : Dev :=
  if d.rd (winKey w 1) = 1 then d.setWin w (fun x => { x with closing := false })
  else
    let d := d.wr (winKey w 1) 1
    match d.winRest w with
    | .tow m => forEach (d.winBarges w) d (fun b d => d.requestLock b (.tow m) 256)
    | _ => d

/-- An accepted operation on a window is in a lane; operations of the LOCAL lane beyond its 8 entries wait to be accepted
(15 R533, R547). -/
def Dev.winInLane (d : Dev) (w : Nat) : Bool :=
  d.tow.lanes.any (fun l => (l.ops.take 8).any (fun x => opCode x.op ≤ 7 && 1 ≤ opCode x.op && opWin x.op == w && !x.closed))

/-- A window whose disabling can take effect (15 R540, R561). -/
def Dev.winSettle (d : Dev) (w : Nat) : Dev :=
  if (d.win w).closing && !d.winInLane w then
    let d := match d.winRest w with
      | .tow _ => forEach (d.winBarges w) d (fun b d => d.requestLock b .host 256)
      | _ => d
    ((d.wr (winKey w 1) 0).rsvFree w).setWin w (fun x => { x with closing := false })
  else d

/-- WIN_ENABLE 00h (15 R561). -/
def Dev.winDisable (d : Dev) (w : Nat) : Dev :=
  if d.rd (winKey w 1) = 0 then d else (d.setWin w (fun x => { x with closing := true })).winSettle w

/-! ### Applying operations (15 R533, R537, R542-R545, R551) -/

/-- The operation at the head of a lane leaves it, the barges of its data are freed, and the next that waits enters (15 R533,
R561). -/
def Dev.laneDone (d : Dev) (i : Nat) : Dev :=
  match (d.lane i).ops with
  | [] => d
  | x :: t =>
    let t := updAt t 7 (fun y => { y with closed := (d.win (opWin y.op)).closing })
    ((d.setLane i (fun l => { l with ops := t })).freeBarges x.barges).winSettle (opWin x.op)

/-- The response to a lane's operation: queued to the peer while the session is the one it came by, or the operation
slot of an own-node operation completed (15 R525, R537, R547). -/
def Dev.respond (d : Dev) (x : LaneOp) (status : Nat) (data : Oct) (conflict : Bool) : Dev :=
  if x.peer = 0xFF then
    let s := opTag x.op
    let rd := opCode x.op ≤ 2
    let d := match d.opSlot s with
      | some y =>
        (match y.barge with
         | some b => if rd && !data.isEmpty then d.writeMem (256 * b) data else d
         | none => d)
      | none => d
    d.slotDone s status data.length (if rd || opCode x.op ≤ 4 then 0 else leAt data 0 8)
  else if d.peerState x.peer = 2 && d.ownEpoch x.peer = x.epoch then
    d.towQueue x.peer (opReply x.op status data.length conflict ++ data)
  else d

/-- A refused operation (15 R542). -/
def Dev.opRefuse (d : Dev) (i : Nat) (x : LaneOp) (status : Nat) (conflict : Bool := false) : Dev :=
  let d := (((d.inc (winKey (opWin x.op) 8)).towStat 5).fire 78)
  (d.respond x status [] conflict).laneDone i

/-- An access to a bank that is not ON (06 R217). -/
def Dev.accessOff (d : Dev) (ini addr : Nat) : Dev :=
  ((d.inc 0x213002).wr 0x213003 (addr % 2 ^ 24 + 2 ^ 24 * ini)).fire 5

/-- The rights bits an operation needs: read, write, atomic, reserve (15 Table 15.3). -/
def opRights (code : Nat) : List Nat :=
  match code with
  | 1 | 2 => [0]
  | 3 => [1]
  | 4 => [1, 3]
  | _ => [2]

/-- The octets an operation touches. -/
def opSize (r : Oct) : Nat := if opCode r ≤ 4 then opLen r else 8

/-- OP_LENGTH is in the range of Table 15.3: from 1 to 1,024 octets to move, the operands of an atomic. -/
def opLenOk (r : Oct) : Bool :=
  match opCode r with
  | 1 | 2 | 3 | 4 => decide (1 ≤ opLen r) && decide (opLen r ≤ 1024)
  | 7 => opLen r == 16
  | _ => opLen r == 8

/-- A bank an operation touches is not ON: OFF, or in RETENTION (15 Table 15.4, order 3). -/
def Dev.opBanks (d : Dev) (base n : Nat) : Option Nat :=
  (((bargesOf base n).map bankOf).find? (fun b => !d.bankOn b)).map (fun b =>
    if d.domEff (bankDom b) = .off || d.domEff dPM0 = .off then 0x0401 else 0x0402)

/-- The status of the checks of orders 1 to 4 of Table 15.4; none when all pass. Data shorter than the record says is 0301h, an
own-node operation needs no peer's right (log entry 81); data whose bank went OFF is 0401h (19 R651). -/
def Dev.opCheck (d : Dev) (x : LaneOp) : Option Nat :=
  let w := opWin x.op
  let n := opSize x.op
  let code := opCode x.op
  let off := opOffset x.op
  let base := 256 * (d.winRange w).1 + off
  if d.rd (winKey w 1) = 0 || x.closed || (d.winRange w).2 * 256 < off + opLen x.op
      || (3 ≤ code && x.data.length < opLen x.op) || (5 ≤ code && off % 8 ≠ 0) || !opLenOk x.op then some 0x0301
  else if x.peer < 16 && (opRights code).any (fun b => !d.flag (winKey w 5) (4 * x.peer + b)) then some 0x0203
  else if x.lost then some 0x0401
  else match d.opBanks base n with
    | some st => some st
    | none => if (bargesOf base n).any (fun b => (d.barge b).owner != d.winRest w) then some 0x0203 else none

/-- The start of a window access in packet memory. -/
def Dev.opAddr (d : Dev) (x : LaneOp) : Nat := 256 * (d.winRange (opWin x.op)).1 + opOffset x.op

/-- The barges a window operation touches. -/
def Dev.opBarges (d : Dev) (x : LaneOp) : List Nat := bargesOf (d.opAddr x) (opSize x.op)

/-- The owner TOW:n an operation takes barges for: its peer's, TOW:0 for the own node's (15 R540, R547). -/
def opOwner (x : LaneOp) : Owner := .tow (if x.peer = 0xFF then 0 else x.peer)

/-- The lock cycles with L = 256 that hand the barges of a HOST window to an owner, passed (15 R540). -/
def Dev.winHand (d : Dev) (x : LaneOp) (dst : Owner) : Dev :=
  if d.winRest (opWin x.op) = .host then
    (forEach (d.opBarges x) d (fun b d => d.requestLock b dst 256)).awaitLocks (d.opBarges x)
  else d

/-- The head of a lane when it is an operation of one of the codes given and nothing keeps it waiting: the lock cycles on the
barges it touches have passed (15 Table 15.4, order 4); a head of no code of Table 15.3 is answered 0301h. -/
def Dev.laneHead (d : Dev) (i : Nat) (codes : List Nat) : Option LaneOp × Dev :=
  if !d.on dTOW then (none, d)
  else match (d.lane i).ops with
    | [] => (none, d)
    | x :: _ =>
      let c := opCode x.op
      if c = 0 || (10 < c && c < 0x81) || 0x8A < c then (none, (d.respond x 0x0301 [] false).laneDone i)
      else if !codes.contains c then (none, d)
      else if !d.towMac then (none, d.towMacOff)
      else (some x, if c ≤ 7 then d.awaitLocks (d.opBarges x) else d)

/-- A refusal with the access count of R217 where a bank is not ON. -/
def Dev.opFail (d : Dev) (i : Nat) (x : LaneOp) (st : Nat) : Dev :=
  let d := if st = 0x0401 || st = 0x0402 then d.accessOff (if x.peer = 0xFF then 0 else 0x10 + x.peer) (d.opAddr x) else d
  d.opRefuse i x st

/-- The data of a lane's operation as its barges hold it, and whether they may not be consumed: one is poisoned or a word of
theirs uncorrectable (09 R311, R312; 15 R534). The own node's operations have no barges. -/
def Dev.laneData (d : Dev) (x : LaneOp) : Oct × Bool × Dev :=
  if x.barges.isEmpty then (x.data, false, d)
  else
    let a := d.readPlaces (framePlaces x.barges x.data.length)
    (a.1, x.barges.any (fun b => (d.barge b).poison) || !a.2.1.isEmpty, a.2.2)

/-- A barge of the window that an operation would read is poisoned (09 R312). -/
def Dev.opPoison (d : Dev) (x : LaneOp) : Bool := (d.opBarges x).any (fun b => (d.barge b).poison)

/-- OP_READ and OP_READ_ACQUIRE (15 R540, R543). -/
def Dev.laneRead (d : Dev) (i code : Nat) (ss : List Strike) : Dev :=
  match d.laneHead i [code] with
  | (none, d) => d
  | (some x, d) =>
    match d.opCheck x with
    | some st => d.opFail i x st
    | none =>
      if d.opPoison x then d.opRefuse i x 0x0701
      else
      let a := (d.winHand x (opOwner x)).readMem (d.opAddr x) (opLen x.op) ss
      let d := a.2.2.winHand x .host
      if a.2.1.isEmpty then (d.respond x 0 a.1 false).laneDone i
      else
        let d := (((d.inc (winKey (opWin x.op) 8)).towStat 5).fire 78)
        (d.respond x 0x0701 a.1 false).laneDone i

/-- The data of a write stored, and the reservation released by its holder's OP_RELEASE (15 R540, R543, R553); `pre` is what a
reserving write does before it. `ss` are errors that come about in the words read and merged (09 R310, R314); one that is
uncorrectable refuses the write (15 Table 15.4, order 6). -/
def Dev.laneStore (d : Dev) (i : Nat) (x : LaneOp) (ss : List Strike) (pre : Dev → Dev := id) : Dev :=
  let v := (d.strike ss).laneData x
  if v.2.1 then v.2.2.opRefuse i x 0x0701
  else
    let a := (v.2.2.winHand x (opOwner x)).eccScan (partWords (d.opAddr x) (opLen x.op)) []
    if !a.1.isEmpty then (a.2.winHand x .host).opRefuse i x 0x0701
    else
      let d := ((pre a.2).writeMem (d.opAddr x) (v.1.take (opLen x.op))).winHand x .host
      let w := opWin x.op
      let d := if opRelease x.op && d.rsv w = (if x.peer = 0xFF then 0xFE else x.peer) then d.rsvFree w else d
      (d.respond x 0 [] false).laneDone i

/-- OP_WRITE (15 R543). -/
def Dev.laneWrite (d : Dev) (i : Nat) (ss : List Strike) : Dev :=
  match d.laneHead i [3] with
  | (none, d) => d
  | (some x, d) =>
    match d.opCheck x with
    | some st => d.opFail i x st
    | none => d.laneStore i x ss

/-- OP_WRITE_RESERVE (15 R551, 14 R516). -/
def Dev.laneReserve (d : Dev) (i : Nat) (ss : List Strike) : Dev :=
  match d.laneHead i [4] with
  | (none, d) => d
  | (some x, d) =>
    match d.opCheck x with
    | some st => d.opFail i x st
    | none =>
      let w := opWin x.op
      let v := d.rsv w
      let take (d : Dev) : Dev := d.rsvTake w x.peer x.peer
      if v = 0xFF || v = x.peer then d.laneStore i x ss take
      else if v = 0xFE && (d.win w).rsvPeer = x.peer then
        if d.rd 0x600002 < d.rd (peerKey x.peer 2) then d.opRefuse i x 0x0203 true
        else d.laneStore i x ss (fun d => take (d.rsvFree w))
      else d.opRefuse i x 0x0203

/-- The value an atomic stores (15 R544). -/
def atomicNew (x : LaneOp) (old : Nat) : Option Nat :=
  match opCode x.op with
  | 5 => some ((old + leAt x.data 0 8) % 2 ^ 64)
  | 6 => some (leAt x.data 0 8)
  | _ => if old = leAt x.data 0 8 then some (leAt x.data 8 8) else none

/-- The end of an atomic: the new value stored and the old one answered. -/
def Dev.atomicEnd (d : Dev) (i : Nat) (x : LaneOp) (new : Option Nat) (old : Nat) : Dev :=
  let d := match new with
    | some v => d.writeMem (d.opAddr x) (leOct 8 v)
    | none => d
  ((d.winHand x .host).respond x 0 (leOct 8 old) false).laneDone i

/-- The read slot of an atomic, or its one read-modify-write (15 R544, Table 15.5): the barge of a HOST window is taken (R540). -/
def Dev.atomicRead (d : Dev) (i : Nat) (x : LaneOp) (ss : List Strike) : Dev :=
  let v := (d.strike ss).laneData x
  if v.2.1 || d.opPoison x then v.2.2.opRefuse i x 0x0701
  else
    let a := (v.2.2.winHand x (opOwner x)).readMem (d.opAddr x) 8 []
    let old := leNat a.1
    let x := { x with data := v.1 }
    if !a.2.1.isEmpty then (a.2.2.winHand x .host).opRefuse i x 0x0701
    else if opScope x.op = 2 then a.2.2.atomicEnd i x (atomicNew x old) old
    else a.2.2.setLane i (fun l => { l with ops := updAt l.ops 0 (fun y => { y with old := some old }) })

/-- The write slot of an atomic of scope CHIP or LINK, whose read slot found `o`. A word that another party has written in between
leaves an undefined result: free values (15 R545; log entry 6). -/
def Dev.atomicWrite (d : Dev) (i : Nat) (x : LaneOp) (o : Nat) (ss : List Strike) : Dev :=
  let v := (d.strike ss).laneData x
  let a := v.2.2.readMem (d.opAddr x) 8 []
  let x := { x with data := v.1 }
  if v.2.1 || !a.2.1.isEmpty then (a.2.2.winHand x .host).opRefuse i x 0x0701
  else if leNat a.1 = o then a.2.2.atomicEnd i x (atomicNew x o) o
  else
    let f := a.2.2.free
    let g := f.2.free
    g.2.atomicEnd i x (some (f.1 % 2 ^ 64)) (g.1 % 2 ^ 64)

/-- OP_FETCH_ADD, OP_SWAP and OP_CAS (15 R544, R545, Table 15.5): PLANT in one read-modify-write, CHIP and LINK in a
read slot and, with the next command of the lane, a write slot; the barge of a HOST window stays with TOW:n from the one to the
other (R540; log entry 81). -/
def Dev.laneAtomic (d : Dev) (i code : Nat) (ss : List Strike) : Dev :=
  match d.laneHead i [code] with
  | (none, d) => d
  | (some x, d) =>
    match x.old with
    | none =>
      (match d.opCheck x with
       | some st => d.opFail i x st
       | none => d.atomicRead i x ss)
    | some o =>
      match d.opBanks (d.opAddr x) 8 with
      | some st => (if st = 0x0402 then d.winHand x .host else d).opFail i x st
      | none => d.atomicWrite i x o ss

/-- OP_FRAME (15 R557): answered when its barges' lock cycles have passed (15 R537), with 0401h where its data went with its bank
(19 R651). Without CORE or PM0 the frame is not delivered, and answered all the same (01 R17; log entry 81). -/
def Dev.laneFrame (d : Dev) (i : Nat) : Dev :=
  match d.laneHead i [8] with
  | (none, d) => d
  | (some x, d) =>
    if x.lost then (d.respond x 0x0401 [] false).laneDone i
    else if !d.allOn [dTOW, dCORE, dPM0] then ((d.engineOff dTOW [dTOW, dCORE, dPM0]).respond x 0 [] false).laneDone i
    else
      let r := rxRing (d.rd 0x600012)
      let desc := rxDesc i x.data.length 0 0 0 0 (tagCount x.data) false none x.barges
      let d := (d.deliverRx r desc x.barges x.data.length).2.awaitLocks x.barges
      let d := d.setLane i (fun l => { l with ops := updAt l.ops 0 (fun y => { y with barges := [] }) })
      (d.respond x 0 [] false).laneDone i

/-! ### Responses at the initiator (15 R548, R549, R552, R556; 14 R516) -/

/-- An operation queued to a peer, or accepted by the LOCAL lane (15 R546, R547). -/
def Dev.launch (d : Dev) (peer : Nat) (op data : Oct) : Dev :=
  if peer = 0xFF then
    d.setLane 4 (fun l => { l with ops := l.ops ++ [⟨0xFF, 0, op, data, [], (d.win (opWin op)).closing, false, none⟩] })
  else d.towQueue peer (op ++ data)

/-- The back-off of a refused reserving write: k x 100 us with k from 1 to 16 (14 R516). -/
def Dev.backoffDraw (d : Dev) : (Nat × Nat) × Dev := let r := d.draw dTOW; ((r.2.ck, (r.1 % 16 + 1) * 10000), r.2)

/-- A response for an operation slot (15 R547-R549, R552). -/
def Dev.slotResponse (d : Dev) (n : Nat) (r data : Oct) : Dev :=
  let s := opTag r
  let code := opCode r - 128
  let st := opStatus r
  match d.opSlot s with
  | none => d
  | some y =>
    if d.osState s ≠ 1 || d.rd (opSlotKey s) / 65536 % 256 ≠ n || opCode y.op ≠ code then d
    else if code = 4 && st = 0x0203 then
      let d := match y.rsvWin with
        | some w => if opConflict r && d.rsv w = 0xFE && (d.win w).rsvPeer = n then d.rsvFree w else d
        | none => d
      if d.rd 0x60000F ≤ y.tries then d.slotDone s 0x0203 0 0
      else let b := (d.towStat 8).backoffDraw; b.2.setOpSlot s (some { y with backoff := some b.1 })
    else if code ≤ 2 then
      let d := if code = 1 && st = 0 && opOffset y.op % 64 = 0 && data.length % 64 = 0 && d.rd 0x60000D = 1
        then d.cacheFill n (opWin y.op) (opOffset y.op) data else d
      let v := sub data (y.off - opOffset y.op) (if st = 0 || st = 0x0701 then y.len else 0)
      let d := match y.barge with
        | some b => if v.isEmpty then d else d.writeMem (256 * b) v
        | none => d
      d.slotDone s st v.length 0
    else d.slotDone s st data.length (if code ≤ 4 then 0 else leAt data 0 8)

/-- A response for a mailbox write or a classifier path frame: the oldest one awaited towards the peer
(14 R500, R516). -/
def Dev.pathResponse (d : Dev) (n : Nat) (r : Oct) : Dev :=
  match d.tow.paths.findIdx? (fun x => x.peer == n && x.backoff.isNone) with
  | none => d
  | some i =>
    match d.tow.paths[i]? with
    | none => d
    | some x =>
      let d := if opCode x.op = 4 && opConflict r then d.inc 0x54000A else d
      if opCode x.op = 4 && opStatus r = 0x0203 && x.tries < d.rd 0x60000F then
        let b := (d.towStat 8).backoffDraw
        b.2.setTow (fun t => { t with paths := updAt t.paths i (fun y => { y with backoff := some b.1 }) })
      else (d.setTow (fun t => { t with paths := t.paths.eraseIdx i })).pathEnd x

/-- A response at the head of a lane (15 R548, R556); one whose data may not be consumed counts as 0701h (09 R312; log entry
81). -/
def Dev.laneResponse (d : Dev) (i : Nat) : Dev :=
  match d.laneHead i [0x81, 0x82, 0x83, 0x84, 0x85, 0x86, 0x87, 0x88, 0x89, 0x8A] with
  | (none, d) => d
  | (some x, d) =>
    let v := d.laneData x
    let x := { x with data := v.1, op := if v.2.1 && opStatus x.op = 0 then patch x.op 14 (leOct 2 0x0701) else x.op }
    let d := v.2.2.laneDone i
    let c := opCode x.op
    if x.peer = 0xFF then d
    else if c = 0x89 || c = 0x8A then
      let st := opStatus x.op
      let data := x.data.take (opLen x.op)
      let res : Res := if st = 0 then .ok (if c = 0x89 then leOct 2 data.length ++ data else []) else .abort 0x0602 st
      d.remoteDone x.peer (opTag x.op) res
    else if opTag x.op = 0xFF then d.pathResponse x.peer x.op
    else d.slotResponse x.peer x.op (x.data.take (opLen x.op))

/-- A back-off ends and the reserving write is sent again (15 R552, 14 R516). -/
def Dev.backoffExpiry (d : Dev) (n tag : Nat) : Dev :=
  if !d.towOn then d
  else if !d.towReady then d.towMacOff
  else if tag = 0xFF then
    match d.tow.paths.findIdx? (fun x => x.peer == n && x.backoff.isSome) with
    | none => d
    | some i =>
      match d.tow.paths[i]? with
      | none => d
      | some x =>
        let t := x.backoff.getD (d.ck, 0)
        let d := d.advanceTo (t.1 + t.2)
        let d := d.setTow (fun y => { y with
          paths := y.paths.eraseIdx i ++ [{ x with backoff := none, tries := x.tries + 1 }] })
        d.launch n x.op x.data
  else match d.opSlot tag with
    | none => d
    | some y =>
      match y.backoff with
      | none => d
      | some t =>
        if d.rd (opSlotKey tag) / 65536 % 256 ≠ n then d
        else
          let d := d.advanceTo (t.1 + t.2)
          (d.setOpSlot tag (some { y with backoff := none, tries := y.tries + 1 })).launch n y.op y.data

/-! ### Issuing operations (15 R546-R551) -/

/-- The fields of TOW_ISSUE (15 Table 15.6). -/
def isOp (v : Oct) : Nat := octAt v 0
def isSlot (v : Oct) : Nat := octAt v 1
def isPeer (v : Oct) : Nat := octAt v 2
def isBarge (v : Oct) : Nat := leAt v 4 2
def isLen (v : Oct) : Nat := leAt v 12 2

/-- READ, READ_ACQUIRE, WRITE and WRITE_RESERVE move a local barge. -/
def isMoves (v : Oct) : Bool := 1 ≤ isOp v && isOp v ≤ 4

/-- The state rules of TOW_ISSUE (order 5; 15 R546, R551). -/
def Dev.issueState (d : Dev) (ini : Nat) (v : Oct) : Bool :=
  ini ≠ 0 || (isSlot v < 16 && d.osState (isSlot v) ≠ 0)
    || (isMoves v && isBarge v < nBarges &&
      ((d.barge (isBarge v)).owner != .host || d.lockBusy (isBarge v) || !d.bankOn (bankOf (isBarge v))))
    || (isOp v = 4 && isPeer v < 16 && d.rsv (octAt v 6 % 8) ≠ 0xFF)

/-- The fields lie within Table 15.6 (order 9; 15 R546). -/
def issueFieldsOk (v : Oct) : Bool :=
  let sc := octAt v 3 / 16 % 4
  1 ≤ isOp v && isOp v ≤ 7 && isSlot v < 16 && (isPeer v < 16 || isPeer v == 0xFF)
    && !(octAt v 3).testBit 3 && octAt v 6 < 8 && octAt v 7 == 0 && leAt v 14 2 == 0
    && (if isMoves v then isBarge v < nBarges && 1 ≤ isLen v && isLen v ≤ 256 && sc == 0
        else isBarge v == 0xFFFF && sc != 3 && (sc != 0 || isPeer v == 0xFF))
    && !(isOp v == 4 && isPeer v == 0xFF)

/-- The local barge's owner while the operation runs (15 R547). -/
def Dev.issueOwner (d : Dev) (v : Oct) : Owner :=
  if isPeer v < 16 then .tow (isPeer v)
  else match d.winRest (octAt v 3 % 8) with
    | .tow m => .tow m
    | _ => .tow 0

/-- A READ whose lines the cache all holds (15 R549). -/
def Dev.cacheHit (d : Dev) (v : Oct) : Option Oct :=
  if isOp v = 1 && isPeer v < 16 && d.rd 0x60000D = 1 then
    let off := leAt v 8 4
    let ls := linesOf off (isLen v)
    let got := ls.filterMap (d.cacheLine (isPeer v) (octAt v 3 % 8))
    if got.length = ls.length then some (sub got.flatten (off % 64) (isLen v)) else none
  else none

/-- The local barge of an issued operation has passed to TOW:n (15 R547, 01 R19). -/
def Dev.issueTake (d : Dev) (v : Oct) : Dev :=
  if isMoves v then (d.requestLock (isBarge v) (d.issueOwner v) 256).awaitLocks [isBarge v] else d

/-- An issued operation begins (15 R546-R551). A WRITE from a poisoned barge, or one whose read fails, completes with 0701h and
sends nothing (09 R311, R312); one whose local barge has left the host while it waited, with 0203h (log entry 81). -/
def Dev.issueBegin (d : Dev) (v : Oct) : Dev :=
  let n := isPeer v
  let s := isSlot v
  let code := isOp v
  let w := octAt v 3 % 8
  let off := leAt v 8 4
  if isMoves v && d.ownerAfter (isBarge v) != .host then d.slotDone s 0x0203 0 0
  else
    match d.cacheHit v with
    | some data =>
      let b := isBarge v
      let d := ((d.towStat 9).issueTake v).writeMem (256 * b) data
      let d := d.setOpSlot s (some ⟨[], [], some b, isLen v, false, none, 1, none, off⟩)
      d.slotDone s 0 (isLen v) 0
    | none =>
      let d := d.issueTake v
      let writes := code == 3 || code == 4
      let src := if writes then d.readMem (256 * isBarge v) (isLen v) [] else ([], [], d)
      let d := src.2.2
      if writes && (d.barge (isBarge v)).poison then
        (d.setOpSlot s (some ⟨[], [], some (isBarge v), 256, (octAt v 3).testBit 6, none, 1, none, off⟩)).slotDone s 0x0701 0 0
      else
      let d := if code = 2 then d.cacheDrop (fun c => c.peer == n) else d
      let d := if 3 ≤ code then d.cacheTouch n w off (if code ≤ 4 then isLen v else 8) else d
      let wide := code == 1 && n < 16 && d.rd 0x60000D == 1
      let o := if wide then off / 64 * 64 else off
      let len := if 5 ≤ code then (if code = 7 then 16 else 8) else if wide then (off + isLen v + 63) / 64 * 64 - o else isLen v
      let data := match code with
        | 3 | 4 => src.1
        | 5 | 6 => sub v 16 8
        | 7 => sub v 16 16
        | _ => []
      let flags := w + 16 * (octAt v 3 / 16 % 4) + 64 * b2n ((octAt v 3).testBit 7)
      let op := opRecord code s flags o len 0 0 0
      let d := d.setOpSlot s (some ⟨op, data, if isMoves v then some (isBarge v) else none,
        if code ≤ 2 then isLen v else 256, (code == 3 || code == 4) && (octAt v 3).testBit 6,
        if code = 4 then some (octAt v 6 % 8) else none, 1, none, off⟩)
      d.launch n op data

/-- Issued operations begin in their order while Towpath can run them (01 R16). -/
def Dev.issueRun (d : Dev) : Nat → Dev
  | 0 => d
  | k + 1 =>
    match d.tow.todo with
    | [] => d
    | v :: t => if d.towReady then ((d.setTow (fun x => { x with todo := t })).issueBegin v).issueRun k else d

/-- TOW_ISSUE takes effect (15 R546, R551): 0601h, or the slot PENDING, the local reservation taken and the operation queued. -/
def Dev.issue (d : Dev) (v : Oct) : WRes :=
  let n := isPeer v
  if n < 16 && (d.peerState n ≠ 2 || !d.towOn) then .abort 0x0601 d
  else
    let d := if d.towReady then d else d.towMacOff
    let d := d.wr (opSlotKey (isSlot v)) (1 + 256 * isOp v + 65536 * n)
    let d := if isOp v = 4 then d.rsvTake (octAt v 6 % 8) 0xFE n else d
    .ok ((d.setTow (fun x => { x with todo := x.todo ++ [v] })).issueRun 17)

/-- TOW_SLOT_RELEASE (15 R548). -/
def Dev.slotRelease (d : Dev) (v : Nat) : Dev :=
  forEach (List.range 16) d (fun s d => if v.testBit s && d.osState s = 2 then d.wr (opSlotKey s) 0 else d)

/-! ### Bridge mailboxes and classifier paths (14 R500, 15 R557) -/

/-- A mailbox message in barge `b` written to its window when the barge has passed to TOW:n (14 R500, 01 R19); a poisoned barge
is refused and its message dropped (09 R312). -/
def Dev.mailbox (d : Dev) (m b : Nat) (recd : Oct) : Dev :=
  let v := d.rd (0x542001 + m)
  let n := v % 16
  let w := bits v 6 4
  let off := bits v 23 8
  let code := if v.testBit 24 then 4 else 3
  let op := opRecord code 0xFF w off recd.length 0 0 0
  let d := (d.requestLock b (.tow n) recd.length).awaitLocks [b]
  if (d.barge b).poison then (d.freeBarge b).inc 0x540007
  else
  let d := d.cacheTouch n w off recd.length
  let d := d.setTow (fun t => { t with paths := t.paths ++ [⟨n, op, recd, [b], 1, none⟩] })
  d.launch n op recd

/-- Towpath can take an operation for a peer: its session is OPEN. -/
def Dev.peerOpen (d : Dev) (n : Nat) : Bool := d.towOn && d.peerState n == 2

/-- A classifier frame for a Towpath path, sent when its barges have passed to TOW:n (15 R557, 01 R19); one with a poisoned
barge is refused (09 R312; log entry 79). -/
def Dev.towPath (d : Dev) (f : RxFrame) (n : Nat) : Dev :=
  if !d.peerOpen n || d.frameMax (d.peerPort n) < f.data.length + 50 || f.barges.any (fun b => (d.barge b).poison) then
    (d.freeBarges f.barges).towStat 7
  else
    let d := d.awaitLocks f.barges
    let op := opRecord 8 0xFF 0 0 f.data.length 0 0 0
    let d := d.setTow (fun t => { t with paths := t.paths ++ [⟨n, op, f.data, f.barges, 1, none⟩] })
    d.launch n op f.data

/-! ### Run control and hooks -/

/-- The scratch barges of the set ports with the claims they need (20 Table 20.1). -/
def Dev.scratchClaims (d : Dev) : List Claim :=
  ((List.range 4).filter (fun p => d.flag 0x600004 p)).map (fun p => ⟨4, d.rd (0x601801 + p), 8, p⟩)

/-- Sessions of enabled peers enter OPENING (15 R522). -/
def Dev.sessStart (d : Dev) : Dev :=
  forEach (List.range 16) d (fun n d => if d.rd (peerKey n 1) = 1 && d.peerState n = 0 then d.sessOpening n else d)

/-- TOW_RUN 00h (15 R535): sessions stop, scratch barges are zeroed and released. -/
def Dev.towStop (d : Dev) : Dev :=
  let d := forEach (List.range 16) (d.wr 0x600001 0) (fun n d => d.sessEnd n)
  let d := forEach d.scratchClaims d (fun c d => if d.bankOn (bankOf c.num) then d.zeroMem (256 * c.num) 256 [] else d)
  d.dropClaims (fun c => c.kind == 4 && c.holder == 8)

/-- The rules of R535 on TOW_RUN 01h that give 0301h; while PM0 is not ON no pound is enabled (20 R717). -/
def Dev.towRunOk (d : Dev) : Bool :=
  let ns := d.scratchClaims.map (·.num)
  d.on dPM0 && d.poundState (d.rd 0x600005) == 2 && ns.eraseDups.length == ns.length

/-- The rules of R521. -/
def Dev.peerOk (d : Dev) (n : Nat) : Bool :=
  let node := d.rd (peerKey n 2)
  let via := d.rd (peerKey n 5)
  node != d.rd 0x600002
    && (List.range 16).all (fun m => m == n || d.rd (peerKey m 1) == 0 || d.rd (peerKey m 2) != node)
    && d.flag 0x600004 (d.rd (peerKey n 4))
    && (via == 0xFF || (List.range 16).any (fun m =>
      m != n && d.rd (peerKey m 1) == 1 && d.rd (peerKey m 2) == via && d.rd (peerKey m 5) == 0xFF))

/-- Order 5 rules of 15 (R539, R546, R548). -/
def Dev.towState (d : Dev) (ini k v : Nat) : Bool :=
  if k = 0x606001 then d.issueState ini (leOct 32 v)
  else if k = 0x606004 then (List.range 16).any (fun s => v.testBit s && d.osState s == 1)
  else if 0x6040 ≤ k / 256 && k / 256 < 0x6048 && k % 256 = 1 then
    v = 1 && d.winBlocked (k / 256 - 0x6040)
  else false

/-- Order 9 rules of 15 (R521, R535, R539, R546, R562). -/
def Dev.towValue (d : Dev) (k v : Nat) : Bool :=
  let i := k / 256
  if k = 0x600001 then v = 0 || d.towRunOk
  else if k = 0x600003 then 0x0600 ≤ v && v ≠ 0x8100 && v ≠ 0x88A8 && v ≠ 0x8808
  else if k = 0x600004 then v < 16
  else if i = 0x6008 then v = 0
  else if 0x6020 ≤ i && i < 0x6030 then
    (match k % 256 with
     | 1 => v == 0 || d.peerOk (i - 0x6020)
     | 10 => v == 0
     | _ => true)
  else if 0x6040 ≤ i && i < 0x6048 then
    (match k % 256 with
     | 1 => v == 0 || d.winRangeOk (i - 0x6040)
     | 4 => v == 1 || (0x10 ≤ v && v ≤ 0x1F)
     | 6 => v < 4
     | 8 => v == 0
     | _ => true)
  else if k = 0x606001 then issueFieldsOk (leOct 32 v)
  else true

/-- The effect of a write of a Towpath object. -/
def Dev.towEffect (d : Dev) (ini k v : Nat) : WRes :=
  let i := k / 256
  if k = 0x600001 then
    if v = d.rd k then .ok d
    else if v = 0 then .ok d.towStop
    else match d.claimBlock d.scratchClaims with
      | some h => .abort 0x0501 (d.claimRefused ini 8 h)
      | none => .ok (((d.takeClaims d.scratchClaims).wr k 1).sessStart)
  else if 0x6020 ≤ i && i < 0x6030 && k % 256 = 1 then
    if v = d.rd k then .ok d
    else if v = 0 then .ok ((d.wr k 0).sessEnd (i - 0x6020))
    else .ok (let d := d.wr k 1; if d.rd 0x600001 = 1 then d.sessOpening (i - 0x6020) else d)
  else if 0x6040 ≤ i && i < 0x6048 && k % 256 = 1 then
    .ok (if v = 1 then d.winEnable (i - 0x6040) else d.winDisable (i - 0x6040))
  else if k = 0x606001 then d.issue (leOct 32 v)
  else if k = 0x606004 then .ok (d.slotRelease v)
  else if k = 0x606005 then .ok (if d.rsv v = 0xFE then d.rsvFree v else d)
  else .ok (d.wr k v)

/-- TOW leaves ON (15 R560): every session is lost, slots complete with 0601h, lane contents are discarded. -/
def Dev.towLeaves (d : Dev) : Dev :=
  let d := forEach (List.range 16) d (fun n d =>
    if d.peerState n = 0 then d
    else
      (((d.inc (peerKey n 10)).fault 0x0E dTOW 0x0601 n 4).sessDrop n).setPeer n 0)
  let d := forEach (List.range 5) d (fun i d =>
    let d := forEach (d.lane i).ops d (fun x d => d.freeBarges x.barges)
    d.setLane i (fun l => { l with ops := [] }))
  let d := d.setTow (fun t => { t with todo := [] })
  let d := forEach (List.range 16) d (fun s d => if d.osState s = 1 then d.slotDone s 0x0601 0 0 else d)
  let d := forEach (List.range 8) d (fun w d => d.winSettle w)
  let d := d.remotesLost 0xFF
  d.setTow (fun t => { t with inbox := [], cache := [] })

/-- Towpath loses what it held in a bank that goes OFF (09 R321, 19 R651; log entry 82): an operation of the host with its
local barge there completes with 0401h, an accepted operation with its data there is refused with it, a mailbox message not yet
sent is dropped, and no barge of the bank is freed later. -/
def Dev.towBank (d : Dev) (bk : Nat) : Dev :=
  let gone (b : Nat) : Bool := bankOf b == bk
  let rest (bs : List Nat) : List Nat := bs.filter (fun b => !gone b)
  let d := forEach (List.range 16) d (fun s d =>
    if (d.slotBarge s).any gone then
      let d := match d.opSlot s with
        | some y => d.setOpSlot s (some { y with barge := none })
        | none => d
      if d.osState s = 1 then d.slotDone s 0x0401 0 0 else d
    else d)
  let d := forEach (List.range 4) d (fun p d =>
    let lost (f : TowTx) : Bool := f.barges.any gone
    let mine := ((d.mac p).towq.filter (fun f => f.own && lost f)).flatMap (fun f => rest f.barges)
    (d.setMac p (fun m => { m with
      cur := if m.cur == .tow && m.towq.head?.any lost then .idle else m.cur
      towq := m.towq.filter (fun f => !lost f) })).freeBarges mine)
  let drops := d.tow.paths.filter (fun x => x.barges.any gone && (d.sess x.peer).waiting.contains (x.op ++ x.data))
  let d := forEach drops d (fun x d =>
    let d := if x.mailbox then d.inc 0x540007 else d
    (d.setSess x.peer (fun s => { s with waiting := s.waiting.erase (x.op ++ x.data) })).freeBarges (rest x.barges))
  d.setTow (fun t => { t with
    paths := (t.paths.filter (fun x => !drops.contains x)).map (fun x => { x with barges := rest x.barges })
    sess := t.sess.map (fun s => { s with unacked := s.unacked.map (fun f => { f with barges := rest f.barges }) })
    lanes := t.lanes.map (fun l => { l with
      ops := l.ops.map (fun x => { x with lost := x.lost || x.barges.any gone, barges := rest x.barges }) }) })

/-- TOW reaches ON: windows are closed after OFF, sessions start while TOW_RUN reads 01h. -/
def Dev.towReachesOn (d : Dev) : Dev := if d.rd 0x600001 = 1 then d.sessStart else d

end Sys2Proof.Machine
end

