-- ==== Sys2Proof/Machine/Sluice.lean ====
section
/-!
DEFINITION. The sluice (16): output states, heartbeat, coast curves, PWM, enables, tachos, the pin EVT1 (20).
-/
namespace Sys2Proof.Machine

/-- CK in a CKX (00, Notation: 1 CKX = 40 ns). -/
abbrev ckPerCkx : Nat := 4

/-- Object `s` of output `k`, of enable `j`, of tacho `t` (16 Table 16.5). -/
def sluKey (k s : Nat) : Nat := (0x6810 + k) * 256 + s
def enKey (j s : Nat) : Nat := (0x6820 + j) * 256 + s
def tachoKey (t s : Nat) : Nat := (0x6830 + t) * 256 + s

/-- An output and a tacho as KEEP finds them at ON. -/
def SluOut.idle : SluOut := ⟨0, none, 0, 0, none, 1000, 5000, 0, none⟩
def Tacho.idle : Tacho := ⟨0, 0, 0, none, 0, 100, 0xFF, false, 0, false⟩

/-- Output `k` and tacho `t` beyond their objects. -/
def Dev.sluOut (d : Dev) (k : Nat) : SluOut := d.slu.outs.getD k SluOut.idle
def Dev.tacho (d : Dev) (t : Nat) : Tacho := d.slu.tachos.getD t Tacho.idle

/-- The device with the sluice, an output, a tacho changed. -/
def Dev.setSlu (d : Dev) (f : Sluice → Sluice) : Dev := { d with slu := f d.slu }
def Dev.setSluOut (d : Dev) (k : Nat) (f : SluOut → SluOut) : Dev := d.setSlu (fun s => { s with outs := updAt s.outs k f })
def Dev.setTacho (d : Dev) (t : Nat) (f : Tacho → Tacho) : Dev := d.setSlu (fun s => { s with tachos := updAt s.tachos t f })

/-- KEEP is ON and CKX runs (16 R563, R589). -/
def Dev.sluRuns (d : Dev) : Bool := d.on dKEEP && d.slu.absent.isNone

/-- The sluice's time in CK: it stands still while CKX is absent (16 R589). -/
def Dev.sluNow (d : Dev) : Nat := (d.slu.absent.getD d.ck) - d.slu.lost

/-- Time moves on to a moment of the sluice's time. -/
def Dev.sluTo (d : Dev) (t : Nat) : Dev := d.advanceTo (t + d.slu.lost)

def Dev.sluState (d : Dev) (k : Nat) : Nat := d.rd (sluKey k 11)
def Dev.sluLevel (d : Dev) (k : Nat) : Nat := d.rd (sluKey k 12)
def Dev.sluFlag (d : Dev) (k n : Nat) : Bool := d.flag (sluKey k 3) n

/-- An output re-armed by the bridge rather than by heartbeat (16 R571). -/
def Dev.byBridge (d : Dev) (k : Nat) : Bool := d.sluFlag k 1 && d.sluFlag k 2

/-- SLU_STATE_MS (16 R569). -/
def Dev.sluStateMs (d : Dev) (k : Nat) : Nat := min ((d.sluNow - (d.sluOut k).since) / ckPerMs) 0xFFFFFFFF

/-! ### Coast curves (16 Table 16.3, R577, R578) -/

/-- The offset of record `c` in a body, from offset `o` on. -/
def curveOff (b : Oct) : Nat → Nat → Nat
  | 0, o => o
  | c + 1, o => curveOff b c (o + 4 + 4 * octAt b o)

/-- Record `c` of a curve body. -/
def curveRec (b : Oct) (c : Nat) : Oct := let o := curveOff b c 8; sub b o (4 + 4 * octAt b o)

/-- The time in ms and the level of point `j` of a record. -/
def cvTime (r : Oct) (j : Nat) : Nat := 10 * leAt r (4 + 4 * j) 2
def cvLevel (r : Oct) (j : Nat) : Nat := leAt r (6 + 4 * j) 2
def cvPoints (r : Oct) : Nat := octAt r 0

/-- A record keeps Table 16.3. -/
def curveRecOk (r : Oct) : Bool :=
  2 ≤ cvPoints r && cvPoints r ≤ 16 && octAt r 1 ≤ 1 && cvTime r 0 == 0
    && (List.range (cvPoints r - 1)).all (fun j => cvTime r j < cvTime r (j + 1))

/-- A body keeps Table 16.3. -/
def curvesOk (b : Oct) : Bool :=
  let n := octAt b 0
  8 ≤ b.length && 1 ≤ n && n ≤ 8 && (List.range n).all (fun c => curveRecOk (curveRec b c)) && curveOff b n 8 == b.length

/-- The curve an output is to use, if the image in effect has it. -/
def Dev.sluCurve (d : Dev) (k : Nat) : Option Oct :=
  match d.body 13 with
  | some b => let c := d.rd (sluKey k 8); if c < octAt b 0 then some (curveRec b c) else none
  | none => none

/-- The curve value Y(t) of R578. -/
def curveY (r : Oct) (t : Nat) : Nat :=
  let n := cvPoints r
  match (List.range (n - 1)).find? (fun j => cvTime r j ≤ t && t < cvTime r (j + 1)) with
  | some j =>
    let num := ((t - cvTime r j : Nat) : Int) * ((cvLevel r (j + 1) : Int) - cvLevel r j)
    ((cvLevel r j : Int) + num.tdiv ((cvTime r (j + 1) - cvTime r j : Nat) : Int)).toNat
  | none => cvLevel r (n - 1)

/-- The target of a coast at `t` ms. -/
def coastTarget (r : Oct) (l0 t : Nat) : Nat := if octAt r 1 = 1 then l0 * curveY r t / 65535 else curveY r t

/-- The ms at which a coast reaches its last point. -/
def coastEnd (r : Oct) : Nat := cvTime r (cvPoints r - 1)

/-! ### State changes (16 R569, R577) -/

/-- An output's level. A level below TACHO_STALL_MIN_LEVEL spoils the window of a tacho linked to it (16 R585). -/
def Dev.setLevel (d : Dev) (k v : Nat) : Dev :=
  let d := d.wr (sluKey k 12) v
  forEach (List.range 4) d (fun t d =>
    d.setTacho t (fun x => if x.out = k && v < d.rd (tachoKey t 6) then { x with high := false } else x))

/-- An output enters a state (16 R569); `cause` none leaves SLU_CAUSE (16 R568, log entry 65). -/
def Dev.sluGo (d : Dev) (k st : Nat) (cause : Option Nat) : Dev :=
  let d := d.wr (sluKey k 11) st
  let d := match cause with
    | some c => d.wr (sluKey k 13) c
    | none => d
  let d := d.setSluOut k (fun x => { x with since := d.sluNow, hbAt := d.sluNow, coast := none })
  let d := if st = 0 then d.setLevel k 0 else d
  (if st = 1 then d else d.fire 80).latch 8

/-- An output coasts, or enters SAFE when no curve serves (16 R577). -/
def Dev.sluCoast (d : Dev) (k cause : Nat) : Dev :=
  match d.sluCurve k with
  | some r => (d.sluGo k 3 (some cause)).setSluOut k (fun x => { x with coast := some (r, d.sluLevel k) })
  | none => d.sluGo k 4 (some 0x0B)

/-- The CKX of the sluice's time. -/
def Dev.sluCkx (d : Dev) : Nat := d.sluNow / ckPerCkx

/-- Output `k` as it was before the event `e` of this CKX. -/
def Dev.sluBefore (d : Dev) (k : Nat) (e : SluEv) : Dev :=
  ((d.wr (sluKey k 11) e.state).wr (sluKey k 13) e.cause).setSluOut k (fun x =>
    { x with since := e.since, hbAt := e.hbAt, coast := e.coast })

/-- An event of rank `rank` (16 Table 16.4) that the states of `admits` admit acts on output `k`: in one CKX only the highest-ranked
one that the output's state admits does, in place of a lower one that came before it (R582; log entry 65). -/
def Dev.sluEvent (d : Dev) (k rank : Nat) (admits : Nat → Bool) (act : Dev → Dev) : Dev :=
  match (d.sluOut k).ev.filter (fun e => e.ckx == d.sluCkx && e.rank != rank) with
  | some e =>
    if e.rank < rank || !admits e.state then d
    else (act (d.sluBefore k e)).setSluOut k (fun x => { x with ev := some { e with rank := rank } })
  | none =>
    if admits (d.sluState k) then
      let o := d.sluOut k
      (act d).setSluOut k (fun x => { x with
        ev := some ⟨d.sluCkx, rank, d.sluState k, d.rd (sluKey k 13), o.since, o.hbAt, o.coast⟩ })
    else d

/-- The supply events of Table 16.2: `cause` 03h the selector enters DOWN, 04h a brown-out with cause 02h. -/
def Dev.sluSupply1 (d : Dev) (cause k : Nat) : Dev :=
  d.sluEvent k 3 (fun st => (st == 1 || st == 2) && (cause == 4 || d.sluFlag k 3)) (·.sluCoast k cause)

/-- CORE reaches OFF (16 R572). -/
def Dev.sluCoreOff1 (d : Dev) (k : Nat) : Dev := d.sluEvent k 7 (fun st => st == 1 && !d.byBridge k) (·.sluGo k 2 (some 2))

/-- An event from outside the sluice: seen at once, or when CKX resumes (16 R589). -/
def Dev.sluExternal (d : Dev) (cause : Nat) : Dev :=
  if !d.on dKEEP then d
  else if d.slu.absent.isSome then d.setSlu (fun s => { s with deferred := s.deferred ++ [cause] })
  else forEach (List.range 4) d (fun k d => if cause = 2 then d.sluCoreOff1 k else d.sluSupply1 cause k)

/-- The selector enters DOWN; a brown-out with cause 02h; CORE reports OFF (16 Table 16.2, R572). -/
def Dev.sluDown (d : Dev) : Dev := d.sluExternal 3
def Dev.sluBrownOut (d : Dev) : Dev := d.sluExternal 4
def Dev.sluCoreOff (d : Dev) : Dev := d.sluExternal 2

/-- CKX stops (16 R589). -/
def Dev.sluStopClock (d : Dev) : Dev := d.setSlu (fun s => { s with absent := some (s.absent.getD d.ck) })

/-- CKX resumes: timers go on, and each output takes the highest-ranked event it missed (16 R582, R589). -/
def Dev.sluStartClock (d : Dev) : Dev :=
  match d.slu.absent with
  | none => d
  | some t =>
    let ev := d.slu.deferred
    let d := d.setSlu (fun s => { s with lost := s.lost + (d.ck - t), absent := none, deferred := [] })
    if !d.on dKEEP then d
    else forEach (List.range 4) d (fun k d =>
      if (d.sluState k == 1 || d.sluState k == 2) && ev.contains 4 then d.sluSupply1 4 k
      else if (d.sluState k == 1 || d.sluState k == 2) && ev.contains 3 && d.sluFlag k 3 then d.sluSupply1 3 k
      else if ev.contains 2 then d.sluCoreOff1 k else d)

/-! ### The tick (16 R563, R576, R578) -/

/-- A level moved toward its target within the slew limits (16 R576). -/
def slew (l t up down : Nat) : Nat :=
  if l < t then (if up = 0 then t else min t (l + up))
  else if t < l then (if down = 0 then t else max t (l - down)) else l

/-- The level of an output after a tick (16 Table 16.1). -/
def Dev.tickLevel (d : Dev) (k : Nat) : Nat :=
  let l := d.sluLevel k
  let mv (t : Nat) := slew l t (d.rd (sluKey k 9)) (d.rd (sluKey k 10))
  match d.sluState k with
  | 1 => mv (d.rd (sluKey k 4))
  | 3 =>
    (match (d.sluOut k).coast with
     | some (r, l0) => mv (coastTarget r l0 ((d.sluNow - (d.sluOut k).since) / ckPerMs))
     | none => l)
  | 4 => mv (d.rd (sluKey k 5))
  | 5 => d.rd (sluKey k 6)
  | _ => l

/-- The sluice tick of 25,000 CKX (16 R563). -/
def Dev.sluTick (d : Dev) : Dev :=
  if d.sluRuns then
    let due := d.slu.tickAt + 25000 * ckPerCkx
    let d := (d.sluTo due).setSlu (fun s => { s with tickAt := due })
    forEach (List.range 4) d (fun k d =>
      (d.setLevel k (d.tickLevel k)).setSluOut k (fun x =>
        { x with hbMs := d.rd 0x680001, holdMs := d.rd (sluKey k 7), safeLv := d.rd (sluKey k 5) }))
  else d

/-- A PWM period of output `k` begins (16 R565, R566): its start, length and on-time. -/
def Dev.pwmPeriod (d : Dev) (k : Nat) : Dev :=
  if d.sluRuns then
    let o := d.sluOut k
    let at_ := match o.per with
      | some (s, p, _) => s + p * ckPerCkx
      | none => d.sluNow
    let d := d.sluTo at_
    let p := d.rd (sluKey k 2)
    let a := o.acc + d.sluLevel k * p
    d.setSluOut k (fun x => { x with acc := a % 65535, per := some (at_, p, a / 65535) })
  else d

/-! ### Pins (16 R566, R567, R581, R589) -/

/-- The level an enable output drives (16 R581, R589), its SLU_SAFE_LEVEL that of the last tick; none while it is
high-impedance. -/
def Dev.enLevel (d : Dev) (j : Nat) : Option Nat :=
  let k := d.rd (enKey j 1)
  if !d.on dKEEP then none
  else if d.slu.absent.isSome || d.sluState k = 0 || d.sluState k = 5
      || (d.sluState k = 4 && d.sluLevel k = (d.sluOut k).safeLv) then some (d.rd (enKey j 4))
  else some (d.rd (enKey j 3))

/-- EN_PIN. -/
def Dev.enPin (d : Dev) (j : Nat) : Nat := (d.enLevel j).getD 0

/-- The level of PWM pin `k` (16 R565-R567, R589); none while it is high-impedance. -/
def Dev.pwmLevel (d : Dev) (k : Nat) : Option Bool :=
  let low := d.sluFlag k 0
  if !d.on dKEEP then none
  else if d.sluState k = 0 then some low
  else if d.slu.absent.isSome then some (d.sluFlag k 6 != low)
  else match (d.sluOut k).per with
    | some (s, _, on) => some ((d.sluNow < s + on * ckPerCkx) != low)
    | none => some low

/-- SLU_STATUS (16 Table 16.5). -/
def Dev.sluStatus (d : Dev) : Nat := b2n d.slu.safeN + 2 * b2n (d.body 13).isSome + 4 * b2n d.sluEvt1

/-! ### Timers and SAFE_n (16 R569, R570, R578, R580) -/

/-- A timer of an output runs out at `t`: its event ranks lowest, so that it acts once the CKX in which it falls has passed without
another (16 R582; log entry 65). -/
def Dev.sluTimer (d : Dev) (t k rank : Nat) (admits : Nat → Bool) (act : Dev → Dev) : Dev :=
  ((d.sluTo t).sluEvent k rank admits act).tick ckPerCkx

/-- A heartbeat timer reaches SLU_HB_TIMEOUT (16 R570). -/
def Dev.sluHbTimeout (d : Dev) (k : Nat) : Dev :=
  if d.sluRuns && d.sluState k = 1 then
    d.sluTimer ((d.sluOut k).hbAt + (d.sluOut k).hbMs * ckPerMs) k 8 (· == 1) (fun d => (d.inc 0x680008).sluGo k 2 (some 1))
  else d

/-- SLU_HOLD_MS passes in HOLD. -/
def Dev.sluHoldElapsed (d : Dev) (k : Nat) : Dev :=
  if d.sluRuns && d.sluState k = 2 then
    d.sluTimer ((d.sluOut k).since + (d.sluOut k).holdMs * ckPerMs) k 9 (· == 2) (·.sluCoast k 5)
  else d

/-- The coast curve reaches its last point (16 R578). -/
def Dev.sluCoastEnd (d : Dev) (k : Nat) : Dev :=
  match (d.sluOut k).coast with
  | some (r, _) =>
    if d.sluRuns && d.sluState k = 3 then
      d.sluTimer ((d.sluOut k).since + coastEnd r * ckPerMs) k 9 (· == 3) (·.sluGo k 4 (some 7))
    else d
  | none => d

/-- SAFE_n has been sampled low for `us` µs: asserted where that fills the filter (16 R580). -/
def Dev.safeAssert (d : Dev) (us : Nat) : Dev :=
  if d.sluRuns && !d.slu.safeN && d.rd 0x680005 ≤ us then
    let d := (d.setSlu (fun s => { s with safeN := true })).fire 82
    forEach (List.range 4) d (fun k d =>
      d.sluEvent k 1 (fun st => d.sluFlag k 4 && 1 ≤ st && st ≤ 4) (·.sluGo k 5 (some 9)))
  else d

/-- SAFE_n has been sampled high for `us` µs: released where that fills the filter (16 R580). -/
def Dev.safeRelease (d : Dev) (us : Nat) : Dev :=
  if d.sluRuns && d.slu.safeN && d.rd 0x680005 ≤ us then
    let d := (d.setSlu (fun s => { s with safeN := false })).fire 82
    forEach (List.range 4) d (fun k d => d.sluEvent k 1 (· == 5) (·.sluGo k 4 (some 10)))
  else d

/-! ### Tachos (16 R583-R585) -/

/-- A rising edge on a tacho input (16 R583). -/
def Dev.tachoEdge (d : Dev) (t : Nat) : Dev :=
  let x := d.tacho t
  let now := d.sluNow
  let early := match x.prev with
    | some p => now - p < d.rd (tachoKey t 3) * ckPerUs
    | none => false
  if !d.sluRuns || early then d
  else
    (d.wr (tachoKey t 9) ((d.rd (tachoKey t 9) + 1) % 2 ^ 32)).setTacho t (fun x =>
      { x with edges := x.edges + 1, first := if x.edges = 0 then now else x.first, last := now, prev := some now })

/-- A tacho window begins: its length and output are those of this moment (log entry 65). -/
def Dev.winStart (d : Dev) (t at_ run : Nat) : Dev :=
  let o := d.rd (tachoKey t 4)
  d.setTacho t (fun x => { x with
    edges := 0, first := 0, last := 0, winAt := at_, winMs := d.rd (tachoKey t 2), out := o,
    high := decide (d.rd (tachoKey t 6) ≤ d.sluLevel o), run := run, alarmed := x.alarmed && run != 0 })

/-- TACHO_RPM of a window (16 R584). A window whose edges share one CKX saturates (log entry 65). -/
def Dev.rpmOf (d : Dev) (t : Nat) : Nat :=
  let x := d.tacho t
  let s := (x.last - x.first) / ckPerCkx
  if x.edges < 2 then 0
  else if s = 0 then 0xFFFF
  else min ((x.edges - 1) * 1500000000 / (d.rd (tachoKey t 1) * s)) 0xFFFF

/-- The stall alarm (16 R585, Table 16.2). -/
def Dev.stall (d : Dev) (t k : Nat) : Dev :=
  let d := (((d.wr (tachoKey t 10) 1).inc (tachoKey t 11)).fire 81).latch 9
  d.sluEvent k 2 (fun st => d.sluFlag k 5 && 1 ≤ st && st ≤ 3) (·.sluGo k 4 (some 8))

/-- A tacho window ends (16 R584, R585). -/
def Dev.tachoWindow (d : Dev) (t : Nat) : Dev :=
  if d.sluRuns then
    let due := (d.tacho t).winAt + (d.tacho t).winMs * ckPerMs
    let d := d.sluTo due
    let rpm := d.rpmOf t
    let d := d.wr (tachoKey t 8) rpm
    let d := if d.on dBRG then d.brgEnter (.tacho t rpm) else d
    let x := d.tacho t
    let lim := d.rd (tachoKey t 5)
    let counts := lim != 0 && x.out ≤ 3 && x.high && rpm < lim
    let run := if counts then x.run + 1 else 0
    let d := if counts && !x.alarmed && d.rd (tachoKey t 7) ≤ run
      then (d.stall t x.out).setTacho t (fun x => { x with alarmed := true }) else d
    let d := if lim ≤ rpm then d.wr (tachoKey t 10) 0 else d
    d.winStart t due run
  else d

/-! ### EVT1 (16 R590; 20 R671-R673) -/

/-- The sluice takes EVT1, from channel 1 if that holds it; PREEMPTED of channel 1 changes either way (17 R610, 20 R672). -/
def Dev.evt1Take (d : Dev) : Dev :=
  if d.sluEvt1 then d
  else
    let had := (d.claimOf 3 1).isSome
    let d := (d.dropClaims (fun c => c.kind == 3 && c.num == 1)).takeClaim ⟨3, 1, 6, 0xFF⟩
    let d := if had && d.on dTIME then (d.inc 0x7F0003).fire 95 else d
    let d := if d.on dTIME then d.fire 85 else d
    d.setChan 1 (fun c => { c with pulse := none, active := false })

/-- The sluice gives EVT1 back: channel 1 takes it in the next CK (20 R673). -/
def Dev.evt1Give (d : Dev) : Dev :=
  if d.sluEvt1 then
    ((d.tick 1).dropClaims (fun c => c.kind == 3 && c.holder == 6)).setChan 1 (fun c => { c with pulse := none, active := false })
  else d

/-! ### Dictionary hooks -/

/-- A write of a sluice object breaks a state rule (order 5; 16 R568, R573, R575, R581). -/
def Dev.sluStateBad (d : Dev) (key v : Nat) : Bool :=
  let i := key / 256
  let k := i - 0x6810
  if key = 0x680003 then
    (List.range 4).any (fun k => v.testBit k && (d.sluState k == 0 || d.sluState k == 5 || (d.sluCurve k).isNone
      || (d.sluFlag k 3 && d.rd 0x200001 != 0)))
  else if 0x6810 ≤ i && i < 0x6814 && key % 256 = 1 then v = 0 && d.sluState k != 4
  else if 0x6810 ≤ i && i < 0x6814 && key % 256 = 4 then d.sluFlag k 1
  else if (i = 0x6820 || i = 0x6821) && key % 256 = 3 then d.rd (enKey (i - 0x6820) 2) = 1
  else false

/-- Order 9 rules of the sluice (16 R573, R575, R591, Table 16.5). -/
def Dev.sluValue (_d : Dev) (key v : Nat) : Bool :=
  let i := key / 256
  if key = 0x680003 || key = 0x680004 then v < 16
  else if key = 0x680008 then v = 0
  else if 0x6810 ≤ i && i < 0x6814 && key % 256 = 3 then v < 128 && (!v.testBit 2 || v.testBit 1)
  else if (i = 0x6820 || i = 0x6821) && key % 256 = 2 then v ≤ 1
  else if 0x6830 ≤ i && i < 0x6834 && key % 256 = 4 then v ≤ 3 || v = 0xFF
  else if 0x6830 ≤ i && i < 0x6834 && key % 256 = 11 then v = 0
  else true

/-- SLU_OUT_ENABLE (16 R568). -/
def Dev.sluEnable (d : Dev) (k v : Nat) : Dev :=
  let d := d.wr (sluKey k 1) v
  if v = 1 && d.sluState k = 0 then
    ((d.setLevel k (d.rd (sluKey k 5))).sluGo k 4 none).setSluOut k (fun x => { x with safeLv := d.rd (sluKey k 5) })
  else if v = 0 && d.sluState k = 4 then d.sluGo k 0 none
  else d

/-- SLU_HEARTBEAT (16 R570). -/
def Dev.sluHeartbeat (d : Dev) : Dev :=
  forEach (List.range 4) d (fun k d =>
    d.sluEvent k 6 (fun st => st == 1 && !d.byBridge k) (·.setSluOut k (fun x => { x with hbAt := d.sluNow })))

/-- SLU_ARM (16 R573). -/
def Dev.sluArm (d : Dev) (v : Nat) : Dev :=
  forEach (List.range 4) d (fun k d =>
    d.sluEvent k 4 (fun st => v.testBit k && 2 ≤ st && st ≤ 4) (·.sluGo k 1 (some 0)))

/-- SLU_STOP (16 R574). -/
def Dev.sluStop (d : Dev) (v : Nat) : Dev :=
  forEach (List.range 4) d (fun k d =>
    d.sluEvent k 5 (fun st => v.testBit k && (st == 1 || st == 2)) (·.sluCoast k 6))

/-- A write that is a command of the sluice: SLU_HEARTBEAT, SLU_ARM, SLU_STOP, SLU_OUT_ENABLE, SLU_PWM3_ALT (16 R564, 20 R671). -/
def sluCommand (key : Nat) : Bool :=
  key == 0x680002 || key == 0x680003 || key == 0x680004 || key == 0x680007
    || (key % 256 == 1 && 0x6810 ≤ key / 256 && key / 256 < 0x6814)

/-- The sluice takes at most one command in a CKX: the next one takes effect in the CKX after (16 R564). -/
def Dev.sluTurn (d : Dev) (key : Nat) : Dev :=
  if sluCommand key then
    let d := if d.slu.cmdAt = 0 then d else d.advanceTo (d.slu.cmdAt + ckPerCkx)
    d.setSlu (fun s => { s with cmdAt := d.ck })
  else d

/-- The effect of a write of a sluice object. -/
def Dev.sluEffect (d : Dev) (key v : Nat) : Dev :=
  let i := key / 256
  let d := d.sluTurn key
  if key = 0x680002 then d.sluHeartbeat
  else if key = 0x680003 then d.sluArm v
  else if key = 0x680004 then d.sluStop v
  else if key = 0x680007 then (let d := d.wr key v; if v = 1 then d.evt1Take else d.evt1Give)
  else if 0x6810 ≤ i && i < 0x6814 && key % 256 = 1 then d.sluEnable (i - 0x6810) v
  else d.wr key v

/-! ### The bridge's hand-over (14 R507, 16 R571, R575, R581) -/

/-- A level from the bridge for output `k`. -/
def Dev.sluBridge (d : Dev) (k v : Nat) : Dev :=
  if d.on dKEEP && d.sluFlag k 1 then
    let d := d.wr (sluKey k 4) v
    d.sluEvent k 6 (fun st => st == 1 && d.byBridge k) (·.setSluOut k (fun x => { x with hbAt := d.sluNow }))
  else d

/-- An enable from the bridge for enable output `j`. -/
def Dev.enBridge (d : Dev) (j v : Nat) : Dev := if d.on dKEEP && d.rd (enKey j 2) = 1 then d.wr (enKey j 3) v else d

/-! ### KEEP reaching and leaving ON (16 R567, R568, KEEP OFF and domain reset; 20 R671, R673) -/

/-- KEEP reaches ON: its logic starts afresh (16 R563, R568). -/
def Dev.sluOn (d : Dev) : Dev :=
  let d := d.setSlu (fun s => { s with
    outs := List.replicate 4 SluOut.idle, tachos := List.replicate 4 Tacho.idle, safeN := false,
    lost := 0, deferred := [], tickAt := d.ck })
  let now := d.sluNow
  let d := d.setSlu (fun s => { s with tickAt := now })
  let d := forEach (List.range 4) d (fun k d =>
    let on := d.rd (sluKey k 1) = 1
    let d := (d.wr (sluKey k 11) (if on then 4 else 0)).wr (sluKey k 12) (if on then d.rd (sluKey k 5) else 0)
    d.setSluOut k (fun x =>
      { x with since := now, hbAt := now, hbMs := d.rd 0x680001, holdMs := d.rd (sluKey k 7), safeLv := d.rd (sluKey k 5) }))
  let d := forEach (List.range 4) d (fun t d => d.winStart t now 0)
  if d.rd 0x680007 = 1 then d.evt1Take else d

/-- KEEP leaves ON for OFF: nothing drives the pins (16 R567). -/
def Dev.sluOff (d : Dev) : Dev :=
  (d.setSlu (fun s => { s with
    outs := List.replicate 4 SluOut.idle, tachos := List.replicate 4 Tacho.idle, safeN := false,
    deferred := [] })).evt1Give

/-- KEEP may go OFF or be reset: every output SAFE or DISABLED (06 R223, 07 R249). -/
def Dev.keepOffOk (d : Dev) : Bool := (List.range 4).all (fun k => d.sluState k == 0 || d.sluState k == 4)

end Sys2Proof.Machine
end

