-- ==== Sys2Proof/Machine/DictCore.lean ====
section
/-!
DEFINITION. Results of dictionary transactions that arrive later (02 R58, R60, R80; 03 R99; 15 R556).
-/
namespace Sys2Proof.Machine

/-- The command code of a host's transaction under way at an address (12h for a write, 11h for a read); none for one whose slot
timed out, which was counted then. -/
def Dev.pendingCmd (d : Dev) (idx sb : Nat) : Option Nat :=
  match d.link.orphans.find? (fun o => o.2.1 == idx && o.2.2.1 == sb) with
  | some o => if o.2.2.2 then some o.1 else none
  | none =>
    match d.localPending with
    | some s => some (((d.slot s).map (·.cmd)).getD 0x12)
    | none => some 0x12

/-- The dictionary transaction of a peer whose result is awaited at an address. -/
def Dev.dictOf (d : Dev) (n idx sb : Nat) : Option PeerTxn :=
  d.tow.dicts.find? (fun e => e.peer == n && leAt e.op 10 2 == idx && octAt e.op 12 == sb)

/-- The answer to a peer's remote dictionary transaction (15 R556). -/
def Dev.dictAnswer (d : Dev) (n epoch : Nat) (op : Oct) (r : Res) : Dev :=
  let x : LaneOp := ⟨n, epoch, op, [], [], false, false, none⟩
  match r with
  | .ok body => d.respond x 0 (if opCode op = 9 then body.drop 2 else []) false
  | .abort c _ => d.respond x c [] false

/-- A transaction answered RETRY, or a peer's that waited, has its result (02 R60, R80); a peer's whose record is gone was a
write. -/
def Dev.resolve (d : Dev) (ini idx sb : Nat) (r : Res) : Dev :=
  if ini = 0 then
    let d := match d.pendingCmd idx sb with
      | some cmd => d.settleTxn 0 cmd idx sb r.code
      | none => d
    d.hostDone idx sb r
  else
    match d.dictOf (ini - 0x10) idx sb with
    | none => d.settleTxn ini 0x62 idx sb r.code
    | some e =>
      let d := d.setTow (fun t => { t with dicts := t.dicts.filter (fun x => x != e) })
      (d.settleTxn ini (0x58 + opCode e.op) idx sb r.code).dictAnswer e.peer e.epoch e.op r

end Sys2Proof.Machine
end

