-- ==== Sys2Proof/Machine/Bridge.lean ====
section
/-!
DEFINITION. The bridge (14): image rules, routing, destinations, signals, output messages, the signal cache.
-/
namespace Sys2Proof.Machine

/-! ### Image rules (14 Tables 14.3, 14.4, 14.6, 14.7) -/

/-- A destination with its argument (14 Table 14.4). -/
def destOk (dest arg : Nat) : Bool :=
  match dest with
  | 0 | 1 | 2 | 6 => arg == 0
  | 3 | 4 => arg < 4
  | 5 => arg < 8
  | _ => false

/-- The routing table's body. -/
def routesOk (b : Oct) : Bool :=
  b.length % 16 == 0 && (entries16 b 0 (b.length / 16)).all (fun e => destOk (octAt e 9) (octAt e 10))

/-- A valid CAN data length for a format. -/
def canLenOk (fdf : Bool) (n : Nat) : Bool := n ≤ 8 || (fdf && [12, 16, 20, 24, 32, 48, 64].contains n)

/-- An output message's entry. -/
def omOk (e : Oct) : Bool :=
  let dest := octAt e 5
  leAt e 10 2 ≤ 60000 && leAt e 8 2 ≤ 60000 && (!(octAt e 7).testBit 7 || octAt e 4 == 0) && octAt e 7 % 4 ≤ 2
    && (dest == 1 || dest == 2 || dest == 4 || dest == 5) && destOk dest (octAt e 6)
    && canLenOk ((leAt e 0 4).testBit 30) (octAt e 4)

/-- A signal's entry. -/
def sigOk (nout : Nat) (e : Oct) : Bool :=
  let fetch := leAt e 14 2
  let kind := octAt e 8
  let di := octAt e 9
  let src := octAt e 0
  (!fetch.testBit 15 || fetch % 64 < nout) && 1 ≤ octAt e 12 && octAt e 12 ≤ 32
    && (match kind with
        | 0 => true
        | 1 => decide (di < nout)
        | 2 => decide (di < 4)
        | 3 => decide (di < 2)
        | _ => false)
    && octAt e 7 < 16
    && (match src with
        | 0 => leAt e 2 2 < 1024 && 1 ≤ octAt e 6 && octAt e 6 ≤ 32
        | 1 => decide (leAt e 2 2 < 4)
        | _ => false)

/-- The signal map's body. -/
def signalMapOk (b : Oct) : Bool :=
  let no := leAt b 0 2
  let ns := leAt b 2 2
  no ≤ 64 && ns ≤ 512 && b.length == 16 + 16 * no + 16 * ns
    && (entries16 b 16 no).all omOk && (entries16 b (16 + 16 * no) ns).all (sigOk no)

/-- A rescale curve's record and the X and Y of its points (14 R503). -/
def rcX (r : Oct) (j : Nat) : Int := toSigned 32 (leAt r (8 + 8 * j) 4)
def rcY (r : Oct) (j : Nat) : Int := toSigned 32 (leAt r (12 + 8 * j) 4)

/-- The curve image's body. -/
def rescaleOk (b : Oct) : Bool :=
  b.length == 2176 && (records b 0 136 16).all (fun r =>
    2 ≤ octAt r 0 && octAt r 0 ≤ 16 && (List.range (octAt r 0 - 1)).all (fun j => rcX r j < rcX r (j + 1)))

/-! ### Fields (14 R501, R502) -/

/-- The positions of a big-endian field, most significant bit first. -/
def beWalk : Nat → Nat → List Nat
  | _, 0 => []
  | p, n + 1 => p :: beWalk (if p % 8 = 0 then p + 15 else p - 1) n

/-- The positions of a field, least significant bit first. -/
def fieldBits (be : Bool) (start len : Nat) : List Nat :=
  if be then (beWalk start len).reverse else (List.range len).map (· + start)

/-- The field's value. -/
def fieldGet (b : Oct) : List Nat → Nat
  | [] => 0
  | p :: t => b2n ((octAt b (p / 8)).testBit (p % 8)) + 2 * fieldGet b t

/-- The octets with a field's value written. -/
def fieldPut : Oct → List Nat → Nat → Oct
  | b, [], _ => b
  | b, p :: t, v => fieldPut (updAt b (p / 8) (fun o => oct (setBit o.toNat (p % 8) (v % 2 == 1)))) t (v / 2)

/-! ### Records (14 Table 14.5) -/

/-- The bridge record of a frame. -/
def brgRecord (src : Nat) (m : CanMsg) : Oct :=
  let t := m.ts.getD (0, 0)
  [1, oct (src + 4 * b2n m.fdf + 8 * b2n m.brs + 16 * b2n m.esi + 32 * b2n m.rtr + 64 * b2n m.ide), oct m.dlc,
    oct m.data.length] ++ leOct 4 m.id ++ leOct 4 t.2 ++ leOct 4 t.1 ++ m.data

/-- The frame of an Ethernet-ingress record, if R499 accepts it. It carries no start-of-frame timestamp of this device
(log entry 54). -/
def Dev.ingress (d : Dev) (l : Oct) : Option CanMsg :=
  let o := etOffset l + 2
  let f := octAt l (o + 1)
  let fdf := f.testBit 2
  let rtr := f.testBit 5
  let n := octAt l (o + 3)
  if etherType l = d.rd 0x540002 && octAt l o = 1 && !(rtr && fdf) && o + 16 + n ≤ l.length
      && n = (if rtr then 0 else canDlcLen fdf (octAt l (o + 2) % 16)) then
    some ⟨leAt l (o + 4) 4 % 2 ^ 29, f.testBit 6, rtr, fdf, f.testBit 3, f.testBit 4, octAt l (o + 2) % 16,
      sub l (o + 16) n, none⟩
  else none

/-! ### The signal cache (14 Table 14.8) -/

/-- The cache entry of signal `k`. -/
def Dev.sigC (d : Dev) (k : Nat) : Option SigC := d.brg.sigs.find? (fun s => s.sig == k)

/-- The device with a cache entry put. -/
def Dev.putSig (d : Dev) (s : SigC) : Dev :=
  d.setBrg (fun b => { b with sigs := b.sigs.filter (fun x => x.sig != s.sig) ++ [s] })

/-- The 16 octets of a cache entry. -/
def Dev.cacheEntry (d : Dev) (k : Nat) : Nat :=
  match d.sigC k with
  | none => 0
  | some s =>
    s.value + 2 ^ 64 * s.raw + 2 ^ 96 * min ((d.ck - s.since) / ckPerMs) 0xFFFFFF
      + 2 ^ 120 * (1 + 2 * b2n s.stale + 4 * b2n s.fetched)

/-- The index and the subindex of a cache entry. -/
def cacheIdx (k : Nat) : Nat := 0x5A00 + k / 128
def cacheSub (k : Nat) : Nat := k % 128 + 1

/-- SE_TIMEOUT passes without an update (14 R508). -/
def Dev.sigStale (d : Dev) (k : Nat) : Dev :=
  match d.sigC k with
  | none => d
  | some s =>
    let t := octAt (d.signals.getD k []) 13
    if t = 0 || s.stale || !d.on dBRG then d
    else (((d.afterMs s.since (10 * t)).putSig { s with stale := true }).inc 0x581003).fire 73

/-- The readers of a fetch get a result (14 R509, R510). -/
def Dev.fetchEnd (d : Dev) (k : Nat) (r : Res) : Dev :=
  match d.brg.fetches.find? (fun f => f.sig == k) with
  | none => d
  | some f =>
    let d := d.setBrg (fun b => { b with fetches := b.fetches.filter (fun x => x.sig != k) })
    forEach f.readers d (fun i d => d.resolve i (cacheIdx k) (cacheSub k) r)

/-- A reader of initiator `ini` waits for the fetch of the cache entry at key `k`. -/
def Dev.fetchLive (d : Dev) (ini k : Nat) : Bool :=
  d.brg.fetches.any (fun f => f.readers.contains ini && cacheIdx f.sig * 256 + cacheSub f.sig == k)

/-- A fetch fails on the far side (14 R510). -/
def Dev.fetchFail (d : Dev) (k code : Nat) : Dev :=
  if d.brg.fetches.any (fun f => f.sig == k) then
    ((d.inc 0x581004).fire 74).fetchEnd k (.abort 0x0602 code)
  else d

/-- BRG_FETCH_TIMEOUT passes (14 Table 14.9). -/
def Dev.fetchTimeout (d : Dev) (k : Nat) : Dev :=
  match d.brg.fetches.find? (fun f => f.sig == k) with
  | none => d
  | some f => (d.afterMs f.since (d.rd 0x540006)).fetchFail k 0x0601

/-- A read's answer from the cache. -/
def Dev.cacheRes (d : Dev) (k : Nat) : Res := .ok (leOct 2 16 ++ leOct 16 (d.cacheEntry k))

/-! ### Destinations (14 R496-R498, R500) -/

/-- A copy that cannot be taken is dropped; the fetches it carries fail (14 R496-R498, R510). -/
def Dev.brgDrop (d : Dev) (ks : List Nat) : Dev :=
  forEach ks ((d.inc 0x540007).fire 72) (fun k d => d.fetchFail k 0x0203)

/-- A frame for a channel's outbound queue (14 R496, R510). -/
def Dev.queueOut (d : Dev) (c : Nat) (m : CanMsg) (ks : List Nat) : Dev :=
  if !d.on dCAN then (d.engineOff dBRG [dBRG, dCAN]).brgDrop ks
  else if 32 ≤ (d.brg.outq.getD c []).length || (!ks.isEmpty && !d.canCanSend c) then d.brgDrop ks
  else d.setBrg (fun b => { b with outq := updAt b.outq c (· ++ [⟨m, 0, ks⟩]) })

/-- A message built in a barge of BRG_POUND (14 R498). -/
def Dev.brgBuild (d : Dev) (data : Oct) : Option Nat × Dev :=
  match d.alloc (d.rd 0x540003) .brg 1 with
  | (some (b :: _), d) => (some b, d.writeMem (256 * b) data)
  | (_, d) => (none, d)

/-- A TX data descriptor of the bridge: FIRST, LAST and FREE_AFTER set (14 R497). -/
def brgDesc (b len : Nat) : Oct := leOct 2 b ++ zeros 22 ++ leOct 2 len ++ leOct 2 0x6800 ++ zeros 4

/-- A message for Ethernet destination `e` (14 R497, R498). -/
def Dev.ethSend (d : Dev) (e : Nat) (rec_ : Oct) (ks : List Nat) : Dev :=
  let t := d.ethDest e
  let r := octAt t 19
  let need := [dBRG, dCORE, dPM0, macDom (r / 8)]
  if 32 ≤ r then d.brgDrop ks
  else if !d.allOn need then (d.engineOff dBRG need).brgDrop ks
  else if d.ringState r ≠ 1 || !d.ringReach r || d.ringN r ≤ sub16 (d.ringHost r) (d.ringDev r) || !d.canSend (r / 8)
      || d.rd 0x540004 ≤ d.brg.ethHeld.length then d.brgDrop ks
  else
    let data := t.take (octAt t 18) ++ rec_
    match d.brgBuild data with
    | (none, d) => d.brgDrop ks
    | (some b, d) =>
      let d := d.setBrg (fun x => { x with ethHeld := x.ethHeld ++ [b] })
      let h := d.ringHost r
      (d.writeMem (d.slotAddr r h) (brgDesc b data.length)).wr (ringKey r 4) ((h + 1) % 65536)

/-- A message for Towpath mailbox `m` (14 R498, R500; 01 Table 1.2). -/
def Dev.mboxSend (d : Dev) (m : Nat) (rec_ : Oct) (ks : List Nat) : Dev :=
  let n := d.rd (0x542001 + m) % 16
  let need := dBRG :: d.towNeeds
  if !d.allOn need then (d.engineOff dBRG need).brgDrop ks
  else if !d.peerOpen n || d.rd 0x540005 ≤ d.brg.towHeld.length then d.brgDrop ks
  else match d.brgBuild rec_ with
    | (none, d) => d.brgDrop ks
    | (some b, d) => (d.setBrg (fun x => { x with towHeld := x.towHeld ++ [b] })).mailbox m b rec_

/-- Barges that no longer belong to a message of the bridge leave the credits (14 R498). -/
def Dev.brgCredits (d : Dev) : Dev :=
  let eth := d.brg.ethHeld.filter (fun b => d.ownerAfter b == .brg || d.ownerAfter b == .txdma)
  let tow := d.brg.towHeld.filter (fun b => match d.ownerAfter b with
    | .brg | .tow _ => true
    | _ => false)
  d.setBrg (fun x => { x with ethHeld := eth, towHeld := tow })

/-! ### Output messages (14 R505, R506) -/

/-- The data length code for a length. -/
def dlcOf (n : Nat) : Nat :=
  if n ≤ 8 then n else if n ≤ 12 then 9 else if n ≤ 16 then 10 else if n ≤ 20 then 11 else if n ≤ 24 then 12
  else if n ≤ 32 then 13 else if n ≤ 48 then 14 else 15

/-- An output message beyond its entry. -/
def OmS.idle : OmS := ⟨[], none, false, 0⟩
def Dev.om (d : Dev) (o : Nat) : OmS := d.brg.oms.getD o OmS.idle
def Dev.setOm (d : Dev) (o : Nat) (f : OmS → OmS) : Dev := d.setBrg (fun b => { b with oms := updAt b.oms o f })

/-- The frame an output message builds from its buffer. -/
def omMsg (e buf : Oct) : CanMsg :=
  let v := leAt e 0 4
  ⟨v % 2 ^ 29, v.testBit 29, (octAt e 7).testBit 7, v.testBit 30, v.testBit 31, false, dlcOf (octAt e 4), buf, none⟩

/-- A send now. -/
def Dev.omNow (d : Dev) (o : Nat) : Dev :=
  match d.outMsgs[o]? with
  | none => d
  | some e =>
    let mine (f : Fetch) : Bool := !f.sent && leAt (d.signals.getD f.sig []) 14 2 % 64 == o
    let ks := (d.brg.fetches.filter mine).map (·.sig)
    let d := d.setBrg (fun b => { b with fetches := b.fetches.map (fun f => if mine f then { f with sent := true } else f) })
    let d := d.setOm o (fun x => { x with last := some d.ck, deferred := false })
    let m := omMsg e (d.om o).buf
    match octAt e 5 with
    | 1 => d.queueOut 0 m ks
    | 2 => d.queueOut 1 m ks
    | 4 => d.ethSend (octAt e 6) (brgRecord 3 m) ks
    | _ => d.mboxSend (octAt e 6) (brgRecord 3 m) ks

/-- A send, deferred while OM_MIN_GAP has not passed (14 R506). -/
def Dev.omSend (d : Dev) (o : Nat) : Dev :=
  if !d.brgRuns then d
  else match (d.om o).last with
    | some t =>
      if d.ck < t + leAt (d.outMsgs.getD o []) 10 2 * ckPerMs then d.setOm o (fun x => { x with deferred := true })
      else d.omNow o
    | none => d.omNow o

/-- OM_PERIOD passes (14 R506). -/
def Dev.omPeriod (d : Dev) (o : Nat) : Dev :=
  let per := leAt (d.outMsgs.getD o []) 8 2
  if !d.brgRuns || per = 0 then d
  else
    let due := (d.om o).period + per * ckPerMs
    ((d.advanceTo due).setOm o (fun x => { x with period := due })).omSend o

/-- OM_MIN_GAP ends with a send deferred (14 R506). -/
def Dev.omGap (d : Dev) (o : Nat) : Dev :=
  if d.brgRuns && (d.om o).deferred then
    (d.afterMs ((d.om o).last.getD d.ck) (leAt (d.outMsgs.getD o []) 10 2)).omNow o
  else d

/-- A read of a cache entry that the dictionary engine has accepted (14 R509). -/
def Dev.cacheRead (d : Dev) (ini k : Nat) : Dev :=
  let f := leAt (d.signals.getD k []) 14 2
  if !f.testBit 15 then d.resolve ini (cacheIdx k) (cacheSub k) (d.cacheRes k)
  else if d.brg.fetches.any (fun x => x.sig == k) then
    d.setBrg (fun b => { b with fetches := b.fetches.map (fun x =>
      if x.sig == k then { x with readers := x.readers ++ [ini] } else x) })
  else
    (d.setBrg (fun b => { b with fetches := b.fetches ++ [⟨k, d.ck, [ini], false⟩] })).omSend (f % 64)

/-! ### The bridge's time and its hand-over to the sluice (14 R507, R511) -/

/-- The bridge takes no further input for `n` CK more (14 R511). -/
def Dev.brgSpend (d : Dev) (n : Nat) : Dev := d.setBrg (fun b => { b with ready := max b.ready d.ck + n })

/-- Values computed for the sluice reach KEEP in the CK after (14 R507), and levels SLU_CMD_LEVEL in the CKX after that (16 R575);
KEEP not ON is a fault entry (01 R17). -/
def Dev.brgHand (d : Dev) : Dev :=
  let l := d.brg.hand
  if l.isEmpty then d
  else
    let d := (d.setBrg (fun b => { b with hand := [] })).tick 1
    if !d.on dKEEP then forEach l d (fun _ d => d.engineOff dBRG [dBRG, dKEEP])
    else
      let lv := l.filter (fun e => !e.1)
      let d := forEach (l.filter (·.1)) d (fun e d => d.enBridge e.2.1 e.2.2)
      if lv.isEmpty then d
      else forEach lv (d.advanceTo ((d.ck / ckPerCkx + 1) * ckPerCkx)) (fun e d => d.sluBridge e.2.1 e.2.2)

/-! ### Signals (14 R502-R505) -/

/-- The rescaled value (14 R503); without a curve image it is a free value (log entry 6). -/
def Dev.rescale (d : Dev) (e : Oct) (x : Int) : Int × Dev :=
  if !(octAt e 1).testBit 3 then (x, d)
  else match d.body 12 with
    | none => let f := d.free; ((f.1 % 2 ^ 32 : Nat), f.2)
    | some b =>
      let r := sub b (136 * octAt e 7) 136
      let n := octAt r 0
      if x < rcX r 0 then (rcY r 0, d)
      else match (List.range (n - 1)).find? (fun j => rcX r j ≤ x && x < rcX r (j + 1)) with
        | some j => (rcY r j + ((x - rcX r j) * (rcY r (j + 1) - rcY r j)).tdiv (rcX r (j + 1) - rcX r j), d)
        | none => (rcY r (n - 1), d)

/-- The saturated value (14 R504). -/
def saturate (e : Oct) (y : Int) : Int :=
  let n := octAt e 12
  match octAt e 8 with
  | 2 => clampInt 0 0xFFFF y
  | 3 => if y = 0 then 0 else 1
  | _ => if (octAt e 1).testBit 2 then clampInt (-(2 ^ (n - 1))) (2 ^ (n - 1) - 1) y else clampInt 0 (2 ^ n - 1) y

/-- A signal runs with its extracted value (14 R502-R507). Answers the output message it touched and whether a packed
field changed. -/
def Dev.sigRun (d : Dev) (k : Nat) (e : Oct) (x : Int) : Option (Nat × Bool) × Dev :=
  let y := d.rescale e x
  let z := saturate e y.1
  let d := if z = y.1 then y.2 else y.2.inc 0x581002
  let got := d.brg.fetches.any (fun f => f.sig == k && f.sent)
  let d := (d.putSig ⟨k, ofSigned 64 z, ofSigned 32 x, false, got, d.ck⟩).inc 0x581005
  let d := if got then d.fetchEnd k (d.cacheRes k) else d
  let di := octAt e 9
  match octAt e 8 with
  | 1 =>
    let buf := (d.om di).buf
    let new := fieldPut buf (fieldBits ((octAt e 1).testBit 4) (leAt e 10 2 % 512) (octAt e 12)) (ofSigned 64 z)
    (some (di, new != buf), d.setOm di (fun o => { o with buf := new }))
  | 2 => (none, d.setBrg (fun b => { b with hand := b.hand ++ [(false, di, z.toNat)] }))
  | 3 => (none, d.setBrg (fun b => { b with hand := b.hand ++ [(true, di, z.toNat)] }))
  | _ => (none, d)

/-- A signal of a route entry runs over a frame's data; a field beyond the data leaves it untouched (14 R502). -/
def Dev.sigFrame (d : Dev) (k : Nat) (e data : Oct) : Option (Nat × Bool) × Dev :=
  let ps := fieldBits ((octAt e 1).testBit 0) (leAt e 4 2 % 512) (octAt e 6)
  if ps.any (fun p => 8 * data.length ≤ p) then
    let d := d.inc 0x581001
    (none, if d.brg.fetches.any (fun f => f.sig == k && f.sent) then d.fetchFail k 0x0302 else d)
  else
    let v := fieldGet data ps
    d.sigRun k e (if (octAt e 1).testBit 1 then toSigned (octAt e 6) v else v)

/-- A triggered output message: 8 CK where it is built now (14 R506, R511). -/
def Dev.omTrigger (d : Dev) (o : Nat) : Dev := let e := d.omSend o; if (e.om o).deferred then e else e.brgSpend 8

/-- The triggers of the output messages touched, in ascending order (14 R505, R506). -/
def Dev.judgeOms (d : Dev) (hits : List (Nat × Bool)) : Dev :=
  forEach (List.range 64) d (fun o d =>
    let mine := hits.filter (fun h => h.1 == o)
    let trig := octAt (d.outMsgs.getD o []) 7 % 4
    if mine.isEmpty then d
    else if trig = 0 || (trig = 1 && mine.any (·.2)) then d.omTrigger o else d)

/-- Signal entries run in ascending order, 4 CK each, then the triggers are judged (14 R505, R511). `run` answers none for an
entry that does not run. -/
def Dev.runSignals (d : Dev) (run : Dev → Nat → Oct → Option (Option (Nat × Bool) × Dev)) : Dev :=
  let r := d.signals.zipIdx.foldl (fun (a : List (Nat × Bool) × Dev) e =>
    match run a.2 e.2 e.1 with
    | some (h, d) => (a.1 ++ h.toList, d.brgSpend 4)
    | none => a) ([], d)
  (r.2.judgeOms r.1).brgHand

/-! ### Routing (14 R494, R495) -/

/-- A route entry matches a frame from source `s`. -/
def routeMatch (e : Oct) (s : Nat) (m : CanMsg) : Bool :=
  let v := leAt e 0 4
  let k := leAt e 4 4
  (octAt e 8).testBit s && ((m.id ^^^ v) &&& (k % 2 ^ 29)) % 2 ^ 29 == 0
    && (!k.testBit 29 || m.ide == v.testBit 29) && (!k.testBit 30 || m.fdf == v.testBit 30)

/-- The entries that apply to a frame, at most `n` of them (14 R494). -/
def applying (s : Nat) (m : CanMsg) : Nat → List (Oct × Nat) → List (Oct × Nat)
  | 0, _ => []
  | _, [] => []
  | n + 1, e :: t =>
    if routeMatch e.1 s m then e :: (if (octAt e.1 11).testBit 0 then applying s m n t else [])
    else applying s m (n + 1) t

/-- The output frame of an entry (14 R495). -/
def routeOut (e : Oct) (m : CanMsg) : CanMsg :=
  let k := leAt e 4 4 % 2 ^ 29
  let o := leAt e 12 4
  let set := (octAt e 11).testBit 2
  { m with
    id := ((o % 2 ^ 29) &&& k) ||| (m.id - (m.id &&& k)), ide := o.testBit 29,
    fdf := if set then (octAt e 11).testBit 3 else m.fdf, brs := if set then (octAt e 11).testBit 4 else m.brs }

/-- The copy of a frame that an entry makes (14 R493, R495-R498, R500). -/
def Dev.routeCopy (d : Dev) (s : Nat) (m : CanMsg) (e : Oct) : Dev :=
  let o := routeOut e m
  let dest := octAt e 9
  let arg := octAt e 10
  if dest = 0 || dest = 6 then d
  else if (8 < o.data.length && !o.fdf) || (o.rtr && o.fdf) then d.inc 0x540008
  else match dest with
    | 1 => d.queueOut 0 o []
    | 2 => d.queueOut 1 o []
    | 3 => d.canDeliver (arg / 2) (2 + arg % 2) o
    | 4 => d.ethSend arg (brgRecord s o) []
    | _ => d.mboxSend arg (brgRecord s o) []

/-- A frame from source `s` is routed (14 R494, R502, R511); `none_` is what a frame that matches nothing takes. -/
def Dev.route (d : Dev) (s : Nat) (m : CanMsg) (none_ : Dev → Dev) : Dev :=
  let es := applying s m 4 d.routes.zipIdx
  if es.isEmpty then (none_ d).inc 0x540009
  else
    let d := forEach es d (fun e d => d.routeCopy s m e.1)
    let unpack := (es.filter (fun e => (octAt e.1 11).testBit 1)).map (·.2)
    d.runSignals (fun d k e =>
      if octAt e 0 = 0 && unpack.contains (leAt e 2 2) then some (d.sigFrame k e m.data) else none)

/-- The bridge takes its next input once the time of the one before has passed: 8 CK for routing, and those of what it runs and
builds (14 R499, R502, R511); of an ingress frame, once the cycles that hand over its barges have passed OPEN (01 R19). An ingress
record in a poisoned barge is refused (09 R312; log entry 79). Tacho readings run their signals whether or not BRG_RUN reads 01h
(R502). -/
def Dev.bridgeInput (d : Dev) : Dev :=
  match d.brg.inq with
  | [] => d
  | (_, i) :: t =>
    if !d.on dBRG || !(d.brgRuns || i matches .tacho _ _) then d
    else
      let d := ((d.advanceTo d.brg.ready).setBrg (fun b => { b with inq := t })).brgSpend 8
      match i with
      | .can c m => d.route c m (fun d => d.canDefault c m)
      | .eth f =>
        let d := d.awaitLocks f.barges
        let m := if d.framePoisoned f then none else d.ingress f.data
        let d := d.freeBarges f.barges
        (match m with
         | some m => d.route 2 m id
         | none => (d.inc 0x540008).fire 75)
      | .tacho n v => d.runSignals (fun d k e => if octAt e 0 = 1 && leAt e 2 2 = n then some (d.sigRun k e v) else none)

/-- A frame the classifier passes to the bridge (13 R463). -/
def Dev.brgTake (d : Dev) (f : RxFrame) (_n : Nat) : Dev :=
  if d.brgRuns then d.brgEnter (.eth f) else d.freeBarges f.barges

/-! ### Run control, tables and the domain -/

/-- Cache entries and output buffers at zero, periods begun afresh: a new signal map, or BRG after OFF (14 R513). -/
def Dev.brgFresh (d : Dev) : Dev :=
  d.setBrg (fun b => { b with
    sigs := [], oms := d.outMsgs.map (fun e => ⟨zeros (octAt e 4), none, false, d.ck⟩) })

/-- Inputs that wait are given up when the bridge stops: CAN frames take CAN_RX_DEFAULT (14 R493); tacho readings stay. -/
def Dev.brgDrain (d : Dev) : Dev :=
  let q := d.brg.inq
  forEach q (d.setBrg (fun b => { b with inq := b.inq.filter (fun i => i.2 matches .tacho _ _) })) (fun i d =>
    match i.2 with
    | .can c m => d.canDefault c m
    | .eth f => d.freeBarges f.barges
    | .tacho _ _ => d)

/-- The rules of R514 on BRG_RUN 01h. -/
def Dev.brgRunOk (d : Dev) : Bool :=
  d.poundState (d.rd 0x540003) == 2 && (List.range 4).all (fun e =>
    !d.ethUsed e || (octAt (d.ethDest e) 19 < 32 && (octAt (d.ethDest e) 18 == 14 || octAt (d.ethDest e) 18 == 18)))

/-- Order 9 rules of the bridge (14 R500, R514, R518). -/
def Dev.brgValue (d : Dev) (k v : Nat) : Bool :=
  let i := k / 256
  if k = 0x540001 then v = 0 || d.brgRunOk
  else if 0x540007 ≤ k && k ≤ 0x54000A then v = 0
  else if i = 0x5420 then !v.testBit 7 && v < 2 ^ 25 && bits v 23 8 % 8 = 0
  else if i = 0x5810 then v = 0
  else true

/-- The effect of a write of a bridge object. -/
def Dev.brgEffect (d : Dev) (k v : Nat) : Dev :=
  if k = 0x540001 then
    if v = d.rd k then d
    else if v = 1 then
      (d.wr k 1).setBrg (fun b => { b with oms := b.oms.map (fun o => { o with period := d.ck }) })
    else (d.wr k 0).brgDrain
  else d.wr k v

/-- BRG leaves ON (14 R517): outbound queues, buffers and cache entries are lost with the domain. Fetches under way end
by their timeout. -/
def Dev.brgLeaves (d : Dev) (toOff : Bool) : Dev :=
  let d := d.brgDrain.setBrg (fun b => { b with inq := [] })
  if toOff then d.setBrg (fun b => { b with outq := [[], []], oms := [], sigs := [] }) else d

/-- BRG reaches ON: barges it still owns return to their pounds (14 R517). -/
def Dev.brgOn (d : Dev) (fromOff : Bool) : Dev :=
  let mine := (d.pm.barges.filter (fun e => e.2.owner == .brg && !d.lockBusy e.1)).map (·.1)
  let d := d.freeBarges mine
  if fromOff then d.brgFresh else d

end Sys2Proof.Machine
end

