-- ==== Sys2Proof/Machine/Energy.lean ====
section
/-!
DEFINITION. The stored-energy monitor and the admission of journal steps (05 R176, R177, R186).
-/
namespace Sys2Proof.Machine

/-- The backup term in 2^-1 pJ units of uF mV^2, or none for a cell that counts as full (05 R176). -/
def Dev.backupTerm (d : Dev) : Option Nat :=
  let v := d.rd 0x200004
  match d.rd 0x203001 with
  | 1 => some (if 2550 < v then d.rd 0x203002 * (v * v - 2550 * 2550) else 0)
  | 2 | 3 => if d.rd 0x203003 ≤ v then none else some 0
  | _ => some 0

/-- The hold-up term, counted in MAIN and above 6.0 V only. -/
def Dev.holdupTerm (d : Dev) : Nat :=
  let v := d.rd 0x200003
  if d.rd 0x200001 = 0 && 6000 < v then d.rd 0x203004 * (v * v - 6000 * 6000) else 0

/-- Energy in uJ from the sum of terms, truncated and saturated (05 R176). -/
def energyOf (t : Option Nat) (h : Nat) : Nat :=
  match t with
  | none => 0xFFFFFFFF
  | some b => min ((b + h) / 2000000) 0xFFFFFFFF

/-- ENERGY_NEED + ENERGY_RESERVE. -/
def Dev.energyNeed (d : Dev) : Nat := d.rd 0x203006 + d.rd 0x203007

/-- A journal step is admitted (05 R177). -/
def Dev.energyOk (d : Dev) : Bool := d.energyNeed ≤ d.rd 0x203005

/-- A journal step is admitted without the hold-up term (05 R186). -/
def Dev.energyOkBare (d : Dev) : Bool := d.energyNeed ≤ energyOf d.backupTerm 0

/-- A sample of the monitor: the converter's codes (05 R176, R712). -/
def Dev.energySample (d : Dev) (vin vbak : Nat) : Dev :=
  let d := (d.wr 0x200003 (10 * vin)).wr 0x200004 (vbak * 3 / 2)
  d.wr 0x203005 (energyOf d.backupTerm d.holdupTerm)

end Sys2Proof.Machine
end

