-- ==== Sys2Proof/Machine/Nv.lean ====
section
/-!
DEFINITION. The non-volatile store: journal space, the steps of records, compaction, the NV load, collapse (08).
-/
namespace Sys2Proof.Machine

/-- The device with the array changed. -/
def Dev.setNv (d : Dev) (f : Nv → Nv) : Dev := { d with nv := f d.nv }

/-- Words of a body padded with 00h (08 R259). -/
def padWords (n : Nat) : Nat := (n + 7) / 8

/-- Words of a journal record and of a home record with a body of `n` octets (08 R259, R275). -/
def recWords (n : Nat) : Nat := 3 + padWords n
def homeWords (n : Nat) : Nat := 2 + padWords n

/-! ### The words of the array (08 R259, R260, R262, R275) -/

/-- The mark value of a commit word and of HOME_MARK (08 R260). -/
def markOct : Oct := [0xC3, 0x5A, 0x3C, 0xA5, 0xC3, 0x5A, 0x3C, 0xA5]

/-- The header word of a record: REC_INDEX, REC_SUBINDEX, REC_KIND, REC_LENGTH (08 Table 8.3). -/
def NvRec.header (r : NvRec) : Oct :=
  leOct 2 (r.key / 256) ++ [oct r.key, oct r.kind] ++ leOct 4 r.body.length

/-- The body padded with 00h to whole words (08 R259). -/
def NvRec.padded (r : NvRec) : Oct := r.body ++ zeros (8 * padWords r.body.length - r.body.length)

/-- The CRC-32 over the header and the padded body words (08 Table 8.3). -/
def NvRec.crcOf (r : NvRec) : Nat := crc32 (r.header ++ r.padded)

/-- The check word: REC_CRC, REC_SEQ (08 Table 8.3). -/
def NvRec.check (r : NvRec) : Oct := leOct 4 r.crc ++ leOct 4 r.seq

/-- A journal record as it lies in the array: header, padded body, check word, commit word (08 R259). -/
def NvRec.octets (r : NvRec) : Oct := r.header ++ r.padded ++ r.check ++ r.commit

/-- REC_CRC passes. -/
def NvRec.crcOk (r : NvRec) : Bool := !r.spoilt && r.crc == r.crcOf

/-- The NV load can take a record: its REC_CRC passes, or it holds an image, which the NV load does not read (08). -/
def NvRec.good (r : NvRec) : Bool := r.kind == 2 || r.crcOk

/-- The commit word holds the mark value. -/
def NvRec.done (r : NvRec) : Bool := r.commit == markOct

/-- A record with its REC_CRC, not committed. -/
def nvRec (kind key : Nat) (body : Oct) (seq : Nat) : NvRec :=
  let r : NvRec := ⟨kind, key, body, seq, 0, [], false, []⟩
  { r with crc := r.crcOf }

/-- HOME_MARK passes the margin read (08 R276). -/
def NvHome.valid (h : NvHome) : Bool := h.mark == markOct

/-- The 64 octets of a home header (08 Table 8.5). -/
def NvHome.header (h : NvHome) : Oct := h.mark ++ leOct 4 h.gen ++ leOct 4 h.cut ++ leOct 4 h.len ++ zeros 44

/-! ### Journal space (08 R268, R718) -/

/-- Words left in the newest journal sector for the next record. -/
def Nv.room (v : Nv) : Nat := if v.closed || v.opened.isEmpty then 0 else 512 - v.off

/-- Words left in the newest journal sector for the record in hand, which goes on in a sector closed since (08 R273). -/
def Nv.roomNow (v : Nv) : Nat :=
  if (v.cur.map (·.old)).getD false then (if v.opened.isEmpty then 0 else 512 - v.off) else v.room

/-- Free words of the journal. -/
def Nv.freeWords (v : Nv) : Nat := v.room + 512 * (32 - v.opened.length)

/-- Octets that records of `n` words need, sector header words included. -/
def Nv.need (v : Nv) (n : Nat) : Nat := 8 * (n + (n - v.room + 510) / 511)

/-- NV_JOURNAL_FREE: unreserved free octets. -/
def Nv.unreserved (v : Nv) : Nat := 8 * v.freeWords - v.rsv

/-- Erased journal sectors. -/
def Nv.erased (v : Nv) : Nat := 32 - v.opened.length - v.partly.length

/-- The record with REC_SEQ `q` changed. -/
def Nv.setRec (v : Nv) (q : Nat) (f : NvRec → NvRec) : Nv :=
  { v with recs := v.recs.map (fun r => if r.seq = q then f r else r) }

/-- `n` words of record `q` placed in the newest sector. -/
def Dev.nvPut (d : Dev) (q n : Nat) : Dev :=
  if n = 0 then d
  else d.setNv (fun v => { v with off := v.off + n }.setRec q (fun r => { r with
    sectors := r.sectors ++ (v.opened.drop (v.opened.length - 1)).filter (fun s => !r.sectors.contains s) }))

/-- The sector the journal opens next: the first in the circle that holds no word of it. -/
def Nv.nextFree (v : Nv) : Nat :=
  (((List.range 32).map (fun i => (v.nextSec + i) % 32)).find? (fun s => !v.opened.contains s)).getD v.nextSec

/-- The next journal sector is opened: its header word holds the opening number and the erase count (08 Organisation, R718;
source 12 by R286). -/
def Dev.nvOpen (d : Dev) : Dev :=
  let s := d.nv.nextFree
  let head := leOct 4 (d.nv.openNo + 1) ++ leOct 4 (d.nv.erases.getD (32 + s) 0)
  let d := d.setNv (fun v => { v with
    opened := v.opened ++ [s], heads := v.heads ++ [(s, head)], openNo := v.openNo + 1, off := 1,
    offs := v.offs ++ (v.opened.drop (v.opened.length - 1)).map (fun j => (j, v.off)),
    closed := v.closed && (v.cur.map (·.old)).getD false, nextSec := (s + 1) % 32, partly := v.partly.filter (· != s) })
  if d.nv.erased = d.rd 0x240004 then d.fire 12 else d

/-- `n` words of record `q` placed at the end of the journal; a sector is opened where they do not fit (08 R718). -/
def Dev.nvPlace (d : Dev) (q n : Nat) : Dev :=
  let rm := d.nv.roomNow
  if n ≤ rm then d.nvPut q n else ((d.nvPut q rm).nvOpen).nvPut q (n - rm)

/-- Of `n` words of record `q` and the sector header word among them, the first `w` to be programmed have been placed. -/
def Dev.nvPlaceCut (d : Dev) (q n w : Nat) : Dev :=
  let rm := d.nv.roomNow
  if n ≤ rm || w ≤ rm then d.nvPut q (min n w) else ((d.nvPut q rm).nvOpen).nvPut q (min n (w - 1) - rm)

/-- Records with no word in the array are no records of the journal. -/
def Nv.sweep (v : Nv) : Nv := { v with recs := v.recs.filter (fun r => !r.sectors.isEmpty) }

/-! ### Stored values (08 R272, R276, R277) -/

/-- The bank of the home in effect. -/
def Nv.homeBank (v : Nv) : Option Nat :=
  match v.homes with
  | [a, b] =>
    if a.valid && (!b.valid || b.gen < a.gen) then some 0
    else if b.valid then some 1
    else none
  | _ => none

/-- The home in effect. -/
def Nv.home (v : Nv) : Option NvHome := v.homeBank.bind (fun b => v.homes[b]?)

/-- HOME_CUT of the home in effect. -/
def Nv.homeCut (v : Nv) : Nat := (v.home.map (·.cut)).getD 0

/-- Committed journal records above HOME_CUT whose REC_CRC passes, up to a REC_SEQ. -/
def Nv.applied (v : Nv) (upto : Nat) : List NvRec :=
  v.recs.filter (fun r => r.done && r.good && v.homeCut < r.seq && r.seq ≤ upto)

/-- A record put in its place by object. -/
def recPut : List NvRec → NvRec → List NvRec
  | [], x => [x]
  | r :: t, x => if r.key = x.key then x :: t else if x.key < r.key then x :: r :: t else r :: recPut t x

/-- The stored values as of a REC_SEQ, one record for each object in ascending order (08 R272, R277). -/
def Nv.stored (v : Nv) (upto : Nat) : List NvRec :=
  let js := v.applied upto
  let dseq := (js.filter (·.kind == 3)).foldl (fun m r => max m r.seq) 0
  let base := if dseq = 0 then ((v.home.map (·.recs)).getD []).filter (·.good) else []
  (base ++ js.filter (fun r => r.kind != 3 && dseq < r.seq)).foldl recPut []

/-- The stored value of an object, or its stored image. -/
def Dev.storedOct (d : Dev) (k : Nat) : Option Oct := ((d.nv.stored d.nv.seq).find? (·.key == k)).map (·.body)

/-- The key of image `n` and its stored image. -/
def imgKey (n : Nat) : Nat := objKey (imgIdx n) 0
def Dev.storedImg (d : Dev) (n : Nat) : Option Oct := d.storedOct (imgKey n)

/-- The number of the image a key names. -/
def keyImg (k : Nat) : Option Nat := if k % 256 = 0 then imgOf (k / 256) else none

/-- The octets of an object's type. -/
def objSize (k : Nat) : Nat := ((rowOf k).map (·.ty.size)).getD 0

/-- A number put into an ascending list. -/
def natPut : List Nat → Nat → List Nat
  | [], x => [x]
  | a :: t, x => if x ≤ a then x :: a :: t else a :: natPut t x

/-- The value an object has now: octets of its type, or the image in effect. -/
def Dev.liveOct (d : Dev) (k : Nat) : Oct :=
  match keyImg k with
  | some n => (d.img n).eff.getD []
  | none => leOct (objSize k) (d.rd k)

/-- A key is a P object of a plain type. -/
def isP (k : Nat) : Bool := k < 0x1000000 && ((rowOf k).map (·.per)) == some .p && (keyImg k).isNone

/-- What NV_COMMIT writes: P objects whose live value differs from their stored value or default, images in effect that
differ from their stored image (08 R269, R270). -/
def Dev.commitItems (d : Dev) : List Nat :=
  let stored := d.nv.stored d.nv.seq
  let val (k : Nat) : Option Oct := (stored.find? (·.key == k)).map (·.body)
  let scal := (d.store.map (·.1) ++ (stored.map (·.key)).filter (fun k => (d.store.get? k).isNone)).filter (fun k =>
    isP k && d.liveOct k != (val k).getD (leOct (d.liveOct k).length (dflt k)))
  let imgs := ((List.range 14).filter (fun n => (d.img n).eff.isSome && (d.img n).eff != val (imgKey n))).map imgKey
  (scal ++ imgs).foldl natPut []

/-! ### Steps -/

/-- The duration of a step in microseconds (08 R258, R263, R718). -/
def NvStep.us (s : NvStep) : Nat :=
  let o := b2n s.opens
  match s.act with
  | .chunk n => 10 * (n + o)
  | .check | .commit => 10 * (1 + o)
  | .home n => 10 * n
  | .mark => 80
  | .erase _ => 1200
  | .void => 10

/-- The number of a step in Table 8.4; voiding a commit word has none. -/
def NvAct.code : NvAct → Nat
  | .chunk _ => 1
  | .check => 2
  | .commit => 3
  | .home _ | .mark => 4
  | .erase _ => 5
  | .void => 0

/-- NV_STEP_ACTIVE: the step of Table 8.4 in progress. -/
def Nv.stepCode (v : Nv) : Nat :=
  match v.step with
  | none => 0
  | some s => s.act.code

/-- NVM is selected to leave ON and waits (06 R197). -/
def Dev.nvLeaving (d : Dev) : Bool := (d.transOf dNVM).isSome

/-- The next `n` journal words go into a sector that was found partly erased (08 R285). -/
def Nv.stale (v : Nv) (n : Nat) : Bool := v.roomNow < n && v.partly.contains v.nextFree

/-- That sector is erased again first, in a step of its own (08 R285). -/
def Dev.nvReErase (d : Dev) : Dev :=
  if d.energyOk then d.setNv (fun v => { v with step := some ⟨.erase (32 + v.nextFree), false, d.ck⟩ }) else d

/-- A step of the array starts; one that programs `n` journal words opens a sector where they do not fit. -/
def Dev.nvStart (d : Dev) (a : NvAct) (n : Nat) : Dev :=
  if d.nv.stale n then d.nvReErase else d.setNv (fun v => { v with step := some ⟨a, v.roomNow < n, d.ck⟩ })

/-- The moment the running step has done its work (08 R263). -/
def Dev.nvDue (d : Dev) : Dev :=
  match d.nv.step with
  | some s => d.afterUs s.since s.us
  | none => d

/-- A record begins: it takes the next REC_SEQ (08 R261). A commit word that a domain reset has cut stays void behind it (log entry
83). -/
def Dev.nvBegin (d : Dev) (slot : Option Nat) (ini kind key : Nat) (body : Oct) : Dev :=
  d.setNv (fun v => { v with
    seq := v.seq + 1,
    recs := v.recs ++ [nvRec kind key body (v.seq + 1)],
    cutMark := none,
    cur := some ⟨slot, ini, v.seq + 1, 1 + padWords body.length, 0, false⟩ })

/-- A job's record in hand is given up; the journal keeps it where a word of it has been programmed (08 R266, R279). -/
def Nv.giveUp (v : Nv) : Nv :=
  if (v.cur.bind (·.slot)).isNone then v
  else if v.step.isSome then { v with cur := none } else { v with cur := none }.sweep

/-- What an NV job holds is released when it ends (08 R270); a home mark that is being written belongs to its bank still. -/
def Dev.nvRelease (d : Dev) : Dev :=
  d.setNv (fun v => { v.giveUp with rsv := 0, comp := if (v.step.map (·.act)) == some .mark then v.comp else none })

/-- The NV job in a slot that is active: kind 01h, 02h or 03h. -/
def Dev.nvJob (d : Dev) : Option Nat :=
  (List.range 4).find? (fun s => 1 ≤ d.jobKind s && d.jobKind s ≤ 3 && jobActive (d.jobState s))


/-- A home record of which only a part is written is given up: its words stay in the bank, and it is written again from its
start (04 R140, 08 R274: suspend points lie between two home records; log entry 82). -/
def Nv.homeGiveUp (v : Nv) : Nv :=
  match v.comp with
  | some c => { v with homes := updAt v.homes c.bank (fun h => { h with spent := h.spent + c.written }),
                       comp := some { c with written := 0 } }
  | none => v

/-- Stored energy is too low for the next step of an NV job (04 R140, 08 R266). A cause 02h or 03h of R146 stands before 04h (log
entry 83). -/
def Dev.nvLowEnergy (d : Dev) (s : Nat) : Dev :=
  let d := d.setNv (fun v => v.giveUp.homeGiveUp)
  if d.jobState s = 4 then d
  else if d.jobKind s = 2 then d.nvRelease.jobFail s 0x0203
  else
    let c := (d.jobU s).cause
    ((d.setJobU s (fun u => { u with cause := 0 })).wr (jobKey s 8) (if c = 0 then 4 else c)).setJob s 3

/-- A PW write is refused: counted, source 15 (08 R268). -/
def Dev.pwRefused (d : Dev) : Dev := (d.inc 0x242004).fire 15

/-- The octets a PW write needs. -/
def Dev.pwNeed (d : Dev) (k : Nat) : Nat := d.nv.need (recWords (objSize k))

/-- A PW write that has passed its checks (02 R75, R76; 08 R268). -/
def Dev.pwWrite (d : Dev) (ini k v : Nat) : WRes :=
  if d.nv.unreserved < d.pwNeed k then .abort 0x0502 d.pwRefused
  else .pend (d.setNv (fun n => { n with pws := n.pws ++ [⟨ini, k, v, false⟩] }))

/-- A PW write that waits ends with an abort. -/
def Dev.pwAbort (d : Dev) (p : PwReq) (code : Nat) : Dev := d.resolve p.ini (p.key / 256) (p.key % 256) (.abort code 0)

/-- The first PW write that waits begins its record, unless it is refused now (05 R186, 08 R268). -/
def Dev.pwBegin (d : Dev) : Nat → Dev
  | 0 => d
  | f + 1 =>
    match d.nv.pws with
    | [] => d
    | p :: t =>
      let d := d.setNv (fun v => { v with pws := t })
      if p.recheck && !d.energyOkBare then (d.pwRefused.pwAbort p 0x0203).pwBegin f
      else if d.nv.unreserved < d.pwNeed p.key then (d.pwRefused.pwAbort p 0x0502).pwBegin f
      else if d.nv.stale (1 + padWords (objSize p.key)) then ({ d with nv := { d.nv with pws := p :: t } }).nvReErase
      else
        let d := d.nvBegin none p.ini 1 p.key (leOct (objSize p.key) p.value)
        d.nvStart (.chunk (1 + padWords (objSize p.key))) (1 + padWords (objSize p.key))

/-- The sectors of a home bank that its first `n` words use. -/
def homeSectors (bank n : Nat) : List Nat := (List.range ((n + 511) / 512)).map (· + (2 + 15 * bank))

/-- Words of the inactive bank that the compaction has written, header included. -/
def Dev.compUsed (d : Dev) (c : Compact) : Nat :=
  8 + ((((d.nv.homes[c.bank]?).map (·.recs)).getD []).map (fun r => homeWords r.body.length)).sum
    + (((d.nv.homes[c.bank]?).map (·.spent)).getD 0) + c.written

/-- The device with home bank `b` changed. -/
def Dev.setHome (d : Dev) (b : Nat) (f : NvHome → NvHome) : Dev := d.setNv (fun v => { v with homes := updAt v.homes b f })

/-- The compaction after changes. -/
def Dev.setComp (d : Dev) (f : Compact → Compact) : Dev := d.setNv (fun v => { v with comp := v.comp.map f })

/-- Octets of the home records that hold records. -/
def homeOctets (rs : List NvRec) : Nat := (rs.map (fun r => 8 * homeWords r.body.length)).sum

/-- The journal sector phase X erases next: not erased, no record above C, oldest first; sectors found partly erased are
the oldest (08 R274). -/
def Nv.xTarget (v : Nv) (cut : Nat) : Option Nat :=
  (v.partly ++ v.opened).find? (fun s => !(v.recs.any (fun r => cut < r.seq && r.sectors.contains s)))

/-- An NV job stands at a suspend point: between objects; between two sector erases of phase E or X or two home records of
phase W, and at the end for a job that was asked before (04 Table 4.1, R133, 08 R274). -/
def Dev.nvAtPoint (d : Dev) (s : Nat) : Bool :=
  match d.jobKind s with
  | 1 => (d.nv.cur.map (·.slot)) != some (some s)
  | 3 =>
    match d.nv.comp with
    | some c =>
      (d.nv.step.isNone || d.nv.cur.isSome) && c.written == 0 &&
        (match c.phase with
         | 0 => c.between && !((((d.nv.homes[c.bank]?).map (·.dirty)).getD []).isEmpty)
         | 1 => c.between && !c.recs.isEmpty
         | 2 => false
         | _ => if (d.nv.xTarget c.cut).isSome then c.between else (d.jobU s).askAt < d.ck)
    | none => true
  | _ => false

/-- An NV job that starts its next unit: RUNNING, and where it has been asked to suspend, not yet at its suspend point. -/
def Dev.nvJobRuns (d : Dev) (s : Nat) : Bool :=
  (d.jobState s == 1 && (d.jobU s).cause == 0) ||
    ((d.jobState s == 1 || d.jobState s == 2) && d.jobKind s == 3 && !d.nvAtPoint s)

/-- The next step of a compaction (08 R274); phases without work are passed over. -/
def Dev.compStart (d : Dev) (c : Compact) : Nat → Dev
  | 0 => d
  | f + 1 =>
    let dirty := ((d.nv.homes[c.bank]?).map (·.dirty)).getD []
    let go (a : NvAct) (d : Dev) : Dev := d.setNv (fun v => { v with step := some ⟨a, false, d.ck⟩ })
    let next (ph : Nat) : Dev :=
      (d.setComp (fun c => { c with phase := ph, between := false })).compStart { c with phase := ph, between := false } f
    match c.phase with
    | 0 =>
      match dirty with
      | [] =>
        let rs := d.nv.stored c.cut
        let e (c : Compact) : Compact := { c with phase := 1, recs := rs, written := 0, between := false }
        (d.setComp e).compStart (e c) f
      | s :: _ => if d.energyOk then go (.erase s) d else d.nvLowEnergy c.slot
    | 1 =>
      match c.recs with
      | [] => next 2
      | r :: _ =>
        let n := min 64 (homeWords r.body.length - c.written)
        if 7680 < d.compUsed c + (homeWords r.body.length - c.written) then next 0
        else if d.energyOk then
          go (.home n) (d.setHome c.bank (fun h => { h with dirty := homeSectors c.bank (d.compUsed c + n) }))
        else d.nvLowEnergy c.slot
    | 2 =>
      if d.energyOk then
        let gen := (d.nv.home.map (·.gen)).getD 0 + 1
        go .mark (d.setHome c.bank (fun h => { h with
          gen := gen, cut := c.cut, len := homeOctets h.recs + 8 * h.spent, dirty := homeSectors c.bank (d.compUsed c) }))
      else d.nvLowEnergy c.slot
    | _ =>
      match d.nv.xTarget c.cut with
      | some s => if d.energyOk then go (.erase (32 + s)) d else d.nvLowEnergy c.slot
      | none => d.jobLast c.slot (fun d => d.nvRelease.jobDone c.slot)

/-- A record of a job finds the journal full: the job ends FAILED while it runs, and the record in hand is given up (04 R133). -/
def Dev.nvFull (d : Dev) (s : Nat) : Dev :=
  if d.jobState s = 1 then d.nvRelease.jobFail s 0x0502 else d.setNv Nv.giveUp

/-- The next step of the record being written (08 R259, R263-R266). -/
def Dev.recStart (d : Dev) (w : NvWrite) : Dev :=
  if w.written < w.words then
    let n := min 64 (w.words - w.written)
    match w.slot with
    | some s =>
      if !d.energyOk then d.nvLowEnergy s
      else if d.nv.freeWords * 8 < d.nv.need n then d.nvFull s
      else d.nvStart (.chunk n) n
    | none => d.nvStart (.chunk n) n
  else if w.written = w.words then d.nvStart .check 1
  else d.nvStart .commit 1

/-- The next unit of an NV job that runs (08 R270, R271, R274). -/
def Dev.nvUnit (d : Dev) (s : Nat) : Dev :=
  match d.jobKind s with
  | 1 =>
    match (d.jobU s).items with
    | [] => d.nvRelease.jobDone s
    | k :: _ =>
      let body := d.liveOct k
      if !d.energyOk then d.nvLowEnergy s
      else if d.nv.stale (min 64 (1 + padWords body.length)) then d.nvReErase
      else
        let d := d.nvBegin (some s) 0 (if (keyImg k).isSome then 2 else 1) k body
        match d.nv.cur with
        | some w => d.recStart w
        | none => d
  | 2 =>
    if !d.energyOk then d.nvLowEnergy s
    else if d.nv.stale 1 then d.nvReErase
    else
      let d := d.nvBegin (some s) 0 3 0 []
      match d.nv.cur with
      | some w => d.recStart w
      | none => d
  | _ =>
    match d.nv.comp with
    | some c => d.compStart c 4
    | none => d

/-- The NV job goes on with its next unit. -/
def Dev.nvJobGoes (d : Dev) : Dev :=
  match d.nvJob with
  | some s => if d.nvJobRuns s then d.nvUnit s else d
  | none => d

/-- The journal is free: a commit word to be voided first, then a PW write, then the NV job. While NVM waits to leave ON, only the
job goes on, to its next suspend point (04 R146, 06 R197). -/
def Dev.nvIdle (d : Dev) : Dev :=
  if d.nvLeaving then d.nvJobGoes
  else if d.nv.voidDue then
    if d.energyOk then d.setNv (fun v => { v with step := some ⟨.void, false, d.ck⟩ }) else d
  else
    let d := d.pwBegin d.nv.pws.length
    if d.nv.cur.isSome || d.nv.step.isSome || !d.nv.pws.isEmpty then d else d.nvJobGoes

/-- The journal has something to write. -/
def Nv.waits (v : Nv) : Bool := v.cur.isSome || !v.pws.isEmpty || v.voidDue

/-- The journal does not run without CORE (01 R16): its attempt is logged once (R17; log entry 92). -/
def Dev.nvStall (d : Dev) : Dev :=
  if d.nv.stalled || !d.nv.waits then d
  else (d.engineOff dNVM [dCORE]).setNv (fun v => { v with stalled := true })

/-- The array takes up its next step: the record being written, a commit word to be voided, a PW write, the NV job
(02 R76, 04 R139, 08 R264, R715). No step begins where a brown-out waits for the last one (05 R171). -/
def Dev.nvKick (d : Dev) : Dev :=
  if d.nv.step.isSome || !d.on dNVM || d.sup.lowBackup then d
  else if !d.on dCORE then d.nvStall
  else
    let d := d.setNv (fun v => { v with stalled := false })
    match d.nv.cur with
    | some w =>
      match w.slot with
      | some s =>
        if d.jobState s = 4 && d.jobKind s = 2 then d else d.recStart w
      | none => d.recStart w
    | none =>
      match d.nv.comp with
      | some c =>
        if 0 < c.written then
          (if d.jobState c.slot = 1 || d.jobState c.slot = 2 then d.compStart c 4 else d)
        else d.nvIdle
      | none => d.nvIdle

/-! ### Steps that end -/

/-- Words of the record in hand have been programmed (08 R270: a job's reservation shrinks with them). -/
def Dev.nvWrote (d : Dev) (n : Nat) : Dev :=
  let o := b2n (d.nv.roomNow < n)
  let job := (d.nv.cur.bind (·.slot)).isSome
  let d := d.nvPlace d.nv.seq n
  d.setNv (fun v => { v with
    cur := v.cur.map (fun w => { w with written := w.written + n }),
    rsv := if job then v.rsv - 8 * (n + o) else v.rsv })

/-- Steps 1 and 2 of NV_RESTORE_DEFAULTS count as its progress (08 R271). -/
def Dev.nvDefaultsAt (d : Dev) (n : Nat) : Dev :=
  match d.nv.cur with
  | some w =>
    match w.slot with
    | some s => if d.jobKind s = 2 then d.jobProgress s n else d
    | none => d
  | none => d

/-- The margin read of a commit word passes (02 R53, 08 R260, R267, R270, R271; log entry 64). -/
def Dev.nvCommitted (d : Dev) : Dev :=
  let cur := d.nv.cur
  let q := d.nv.seq
  let d := d.nvWrote 1
  let d := d.setNv (fun v => { v with cur := none }.setRec q (fun r => { r with commit := markOct }))
  match cur with
  | none => d
  | some w =>
    match w.slot with
    | some s =>
      if d.jobKind s = 2 then (d.jobProgress s 3).nvRelease.jobDone s
      else
        let d := d.setJobU s (fun u => { u with items := u.items.drop 1 })
        let d := d.jobProgress s (d.rd (jobKey s 4) + 1)
        if (d.jobU s).items.isEmpty then d.jobLast s (fun d => d.nvRelease.jobDone s) else d
    | none =>
      match d.nv.recs.find? (fun r => r.seq == w.seq) with
      | some r =>
        let d := (d.wr r.key (leNat r.body)).inc 0x242003
        d.resolve w.ini (r.key / 256) (r.key % 256) (.ok [])
      | none => d

/-- `n` words of a home record have been programmed (08 R274, R275). -/
def Dev.nvHomeWrote (d : Dev) (n : Nat) : Dev :=
  match d.nv.comp with
  | none => d
  | some c =>
    let all := homeOctets (((d.nv.homes[c.bank]?).map (·.recs)).getD []) + 8 * (c.written + n)
    let d := d.jobProgress c.slot (max (d.rd (jobKey c.slot 4)) all)
    match c.recs with
    | [] => d
    | r :: t =>
      if homeWords r.body.length ≤ c.written + n then
        (d.setHome c.bank (fun h => { h with recs := h.recs ++ [r] })).setComp
          (fun c => { c with recs := t, written := 0, between := true })
      else d.setComp (fun c => { c with written := c.written + n })

/-- The home mark passes its margin read: the new home is in effect (08 R274, R276). -/
def Dev.nvMarked (d : Dev) : Dev :=
  match d.nv.comp with
  | none => d
  | some c =>
    let d := d.setHome c.bank (fun h => { h with mark := markOct })
    if d.nvJob = some c.slot then d.setComp (fun c => { c with phase := 3, between := false })
    else d.setNv (fun v => { v with comp := none })

/-- What an erase of sector `s` takes away: a journal sector's header word and records, or a home bank's mark and records. Where it
was the newest of the journal, the journal's last word is that of the sector opened before it (08 R279). -/
def Nv.without (v : Nv) (s : Nat) : Nv :=
  let left := v.opened.filter (fun j => j + 32 != s)
  let newest (l : List Nat) : Option Nat := l[l.length - 1]?
  { v with
    opened := left, partly := v.partly.filter (fun j => j + 32 != s),
    off := if newest left == newest v.opened then v.off
           else ((v.offs.find? (fun e => some e.1 == newest left)).map (·.2)).getD 0,
    offs := v.offs.filter (fun e => e.1 + 32 != s && some e.1 != newest left),
    heads := v.heads.filter (fun h => h.1 + 32 != s),
    recs := v.recs.filter (fun r => !(r.sectors.any (fun j => j + 32 == s))),
    homes := if s < 2 || 32 ≤ s then v.homes
             else updAt v.homes ((s - 2) / 15) (fun h => { h with mark := [], recs := [], spent := 0 }) }

/-- A sector has been erased (08 R280, R282). -/
def Dev.nvErased (d : Dev) (s : Nat) : Dev :=
  let top := d.nv.erases.foldl max 0
  let d := d.setNv (fun v =>
    let v := v.without s
    { v with erases := updAt v.erases s (· + 1), homes := v.homes.map (fun h => { h with dirty := h.dirty.filter (· != s) }),
             comp := v.comp.map (fun c => { c with between := c.between || (c.phase == 0 && s < 32) || (c.phase == 3 && 32 ≤ s) }) })
  if top < 90000 && 90000 ≤ d.nv.erases.foldl max 0 then d.fire 14 else d

/-- The running step ends with its effect; one that writes a mark goes on until the margin read of the mark passes (08
R260). -/
def Dev.nvFinish (d : Dev) (pass : Bool) : Dev :=
  match d.nv.step with
  | none => d
  | some st =>
    let d := d.nvDue
    if !pass && (st.act == .commit || st.act == .mark) then d
    else
    let d := d.setNv (fun v => { v with step := none })
    match st.act with
    | .chunk n =>
      let d := d.nvWrote n
      (match d.nv.cur with
       | some w => if w.words ≤ w.written then d.nvDefaultsAt 1 else d
       | none => d)
    | .check => (d.nvWrote 1).nvDefaultsAt 2
    | .commit => d.nvCommitted
    | .home n => d.nvHomeWrote n
    | .mark => d.nvMarked
    | .erase s => d.nvErased s
    | .void => d.setNv (fun v => { v with voidDue := false }.setRec v.seq (fun r => { r with commit := List.replicate 8 0 }))

/-- A step of one of the kinds given ends (08 R263). -/
def Dev.nvStepEnds (d : Dev) (codes : List Nat) (pass : Bool) : Dev :=
  match d.nv.step with
  | some st => if codes.contains st.act.code then d.nvFinish pass else d
  | none => d

/-! ### NVM leaves ON, collapse (08 Table 8.6) -/

/-- The PW write whose record is not committed ends with an abort. -/
def Dev.pwCurAbort (d : Dev) (w : NvWrite) (code : Nat) : Dev :=
  match d.nv.recs.find? (fun r => r.seq == w.seq) with
  | some r => d.resolve w.ini (r.key / 256) (r.key % 256) (.abort code 0)
  | none => d

/-- The running step is cut (08 Table 8.6, R279, R285): words whose programming has begun are no longer erased; the next NV load
finds by the margin read what a cut mark is worth. -/
def Dev.nvCut (d : Dev) : Dev :=
  match d.nv.step with
  | none => d
  | some st =>
    let t := d.ck - st.since
    let w := (t + 10 * ckPerUs - 1) / (10 * ckPerUs)
    match st.act with
    | .chunk n => d.nvPlaceCut d.nv.seq n w
    | .check => d.nvPlaceCut d.nv.seq 1 w
    | .commit =>
      let e := d.nvPlaceCut d.nv.seq 1 w
      if b2n st.opens < w then e.setNv (fun v => { v with cutMark := some none }) else e
    | .mark =>
      if 7 < w then d.setNv (fun v => { v with cutMark := v.comp.map (fun (c : Compact) => some c.bank) }) else d
    | .erase s =>
      if t = 0 then d
      else d.setNv (fun v => let v := v.without s; if s < 32 then v else { v with partly := v.partly ++ [s - 32] })
    | .home _ | .void => d

/-- NVM leaves ON: PW writes that wait or whose record is not committed end with the code of the new state (02 R53); a step
that still runs, in a domain reset, is cut. -/
def Dev.nvLeaves (d : Dev) (code : Nat) : Dev :=
  let d := d.nvCut
  let ps := d.nv.pws
  let d : Dev := match d.nv.cur.filter (fun w => w.slot.isNone) with
    | some w => d.pwCurAbort w code
    | none => d
  let d := d.setNv (fun v => { v with pws := [], cur := none, step := none }.sweep)
  forEach ps d (fun p d => d.pwAbort p code)

/-- The array loses its supply or clock: the running step is cut, and nothing that waited goes on (08 Table 8.6). -/
def Dev.nvCollapse (d : Dev) : Dev :=
  d.nvCut.setNv (fun v => { v with step := none, cur := none, comp := none, pws := [], rsv := 0 }.sweep)

/-! ### NV jobs at START (08 R269, R271, R273) -/

/-- Home records of that many octets fit in a home bank after its header. -/
def homeFits (n : Nat) : Bool := n ≤ 61440 - 64

/-- The octets NV_COMMIT reserves for the objects given. -/
def Dev.commitNeed (d : Dev) (ks : List Nat) : Nat :=
  if ks.isEmpty then 0 else d.nv.need ((ks.map (fun k => recWords (d.liveOct k).length)).sum)

/-- The greatest REC_SEQ committed: the cut of a compaction. -/
def Nv.cutNow (v : Nv) : Nat := (v.recs.filter (·.done)).foldl (fun m r => max m r.seq) v.homeCut

/-- START of an NV job finds its space (order 10). -/
def Dev.nvStartFits (d : Dev) (kind : Nat) : Bool :=
  match kind with
  | 1 =>
    let ks := d.commitItems
    let new := ks.foldl (fun rs k => recPut rs ⟨0, k, d.liveOct k, 0, 0, [], false, []⟩) (d.nv.stored d.nv.seq)
    d.commitNeed ks ≤ d.nv.unreserved && homeFits (homeOctets new)
  | 2 => d.nv.need 3 ≤ d.nv.unreserved
  | _ => homeFits (homeOctets (d.nv.stored d.nv.cutNow))

/-- START of an NV job: its total and what it reserves. -/
def Dev.nvStartJob (d : Dev) (s kind : Nat) : Nat × Dev :=
  match kind with
  | 1 =>
    let ks := d.commitItems
    (ks.length, (d.setJobU s (fun u => { u with items := ks })).setNv (fun v => { v with rsv := d.commitNeed ks }))
  | 2 => (3, d.setNv (fun v => { v with rsv := v.need 3 }))
  | _ =>
    let cut := d.nv.cutNow
    let rs := d.nv.stored cut
    let bank := match d.nv.homeBank with
      | some b => 1 - b
      | none => 0
    let d := d.setNv (fun v => { v with
      closed := true, cur := v.cur.map (fun w => { w with old := true }), comp := some ⟨s, cut, bank, rs, 0, 0, false⟩ })
    (homeOctets rs, d)


/-- The effects of CANCEL are in place for an NV job (04 Table 4.1, R145): the step or record in hand has ended. -/
def Dev.nvCancelled (d : Dev) (s : Nat) : Bool :=
  match d.jobKind s with
  | 1 => d.nvAtPoint s
  | _ => d.nv.step.isNone || (d.nv.cur.map (·.slot)) == some none

/-! ### NV load (08 R277-R279, R287-R289, R715) -/

/-- The live values of P and PW objects taken from stored values, or their defaults (02 R49, R50). -/
def Dev.loadShadow (d : Dev) (vals : List NvRec) : Dev :=
  let d := { d with store := d.store.filter (fun e => ((rowOf e.1).map (·.per)).getD .none == .none) }
  forEach (vals.filter (fun r => r.kind == 1)) d (fun r d => d.wr r.key (leNat r.body))

/-- t_LOAD in us: every word of the journal sectors in use is read at 8 octets per 2 CK, and the whole takes at most 12 us plus
10.5 us for each journal sector that is not erased (08 R278); the operand says where between the two it lies. -/
def Dev.nvLoadUs (d : Dev) (f : LoadFound) : Nat :=
  let n := d.nv.opened.length + d.nv.partly.length
  max (1024 * n / ckPerUs) (min f.us (12 + 21 * n / 2))

/-- The NV load, with what its reads found. -/
def Dev.nvLoad (d : Dev) (f : LoadFound) : Dev :=
  let d := match d.nv.cutMark with
    | some none =>
      if f.markPass then d.setNv (fun v => v.setRec v.seq (fun r => { r with commit := markOct }))
      else d.setNv (fun v => { v with voidDue := true })
    | some (some b) => if f.markPass then d.setHome b (fun h => { h with mark := markOct }) else d
    | none => d
  let d := d.setNv (fun v => { v with
    cutMark := none, closed := false, factoryBad := !f.factoryOk,
    recs := v.recs.map (fun r => { r with spoilt := r.spoilt || (r.kind != 2 && f.badRecs.contains r.seq) }),
    homes := v.homes.map (fun h => { h with recs := h.recs.map (fun r =>
      { r with spoilt := r.spoilt || (r.kind == 1 && f.badHome.contains r.key) }) }) })
  let cut := d.nv.homeCut
  let bad := (((d.nv.home.map (·.recs)).getD []).filter (fun r => !r.good))
    ++ d.nv.recs.filter (fun r => r.done && !r.good && cut < r.seq)
  let ok := d.nv.applied d.nv.seq
  let d := d.loadShadow (d.nv.stored d.nv.seq)
  let res := if !bad.isEmpty then 1 else if d.nv.home.isNone && ok.isEmpty then 2 else 0
  let d := (d.wr 0x241001 res).wr 0x241002 (d.nvLoadUs f)
  let d := ((d.wr 0x241003 ok.length).wr 0x241004 (d.nv.recs.filter (fun r => !r.done)).length).wr 0x241005 bad.length
  let d := forEach bad d (fun r d => (d.fault 5 dNVM 0x0701 r.key r.seq).fire 13)
  if f.factoryOk then d else (d.fault 6 dNVM 0x0702 0 0).fire 13

/-- The NV load does not run (07 R241): defaults, NV_LOAD_RESULT 03h. -/
def Dev.nvLoadSkipped (d : Dev) : Dev := ((d.loadShadow []).wr 0x241001 3).fault 7 dCORE 0 0 0

/-! ### Computed objects (08 Table 8.7) -/

/-- NV_JOURNAL_FREE, NV_JOURNAL_RESERVED, NV_SECTORS_ERASED, NV_HOME_GEN, NV_STEP_ACTIVE, NV_ERASE_MAX, NV_ERASE_TOTAL. -/
def Dev.nvRead (d : Dev) (k : Nat) : Option Nat :=
  match k with
  | 0x240001 => some d.nv.unreserved
  | 0x240002 => some d.nv.rsv
  | 0x240003 => some d.nv.erased
  | 0x240005 => some ((d.nv.home.map (·.gen)).getD 0)
  | 0x240006 => some d.nv.stepCode
  | 0x242001 => some (d.nv.erases.foldl max 0)
  | 0x242002 => some (min ((d.nv.erases.drop 2).sum) 0xFFFFFFFF)
  | _ => none

end Sys2Proof.Machine
end

