-- ==== Sys2Proof/Machine/Tables.lean ====
section
/-!
DEFINITION. Transfers, checks, staging and loading of table images (02 R61-R67, R77, R78; 13 R459, R460; 06 R199; 04 R138,
R710).
-/
namespace Sys2Proof.Machine

/-! ### The check of a complete image (02 R64) -/

/-- The body rules of the owning chapter. -/
def bodyOk (n : Nat) (b : Oct) : Bool :=
  if n < 10 then
    match n % 5 with
    | 0 => parseOk b
    | 1 => probesOk b
    | 2 => maskOk b
    | 3 => treeOk b
    | _ => indirOk b
  else match n with
    | 10 => routesOk b
    | 11 => signalMapOk b
    | 12 => rescaleOk b
    | _ => curvesOk b

/-- An image passes every check: header, length, IMG_CRC, body. -/
def imageOk (n : Nat) (l : Oct) : Bool :=
  16 ≤ l.length && headerOk n l && leAt l 4 4 == l.length && imgCrcOk l && bodyOk n (l.drop 16)

/-- Image `n` belongs to the classifier's active generation (13 R459). -/
def Dev.imgActive (d : Dev) (n : Nat) : Bool := n < 10 && n / 5 == d.clsActive

/-- Image `n` goes to the classifier's inactive generation, where it takes effect at once (13 R459). -/
def Dev.imgInactive (d : Dev) (n : Nat) : Bool := n < 10 && n / 5 != d.clsActive

/-! ### Transfers (02 R61-R66) -/

/-- The transfer of an image belongs to another initiator (order 5): one that is open, or whose check runs (02 R66, R77). -/
def Dev.imgBusy (d : Dev) (n ini : Nat) : Bool :=
  ((d.img n).xfer.any (fun x => x.ini != ini)) || ((d.img n).check.any (fun x => x.ini != ini))

/-- A refused claim of a probe slot (20 R663). -/
def Dev.probeRefused (d : Dev) (n ini : Nat) (l : Oct) : Dev :=
  match ((mapSlots (leAt l 16 4)).filterMap (fun p => d.claimOf 1 p)).find? (fun c => c.holder == 1) with
  | some c => d.claimRefused ini (2 + n / 5) c
  | none => d

/-- The check of a complete image ends (02 R64, R78; 13 R459, R460). -/
def Dev.imgCheckDone (d : Dev) (n : Nat) : Dev :=
  match (d.img n).check with
  | none => d
  | some x =>
    let d := d.advanceTo (x.last + (x.data.length + 7) / 8)
    let d := d.setImg n (fun i => { i with check := none })
    let done (r : Res) (d : Dev) : Dev := d.resolve x.ini (imgIdx n) 0 r
    if !imageOk n x.data then done (.abort 0x0702 0) d
    else if d.imgActive n then done (.abort 0x0203 0) d
    else if d.imgInactive n then
      match d.genClash n x.data with
      | some c => done (.abort c 0) (if c = 0x0501 then d.probeRefused n x.ini x.data else d)
      | none => done (.ok []) (d.genPut n x.data)
    else done (.ok []) (d.setImg n (fun i => { i with staged := some x.data }))

/-- A segment that has passed orders 1 to 7 (02 R61-R64): it aborts and discards, extends the transfer, or completes it and
starts the check. It is served once the check of the initiator's own earlier transfer has ended (02 R54). -/
def Dev.imgSegment (d : Dev) (n ini off : Nat) (data : Oct) : WRes :=
  let d := d.imgCheckDone n
  let d := if off = 0 then d.imgDrop n else d
  let have_ : Oct := match (d.img n).xfer with
    | some x => x.data
    | none => []
  let l := have_ ++ data
  if data.isEmpty || 1024 < data.length || off != have_.length || (off != 0 && (d.img n).xfer.isNone) then
    .abort 0x0302 (d.imgDrop n)
  else if have_.length < 16 && 16 ≤ l.length && !headerOk n l then .abort 0x0702 (d.imgDrop n)
  else if 16 ≤ l.length && leAt l 4 4 < l.length then .abort 0x0302 (d.imgDrop n)
  else
    let x : Xfer := ⟨ini, l, d.ck⟩
    if 16 ≤ l.length && leAt l 4 4 = l.length then
      .pend (d.setImg n (fun i => { i with xfer := none, check := some x }))
    else .ok (d.setImg n (fun i => { i with xfer := some x }))

/-- A transfer has received no segment for 1 s (02 R66). -/
def Dev.imgTimeout (d : Dev) (n : Nat) : Dev :=
  match (d.img n).xfer with
  | some x => (((d.afterMs x.last 1000).imgDrop n)).inc 0x1E1003
  | none => d

/-- A domain begins to leave ON: open transfers are discarded, and a final segment whose check runs ends with the code of
the new state (02 R77). -/
def Dev.imgLeaves (d : Dev) (dom code : Nat) : Dev :=
  forEach ((List.range 14).filter (fun n => imgDom n == dom)) d (fun n d =>
    let x := (d.img n).check
    let d := d.setImg n (fun i => { i with xfer := none, check := none })
    match x with
    | some x => d.resolve x.ini (imgIdx n) 0 (.abort code 0)
    | none => d)

/-- A domain is OFF: its staged images are lost, and its tables with them (02 R709). -/
def Dev.imgLost (d : Dev) (dom : Nat) : Dev :=
  forEach ((List.range 14).filter (fun n => imgDom n == dom)) d (fun n d =>
    d.setImg n (fun i => { i with staged := none, eff := none }))

/-- A read of a DOMAIN object (02 R67): the octets, or 0301h. -/
def Dev.imgRead (d : Dev) (n off len : Nat) : Res :=
  let l := (d.img n).eff.getD (zeros 16)
  if l.length ≤ off then .abort 0x0301 0
  else
    let b := (l.drop off).take len
    .ok (leOct 2 b.length ++ b)

/-! ### Images at ON (02 R51; 06 R199; 08; 13 R481) -/

/-- The persistent images of a domain, in the order of their format codes. -/
def domImages (dom : Nat) : List Nat := (List.range 14).filter (fun n => imgDom n == dom)

/-- Octets that step 6 of OFF to ON loads. -/
def Dev.imgOctets (d : Dev) (dom : Nat) : Nat :=
  if d.on dNVM then ((domImages dom).map (fun n => ((d.storedImg n).map (·.length)).getD 0)).sum else 0

/-- The stored image of `n` as its load at ON finds it; `bad` are the images whose record fails its REC_CRC. -/
def Dev.imgGood (d : Dev) (bad : List Nat) (n : Nat) : Option Oct :=
  if !d.on dNVM || bad.contains n then none
  else (d.storedImg n).filter (fun l => imageOk n l)

/-- The fault entries of a domain's load (19 Table 19.4 kind 03h), with source 83 for the curves (16). -/
def Dev.imgFaults (d : Dev) (dom : Nat) (bad : List Nat) : Dev :=
  forEach (domImages dom) d (fun n d =>
    if !d.on dNVM then d.fault 3 dom 0x0401 (imgFmt n) 0
    else if (d.storedImg n).isSome && (d.imgGood bad n).isNone then
      let d := d.fault 3 dom 0x0702 (imgFmt n) 0
      if dom = dKEEP then d.fire 83 else d
    else d)

/-- The tables of a domain after OFF: loaded from NVM, or empty. The classifier loads its own (13 R481). -/
def Dev.imgLoadAll (d : Dev) (dom : Nat) (bad : List Nat) : Dev :=
  if dom = dCLS then d
  else forEach (domImages dom) d (fun n d => d.setImg n (fun i => { i with eff := d.imgGood bad n }))

/-! ### TABLE_LOAD (04 R131, R135, R138, R710) -/

/-- The image a TABLE_LOAD copies: staged, or stored in NVM. -/
def Dev.loadImage (d : Dev) (n src : Nat) : Option Oct := if src = 0 then (d.img n).staged else d.storedImg n

/-- A table switches to a new image (04 R138; 13 R459; 14 R513; 16 R579). -/
def Dev.tablePut (d : Dev) (n : Nat) (l : Oct) : Dev :=
  if n < 10 then d.genPut n l
  else
    let d := d.setImg n (fun i => { i with eff := some l })
    if n = 11 then d.brgFresh else d

end Sys2Proof.Machine
end

