-- ==== Sys2Proof/Machine/Jobs.lean ====
section
/-!
DEFINITION. The job slots: commands, suspension, cancellation, the jobs of 04 Table 4.1 that are not of the journal.
-/
namespace Sys2Proof.Machine

/-! ### Parameters (04 Tables 4.1, 4.2) -/

/-- The image a TABLE_LOAD names. -/
def Dev.jobImage (d : Dev) (s : Nat) : Option Nat := imgOf (d.rd (jobKey s 6) % 65536)

/-- The kind and the field that names what the job acts on are valid (04 R131). -/
def Dev.jobNamed (d : Dev) (s : Nat) : Bool :=
  let p := d.jobParam s 0
  match d.jobKind s with
  | 1 | 2 | 3 | 8 => true
  | 4 => (d.jobImage s).isSome
  | 5 => p < 16 && d.poundCount p != 0
  | 6 => p < 4
  | 7 => 1 ≤ p && p ≤ 3
  | _ => false

/-- Every other field and the reserved octets are valid (order 9). -/
def Dev.jobParamOk (d : Dev) (s : Nat) : Bool :=
  let v := d.rd (jobKey s 6)
  match d.jobKind s with
  | 1 | 3 => v == 0
  | 2 => v == 0x5A3C
  | 4 => v < 2 ^ 24 && d.jobParam s 2 ≤ 1
  | 5 => v < 2 ^ 16
  | 6 | 7 => v < 2 ^ 8
  | 8 => v == 0x0A || v == 0x64
  | _ => false

/-- The banks that hold barges of a pound. -/
def Dev.poundBanks (d : Dev) (p : Nat) : List Nat :=
  (List.range 4).filter (fun bk => overlap (d.poundBase p) (d.poundCount p) (2048 * bk) 2048)

/-- The domains a job requires besides CORE (04 Table 4.1). -/
def Dev.jobNeeds (d : Dev) (s : Nat) : List Nat :=
  let p := d.jobParam s 0
  match d.jobKind s with
  | 1 | 2 | 3 => [dNVM]
  | 4 => (match d.jobImage s with
          | some n => [imgDom n]
          | none => []) ++ (if d.jobParam s 2 = 1 then [dNVM] else [])
  | 5 => dPM0 :: (d.poundBanks p).map bankDom
  | 6 => [dPM0, bankDom p]
  | 7 => [macDom p]
  | 8 => [dMACT]
  | _ => []

/-- Kinds with a suspend point (04 Table 4.1). -/
def jobSuspends (kind : Nat) : Bool := kind == 1 || kind == 3 || kind == 5 || kind == 6

/-- Slots other than `s` that are active. -/
def Dev.jobOthers (d : Dev) (s : Nat) : List Nat := (List.range 4).filter (fun t => t != s && jobActive (d.jobState t))

/-- The job of slot `t` excludes the one slot `s` describes (04 Table 4.4). -/
def Dev.jobExcludes (d : Dev) (s t : Nat) : Bool :=
  let a := d.jobKind s
  let b := d.jobKind t
  let p := d.jobParam s 0
  let q := d.jobParam t 0
  (1 ≤ a && a ≤ 3 && 1 ≤ b && b ≤ 3)
    || (a == 4 && b == 4 && d.jobImage s == d.jobImage t)
    || (a == b && (a == 5 || a == 6 || a == 7) && p == q) || (a == 8 && b == 8)
    || (a == 5 && b == 6 && (d.poundBanks p).contains q) || (a == 6 && b == 5 && (d.poundBanks q).contains p)

/-- No barge of a bank counts as allocated: each is retired, or FREE in an enabled pound (04 R135). -/
def Dev.bankFree (d : Dev) (bk : Nat) : Bool :=
  let recs := d.pm.barges.filter (fun e => bankOf e.1 == bk)
  let pooled := d.pooledIn bk
  (recs.filter (fun e => e.2.retired || (pooled.contains e.1 && e.2.owner == .free && !d.lockBusy e.1))).length == 2048

/-! ### START (04 R131, R134-R136, R419) -/

/-- START is refused at order 5 (04 R135; 12 R419; 13 R459). -/
def Dev.jobStartState (d : Dev) (s : Nat) : Bool :=
  let p := d.jobParam s 0
  d.jobNamed s && (!d.allOn (d.jobNeeds s) ||
    match d.jobKind s with
    | 4 =>
      (match d.jobImage s with
       | some n => (n < 10 && (d.imgActive n || d.jobParam s 2 == 0))
           || (d.jobParam s 2 ≤ 1 && (d.loadImage n (d.jobParam s 2)).isNone)
       | none => false)
    | 6 => !d.bankFree p
    | 7 => d.rd (portRunKey p) != 0
    | 8 => d.rd (portRunKey 0) == 0 || d.linkState 0 != 3 || !d.flag 0x301004 (if p = 0x64 then 1 else 0)
    | _ => false)

/-- The NV job of slot `t` holds the journal: it writes one object, one record or its commit (04 R139). -/
def Dev.journalHeld (d : Dev) (t : Nat) : Bool :=
  d.nv.cur.any (fun w => w.slot == some t)
    || d.nv.comp.any (fun c => c.slot == t && (0 < c.written || (d.nv.step.isSome && d.nv.cur.isNone)))

/-- The job slot `s` describes touches a table or store that the running job of slot `t` holds (04 R134, R137, R139): a
TABLE_LOAD from NVM the journal, an NV_COMMIT the table a TABLE_LOAD works on. -/
def Dev.jobTouches (d : Dev) (s t : Nat) : Bool :=
  (d.jobKind s == 4 && d.jobParam s 2 == 1 && 1 ≤ d.jobKind t && d.jobKind t ≤ 3 && d.journalHeld t)
    || (d.jobKind s == 1 && d.jobKind t == 4 && d.jobState t != 3
        && (d.jobImage t).any (fun n => d.commitItems.contains (imgKey n)))

/-- START is refused at order 6 (04 R134). -/
def Dev.jobStartBusy (d : Dev) (s : Nat) : Bool :=
  d.jobNamed s && (d.jobOthers s).any (fun t => d.jobExcludes s t || d.jobTouches s t)

/-- The free lists of a bank rebuilt in ascending order, retired barges left out (09 R320). -/
def Dev.rebuildFrees (d : Dev) (bk : Nat) : Dev :=
  let recs := (d.pm.barges.filter (fun e => bankOf e.1 == bk && e.2.owner == .free && !e.2.retired)).map (·.1)
  forEach (List.range 16) d (fun p d =>
    if d.poundState p = 2 then d.setFree p bk (recs.filter (fun b => d.inPound p b)) else d)

/-- A job starts (04 R136 and the chapters that own the jobs). -/
def Dev.jobStart (d : Dev) (s : Nat) : Dev :=
  let p := d.jobParam s 0
  let k := d.jobKind s
  let d := (((d.jobProgress s 0).wr (jobKey s 7) 0).wr (jobKey s 8) 0).setJobU s (fun _ => { JobU.idle with since := d.ck })
  let d := d.setJob s 1
  let tot (n : Nat) (d : Dev) : Dev := d.wr (jobKey s 5) n
  if k ≤ 3 then let r := d.nvStartJob s k; tot r.1 r.2
  else match k with
  | 4 =>
    match d.jobImage s with
    | some n =>
      let l := (d.loadImage n (d.jobParam s 2)).getD []
      tot l.length (d.setJobU s (fun u => { u with data := l }))
    | none => d
  | 5 => tot (d.poundCount p) d
  | 6 =>
    let d := { d with pm := { d.pm with frees := d.pm.frees.filter (fun e => e.2.1 != p), testing := d.pm.testing ++ [p] } }
    (tot 262144 ((d.wr 0x255001 0xFFFFFFFF).wr 0x255002 0)).watchPounds
  | 7 => tot 4 (d.setLink p 6)
  | _ =>
    let d := tot 3 d
    if d.rd 0x300003 = (if p = 0x64 then 100 else 10) then (d.jobDone s).govRestart
    else d.govStep (if p = 0x64 then 100 else 10) (some s)

/-! ### Effects of CANCEL and forced ends (04 Table 4.1, R144-R149) -/

/-- A bank test ends before its last pass: the bank is zeroed, barges with failed words are retired, the others return. -/
def Dev.bankTestEnd (d : Dev) (s : Nat) (full : Bool) : Dev :=
  let bk := d.jobParam s 0
  let failed := (d.jobU s).failed
  let d := { d with pm := { d.pm with
    mem := memZero d.pm.mem (0x80000 * bk) 0x80000, bad := d.pm.bad.filter (fun w => bankOfAddr w != bk),
    testing := d.pm.testing.filter (· != bk), filled := d.pm.filled.filter (fun e => e.1 != bk) } }
  let d := forEach failed d (fun b d =>
    if (d.barge b).retired then d else ((d.setBarge b (fun r => { r with retired := true })).inc 0x250002).fire 20)
  let d := if full && failed.isEmpty then
      let ret := (d.pm.barges.filter (fun e => bankOf e.1 == bk && e.2.retired)).map (·.1)
      let d := forEach ret d (fun b d => d.setBarge b (fun r =>
        { r with retired := false, poison := false, owner := if d.pooled b then .free else .host }))
      d.wr 0x250002 (d.rd 0x250002 - ret.length)
    else d
  (d.rebuildFrees bk).watchPounds

/-- The BMCR write of a rate step is on the wire or done (12 R417). -/
def Dev.rateWritten (d : Dev) (g : GovStep) : Bool := g.bmcrAt.isSome || d.mdio.cur.any (fun f => f.kind == .seq true)

/-- A rate step of a job ends; before its renegotiation write it is taken back: its frames that wait are dropped, and ANAR is
written as it was where it has been changed (04 Table 4.1). The dwell counts restart (12 R420). -/
def Dev.rateUndo (d : Dev) : Dev :=
  let e := (d.setGov (fun v => { v with step := none })).govRestart
  match d.gov.step with
  | some g =>
    if d.rateWritten g || !g.drained then e
    else
      let e := e.setMdio (fun m => { m with seqq := [] })
      if e.mdio.adv != g.adv || e.mdio.cur.any (fun f => f.write && f.reg == 4 && f.kind == .seq false)
      then (e.setMdio (fun m => { m with seqq := [d.seqFrame 4 g.adv false] })).mdioKick else e
  | none => e

/-- The probe set of a TABLE_LOAD into a generation: its generation and PROBE_MAP (20 R665). -/
def Dev.jobProbes (d : Dev) (s : Nat) : Option (Nat × Nat) :=
  match d.jobKind s, d.jobImage s with
  | 4, some n => if n < 10 && n % 5 = 1 then some (n / 5, leAt ((d.loadImage n 1).getD []) 16 4) else none
  | _, _ => none

/-- The slots claimed for a TABLE_LOAD that ends without DONE are released (20 R665). -/
def Dev.jobUnclaim (d : Dev) (s : Nat) : Dev :=
  match d.jobProbes s with
  | some (g, _) => d.dropClaims (fun c => c.kind == 1 && c.holder == 2 + g && !(d.probeMap g).testBit c.num)
  | none => d

/-- Octets a TABLE_LOAD copies before its checks are over: 16 where the header of a stored image fails (04 R710). -/
def Dev.loadCount (d : Dev) (s : Nat) : Nat :=
  let l := (d.jobU s).data
  match d.jobImage s with
  | some n => if d.jobParam s 2 = 1 && !(16 ≤ l.length && headerOk n l && leAt l 4 4 == l.length) then min 16 l.length else l.length
  | none => 0

/-- JOB_PROGRESS of a TABLE_LOAD that runs: one octet each CK (04 R710). -/
def Dev.loadProgress (d : Dev) (s : Nat) : Nat := min (d.ck - (d.jobU s).since) (d.loadCount s)

/-- JOB_PROGRESS as it stands in this CK, kept from here on. -/
def Dev.loadStops (d : Dev) (s : Nat) : Dev :=
  if d.jobKind s = 4 && d.jobState s = 1 then d.jobProgress s (d.loadProgress s) else d

/-- The effects of CANCEL on a job. -/
def Dev.jobUndo (d : Dev) (s : Nat) : Dev :=
  match d.jobKind s with
  | 6 => if (d.dom (bankDom (d.jobParam s 0))).st == .off then d else d.bankTestEnd s false
  | 7 => d.setLink (d.jobParam s 0) 0
  | 8 => d.rateUndo
  | 1 | 2 | 3 => d.nvRelease
  | 4 => d.jobUnclaim s
  | _ => d

/-- The point after which CANCEL is refused has passed (04 R144). -/
def Dev.jobNoReturn (d : Dev) (s : Nat) : Bool :=
  d.jobKind s == 8 && d.gov.step.any d.rateWritten

/-- A job ends because a domain leaves ON (04 R146, R149). -/
def Dev.jobForce (d : Dev) (s code : Nat) : Dev :=
  let committing := (d.nv.step.map (·.act)) == some .commit && (d.nv.cur.map (·.slot)) == some (some s)
  if d.jobKind s = 2 && committing then (d.jobProgress s 3).nvRelease.jobDone s
  else ((d.loadStops s).jobUndo s).jobFail s code

/-- A job requires a domain (04 R146; CORE is required by every job). -/
def Dev.jobUses (d : Dev) (s n : Nat) : Bool := n == dCORE || (d.jobNeeds s).contains n

/-- A domain is selected to leave ON: its jobs are asked to suspend, or end (04 R146). -/
def Dev.jobsAsk (d : Dev) (n cause code : Nat) : Dev :=
  forEach (List.range 4) d (fun s d =>
    if (d.jobState s = 1 || d.jobState s = 2) && d.jobUses s n then
      if jobSuspends (d.jobKind s) then
        (if (d.jobU s).cause = 0 then
          d.setJobU s (fun u => { u with cause := cause, askAt := if d.jobState s = 1 then d.ck else u.askAt }) else d)
      else d.jobForce s code
    else d)

/-- Jobs that a domain's shutdown waits for (04 R146). -/
def Dev.jobsHold (d : Dev) (n : Nat) : Bool :=
  (List.range 4).any (fun s => (d.jobState s == 1 || d.jobState s == 2 || d.jobState s == 4) && d.jobUses s n)

/-- Jobs whose domains were turned OFF without a wait end at once (04 R148). -/
def Dev.jobsForced (d : Dev) (ns : List Nat) : Dev :=
  forEach (List.range 4) d (fun s d =>
    if jobActive (d.jobState s) && ns.any (d.jobUses s) then d.jobForce s 0x0401 else d)

/-- A reset clears CORE: active jobs leave the effects of CANCEL, and the slots are IDLE (04 R148, R149). -/
def Dev.jobsReset (d : Dev) : Dev :=
  let d := forEach (List.range 4) d (fun s d =>
    let d := if jobActive (d.jobState s) then d.jobUndo s else d
    forEach [1, 3, 4, 5, 6, 7, 8] d (fun i d => d.wr (jobKey s i) (dflt (jobKey s i))))
  { d with jobs := List.replicate 4 JobU.idle }

/-! ### The other commands (04 Table 4.3, R144, R147) -/

/-- No cause to suspend stands: every domain is ON and not selected to leave, and after cause 04h the energy suffices (04
R147). -/
def Dev.jobCleared (d : Dev) (s : Nat) : Bool :=
  (dCORE :: d.jobNeeds s).all (fun n => d.on n && (d.transOf n).isNone)
    && (d.jobState s != 3 || d.rd (jobKey s 8) != 4 || d.energyOk)

/-- Order 5 of a write of JOB_COMMAND (04 R132, R135, R144, R147). -/
def Dev.jobCmdState (d : Dev) (s v : Nat) : Bool :=
  let st := d.jobState s
  match v with
  | 1 => jobActive st || d.jobStartState s
  | 2 => !(st == 2 || st == 3 || (st == 1 && jobSuspends (d.jobKind s)))
  | 3 => !((st == 2 || st == 3) && d.jobCleared s)
  | 4 => !(st == 4 || ((st == 1 || st == 2 || st == 3) && !d.jobNoReturn s))
  | _ => false

/-- Order 5 of a write of a job object (04 R130). -/
def Dev.jobStateBad (d : Dev) (k v : Nat) : Bool :=
  let s := (k / 256 - 0x2310) / 16
  if k / 256 < 0x2310 then false
  else match k % 256 with
    | 1 | 6 => jobActive (d.jobState s)
    | 2 => d.jobCmdState s v
    | _ => false

/-- Order 6: a START excluded by another job (04 R134). -/
def Dev.jobBusy (d : Dev) (k v : Nat) : Bool :=
  let s := (k / 256 - 0x2310) / 16
  0x2310 ≤ k / 256 && k % 256 == 2 && v == 1 && d.jobStartBusy s

/-- Order 9 (04 R131). -/
def Dev.jobValue (d : Dev) (k v : Nat) : Bool :=
  let s := (k / 256 - 0x2310) / 16
  if k = 0x230002 then v == 0
  else if 0x2310 ≤ k / 256 && k % 256 = 2 then 1 ≤ v && v ≤ 4 && (v != 1 || (d.jobNamed s && d.jobParamOk s))
  else true

/-- The effect of a write of a job object. -/
def Dev.jobEffect (d : Dev) (ini k v : Nat) : WRes :=
  let s := (k / 256 - 0x2310) / 16
  if k / 256 < 0x2310 || k % 256 ≠ 2 then .ok (d.wr k v)
  else
    let st := d.jobState s
    match v with
    | 1 =>
      if d.jobKind s ≤ 3 && !d.nvStartFits (d.jobKind s) then .abort 0x0502 d
      else match d.jobProbes s with
        | some (g, m) =>
          let want : List Claim := (mapSlots m).map (fun p => ⟨1, p, 2 + g, 0xFF⟩)
          (match want.findSome? (fun w => (d.claimOf 1 w.num).filter (fun c => c.holder == 1)) with
           | some c => .abort 0x0501 (d.claimRefused ini (2 + g) c)
           | none => .ok ((d.takeClaims want).jobStart s))
        | none => .ok (d.jobStart s)
    | 2 => .ok (if st = 1 then (d.setJobU s (fun u => { u with askAt := d.ck })).setJob s 2 else d)
    | 3 =>
      let again := st == 3 || (d.jobKind s == 6 && !(d.jobU s).items.isEmpty)
      .ok ((d.setJobU s (fun u =>
        { u with
          cause := 0,
          items := if d.jobKind s = 5 || d.jobKind s = 6 then [] else u.items,
          since := if again then d.ck else u.since })).setJob s 1)
    | _ =>
      if st = 4 then .ok d
      else
        let d := ((d.loadStops s).setJobU s (fun u => { u with cause := 0, askAt := d.ck })).setJob s 4
        .ok (if d.jobKind s = 8 then d.rateUndo else d)

/-- Objects a job holds (04 R137; 09 R318, R320; 12 R439 stands with the ports). -/
def Dev.jobHeld (d : Dev) (k : Nat) : Bool :=
  let idx := k / 256
  (List.range 4).any (fun s =>
    let st := d.jobState s
    let p := d.jobParam s 0
    match d.jobKind s with
    | 4 => (st == 1 || st == 2 || st == 4) && d.rd (jobKey s 6) % 65536 == idx
    | 5 => (st == 1 || st == 4) && idx == 0x2520 + p && 1 ≤ k % 256 && k % 256 ≤ 4
    | 6 => (st == 1 || st == 4) && ((idx == 0x2550 && (k % 256 == 1 || k % 256 == 2))
        || (0x2520 ≤ idx && idx < 0x2530 && 1 ≤ k % 256 && k % 256 ≤ 4 && (d.poundBanks (idx - 0x2520)).contains p))
    | _ => false)

/-! ### Units, suspend points, the end of CANCELLING -/

/-- A suspend point is reached (04 R133, R139, R146): the slot enters SUSPENDED. -/
def Dev.jobSuspendPoint (d : Dev) (s : Nat) : Dev :=
  let u := d.jobU s
  let point := match d.jobKind s with
    | 1 | 3 => d.nvAtPoint s
    | 5 => true
    | 6 => !u.items.isEmpty
    | _ => false
  if (d.jobState s = 2 || (d.jobState s = 1 && u.cause != 0)) && point then
    ((d.wr (jobKey s 8) (if u.cause = 0 then 1 else u.cause)).setJobU s (fun u => { u with cause := 0 })).setJob s 3
  else d

/-- The effects of CANCEL are in place (04 R133, R145): a BANK_TEST first zeroes its bank, 2,048 barges of 32 CK each. -/
def Dev.jobCancelDone (d : Dev) (s : Nat) : Dev :=
  if d.jobState s = 4 && (3 < d.jobKind s || d.nvCancelled s) then
    let d := if d.jobKind s = 6 then d.advanceTo ((d.jobU s).askAt + 65536) else d
    (((d.jobUndo s).setJobU s (fun _ => JobU.idle)).wr (jobKey s 7) 0).setJob s 7
  else d

/-- The first barge at or after `i` of a pound that is not retired, among the next `n`. -/
def Dev.scrubNext (d : Dev) (p i : Nat) : Nat → Option Nat
  | 0 => none
  | n + 1 => if (d.barge (d.poundBase p + i)).retired then d.scrubNext p (i + 1) n else some i

/-- A POUND_SCRUB reads its next barge (09 R318; pace by 04 Table 4.2). At full speed the barge under way when the job is asked to
suspend or to end is its last; paced, the job stands at a suspend point between two barges. An uncorrectable error ends the
job FAILED with 0701h (R141). -/
def Dev.scrubBarge (d : Dev) (s : Nat) (ss : List Strike) : Dev :=
  let p := d.jobParam s 0
  let i := d.rd (jobKey s 4)
  let tot := d.rd (jobKey s 5)
  let pace := d.jobParam s 1
  let at_ := max d.ck (if pace = 0 then 0 else (d.jobU s).since + 100 * ckPerUs / pace)
  let ends (d : Dev) : Dev := if (d.jobU s).code != 0 && d.jobState s != 4 then d.jobFail s (d.jobU s).code else d.jobDone s
  if !d.jobUnit s 5 at_ (pace == 0) then d
  else match d.scrubNext p i (tot - i) with
    | none => d.jobLast s ends
    | some j =>
      let b := d.poundBase p + j
      if d.lockBusy b then d
      else
        let d := d.advanceTo at_
        let r := d.readMem (256 * b) 256 ss
        let d := (r.2.2.setJobU s (fun u => { u with
          since := d.ck, items := if d.jobAsked s then [0] else [],
          code := if r.2.1.isEmpty then u.code else 0x0701 })).jobProgress s (j + 1)
        if (d.scrubNext p (j + 1) (tot - (j + 1))).isNone then (d.jobProgress s tot).jobLast s ends else d

/-- A pass of a BANK_TEST ends; `bad` are the words that failed to verify (09 R319, R320). -/
def Dev.bankTestPass (d : Dev) (s : Nat) (bad : List Nat) : Dev :=
  let bk := d.jobParam s 0
  let n := d.rd (jobKey s 4)
  let ends (d : Dev) : Dev :=
    let failed := !(d.jobU s).failed.isEmpty
    let d := d.bankTestEnd s true
    if failed && d.jobState s ≠ 4 then d.jobFail s 0x0701 else d.jobDone s
  if !d.jobUnit s 6 (max d.ck ((d.jobU s).since + 131072)) (d.jobState s != 4) || !(d.jobU s).items.isEmpty then d
  else if 262144 ≤ n then d.jobLast s ends
  else
    let d := d.advanceTo ((d.jobU s).since + 131072)
    let bad := if n = 0 then [] else (bad.map (fun a => a / 8 * 8)).filter (fun a => bankOfAddr a == bk)
    let d := forEach bad d (fun a d =>
      let d := d.inc 0x255002
      let d := if d.rd 0x255001 = 0xFFFFFFFF then d.wr 0x255001 a else d
      d.setJobU s (fun u => { u with failed := if u.failed.contains (a / 256) then u.failed else u.failed ++ [a / 256] }))
    let d := (d.jobProgress s (n + 65536)).setJobU s (fun u => { u with
      items := if d.jobAsked s then [0] else [], since := d.ck })
    let k := n / 65536 + 1
    let d := d.setPm (fun m => { m with
      mem := memZero m.mem (0x80000 * bk) 0x80000,
      filled := m.filled.filter (fun e => e.1 != bk) ++ (if k < 4 then [(bk, k)] else []) })
    if k < 4 then d else d.jobLast s ends

/-- A TABLE_LOAD has copied and checked its image (04 R138, R710); `readOk`: the record's REC_CRC passes. -/
def Dev.tableLoadDone (d : Dev) (s : Nat) (readOk : Bool) : Dev :=
  match d.jobUnit s 4 (max d.ck ((d.jobU s).since + d.loadCount s)) false, d.jobImage s with
  | true, some n =>
    let u := d.jobU s
    let l := u.data
    let stored := d.jobParam s 2 = 1
    let count := d.loadCount s
    let headBad := stored && !(16 ≤ l.length && headerOk n l && leAt l 4 4 == l.length)
    let d := (d.advanceTo (u.since + count)).jobProgress s count
    let clash := if n < 10 then d.genClash n l else none
    if headBad || (stored && !(readOk && imageOk n l)) || clash.isSome then
      if d.jobState s = 4 then d
      else ((if n = 13 then d.fire 83 else d).jobUnclaim s).jobFail s 0x0702
    else (d.tablePut n l).jobDone s
  | _, _ => d

/-- CD_DISTANCE of a round-trip time in ns (12 R439). -/
def cableDistance (nvp : Nat) : Option Nat → Nat
  | none => 0xFFFF
  | some t => min (t * 299792458 * nvp / 200000000000) 0xFFFF

/-- The first echo above 200 permille of the launch amplitude (12 Table 12.5). -/
def echoChosen (l : List (Nat × Int)) : Option (Nat × Int) := l.find? (fun x => 200 < x.2.natAbs)

/-- CD_RESULT of an analysis: without an echo no fault within reach; an echo is open, short, a change of impedance, or
inconclusive as found (12 R439; log entry 93). -/
def cableResult (e : Option (Nat × Int)) (r : Nat) : Nat :=
  match e with
  | none => if r = 6 then 6 else 1
  | some _ => if r = 2 || r = 3 || r = 5 then r else 6

/-- A phase of a CABLE_DIAG ends (12 R438, R439): phase 2 captures the echoes, phase 3 chooses one, phase 4 writes the results. -/
def Dev.cablePhase (d : Dev) (s : Nat) (e : Echo) : Dev :=
  let p := d.jobParam s 0
  let n := d.rd (jobKey s 4)
  let u := d.jobU s
  let writes := u.code = 4 || 3 ≤ n
  let due := max d.ck (u.since + (if writes then 1 else match n with
    | 0 => 10 * ckPerMs
    | 1 => e.us * ckPerUs
    | _ => min e.us 1000 * ckPerUs))
  if !d.jobUnit s 7 due false then d
  else
    let d := d.advanceTo due
    if writes then
      let key (i : Nat) : Nat := (0x3050 + 0x100 * p) * 256 + i
      let echo := u.echoes.head?
      let dist := cableDistance (d.rd (key 1)) (echo.map (·.1))
      let amp := ofSigned 16 ((echo.map (·.2)).getD 0)
      ((((d.wr (key 2) u.code).wr (key 3) dist).wr (key 4) amp).setLink p 0).jobDone s
    else
      let next (f : JobU → JobU) : Dev := (d.jobProgress s (n + 1)).setJobU s (fun x => { f x with since := d.ck })
      match n with
      | 0 => next (fun x => if e.energy then { x with code := 4 } else x)
      | 1 => next (fun x => { x with echoes := e.echoes })
      | _ => next (fun x => { x with echoes := (echoChosen x.echoes).toList, code := cableResult (echoChosen x.echoes) e.result })

end Sys2Proof.Machine
end

