-- ==== Sys2Proof/Machine/Claims.lean ====
section
/-!
DEFINITION. Claims made and released outside dictionary writes: channels, domains reaching ON and OFF (20 R663-R673), and
the computed objects of 20.
-/
namespace Sys2Proof.Machine

/-- Channel 1 uses EVT1 (20 Table 20.1). -/
def Dev.chUsesEvt1 (d : Dev) : Bool :=
  match d.rd (chKey 1 1) with
  | 1 | 2 => d.flag (chKey 1 2) 3
  | 3 => !d.flag (chKey 1 2) 2
  | _ => false

/-- The claims of channels 1 and 3 follow their modes while TIME is ON or in RETENTION (20 R663, R666, R672, R673). -/
def Dev.chanClaims (d : Dev) : Dev :=
  if d.domEff dTIME = .off then d
  else
    let d := if d.rd (chKey 3 1) = 0 then d.dropClaims (fun c => c.kind == 2 && c.holder == 4)
      else d.takeClaims [⟨2, 3, 4, 0xFF⟩]
    if d.chUsesEvt1 then d.takeClaims [⟨3, 1, 4, 0xFF⟩] else d.dropClaims (fun c => c.kind == 3 && c.holder == 4)

/-- A claim at ON: taken, or refused with the enabling object at its disabling value (20 R669, R670). -/
def Dev.claimAtOn (d : Dev) (key : Nat) (want : List Claim) : Dev :=
  match d.claimBlock want with
  | some c => (d.claimRefused 0xFF ((want.map (·.holder)).headD 0) c).wr key 0
  | none => d.takeClaims want

/-- The governor's claim (12 R414, R421). -/
def Dev.govAtOn (d : Dev) : Dev :=
  if d.rd 0x302001 = 1 && d.domEff dMACT != .off && d.domEff dTIME != .off then d.claimAtOn 0x302001 [govClaim] else d

/-- The claim of TSO on a port. -/
def Dev.tsoAtOn (d : Dev) (p : Nat) : Dev :=
  if d.rd (macKey 0x3830 p 1) = 1 && d.domEff (macDom p) != .off && d.domEff dPM0 != .off then
    d.claimAtOn (macKey 0x3830 p 1) [⟨4, d.rd (macKey 0x3830 p 2), 7, p⟩]
  else d

/-- The claims of the Towpath scratch barges; a refusal ends what runs under TOW_RUN (20 R670). -/
def Dev.towAtOn (d : Dev) : Dev :=
  if d.rd 0x600001 = 1 && d.domEff dTOW != .off && d.domEff dPM0 != .off then
    let d := d.claimAtOn 0x600001 d.scratchClaims
    if d.rd 0x600001 = 1 then d else forEach (List.range 16) d (fun n d => d.sessEnd n)
  else d

/-- A domain reports ON: its own claims, then those of claimants that had lost theirs to it, in ascending domain number
(20 R669). The sluice's and the classifier's claims are made as their domains start. -/
def Dev.claimsOn (d : Dev) (n : Nat) : Dev :=
  if n = dTIME then d.chanClaims.govAtOn
  else if n = dPM0 then ((d.tsoAtOn 0).tsoAtOn 1).towAtOn
  else if n = dMACT then d.govAtOn.tsoAtOn 0
  else if n = dMACL then d.tsoAtOn 1
  else if n = dTOW then d.towAtOn
  else d

/-- A domain reports OFF: claims that need it as claimant's or resource's domain are released (20 R667), that of a scratch barge
once it is back with HOST (20 R668). -/
def Dev.claimsOff (d : Dev) (n : Nat) : Dev :=
  d.dropClaims (fun c => match c.kind with
    | 1 => n == dCLS
    | 2 => n == dTIME || (c.holder == 5 && n == dMACT)
    | 3 => c.holder == 4 && n == dTIME
    | _ => n == dPM0 || (c.holder == 7 && n == macDom c.inst && !d.tsoHeld c.inst c.num) || (c.holder == 8 && n == dTOW))

/-- PATTERN_SLOT_p, CH3_HOLDER, EVT1_HOLDER and the scratch claims (20 Table 20.4). -/
def Dev.claimRead (d : Dev) (k : Nat) : Option Nat :=
  let holder (kind num : Nat) : Nat := ((d.claimOf kind num).map (·.holder)).getD 0
  let scratch (h i : Nat) : Nat :=
    match d.claims.find? (fun c => c.kind == 4 && c.holder == h && c.inst == i) with
    | some c => c.num + 0x10000
    | none => 0
  let s := k % 256
  match k / 256 with
  | 0x7F10 => if 1 ≤ s && s ≤ 32 then some (holder 1 (s - 1)) else none
  | 0x7F20 => if s = 1 then some (holder 2 3) else if s = 2 then some (holder 3 1) else none
  | 0x7F30 => if 1 ≤ s && s ≤ 2 then some (scratch 7 (s - 1)) else if 3 ≤ s && s ≤ 6 then some (scratch 8 (s - 3)) else none
  | _ => none

end Sys2Proof.Machine
end

