-- ==== Sys2Proof/Machine/Intc.lean ====
section
/-!
DEFINITION. The interrupt controller (18): offers, claims, completions, FAULTED targets, the objects of 18 Table 18.6.
-/
namespace Sys2Proof.Machine

/-- The number of interrupt sources (18 R622). -/
abbrev nSrc : Nat := 96

/-- Object `i` of target `t` (18 Table 18.6). -/
def tgtKey (t i : Nat) : Nat := (0x7810 + t) * 256 + i

/-- The device with the interrupt controller changed. -/
def Dev.setIntc (d : Dev) (f : Intc → Intc) : Dev := { d with intc := f d.intc }

/-- The stack of target `t`, top first, and its FAULTED mark. -/
def Dev.stack (d : Dev) (t : Nat) : List (Nat × Nat) := d.intc.serving.getD t []
def Dev.faulted (d : Dev) (t : Nat) : Bool := d.intc.faulted.getD t false

/-- LEVEL, TARGETS and MASKED of a source (18 Table 18.2). -/
def Dev.srcLevel (d : Dev) (s : Nat) : Nat := d.rd (srcCfgKey s) % 16
def Dev.srcTargets (d : Dev) (s : Nat) : Nat := d.rd (srcCfgKey s) / 16 % 16
def Dev.srcMasked (d : Dev) (s : Nat) : Bool := (d.rd (srcCfgKey s)).testBit 9

/-- The level sources of 18 Table 18.1. -/
def levelSource (s : Nat) : Bool := s == 3 || s == 77 || s == 92

/-- The condition of a level source (05 R177, 15 R548, 18 R638). -/
def Dev.levelCond (d : Dev) (s : Nat) : Bool :=
  if s = 3 then !d.energyOk
  else if s = 77 then d.osMask (· == 2) != 0
  else s == 92 && d.intc.faulted.contains true

/-- A level source's pending bit is set while its condition holds and it is not in service (18 R623). -/
def Dev.levelSet (d : Dev) (s : Nat) : Dev :=
  if d.on dCORE && d.levelCond s && !d.inService s then d.setPending s else d

/-- The running priority of target `t` (18 R629). -/
def Dev.running (d : Dev) (t : Nat) : Nat := max (d.rd (tgtKey t 2)) (((d.stack t).head?.map (·.2)).getD 0)

/-- Target `t` is a candidate for source `s` (18 R630). -/
def Dev.candidate (d : Dev) (s t : Nat) : Bool :=
  d.isPending s && !d.inService s && !d.srcMasked s && (d.srcTargets s).testBit t
    && d.rd (tgtKey t 1) < d.srcLevel s && d.running t < d.srcLevel s && !d.faulted t && (d.stack t).length < 8

/-- The candidate with the lowest running priority among targets without an offer (18 R631). -/
def Dev.offerTarget (d : Dev) (s : Nat) (taken : List (Nat × Nat)) : Option Nat :=
  ((List.range 4).filter (fun t => d.candidate s t && taken.all (fun e => e.1 != t))).foldl
    (fun b t => match b with
      | some u => if d.running t < d.running u then some t else b
      | none => some t) none

/-- The offers of a CK as (target, source): sources in descending LEVEL, ties in ascending ID (18 R631). -/
def Dev.offers (d : Dev) : List (Nat × Nat) :=
  if !d.on dCORE then []
  else
    let pend := (List.range nSrc).filter (fun s => d.isPending s && 0 < d.srcLevel s)
    let order := (List.range 15).flatMap (fun i => pend.filter (fun s => d.srcLevel s == 15 - i))
    order.foldl (fun os s => match d.offerTarget s os with
      | some t => os ++ [(t, s)]
      | none => os) []

/-- The source offered to target `t`. -/
def Dev.offerTo (d : Dev) (t : Nat) : Option Nat := (d.offers.find? (fun e => e.1 == t)).map (·.2)

/-- The stack of target `t` replaced. -/
def Dev.setStack (d : Dev) (t : Nat) (l : List (Nat × Nat)) : Dev :=
  d.setIntc (fun c => { c with serving := updAt c.serving t (fun _ => l) })

/-- The host reads INT_CLAIM_t (18 R633): the value, and the source pushed. -/
def Dev.intClaim (d : Dev) (t : Nat) : Nat × Dev :=
  match d.offerTo t with
  | none => (0x00FF, d)
  | some s =>
    let v := d.rd (srcStateKey s)
    (s + 256 * d.srcLevel s, (d.wr (srcStateKey s) (setBit v 0 false)).setStack t ((s, d.srcLevel s) :: d.stack t))

/-- A source has left the stack of a target: a counted event makes it pending again (18 R624, R634). -/
def Dev.srcCompleted (d : Dev) (s : Nat) : Dev :=
  let v := d.rd (srcStateKey s)
  if (d.rd (srcCfgKey s)).testBit 8 && !v.testBit 0 && 16 ≤ v then d.wr (srcStateKey s) (v - 16 + 1) else d

/-- The top entry of target `t` removed as completed (18 R634). -/
def Dev.popTop (d : Dev) (t : Nat) : Dev :=
  match d.stack t with
  | [] => d
  | e :: l => (d.setStack t l).srcCompleted e.1

/-- INT_COMPLETE naming target `t` and source `s` (18 R634, R637, R638): 0 for OK, else the abort code. -/
def Dev.intComplete (d : Dev) (t s : Nat) : Nat × Dev :=
  if d.faulted t then (0x0203, d)
  else if (d.stack t).head?.map (·.1) == some s then (0, d.popTop t)
  else
    let info := s + 256 * ((d.stack t).head?.map (·.1)).getD 0xFF
    let d := (d.wr (tgtKey t 6) info).inc 0x780001
    let d := d.setIntc (fun c => { c with faulted := updAt c.faulted t (fun _ => true) })
    (0x0203, d.fault 0x0D dCORE 0x0203 t info 0)

/-- A write of INT_FAULT_CLEAR_t (18 R639). -/
def Dev.intFaultClear (d : Dev) (t v : Nat) : Dev :=
  let d := if v = 2 then forEach (d.stack t) d (fun _ d => d.popTop t) else d
  d.setIntc (fun c => { c with faulted := updAt c.faulted t (fun _ => false) })

/-- Order 5: INT_FAULT_CLEAR of a target that is not FAULTED (18 R639). -/
def Dev.intState (d : Dev) (k : Nat) : Bool :=
  0x781000 ≤ k && k < 0x781400 && k % 256 == 7 && !d.faulted (k / 256 - 0x7810)

/-- Order 9: values of 18 (18 R626, R627, R639, R642; reserved fields, 00 R10). -/
def intValue (k v : Nat) : Bool :=
  let s := k % 256
  match k / 256 with
  | 0x7800 => if s = 1 then v == 0 else true
  | 0x7840 => v < 0x400 && !(v.testBit 8 && levelSource (s - 1))
  | 0x7850 => v / 4 % 4 == 0 && !(16 ≤ v && levelSource (s - 1))
  | i => if 0x7810 ≤ i && i < 0x7814 then
      (if s = 7 then v == 1 || v == 2 else if s ≤ 2 then v ≤ 15 else true) else true

/-- The effect of a write of an object of 18. -/
def Dev.intEffect (d : Dev) (k v : Nat) : Dev :=
  if k = 0x780002 then
    forEach (List.range nSrc) d (fun s d => d.wr (srcCfgKey s) (setBit (d.rd (srcCfgKey s)) 9 (v.testBit s)))
  else if k = 0x780003 then
    forEach (List.range nSrc) d (fun s d => d.wr (srcStateKey s) (setBit (d.rd (srcStateKey s)) 0 (v.testBit s)))
  else if 0x785001 ≤ k && k ≤ 0x785060 then d.wr k (setBit v 1 false)
  else if 0x781000 ≤ k && k < 0x781400 && k % 256 = 7 then d.intFaultClear (k / 256 - 0x7810) v
  else d.wr k v

/-- A vector with bit `s` for each source a predicate picks out (18 R628). -/
def srcVector (p : Nat → Bool) : Nat := (List.range nSrc).foldl (fun a s => if p s then a + 2 ^ s else a) 0

/-- INT_STACK_t: entry 0 at the bottom, unused entries FFh 00h (18 Table 18.6). -/
def stackObj (l : List (Nat × Nat)) : Nat :=
  let l := l.reverse
  (List.range 8).foldl (fun a i => let e := l.getD i (0xFF, 0); a + (e.1 + 256 * e.2) * 65536 ^ i) 0

/-- Computed objects of 18. -/
def Dev.intRead (d : Dev) (k : Nat) : Option Nat :=
  let s := k % 256
  match k / 256 with
  | 0x7800 =>
    if s = 2 then some (srcVector d.srcMasked)
    else if s = 3 then some (srcVector d.isPending)
    else if s = 4 then some (srcVector d.inService)
    else none
  | 0x7850 => if 1 ≤ s && s ≤ nSrc then some (d.rd k + 2 * b2n (d.inService (s - 1))) else none
  | i =>
    if 0x7810 ≤ i && i < 0x7814 then
      let t := i - 0x7810
      if s = 4 then some (b2n (d.offerTo t).isSome + 2 * b2n (d.faulted t) + 16 * (d.stack t).length)
      else if s = 5 then some (stackObj (d.stack t))
      else none
    else none

/-- The sources that the set wake latches make fire (18 R636, Table 18.1). -/
def latchSource (n : Nat) : Nat :=
  [0, 4, 56, 57, 58, 59, 68, 69, 80, 81, 82, 84, 85, 86, 87, 76].getD n 0

/-- Every set latch makes its source fire (18 R636). -/
def Dev.latchesFire (d : Dev) : Dev :=
  forEach ((List.range 16).filter (fun n => d.flag 0x214002 n)) d (fun n d => d.fire (latchSource n))

/-- The interrupt controller at its defaults (07 Table 7.2). -/
def Intc.idle : Intc := ⟨[[], [], [], []], [false, false, false, false]⟩

end Sys2Proof.Machine
end

