-- ==== Sys2Proof/Machine/FaultLog.lean ====
section
/-!
DEFINITION. The fault log: the writer and its entries (19 R654-R661, Table 19.3).
-/
namespace Sys2Proof.Machine

/-- FL_ENTRY_k, the entry number `q` occupies (19 R656). -/
def flEntryKey (q : Nat) : Nat := 0x7C1001 + q % 64

/-- The device with the fault log's writer changed. -/
def Dev.setFl (d : Dev) (f : FaultLog → FaultLog) : Dev := { d with fl := f d.fl }

/-- Entry number `q` is unread (19 R656). -/
def Dev.flUnread (d : Dev) (q : Nat) : Bool := let n := sub16 q (d.rd 0x7C0003); 1 ≤ n && n ≤ 64

/-- The 32 octets of an entry (19 Table 19.3). -/
def flEntry (f : FaultRec) (q : Nat) : Nat :=
  q + 2 ^ 16 * f.kind + 2 ^ 24 * f.block + 2 ^ 32 * f.code + 2 ^ 48 * f.ini + 2 ^ 56 * b2n f.tsValid
    + 2 ^ 64 * (f.whr % 2 ^ 32) + 2 ^ 96 * (f.detail % 2 ^ 32) + 2 ^ 128 * (f.uptime % 2 ^ 32) + 2 ^ 160 * f.ns
    + 2 ^ 192 * f.sec

/-- A fault merges with the newest entry (19 R658). -/
def Dev.flMerges (d : Dev) (f : FaultRec) : Bool :=
  match d.fl.newest with
  | none => false
  | some g =>
    f.kind == g.kind && f.block == g.block && f.code == g.code && f.ini == g.ini && f.whr == g.whr
      && d.flUnread (d.rd 0x7C0002) && f.startup == g.startup && f.uptime != 0xFFFFFFFF && g.uptime != 0xFFFFFFFF
      && f.uptime - g.uptime < d.rd 0x7C0008

/-- The merged repeat counted in the newest entry (19 R658). -/
def Dev.flRepeat (d : Dev) : Dev :=
  let k := flEntryKey (d.rd 0x7C0002)
  let v := d.rd k
  if v / 2 ^ 224 % 65536 = 0xFFFF then d else d.wr k (v + 2 ^ 224)

/-- A new entry (19 R656, R657). -/
def Dev.flNew (d : Dev) (f : FaultRec) : Dev :=
  let q := (d.rd 0x7C0002 + 1) % 65536
  let old := d.rd (flEntryKey q)
  let d := if old != 0 && d.flUnread (old % 65536) then (d.inc 0x7C0006).fire 94 else d
  let d := ((d.wr (flEntryKey q) (flEntry f q)).wr 0x7C0002 q).wr 0x7C0001 (min 64 (d.rd 0x7C0001 + 1))
  ((d.inc 0x7C0005).fire 93).setFl (fun l => { l with newest := some f })

/-- FAULT_LOG_WRITE: at the next CKX the writer takes the fault at the head of its queue (19 R655, R658). -/
def Dev.flWrite (d : Dev) : Dev :=
  if !d.aon.osc || d.aon.xtalStopped then d
  else
    match d.fl.queue with
    | [] => d
    | f :: t =>
      let d := (d.advanceTo ((d.ck / 4 + 1) * 4)).setFl (fun l => { l with queue := t })
      if d.flMerges f then d.flRepeat else d.flNew f

/-- Every entry reads zero. -/
def Dev.flBlank (d : Dev) : Dev :=
  (forEach (List.range 64) d (fun k d => d.wr (0x7C1001 + k) 0)).setFl (fun l => { l with newest := none })

/-- The log emptied (19 R654, 07 Table 7.2). -/
def Dev.flEmpty (d : Dev) : Dev :=
  (forEach [1, 2, 3, 5, 6] d.flBlank (fun i d => d.wr (0x7C0000 + i) 0)).setFl (fun l => { l with queue := [] })

/-- Order 9 values of 19 (R660, R661). -/
def Dev.flValue (d : Dev) (k v : Nat) : Bool :=
  if k = 0x7C0003 then sub16 v (d.rd 0x7C0003) ≤ sub16 (d.rd 0x7C0002) (d.rd 0x7C0003)
  else if k = 0x7C0005 || k = 0x7C0006 then v == 0
  else if k = 0x7C0007 then v == 0xA5
  else true

/-- The effect of a write of an object of 19 (R660). -/
def Dev.flEffect (d : Dev) (k v : Nat) : Dev :=
  if k = 0x7C0007 then (d.flBlank.wr 0x7C0001 0).wr 0x7C0003 (d.rd 0x7C0002) else d.wr k v

/-- FL_UNREAD (19 Table 19.6). -/
def Dev.flUnreadCount (d : Dev) : Nat :=
  ((List.range 64).filter (fun k => let v := d.rd (0x7C1001 + k); v != 0 && d.flUnread (v % 65536))).length

end Sys2Proof.Machine
end

