-- ==== Sys2Proof/Machine/Power.lean ====
section
/-!
DEFINITION. Power domains: what a domain's leaving and reaching ON do to each block, and the domain controller (06).
-/
namespace Sys2Proof.Machine

/-! ### The restore table (06 Tables 6.2, 6.3) -/

/-- The domains in the order of their restore-table positions. -/
def restoreOrder : List Nat := [0, 1, 2, 3, 4, 5, 6, 15, 7, 8, 9, 10, 11, 12, 13, 14]

/-- RAMP, INIT, RESTORE and DRAIN of domain `n` in CK. -/
def rampCk (n : Nat) : Nat := [2000, 4000, 3000, 3000, 3000, 3000, 3000, 2000, 3000, 3000, 3000, 4000, 2000, 2000, 2000, 2000].getD n 0
def initCk (n : Nat) : Nat := [1000, 2000, 8000, 65536, 65536, 65536, 65536, 500, 20000, 12000, 12000, 4500, 500, 1000, 1000, 500].getD n 0
def restoreCk (n : Nat) : Nat := [0, 1000, 4000, 800, 800, 800, 800, 500, 20000, 12000, 12000, 500, 500, 500, 500, 500].getD n 0
def drainCk (n : Nat) : Nat := [0, 100, 100, 800, 800, 800, 800, 200, 200, 200, 200, 500, 100, 200, 200, 100].getD n 0

/-- A transition leads away from ON, or is a domain reset: it begins with a drain (06 Table 6.2, 07 R250). -/
def Dev.transDrains (d : Dev) (t : Trans) : Bool := t.isReset || ((d.dom t.dom).st == .on && t.target != .on)

/-- The CK a transition takes (06 R199, R200, 07 R250). -/
def Dev.transCk (d : Dev) (t : Trans) : Nat :=
  let n := t.dom
  if t.isReset then drainCk n + initCk n + 192 + d.imgOctets n
  else match (d.dom n).st, t.target with
    | .off, _ => rampCk n + 500 + initCk n + 8 + 192 + d.imgOctets n
    | .retention, .on => rampCk n + 500 + restoreCk n
    | .retention, _ => 1000
    | .on, .retention => drainCk n + 1200
    | .on, _ => drainCk n + 1000

/-! ### Leaving ON -/

/-- Frames the classifier holds are classified before CLS drains (06 R201). -/
def Dev.clsFinish (d : Dev) : Dev :=
  forEach d.cls.queue d (fun _ d => d.classify Dev.brgTake Dev.towPath)

/-- What happens as a domain's drain begins: the classifier finishes its frames, a MAC cuts the frame it receives (06 R201, 19
R650). -/
def Dev.drainBegins (d : Dev) (n : Nat) : Dev :=
  if n = dCLS then d.clsFinish else if 7 ≤ n && n ≤ 10 then d.cutReceive (n - 7) else d

/-- The lock cycles in progress on a bank that drains, on all of them with PM0, complete within the drain step (06 R201). -/
def Dev.drainLocks (d : Dev) (n : Nat) : Dev :=
  forEach (List.range 4) d (fun b d => if n = dPM0 || n = bankDom b then d.lockOpen b [] else d)

/-- A frame that is being stored is lost with a bank: discarded as in R650 (19 R651). -/
def Dev.storeLost (d : Dev) (p : Nat) (bs : List Nat) : Dev := (d.freeBarges bs).cnt p 5

/-- Paths that hold barges of a lost bank give their work up (19 R651). -/
def Dev.bankPaths (d : Dev) (bk : Nat) : Dev :=
  let hit (bs : List Nat) : Bool := bs.any (fun b => bankOf b == bk)
  let d := (d.chainsBank bk).towBank bk
  let d := forEach (d.cls.queue.filter (fun f => hit f.barges)) d (fun f d => d.storeLost f.port f.barges)
  let d := forEach (d.cls.held.filter (fun e => hit e.2.fr.barges)) d (fun e d => d.storeLost e.2.fr.port e.2.fr.barges)
  let d := d.setCls (fun c => { c with
    queue := c.queue.filter (fun f => !hit f.barges), held := c.held.filter (fun e => !hit e.2.fr.barges) })
  let d := forEach (List.range 56) d (fun r d =>
    let gone := (d.ring r).rxq.filter (fun w => hit w.barges)
    let d := forEach gone d (fun w d =>
      (if isCanRing r then d.freeBarges w.barges else d.storeLost (leAt w.desc 24 2 / 16384) w.barges).numDropped w.num)
    d.setRing r (fun x => { x with rxq := x.rxq.filter (fun w => !hit w.barges) }))
  let d := d.add 0x540007 (d.brg.ethHeld.filter (fun b => hit [b])).length
  d.setBrg (fun x => { x with
    ethHeld := x.ethHeld.filter (fun b => !hit [b]), towHeld := x.towHeld.filter (fun b => !hit [b]) })

/-- The scratch barge of TSO goes back as the MAC leaves ON for OFF (20 R668). -/
def Dev.tsoLeaves (d : Dev) (p : Nat) : Dev :=
  if d.rd (macKey 0x3830 p 1) = 1 && (d.claims.any (fun c => c.holder == 7 && c.inst == p)) then
    d.tsoReturn p
  else d

/-- A CLS_COMMIT write whose check runs ends with the code of the new state (as R77 has it of a final segment; log entry 84). -/
def Dev.commitLeaves (d : Dev) (code : Nat) : Dev :=
  match d.cls.commit with
  | some (_, ini, _) => (d.setCls (fun c => { c with commit := none })).resolve ini 0x4000 5 (.abort code 0)
  | none => d

/-- The read-ahead line of a bank is discarded (03 R113). -/
def Dev.raDrop (d : Dev) (bk : Nat) : Dev := d.setLk (fun l => { l with ra := l.ra.filter (fun x => bankOfAddr x.1 != bk) })

/-! ### Rings at their defaults -/

/-- Every ring at its default, and what engines held of rings gone (07 Table 7.2, 10 Resets). -/
def Dev.ringsGone (d : Dev) : Dev :=
  let d := forEach (List.range 16) d (fun i d => d.ringSkip (32 + i))
  let d := { d with store := d.store.filter (fun e => !(0x260000 ≤ e.1 && e.1 < 0x263800)) }
  let keep : TxSel → TxSel := fun s => match s with
    | .ring _ => .idle
    | .chain _ _ => .idle
    | x => x
  let d := forEach (List.range 4) d (fun p d => d.setMac p (fun m => { m with
    cur := keep m.cur, nxt := keep m.nxt, backoff := if keep m.cur == .idle then none else m.backoff }))
  let d := { d with cans := d.cans.map (fun (c : Can) => { c with tx := c.tx.filter (·.fromBridge) }) }
  d.ringsOff

/-- Domain `n` has drained on its way to OFF, RETENTION or, with `isReset`, a domain reset (06 R201, 19 R649-R651; 07 Table
7.2; log entry 98). -/
def Dev.leaves (d : Dev) (n : Nat) (toOff isReset : Bool) : Dev :=
  let code := if toOff then 0x0401 else 0x0402
  match n with
  | 1 => d.setLk (fun l => { l with ra := none })
  | 2 => d.nvLeaves code
  | 3 | 4 | 5 | 6 =>
    let d := d.raDrop (n - 3)
    if !toOff then d
    else
      let d := d.bankPaths (n - 3)
      (if n = 3 && isReset then d.ringsGone
       else d.ringsFault (fun r => n == 3 || d.ringBank r == n - 3) 0x0401).bankLost (n - 3)
  | 7 => (if toOff then d.tsoLeaves 0 else d).macLeaves 0
  | 8 => (if toOff then d.tsoLeaves 1 else d).macLeaves 1
  | 9 => d.macLeaves 2
  | 10 => d.macLeaves 3
  | 11 => (d.commitLeaves code).clsLeaves
  | 12 => d.canLeaves
  | 13 => d.brgLeaves toOff
  | 14 => d.towLeaves
  | 15 => d.chPinsOff
  | _ => d

/-! ### OFF -/

/-- Every staged image is discarded, that of KEEP too: RESET_n, PLL lock loss, supply and crystal restart, and CORE going OFF
under a wake's column (07 Table 7.2, 02 R709). -/
def Dev.stagedGone (d : Dev) : Dev := { d with images := d.images.map (fun (i : Img) => { i with staged := none }) }

/-- The transactions of the host whose slot is gone and whose work is gone as well leave no result behind (03 R127): a PW write, a
commit of the classifier, an image segment, a fetch of the bridge. -/
def Dev.orphansLive (d : Dev) : Dev :=
  d.setLk (fun l => { l with orphans := l.orphans.filter (fun o =>
    let k := o.2.1 * 256 + o.2.2.1
    if (rowOf k).any (·.per == .pw) then
      d.nv.pws.any (fun p => p.ini == 0 && p.key == k)
        || d.nv.cur.any (fun w => w.slot.isNone && w.ini == 0 && d.nv.recs.any (fun r => r.seq == w.seq && r.key == k))
    else
      match imgOf o.2.1 with
      | some n => (d.img n).check.any (fun x => x.ini == 0)
      | none => if k = 0x400005 then d.cls.commit.any (fun c => c.2.1 == 0) else d.fetchLive 0 k) })

/-- CORE reports OFF: its volatile parts are gone (07 Table 7.2), open transfers with them (02 R77); what other domains have
accepted goes on behind a host link reset (03 R126, R127). -/
def Dev.coreOff (d : Dev) : Dev :=
  let d := d.sluCoreOff.jobsReset.linkReset
  let d := { d with
    aon := { d.aon with startup := if d.aon.startup = Startup.nvLoad then Startup.none else d.aon.startup },
    intc := Intc.idle,
    images := d.images.map (fun (i : Img) => { i with xfer := none, check := none }) }
  let d := d.setLk (fun l => { l with
    linkErr := false, ready := false, wrote := none })
  ((d.setTow (fun t => { t with dicts := [] })).orphansLive).ringsGone

/-- MDIO master, governor and Towpath as after reset. -/
def Mdio.idle : Mdio := ⟨none, 0, [], [], [], false, 0, 0⟩
def Gov.idle : Gov := ⟨0, 0, 0, 0, 0, none, false⟩
def TowU.idle : TowU :=
  ⟨[], List.replicate 16 Sess.idle, List.replicate 5 ⟨[], 0⟩, List.replicate 16 none, [], [], List.replicate 8 Win.idle, [], []⟩

/-- A MAC reports OFF. -/
def Dev.macOff (d : Dev) (p : Nat) : Dev :=
  let d := forEach ((d.mac p).towq.filter (·.own)) d (fun f d => d.freeBarges f.barges)
  let d := d.setMac p (fun m => { Mac.idle with tsoOff := m.tsoOff, cutAt := m.cutAt })
  if p = 0 then ((d.setMdio (fun _ => Mdio.idle)).setGov (fun _ => Gov.idle)).govRestart
  else if 2 ≤ p then d.setSeg p (fun _ => Seg.idle)
  else d

/-- The lock engine and the free lists are gone with PM0 (09 R321). -/
def Dev.lockOff (d : Dev) : Dev :=
  d.setPm (fun m => { m with lockq := [[], [], [], []], cycle := [none, none, none, none], frees := [], scan := [],
                             rotor := List.replicate 16 0, lowPounds := [] })

/-- Domain `n` reports OFF: what it held beyond its objects is gone (07 Table 7.2), claims that need it end (20 R667). -/
def Dev.goesOff (d : Dev) (n : Nat) : Dev :=
  let d := match n with
    | 0 => d.sluOff
    | 1 => d.coreOff
    | 3 => d.lockOff.raDrop 0
    | 4 | 5 | 6 => d.raDrop (n - 3)
    | 7 => d.macOff 0
    | 8 => d.macOff 1
    | 9 => d.macOff 2
    | 10 => d.macOff 3
    | 12 => { d with cans := [Can.idle, Can.idle] }
    | 14 => d.setTow (fun _ => TowU.idle)
    | _ => d
  (d.imgLost n).claimsOff n

/-- Domain `n` goes OFF with its work lost and nothing completed (19 R648): brown-out, crystal stop, resets that clear CORE
or PM0. -/
def Dev.crashes (d : Dev) (n : Nat) : Dev :=
  let d := forEach (domImages n) d (fun i d => d.setImg i (fun _ => Img.idle))
  let d := match n with
    | 2 => d.setNv (fun v => { v with pws := [], cur := none, step := none, comp := none, rsv := 0 }.sweep)
    | 3 | 4 | 5 | 6 => d.bankLost (n - 3)
    | 11 => (forEach (List.range 4) d (fun g d => ((d.wr (grpKey g 6) 0).wr (grpKey g 7) 0).setGrp g (fun _ => Grp.idle))).setCls
        (fun c => { c with queue := [], held := [], transitAt := none, commit := none, ready := 0 })
    | 13 => d.setBrg (fun b => { b with
        inq := [], ready := 0, hand := [], outq := [[], []], oms := [], sigs := [], ethHeld := [], towHeld := [] })
    | 14 => d.setLk (fun l => { l with remotes := [] })
    | 15 => d.chPinsOff
    | _ => d
  (d.orphansLive).goesOff n

/-- Work in progress of domains that stay ON ends with CORE or PM0, and nothing is completed for it afterwards (19 R648): what
Towpath, the classifier, the bridge and the MACs' Towpath queues held is gone, an operation slot that was PENDING is FREE (log
entry 91). -/
def Dev.workLost (d : Dev) : Dev :=
  let d := forEach (List.range 16) d (fun s d => if d.osState s = 1 then d.wr (opSlotKey s) 0 else d)
  let d := d.setTow (fun t => { t with
    inbox := [], lanes := TowU.idle.lanes, slots := TowU.idle.slots, paths := [], dicts := [], todo := [],
    sess := t.sess.map (fun s => { s with unacked := [], waiting := [], ctl := [], ackDue := none }) })
  let d := forEach (List.range 16) d (fun n d => d.setUnacked n)
  let d := forEach (List.range 4) d (fun p d => d.setMac p (fun m => { m with
    towq := [], cur := if m.cur == .tow then .idle else m.cur, nxt := if m.nxt == .tow then .idle else m.nxt }))
  let d := d.setCls (fun c => { c with queue := [], held := [] })
  let d := d.setBrg (fun b => { b with
    inq := b.inq.filter (fun i => match i.2 with | .eth _ => false | _ => true), ethHeld := [], towHeld := [] })
  d.setLk (fun l => { l with remotes := [] })

/-! ### Reaching ON -/

/-- Volatile objects of domain `n` at their defaults (06 Table 6.2, 07 Table 7.2). The fault log keeps its own (19 R654). -/
def Dev.freshObjects (d : Dev) (n : Nat) : Dev :=
  { d with store := d.store.filter (fun e =>
      match rowOf e.1 with
      | some r => r.dom != n || r.per != .none || r.idx / 256 == 0x7C
      | none => true) }

/-- Bank `bk` may be used: the lock engine scans its owner array (09 R323). -/
def Dev.bankReady (d : Dev) (bk : Nat) : Dev :=
  d.setPm (fun m => { m with
    frees := m.frees.filter (fun e => e.2.1 != bk),
    scan := m.scan.filter (fun e => e.1 != bk) ++ [(bk, m.keptThrough.contains bk, d.ck)],
    keptThrough := m.keptThrough.filter (· != bk) })

/-- Banks that scan when bank `bk` reports ON (09 R323). -/
def Dev.bankOnline (d : Dev) (bk : Nat) : Dev :=
  if bk = 0 then forEach ((List.range 4).filter d.bankOn) d (fun b d => d.bankReady b)
  else if d.bankOn bk then d.bankReady bk else d

/-- The refresh of a bank that reports ON counts its interval from now (09 R315). -/
def Dev.refFresh (d : Dev) (bk : Nat) : Dev := { d with aon := { d.aon with refAt := updAt d.aon.refAt bk (fun _ => d.ck) } }

/-- A port whose PORT_RUN reads 01h starts link bring-up (12 R401). -/
def Dev.portOn (d : Dev) (p : Nat) : Dev := if d.rd (portRunKey p) = 1 then d.bringUp p else d

/-- Domain `n` reports ON after OFF, or after a domain reset (06 Table 6.2 steps 5 and 6). `bad` names the images whose
record fails its check. -/
def Dev.startsUp (d : Dev) (n : Nat) (bad : List Nat) : Dev :=
  let d := (d.freshObjects n).imgFaults n bad
  let d := d.imgLoadAll n bad
  match n with
  | 0 => d.sluOn
  | 3 =>
    let d := d.refFresh 0
    let d := forEach (List.range 16) d (fun p d => if d.rd (0x252003 + 256 * p) = 1 then d.wr (0x252007 + 256 * p) 2 else d)
    (d.bankInit 0).bankOnline 0
  | 4 | 5 | 6 => ((d.refFresh (n - 3)).bankInit (n - 3)).bankOnline (n - 3)
  | 7 => d.portOn 0
  | 8 => d.portOn 1
  | 9 => d.portOn 2
  | 10 => d.portOn 3
  | 11 => d.clsOn true (d.imgGood bad)
  | 12 => d.canOn
  | 13 => d.brgOn true
  | 15 => d.timeOn.govRestart
  | _ => d

/-- Domain `n` reports ON after RETENTION (06 R199, R225; 17 R596; 18 R636). -/
def Dev.resumes (d : Dev) (n : Nat) : Dev :=
  match n with
  | 1 => d.latchesFire
  | 3 | 4 | 5 | 6 => d.bankOnline (n - 3)
  | 7 => d.portOn 0
  | 8 => d.portOn 1
  | 9 => d.portOn 2
  | 10 => d.portOn 3
  | 11 => d.clsOn false (fun _ => none)
  | 12 => d.canOn
  | 13 => d.brgOn false
  | 15 => d.timeBack.govRestart
  | _ => d

/-! ### The clocks (06 R204, R713, 07 R229) -/

/-- The device with AON changed. -/
def Dev.setAon (d : Dev) (f : Aon → Aon) : Dev := { d with aon := f d.aon }

/-- The PLL is started unless it runs. -/
def Dev.pllRun (d : Dev) : Dev :=
  if d.aon.pll || d.aon.pllStart.isSome then d else d.setAon (fun a => { a with pllStart := some d.ck })

/-- Start-up steps in which the PLL must run (07 Table 7.3, R246). -/
def Startup.needsPll : Startup → Bool
  | .pllLock | .coreOn | .nvLoad => true
  | _ => false

/-- The PLL has work (06 R204, 07 R246). -/
def Dev.pllNeeded (d : Dev) : Bool :=
  d.aon.rstLow || d.aon.startup.needsPll
    || (List.range 16).any (fun n => n != 0 && ((d.dom n).st == .on || ((d.transOf n).map (·.target)) == some .on))

/-- The oscillator has work (06 R204, R209; log entry 23). A latch set in a brown-out lockout starts nothing (05 R170). -/
def Dev.oscNeeded (d : Dev) : Bool :=
  d.pllNeeded || d.aon.trans.isSome || d.aon.startup != .none || (d.aon.wakePend != 0 && !d.sup.lockout)
    || (d.aon.doms.any (fun o => o.st != .off || o.pend.isSome || o.resetReq))
    || d.aon.monitorAt.any (fun t => d.ck ≤ t + 204)
    || d.rd 0x200001 = 1 || d.rd 0x200001 = 3 || (d.sup.lockout && d.sup.lockCause == 3)

/-- The clocks stop when nothing needs them (06 R204, R211). -/
def Dev.clockGate (d : Dev) : Dev :=
  let d := if d.pllNeeded then d else d.setAon (fun a => { a with pll := false, pllStart := none })
  if d.oscNeeded || !d.aon.osc then d else d.setAon (fun a => { a with osc := false, monitorAt := none })

/-! ### The domain controller (06 R195-R202) -/

/-- A selected transition begins once nothing holds it: a job (04 R146), and for a shutdown of NVM a journal step or the rest of a
PW record (05 R162). A domain reset waits for jobs, not for the journal (07 R236, R250). -/
def Dev.transHeld (d : Dev) (t : Trans) : Bool :=
  d.transDrains t && (d.jobsHold t.dom
    || (t.dom == dNVM && !t.isReset
        && (d.nv.step.isSome || (d.nv.cur.any (fun w => w.slot.isNone && 0 < w.written)))))

/-- The jobs that require a domain selected to leave ON are asked to suspend, or end (04 R146; 07 R250). -/
def Dev.transAsk (d : Dev) : Dev :=
  match d.aon.trans with
  | some t =>
    if t.waiting && d.transDrains t then
      d.jobsAsk t.dom (if t.shed then 2 else 3) (if t.target = .retention then 0x0402 else 0x0401)
    else d
  | none => d

/-- The transition held by a job or a journal step begins when it may (06 R193, R197, R713). -/
def Dev.transBegins (d : Dev) (late : Nat) : Dev :=
  match d.aon.trans with
  | none => d
  | some t =>
    if !t.waiting || d.transHeld t then d
    else
      let d := if d.transDrains t then
          (d.drainBegins t.dom).imgLeaves t.dom (if t.target = .retention then 0x0402 else 0x0401)
        else d
      let up := t.target == .on && !t.isReset && t.dom != dKEEP
      let t := { t with waiting := false, start := d.ck + late, pllWait := up && !d.aon.pll }
      let d := d.setAon (fun a => { a with trans := some t })
      let d := if 3 ≤ t.dom && t.dom ≤ 6 then d.watchPounds else d
      if up then d.pllRun else d

/-- A transition is selected (06 R196, 04 R146). One that a job stood in the way of begins in a later CK, though the job has ended
at once. -/
def Dev.transSelect (d : Dev) (n : Nat) (t : DSt) (isReset : Bool) : Dev :=
  let shed := (d.dom n).shed && !isReset
  let d := d.setDom n (fun o => if isReset then { o with resetReq := false } else { o with pend := none, shed := false })
  let d := d.setAon (fun a => { a with trans := some ⟨n, t, isReset, true, false, false, false, d.ck, shed⟩ })
  if d.aon.trans.any (fun t => d.transDrains t && d.jobsHold n) then d.transAsk else d.transBegins 0

/-- Pending requests that lead nowhere are cleared (06 R214), and so is a domain reset whose domain has left ON since (log entry
84). -/
def Dev.clearRequests (d : Dev) : Dev :=
  forEach (List.range 16) d (fun n d =>
    let d := if (d.dom n).resetReq && (d.dom n).st != .on then d.setDom n (fun o => { o with resetReq := false }) else d
    let o := d.dom n
    if o.pend = some o.st then d.setDom n (fun o => { o with pend := none, shed := false })
    else if o.pend = some .retention && o.st = .off then
      ((d.setDom n (fun o => { o with pend := none, shed := false })).wr (0x211001 + n) 0).inc 0x213001
    else d)

/-- Whether the controller may turn domain `n` on now (05 R170, 07 R238, R245; log entry 24). -/
def Dev.mayTurnOn (d : Dev) (n : Nat) : Bool :=
  d.sup.everMain && (n == dKEEP || (!d.sup.lockout && !d.aon.rstLow && (match d.aon.startup with
    | .none | .coreOn | .nvLoad => true
    | _ => false)))

/-- The domain the controller selects next: domain resets first, then shutdowns from the highest position, then ONs from the
lowest (06 R196, 07 R250). -/
def Dev.nextTrans (d : Dev) : Option (Nat × DSt × Bool) :=
  match restoreOrder.find? (fun n => (d.dom n).resetReq) with
  | some n => some (n, .on, true)
  | none =>
    match restoreOrder.reverse.find? (fun n => (d.dom n).pend == some .off || (d.dom n).pend == some .retention) with
    | some n => some (n, ((d.dom n).pend).getD .off, false)
    | none => (restoreOrder.find? (fun n => (d.dom n).pend == some .on && d.mayTurnOn n)).map (fun n => (n, .on, false))

/-- DOMAIN_SELECT (06 R195, R196, R202, R214). -/
def Dev.domSelect (d : Dev) : Dev :=
  if d.aon.trans.isSome || !d.aon.osc || d.aon.xtalStopped then d
  else
    let d := d.clearRequests
    match d.nextTrans with
    | none => d
    | some (n, t, r) =>
      if t = .on && !r && 2 ≤ n && (d.dom dCORE).st != .on then (d.placeReq dCORE .on).transSelect dCORE .on false
      else d.transSelect n t r

/-- DOMAIN_DRAIN_DONE: the drain step of the running transition ends (06 R201). -/
def Dev.drainDone (d : Dev) : Dev :=
  match d.aon.trans with
  | none => d
  | some t =>
    if t.waiting || t.drained || !d.transDrains t || d.aon.xtalStopped then d
    else
      let d := (d.advanceTo (t.start + drainCk t.dom)).setAon (fun a => { a with trans := some { t with drained := true } })
      (d.drainLocks t.dom).leaves t.dom (t.isReset || t.target == .off) t.isReset

/-- The running transition is over and its domain in state `st`. -/
def Dev.transOver (d : Dev) (n : Nat) (st : DSt) (failed : Bool) : Dev :=
  (d.setAon (fun a => { a with trans := none })).setDom n (fun o => { o with st := st, lastFailed := failed })

/-- CLK_STATUS bit 2: MACT's isolation is released (07 R230, R231): from the start of the step that releases it, and throughout a
domain reset, which sets none (log entry 84). -/
def Dev.refclk (d : Dev) : Bool :=
  d.aon.pll && (match d.transOf dMACT with
    | none => (d.dom dMACT).st == .on
    | some t =>
      if t.waiting || t.isReset then true
      else match (d.dom dMACT).st, t.target with
        | .on, _ => !t.drained
        | .off, .on => !t.pllWait && t.start + rampCk dMACT + 500 + initCk dMACT ≤ d.ck
        | .retention, .on => !t.pllWait && t.start + rampCk dMACT + 500 ≤ d.ck
        | _, _ => false)

/-! ### Computed objects (06 Tables 6.1, 6.4) -/

/-- DOM_STATUS_n. -/
def Dev.domStatus (d : Dev) (n : Nat) : Nat :=
  let o := d.dom n
  let run := (d.transOf n).filter (fun t => !t.waiting)
  let st := if run.isSome then 3 else o.st.code
  let tg := match run with
    | some t => t.target.code
    | none => st
  let down := run.any (fun t => !t.isReset && t.target != .on)
  st + 4 * tg + (match o.pend with
    | some p => 16 * p.code + 64
    | none => 0)
    + 128 * b2n ((d.transOf n).any (·.waiting)) + 256 * b2n (down && o.pend == some .on) + 512 * b2n o.lastFailed

/-- A set of domains as a value (01 R15). -/
def domSet (p : Nat → Bool) : Nat := (List.range 16).foldl (fun a n => if p n then a + 2 ^ n else a) 0

/-- DOM_ON_SET, DOM_RET_SET, DOM_BUSY_SET, DOM_RUNNING, DOM_STATUS_n. -/
def Dev.domRead (d : Dev) (k : Nat) : Option Nat :=
  let still (n : Nat) : Bool := !(d.transOf n).any (fun t => !t.waiting)
  match k with
  | 0x210001 => some (domSet (fun n => still n && (d.dom n).st == .on))
  | 0x210002 => some (domSet (fun n => still n && (d.dom n).st == .retention))
  | 0x210003 => some (domSet (fun n => (d.transOf n).isSome || (d.dom n).pend.isSome || (d.dom n).resetReq))
  | 0x210004 => some ((d.aon.trans.map (·.dom)).getD 0xFF)
  | _ => if 0x212001 ≤ k && k ≤ 0x212010 then some (d.domStatus (k - 0x212001)) else none

/-! ### Forced transitions (06 R221, 07 R235) -/

/-- Domain `n` goes OFF at once: its transition ends, its request is dropped. -/
def Dev.forceOne (d : Dev) (n : Nat) (crash : Bool) : Dev :=
  let was := (d.dom n).st
  let left := (d.transOf n).any (·.drained)
  let d := if (d.transOf n).isSome then d.setAon (fun a => { a with trans := none }) else d
  let d := (d.setDom n (fun o => { o with pend := none, resetReq := false, shed := false })).wr (0x211001 + n) 0
  if was = .off then d
  else
    let d := if crash then d.setDom n (fun o => { o with st := .off })
      else
        let d := if left then d else (d.imgLeaves n 0x0401).leaves n true false
        d.setDom n (fun o => { o with st := .off })
    if crash then d.crashes n else d.goesOff n

/-- Domains forced OFF, from the highest position on. -/
def Dev.forceOff (d : Dev) (ns : List Nat) (crash : Bool) : Dev :=
  forEach (restoreOrder.reverse.filter ns.contains) d (fun n d => d.forceOne n crash)

end Sys2Proof.Machine
end

