-- ==== Sys2Proof/Machine/Reset.lean ====
section
/-!
DEFINITION. Resets and start-up, and the transitions of the domain controller that end (06 R194, R222; 07).
-/
namespace Sys2Proof.Machine

/-- Every domain but KEEP. -/
def butKeep : List Nat := [1, 2, 3, 4, 5, 6, 7, 8, 9, 10, 11, 12, 13, 14, 15]

/-- SUPPLY_STATE is MAIN. -/
def Dev.inMain (d : Dev) : Bool := d.rd 0x200001 == 0

/-! ### Start-up (07 Table 7.3) -/

/-- A start-up begins at a step (07 Table 7.1, R243, 19 R716). -/
def Dev.startupBegin (d : Dev) (cause : Nat) (st : Startup) : Dev :=
  ((d.wr 0x220002 cause).setAon (fun a => { a with
    startup := st, startAt := d.ck, stepAt := d.ck, startups := a.startups + 1, upBase := none, nvmOffAfter := false }))
    |>.setLk (fun l => { l with ready := false })

/-- Step 4: CORE is requested ON. -/
def Dev.coreStep (d : Dev) : Dev := (d.setAon (fun a => { a with startup := .coreOn, stepAt := d.ck })).placeReq dCORE .on

/-- Step 3: the PLL is started, or the step is skipped when it is locked. -/
def Dev.pllStep (d : Dev) : Dev :=
  if d.aon.pll then d.coreStep
  else (d.setAon (fun a => { a with startup := .pllLock, stepAt := d.ck, pllStart := none })).pllRun

/-- Step 6: ON requests of the boot set, on backup only those in BACKUP_SET_ACTIVE (07 R240, R241). -/
def Dev.bootRequests (d : Dev) : Dev :=
  let set := if d.inMain then d.rd 0x220001 else d.rd 0x220001 &&& d.rd 0x201003
  forEach (List.range 16) d (fun n d => if set.testBit n && (d.dom n).st != .on then d.placeReq n .on else d)

/-- ON requests of latches that waited are placed now (06 R209, R220). -/
def Dev.wakeNow (d : Dev) : Dev :=
  let w := d.aon.wakePend
  if w = 0 || d.sup.lockout then d else (d.setAon (fun a => { a with wakePend := 0 })).wakeRequests w

/-- Step 5 ends: READY, STARTUP_US, the fault-log entry, the latches' events, the boot set (07 R239-R243, 18 R636). A
wake runs no step 6 (07 Table 7.1). -/
def Dev.step5End (d : Dev) : Dev :=
  let us := min ((d.ck - d.aon.startAt) / ckPerUs) 0xFFFFFFFF
  let wake := d.rd 0x220002 = 7
  let d := (d.wr 0x220008 us).setLk (fun l => { l with ready := true })
  let d := { d with rng := d.rng.mix }
  let d := d.setAon (fun a => { a with startup := .none, upBase := some d.rng.ckx })
  let d := (d.fault 1 0xFF 0 us (d.rd 0x220002 + 256 * d.rd 0x202004)).latchesFire
  let d := if wake then d
    else d.bootRequests.setAon (fun a => { a with nvmOffAfter := !(d.rd 0x220001).testBit 2 })
  d.wakeNow

/-- Step 5 begins: NVM is brought ON, or on backup outside BACKUP_SET_ACTIVE the NV load does not run (07 R241). -/
def Dev.step5 (d : Dev) : Dev :=
  let d := d.setAon (fun a => { a with startup := .nvLoad, stepAt := d.ck })
  if !d.inMain && !(d.rd 0x201003).testBit 2 then
    (d.nvLoadSkipped.setAon (fun a => { a with nvLoadDue := true })).step5End
  else if (d.dom dNVM).st = .on && (d.transOf dNVM).isNone then d
  else
    let wake := d.rd 0x220002 = 7
    let asked := (d.dom dNVM).pend = some .on || (d.transOf dNVM).isSome
    let d := d.setAon (fun a => { a with nvmOffAfter := wake && !asked && !(d.rd 0x220001).testBit 2 })
    d.placeReq dNVM .on

/-- CORE reports ON from OFF: the start-up goes on, or a wake start begins (06 R212, 07 Table 7.1, 05 R170). -/
def Dev.coreUp (d : Dev) : Dev :=
  let d := if d.sup.src1Due then ({ d with sup := { d.sup with src1Due := false } }).fire 1 else d
  if d.aon.startup = .coreOn then d.step5
  else (d.startupBegin 7 .nvLoad).step5

/-- NV_LOAD_DONE (08 R277): in step 5, or at MAIN after a load that was skipped (07 R241). -/
def Dev.loadDone (d : Dev) (f : LoadFound) : Dev :=
  let up := d.aon.startup == .nvLoad
  let due := d.aon.startup == .none && d.aon.nvLoadDue && d.inMain && d.on dCORE
  if !(up || due) || !d.on dNVM then d
  else
    let d := (d.afterUs d.aon.stepAt (d.nvLoadUs f)).nvLoad f
    let d := d.setAon (fun a => { a with nvLoadDue := false })
    if up then d.step5End else d

/-- The NV load skipped on backup is taken up at MAIN (07 R241; log entry 27). -/
def Dev.loadAtMain (d : Dev) : Dev :=
  if d.aon.nvLoadDue && d.aon.startup == .none && d.on dCORE then
    let d := d.setAon (fun a => { a with stepAt := d.ck })
    if (d.dom dNVM).st = .on then d
    else (d.placeReq dNVM .on).setAon (fun a => { a with nvmOffAfter := !(d.rd 0x220001).testBit 2 })
  else d

/-- NVM goes OFF at the end of step 6 unless it is in BOOT_SET (07 R240). -/
def Dev.nvmAfter (d : Dev) : Dev :=
  if d.aon.nvmOffAfter && d.aon.startup == .none && !d.aon.nvLoadDue && d.aon.trans.isNone
      && !d.aon.doms.any (fun o => o.pend == some .on) then
    let d := d.setAon (fun a => { a with nvmOffAfter := false })
    if (d.dom dNVM).st = .on then d.placeReq dNVM .off else d
  else d

/-- A start-up whose CORE or NVM request has been taken away by a shed ends, or goes on without its NV load (log entry
27). -/
def Dev.startupWatch (d : Dev) : Dev :=
  let gone (n : Nat) : Bool := (d.dom n).st != .on && (d.dom n).pend != some .on && (d.transOf n).isNone
  match d.aon.startup with
  | .coreOn => if gone dCORE then d.setAon (fun a => { a with startup := .none }) else d
  | .nvLoad =>
    if d.on dCORE && gone dNVM then (d.nvLoadSkipped.setAon (fun a => { a with nvLoadDue := !d.inMain })).step5End else d
  | _ => d

/-! ### Resets that turn domains OFF (07 Table 7.2, R235-R237) -/

/-- A PM bank that a RESET_n, PLL lock loss or soft reset keeps: in RETENTION, or with a transition between ON and
RETENTION running (07 R235; log entry 30). -/
def Dev.bankKept (d : Dev) (n : Nat) : Bool :=
  3 ≤ n && n ≤ 6 && (match d.transOf n with
    | none => (d.dom n).st == .retention
    | some t => !t.waiting && !t.isReset && ((d.dom n).st == .retention && t.target == .on
        || (d.dom n).st == .on && t.target == .retention))

/-- What a kept bank's request becomes; one on its way to ON is reset when it gets there (07 R235, R237). -/
def Dev.keepBank (d : Dev) (n : Nat) : Dev :=
  let d := (d.setDom n (fun o => { o with pend := none, resetReq := false, shed := false })).wr (0x211001 + n) 1
  match d.transOf n with
  | some t => if t.target = .on then d.setAon (fun a => { a with trans := some { t with lost := true } }) else d
  | none => d

/-- A soft reset that keeps CORE but loses work of `gone`: an image check that runs there ends with 0401h, and the sessions of a
Towpath that goes OFF are reset, with the open transfers of their peers (02 R77). -/
def Dev.imagesForced (d : Dev) (gone : List Nat) (crash : Bool) : Dev :=
  if !crash then d
  else
    let d := forEach gone d (fun n d => d.imgLeaves n 0x0401)
    if gone.contains dTOW then forEach (List.range 16) d (fun n d => d.imgReset (peerIni n)) else d

/-- RESET_n, PLL lock loss or soft reset of the domains `ns` (07 R234-R237). -/
def Dev.resetDomains (d : Dev) (ns : List Nat) : Dev :=
  let core := ns.contains dCORE
  let crash := core || ns.contains dPM0
  let kept := ns.filter d.bankKept
  let gone := ns.filter (fun n => n != dKEEP && !kept.contains n)
  let d := if core then d.setAon (fun a => { a with startup := .none, nvmOffAfter := false, coreDue := none })
    else ((d.jobsForced gone).imagesForced gone crash)
  let d := if crash then d.workLost else d
  let d := forEach kept d (fun n d => d.keepBank n)
  let d := d.forceOff (gone.filter (· != dNVM)) crash
  let d := if gone.contains dNVM then
      (if d.nv.step.isSome then d.nvFinish true else d).forceOff [dNVM] crash
    else d
  let d := if ns.contains dPM0 && !core then d.ringsGone else d
  if crash then
    let kept := (List.range 4).filter (fun b =>
      (d.dom (bankDom b)).st != .off && ((d.transOf (bankDom b)).map (·.lost)) != some true)
    d.setPm (fun m => { m with keptThrough := kept })
  else d

/-- A soft reset of SOFT_RESET_SET (07 R247). -/
def Dev.softReset (d : Dev) : Dev :=
  let ns := (List.range 16).filter (fun n => (d.rd 0x220003).testBit n)
  let d := d.resetDomains ns
  if ns.contains dCORE then (d.startupBegin 6 .pllLock).pllStep else d

/-- PLL_LOCK_LOSS (01 R34, 07 R233). While RESET_n is low no start-up step runs: the PLL is started again, for CORE counts as on its
way to ON (R245, R246), and the cause is recorded (R252). -/
def Dev.pllLoss (d : Dev) : Dev :=
  if !d.aon.pll then d
  else
    let d := (((d.inc 0x220006).setAon (fun a => { a with pll := false, pllStart := none })).resetDomains butKeep).stagedGone
    if d.aon.rstLow then (d.wr 0x220002 5).pllRun else (d.startupBegin 5 .pllLock).pllStep

/-- RESET_N_ASSERT: RESET_n is sampled low for `held` consecutive CK; the reset takes effect in the 50th (07 R244, R245, R253). -/
def Dev.resetNAssert (d : Dev) (held : Nat) : Dev :=
  if !d.aon.pll || d.aon.rstLow then d
  else if held < 50 then d.tick held
  else ((((d.tick 50).setAon (fun a => { a with rstLow := true })).resetDomains butKeep).stagedGone).wr 0x220002 4

/-- RESET_N_RELEASE: sampled high, while the PLL runs (07 R253); start-up begins in the next CK (07 R245). -/
def Dev.resetNRelease (d : Dev) : Dev :=
  if !d.aon.rstLow || !d.aon.pll then d
  else (((d.setAon (fun a => { a with rstLow := false })).tick 1).startupBegin (d.rd 0x220002) .pllLock).pllStep

/-- A crystal stop or a brown-out ends what runs (07 R252). -/
def Dev.interrupted (d : Dev) : Dev :=
  d.setAon (fun a => { a with startup := .none, rstLow := false, nvmOffAfter := false, coreDue := none })

/-- CRYSTAL_STOP (01 R35, 06 R221). -/
def Dev.crystalStop (d : Dev) : Dev :=
  if !d.aon.osc || d.aon.xtalStopped then d
  else
    let d := ((d.inc 0x220007).nvCollapse.sluStopClock).interrupted
    let d := d.setAon (fun a => { a with osc := false, pll := false, pllStart := none, xtalStopped := true, stopAt := d.ck })
    d.forceOff butKeep true

/-- CRYSTAL_RESTART (01 R36): what KEEP was doing goes on, and start-up runs from step 1. -/
def Dev.crystalRestart (d : Dev) : Dev :=
  if !d.aon.xtalStopped then d
  else
    let d := d.setAon (fun a => { a with
      osc := true, xtalStopped := false, tempAt := d.ck,
      trans := a.trans.map (fun (t : Trans) => { t with start := t.start + (d.ck - a.stopAt) }) })
    let d := { d.sluStartClock with sup := { d.sup with energyAt := d.ck } }
    ((d.stagedGone.flEmpty).startupBegin 3 .trims).wakeNow

/-- Supply restart (05 R170, R173; 07 R232). -/
def Dev.supplyRestart (d : Dev) : Dev :=
  let d := (d.nvCollapse.interrupted).forceOff butKeep true
  (d.stagedGone.flEmpty).startupBegin 2 (if d.aon.osc then .trims else .oscStart)

/-- PLL_LOCKED (07 R229, 06 R713). -/
def Dev.pllLocked (d : Dev) : Dev :=
  match d.aon.pllStart with
  | none => d
  | some _ =>
    let d := d.setAon (fun a => { a with
      pll := true, pllStart := none,
      trans := a.trans.map (fun (t : Trans) => if t.pllWait then
        { t with pllWait := false, start := max t.start (d.ck + 1 - (rampCk t.dom + 500)) } else t) })
    if d.aon.startup = .pllLock then d.coreStep else d

/-- PLL_LOCK_TIMEOUT (07 R254). -/
def Dev.pllTimeout (d : Dev) : Dev :=
  match d.aon.startup, d.aon.pllStart with
  | .pllLock, some t =>
    let d := (d.afterUs t 100).inc 0x220006
    d.setAon (fun a => { a with pllStart := some d.ck })
  | _, _ => d

/-! ### Ends of transitions -/

/-- DOMAIN_TRANSITION_END (06 R194, R198, R199). `bad` names images whose record fails its check on load. -/
def Dev.transEnds (d : Dev) (bad : List Nat) : Dev :=
  match d.aon.trans with
  | none => d
  | some t =>
    if t.waiting || t.pllWait || d.aon.xtalStopped then d
    else
      let n := t.dom
      let was := (d.dom n).st
      let off := t.target == .off
      let d := d.advanceTo (t.start + d.transCk t)
      let d := if !t.drained && (d.transDrains t || off && was == .retention) then
          (d.drainLocks n).leaves n (t.isReset || off) t.isReset
        else d
      let d := if t.isReset && n = dPM0 then
          d.setPm (fun m => { m with keptThrough := (List.range 4).filter (fun b => b != 0 && (d.dom (bankDom b)).st != .off) })
        else d
      let d := d.transOver n t.target false
      let d := if off || t.isReset then d.goesOff n else d
      let d := if off && n = dCORE then d.stagedGone else d
      let d := if t.target = .on then
          let d := (if t.isReset || was = .off then d.startsUp n bad else d.resumes n).claimsOn n
          if n = dTOW then d.towReachesOn else d
        else d
      let d := if (d.dom n).pend.isNone then d.fire 6 else d
      let d := if t.target = .on && n = dCORE && was = .off then d.coreUp else d
      let d := if t.target = .on && n = dNVM && (d.aon.startup = .nvLoad || d.aon.nvLoadDue) then
          d.setAon (fun a => { a with stepAt := d.ck })
        else d
      if t.lost then d.forceOne n true else d

/-- CORE has failed to come up: requests that wait for it are dropped (06 R202), and a start-up is abandoned. -/
def Dev.coreFailed (d : Dev) : Dev :=
  let d := forEach (List.range 16) d (fun m d =>
    if 2 ≤ m && (d.dom m).pend = some .on then
      (d.setDom m (fun o => { o with pend := none })).wr (0x211001 + m) (d.dom m).st.code
    else d)
  d.setAon (fun a => { a with startup := .none })

/-- DOMAIN_POWER_FAIL (06 R222): after step 2 of a transition to ON, while the switch opens (10 us). -/
def Dev.powerFail (d : Dev) : Dev :=
  match d.aon.trans with
  | none => d
  | some t =>
    let due := t.start + rampCk t.dom + 500
    if t.waiting || t.isReset || t.target != .on || (!t.pllWait && due + 1000 < d.ck) || d.aon.xtalStopped then d
    else
      let n := t.dom
      let was := (d.dom n).st
      let d := d.advanceTo due
      let d := if was = .retention then d.leaves n true false else d
      let d := (d.transOver n .off true).wr (0x211001 + n) 0
      let d := if was = .retention then d.goesOff n else d
      let d := if was = .retention && n = dCORE then d.stagedGone else d
      let d := ((d.inc 0x213004).fault 0x0B 0xFF 0 n 0).fire 7
      let d := if n = dCORE then d.coreFailed else d
      if n = dNVM && d.aon.startup = .nvLoad then
        (d.nvLoadSkipped.setAon (fun a => { a with nvLoadDue := !d.inMain })).step5End
      else d

/-! ### Temperature and refresh (06 R205-R207) -/

/-- TEMP_SAMPLE (06 R206). -/
def Dev.tempSample (d : Dev) (c : Int) : Dev :=
  if !d.aon.osc then d
  else
    let d := d.advanceTo (d.aon.tempAt + ckPerMs)
    let d := d.setAon (fun a => { a with tempAt := d.ck, lastCelsius := c })
    if 85 < c then (d.wr 0x214004 1).setAon (fun a => { a with coolSince := none })
    else if d.rd 0x214004 = 1 && c ≤ 80 then
      let since := d.aon.coolSince.getD d.ck
      if since + 1000 * ckPerMs ≤ d.ck then (d.wr 0x214004 0).setAon (fun a => { a with coolSince := none })
      else d.setAon (fun a => { a with coolSince := some since })
    else d.setAon (fun a => { a with coolSince := none })

/-- CK from one row to the next: 7.8 us, or 3.88 us at the faster rate (06 R205, R206; 09 R315); a CKX lasts 4 CK. -/
def Dev.refreshCk (d : Dev) : Nat := if d.rd 0x214004 = 1 then 388 else 780

/-- The refresher of a bank takes its next row (06 R205, R207; 09 R315). -/
def Dev.refresh (d : Dev) (bk : Nat) (st : DSt) : Dev :=
  if (d.dom (bankDom bk)).st = st && !d.aon.xtalStopped then
    let d := d.advanceTo (d.aon.refAt.getD bk 0 + d.refreshCk)
    d.setAon (fun a => { a with
      refRow := updAt a.refRow bk (fun r => (r + 1) % 8192), refAt := updAt a.refAt bk (fun _ => d.ck) })
  else d

/-! ### Dictionary hooks of 06 and 07 -/

/-- Order 5 (06 R164, R190, R223; 07 R249; log entry 84). -/
def Dev.powState (d : Dev) (k v : Nat) : Bool :=
  if 0x211001 ≤ k && k ≤ 0x211010 then
    let n := k - 0x211001
    (v == 1 && n != 0 && (d.dom n).st == .off && (d.transOf n).isNone && (d.dom n).pend.isNone)
      || (v == 2 && !d.inMain && !(d.rd 0x201003).testBit n)
      || (v == 0 && n == 0 && !d.keepOffOk)
  else if k = 0x220005 then v ≤ 15 && v != 1 && (!d.on v || (v == 0 && !d.keepOffOk))
  else false

/-- Order 9 (06 R189, R226; 07 R247-R249, R255). -/
def powValue (k v : Nat) : Bool :=
  if 0x211001 ≤ k && k ≤ 0x211010 then v ≤ 2 && !(k == 0x211001 && v == 1)
  else match k with
    | 0x213001 | 0x213002 | 0x213004 | 0x220006 | 0x220007 => v == 0
    | 0x220001 => v.testBit 1
    | 0x220003 => !v.testBit 0
    | 0x220004 => v == 0x7A5E
    | 0x220005 => v ≤ 15 && v != 1
    | _ => true

/-- The effect of a write of an object of 06 or 07 by an initiator (06 R191, R210, R224; 07 R247, R250). -/
def Dev.powEffect (d : Dev) (ini k v : Nat) : Dev :=
  let who := if ini = 0 then 0xFF else ini - 0x10
  if 0x211001 ≤ k && k ≤ 0x211010 then
    let n := k - 0x211001
    if n = dCORE && v ≠ 2 then (d.wr k v).setAon (fun a => { a with coreDue := some (who, v) })
    else d.placeReq n (if v = 2 then .on else if v = 1 then .retention else .off)
  else if k = 0x214003 then d.wr 0x214002 ((List.range 16).foldl (fun a n => if v.testBit n then setBit a n false else a) (d.rd 0x214002))
  else if k = 0x220004 then
    if (d.rd 0x220003).testBit 1 then d.setAon (fun a => { a with coreDue := some (who, 2) })
    else (d.tick 1).softReset
  else if k = 0x220005 then d.setDom v (fun o => { o with resetReq := true })
  else d.wr k v

/-- A request for CORE, or a soft reset of it, takes effect once its response has left (06 R224, 07 R247). -/
def Dev.coreRequest (d : Dev) : Dev :=
  match d.aon.coreDue with
  | none => d
  | some (n, w) =>
    let unsent := n < 16 && (!(d.sess n).waiting.isEmpty || (List.range 4).any (fun p => (d.mac p).towq.any (fun f => f.peer == n)))
    if unsent then d
    else
      let d := d.setAon (fun a => { a with coreDue := none })
      if w = 2 then d.softReset else d.placeReq dCORE (if w = 1 then .retention else .off)

/-- CLK_STATUS (07 Table 7.4). -/
def Dev.clkStatus (d : Dev) : Nat := b2n d.aon.osc + 2 * b2n d.aon.pll + 4 * b2n d.refclk

end Sys2Proof.Machine
end

