-- ==== Sys2Proof/Machine/Supply.lean ====
section
/-!
DEFINITION. The supply selector, brown-out, the stored-energy monitor and the PoDL front end (05).
-/
namespace Sys2Proof.Machine

/-- The device with the supply changed. -/
def Dev.setSup (d : Dev) (f : Supply → Supply) : Dev := { d with sup := f d.sup }

/-- SUPPLY_STATE: 0 MAIN, 1 DOWN, 2 BACKUP, 3 QUALIFY. -/
def Dev.supState (d : Dev) : Nat := d.rd 0x200001

/-- The selector acts: CKX runs and POR is over (05 R153, R714). -/
def Dev.supRuns (d : Dev) : Bool := d.aon.osc && !d.aon.inPor && !d.aon.xtalStopped

/-- The comparators have settled after POR (07 R238). -/
def Dev.supSettled (d : Dev) : Bool :=
  d.sup.everMain || (d.aon.startup != .oscStart && d.aon.startup != .trims)

/-- The input that carries VSYS in a selector state: VIN in MAIN, and in a DOWN whose backup is too low to switch to (05 R159,
R171). -/
def Dev.vsysIn (d : Dev) (st : Nat) : Vsys := if st = 0 || (st = 1 && d.sup.lowBackup) then .vin else .vbak

/-- The selector enters a state (05 R157, R159). -/
def Dev.selEnter (d : Dev) (st : Nat) : Dev :=
  ((d.wr 0x200001 st).setSup (fun s => { s with vsys := d.vsysIn st })).fire 0

/-- The hold of a comparator output from its crossing on: 50 or 51 CKX with the synchronizer (05 R153, R708); which of the two is a
free value (log entry 6). -/
def Dev.holdCk (d : Dev) : Nat × Dev := (200 + 4 * (d.free.1 % 2), d.free.2)

/-- A comparator or detector that changed while the oscillator was stopped acts once its level has been held for 2.00 to 2.04 us
from the first stable CKX on (05 R153, 06 R714). -/
def Dev.monitorHold (d : Dev) : Dev :=
  match d.aon.monitorAt with
  | some t => let h := d.holdCk; h.2.advanceTo (t + h.1)
  | none => d

/-- MONITOR_CHANGE_OSC_START: a comparator output changes, that of VBAK_OK to `vbak` where it is that one. While the oscillator is
stopped the change starts it (06 R714); the level of VBAK_OK counts once it has been held (05 R153). -/
def Dev.monitorChange (d : Dev) (vbak : Option Bool) : Dev :=
  if d.aon.inPor || d.aon.xtalStopped then d
  else if d.aon.osc then
    match vbak with
    | some b => let h := d.holdCk; (h.2.tick h.1).setSup (fun s => { s with vbakOk := b, vbakDue := none })
    | none => d
  else (d.setAon (fun a => { a with oscStarting := true, monitorAt := some d.ck })).setSup
    (fun s => { s with vbakDue := vbak.orElse (fun _ => s.vbakDue) })

/-- The level of VBAK_OK, one that waits for its hold included once that has passed (05 R153, 06 R714). -/
def Dev.vbakLevel (d : Dev) : Bool :=
  match d.sup.vbakDue, d.aon.monitorAt with
  | some b, some t => if d.aon.osc && t + 204 ≤ d.ck then b else d.sup.vbakOk
  | _, _ => d.sup.vbakOk

/-- A level of VBAK_OK whose hold has passed counts. -/
def Dev.vbakSettle (d : Dev) : Dev :=
  if d.aon.osc && d.aon.monitorAt.any (fun t => t + 204 ≤ d.ck) then
    d.setSup (fun s => { s with vbakOk := d.vbakLevel, vbakDue := none })
  else d

/-- Main in range changes level: wake latch 0 (18 Table 18.4). -/
def Dev.mainEdge (d : Dev) (b : Bool) : Dev :=
  if d.sup.mainIn = b then d else (d.setSup (fun s => { s with mainIn := b })).latch 0


/-! ### Loss of main (05 R161, R165) -/

/-- The shed request of domain `n` (05 R161). -/
def Dev.shedOne (d : Dev) (n : Nat) : Dev :=
  let o := d.dom n
  let ret := d.rd 0x201004 / 4 ^ n % 4 = 1
  let idle := (d.transOf n).isNone
  if (d.rd 0x201003).testBit n || (idle && o.st == .off && o.pend.isNone)
      || (idle && o.st == .retention && ret && o.pend.isNone) then d
  else
    let d := d.placeReq n (if ret && !(idle && o.st == .off) then .retention else .off)
    if (d.dom n).pend.isSome then d.setDom n (fun o => { o with shed := true }) else d

/-- SUPPLY_DOWN (05 R157, R161, R171). -/
def Dev.supplyDown (d : Dev) (vbakOk : Bool) : Dev :=
  if !d.supRuns || d.supState ≠ 0 then d
  else
    let d := d.monitorHold
    let d := ((d.inc 0x202001).wr 0x201003 (d.rd 0x201001)).wr 0x201004 (d.rd 0x201002)
    let d := d.setSup (fun s => { s with vbakOk := vbakOk, vbakDue := none, downAt := d.ck, lowBackup := !vbakOk, regPend := vbakOk, regDue := none })
    let d := ((d.mainEdge false).selEnter 1).sluDown
    let d := d.setNv (fun v => { v with pws := v.pws.map (fun (p : PwReq) => { p with recheck := true }) })
    if vbakOk then forEach butKeep d (fun n d => d.shedOne n) else d

/-- The selector enters QUALIFY (05 R158). -/
def Dev.qualify (d : Dev) : Dev :=
  (d.setSup (fun s => { s with qualAt := d.ck, qualMs := if s.stretch then 500 else 20 })).selEnter 3

/-- The core regulator goes to low-power mode in the CK after BACKUP is entered and the last shed transition has ended (05 R165). -/
def Dev.regulator (d : Dev) : Dev :=
  if d.sup.regPend && (d.supState = 2 || d.supState = 3) && !d.aon.doms.any (·.shed) && !d.aon.trans.any (·.shed) then
    match d.sup.regDue with
    | none => d.setSup (fun s => { s with regDue := some d.ck })
    | some t => if t < d.ck then d.setSup (fun s => { s with regPend := false, regLow := true, regDue := none }) else d
  else d

/-- DOWN_TO_BACKUP (05 R157, R185). -/
def Dev.toBackup (d : Dev) (us : Nat) (mainIn : Bool) : Dev :=
  if !d.supRuns || d.supState ≠ 1 || d.sup.lowBackup then d
  else
    let d := d.afterUs d.sup.downAt us
    let d := (d.wr 0x202003 (min ((d.ck - d.sup.downAt) / ckPerUs) 0xFF)).selEnter 2
    let d := (d.mainEdge mainIn).regulator
    if mainIn then (d.tick 1).qualify else d

/-- MAIN_RETURN (05 R157). -/
def Dev.mainReturn (d : Dev) : Dev :=
  if !d.supRuns || d.supState ≠ 2 || !d.supSettled then d else (d.monitorHold.mainEdge true).qualify

/-! ### Brown-out (05 R168-R171) -/

/-- A brown-out with its cause (05 R168, R169; 16 R582). -/
def Dev.brownedOut (d : Dev) (cause : Nat) : Dev :=
  let d := ((d.nvCollapse.wr 0x202004 cause).inc 0x202005).interrupted
  let d := d.setSup (fun s => { s with lockout := true, lockCause := cause })
  let d := d.forceOff butKeep true
  if cause = 2 then d.sluBrownOut else d

/-- BROWN_OUT: the core rail, or VBAK outside MAIN, below its threshold (05 R168, Table 5.4). -/
def Dev.brownOut (d : Dev) (coreRail : Bool) : Dev :=
  if !d.supRuns || !d.sup.everMain then d
  else if coreRail then d.monitorHold.brownedOut (if d.supState = 0 then 3 else 1)
  else if d.supState = 0 then d
  else d.monitorHold.brownedOut 2

/-- BROWNOUT_LOW_BACKUP (05 R171); with main in range in that CK, QUALIFY begins in the next (R185; log entry
28). -/
def Dev.lowBackup (d : Dev) : Dev :=
  if !d.supRuns || d.supState ≠ 1 || !d.sup.lowBackup then d
  else
    let d := (if d.nv.step.isSome then d.nvFinish true else d).brownedOut 4
    let d := d.setSup (fun s => { s with lowBackup := false, regPend := true, regDue := none })
    let d := ((d.wr 0x202003 (min ((d.ck - d.sup.downAt) / ckPerUs) 0xFF)).selEnter 2).regulator
    if d.sup.mainIn then (d.tick 1).qualify else d

/-- The lockout ends and start-up runs (05 R170). -/
def Dev.lockoutEnds (d : Dev) : Dev :=
  (d.setSup (fun s => { s with lockout := false, lockCause := 0, src1Due := true })).supplyRestart

/-- LOCKOUT_END: the core rail has been good for 1 ms after a brown-out in MAIN (05 Table 5.4). The other lockouts end at
MAIN. -/
def Dev.lockoutEnd (d : Dev) : Dev :=
  if d.supRuns && d.sup.lockout && d.sup.lockCause = 3 then d.lockoutEnds else d

/-! ### Return of main (05 R158, R172-R175) -/

/-- The selector enters MAIN (05 R167, R170, R172, R173; 07 R238, R241). -/
def Dev.mainEntered (d : Dev) : Dev :=
  let first := !d.sup.everMain
  let d := (d.setSup (fun s => { s with regLow := false, regPend := false, regDue := none, everMain := true })).selEnter 0
  if d.sup.lockout then (if d.sup.lockCause = 3 then d else d.lockoutEnds)
  else if first then (if d.aon.startup = .supplySelect then d.pllStep else d)
  else if d.domRun dCORE != .on && (d.dom dCORE).pend != some .on && ((d.transOf dCORE).map (·.target)) != some .on
      && d.aon.startup == .none && !d.aon.rstLow then d.supplyRestart
  else d.loadAtMain

/-- QUALIFY_EXPIRY (05 R157, R158). -/
def Dev.qualifyExpiry (d : Dev) : Dev :=
  if !d.supRuns || d.supState ≠ 3 then d else (d.afterMs d.sup.qualAt d.sup.qualMs).mainEntered

/-- SUPPLY_BOUNCE: main leaves its range `dt` CK into QUALIFY (05 R174, R175). -/
def Dev.bounce (d : Dev) (dt : Nat) : Dev :=
  if !d.supRuns || d.supState ≠ 3 || d.sup.qualMs * ckPerMs ≤ dt then d
  else
    let d := ((d.advanceTo (d.sup.qualAt + dt)).mainEdge false).inc 0x202002
    let d := d.selEnter 2
    let recent := d.sup.bounces.filter (fun t => d.ck ≤ t + 1000 * ckPerMs)
    let go := 2 ≤ recent.length && !d.sup.stretch
    let d := d.setSup (fun s => { s with bounces := (s.bounces ++ [d.ck]).drop (s.bounces.length - 1), stretch := s.stretch || go })
    if go then d.fire 2 else d

/-- WAKE_EDGE: the source of latch `n` has an edge (06 R208). That of latch 0 is main in range (18 Table 18.4): its edge moves the
selector in BACKUP and QUALIFY, and neither in DOWN nor, while VIN lies between VIN_FAIL and VIN_GOOD, in MAIN (05 R154,
R157, R185). That of another latch is an event of its source, as the bus activity of C0_RXD and C1_RXD is (18 Table 18.1): it fires
directly as well while CORE is ON (18 R636). -/
def Dev.wakeEdge (d : Dev) (n : Nat) : Dev :=
  if n ≠ 0 then (d.latch n).fire (latchSource n)
  else if !d.supRuns then (d.latch 0).monitorChange none
  else match d.supState with
    | 2 => if d.sup.mainIn then d.mainEdge false else if d.supSettled then d.mainReturn else d.mainEdge true
    | 3 => d.bounce (d.ck - d.sup.qualAt)
    | _ => d.mainEdge (!d.sup.mainIn)

/-- STRETCH_END (05 R175). -/
def Dev.stretchEnd (d : Dev) : Dev :=
  match d.sup.bounces.getLast? with
  | some t =>
    if d.sup.stretch && d.supRuns then (d.afterMs t 1000).setSup (fun s => { s with stretch := false }) else d
  | none => d

/-! ### Start of the supply: POR and start-up steps 0 to 2 (05 R151, R711; 07 R238) -/

/-- POR_END. -/
def Dev.porEnd (d : Dev) : Dev :=
  if d.aon.inPor then
    (d.setAon (fun a => { a with inPor := false, oscStarting := true })).startupBegin 1 .oscStart
  else d

/-- OSC_STABLE (21 R691, 06 R209; log entry 84). -/
def Dev.oscStable (d : Dev) : Dev :=
  if d.aon.osc || d.aon.inPor || d.aon.xtalStopped || !(d.aon.oscStarting || d.oscNeeded) then d
  else
    let d := (d.setAon (fun a => { a with
      osc := true, oscStarting := false, tempAt := d.ck, monitorAt := a.monitorAt.map (fun _ => d.ck) })).setSup
      (fun s => { s with energyAt := d.ck })
    let d := if d.aon.startup = .oscStart then d.setAon (fun a => { a with startup := .trims, stepAt := d.ck }) else d
    d.wakeNow

/-- AON_TRIMS_DONE: step 1 ends. After POR the comparators have settled at the levels given (07 R238). -/
def Dev.trimsDone (d : Dev) (mainIn vbakOk : Bool) : Dev :=
  if !d.supRuns || d.aon.startup ≠ .trims then d
  else
    let d := d.afterUs d.aon.stepAt 50
    if d.sup.everMain then d.pllStep
    else
      let d := (d.setSup (fun s => { s with vbakOk := vbakOk })).mainEdge mainIn
      let d := d.setAon (fun a => { a with startup := .supplySelect, stepAt := d.ck })
      if mainIn && d.supState = 2 then d.qualify else d

/-! ### The monitor (05 R176, R712) -/

/-- ENERGY_SAMPLE: the converter's codes, and the level that the VBAK_OK comparator counts by then (05 R153); with it the VIO supply
the board applies from here on, where it has changed (21 R678; log entry 85). -/
def Dev.energyTick (d : Dev) (vin vbak : Nat) (vbakOk : Bool) (vio : Option Nat) : Dev :=
  let d := d.setSup (fun s => { s with vioIn := vio.getD s.vioIn })
  if !d.supRuns then d
  else
    let d := (d.advanceTo (d.sup.energyAt + ckPerMs)).energySample vin vbak
    d.setSup (fun s => { s with energyAt := d.ck, vbakOk := vbakOk, vbakDue := none })

/-! ### VIO (21 R678) -/

/-- The PLL runs, or starts. -/
def Dev.pllRuns (d : Dev) : Bool := d.aon.pll || d.aon.pllStart.isSome

/-- VIO is present: with VIO_SEL at VAON while the PLL runs, with VIO_SEL at GND while a supply is applied from outside (21 Table
21.2, R702). -/
def Dev.vioPresent (d : Dev) : Bool := if d.sup.vioSel then d.pllRuns else d.sup.vioIn != 0

/-- The VIO regulator's output for VSYS, both in mV (21 R678). -/
def vioOf (vsys : Nat) : Nat := if 3450 ≤ vsys then 3300 else vsys - 150

/-- VIO in mV (21 R678). VSYS carried by VIN is at least 3.45 V, since VIN is absent below 3.8 V (05 Table 5.1); carried by VBAK it
is as the monitor last read VBAK. -/
def Dev.vio (d : Dev) : Nat :=
  if !d.vioPresent then 0
  else if !d.sup.vioSel then d.sup.vioIn
  else match d.sup.vsys with
    | .vin => 3300
    | .vbak => vioOf (if d.rd 0x200004 = 0 then Config.vsysUnread else d.rd 0x200004)

/-! ### PoDL (05 R181-R184) -/

/-- PODL_STATE changes: source 4, PODL_EVENTS, wake latch 1. -/
def Dev.podlSet (d : Dev) (st : Nat) : Dev :=
  if d.rd 0x204001 = st then d else (((d.wr 0x204001 st).inc 0x204003).fire 4).latch 1

/-- The class a resistor on PODL_CLS selects, within 5 % (05 Table 5.5, R182). -/
def podlClass (ohms : Nat) : Option Nat :=
  if 9500 ≤ ohms && ohms ≤ 10500 then some 10
  else if 20995 ≤ ohms && ohms ≤ 23205 then some 11
  else if 45125 ≤ ohms && ohms ≤ 49875 then some 12
  else none

/-- PODL_CLASSIFY: the resistor found on PODL_CLS, none when open; the PSE has detected the signature and, with `asked`, has asked
for the class. The front end draws from the line and works in POR as well. -/
def Dev.podlClassify (d : Dev) (ohms : Option Nat) (asked : Bool) : Dev :=
  if d.rd 0x204001 = 3 || d.rd 0x204001 = 4 then d
  else match ohms with
    | none => (d.wr 0x204002 0).podlSet 0
    | some r =>
      match podlClass r with
      | some c =>
        let d := (d.wr 0x204002 c).podlSet 1
        if asked then d.podlSet 2 else d
      | none => (d.wr 0x204002 0).podlSet 5

/-- PODL_POWER_ON, the end of the ramp, PODL_TURN_OFF (05 R183, R184). -/
def Dev.podlPower (d : Dev) : Dev := if d.rd 0x204001 = 2 then d.podlSet 3 else d
def Dev.podlRamped (d : Dev) : Dev := if d.rd 0x204001 = 3 then d.podlSet 4 else d
def Dev.podlOff (d : Dev) : Dev :=
  let s := d.rd 0x204001
  if s = 2 || s = 3 || s = 4 then d.podlSet 1 else d

/-! ### Dictionary hooks of 05 -/

/-- The charger is on (05 R179). -/
def Dev.charging (d : Dev) : Bool :=
  d.supState == 0 && (d.rd 0x203001 == 1 || d.rd 0x203001 == 3) && d.rd 0x203008 != 0 && d.rd 0x200004 < d.rd 0x203009
    && !d.aon.inPor

/-- SUPPLY_FLAGS and QUALIFY_REMAIN, in whole ms rounded up (log entry 84). -/
def Dev.supRead (d : Dev) (k : Nat) : Option Nat :=
  match k with
  | 0x200002 => some (b2n d.sup.mainIn + 2 * b2n d.vbakLevel + 4 * b2n d.sup.stretch + 8 * b2n d.sup.lockout
      + 16 * b2n d.charging)
  | 0x200005 => some (if d.supState = 3 then
      (d.sup.qualAt + d.sup.qualMs * ckPerMs - d.ck + ckPerMs - 1) / ckPerMs else 0)
  | _ => none

/-- Order 9 (05 R160, R187, Table 5.6). -/
def supValue (k v : Nat) : Bool :=
  match k with
  | 0x201001 => v.testBit 0
  | 0x201002 => v % 4 == 0 && (List.range 16).all (fun n => v / 4 ^ n % 4 ≤ 1)
  | 0x202001 | 0x202002 | 0x202004 | 0x202005 | 0x204003 => v == 0
  | 0x203001 | 0x203008 => v ≤ 3
  | _ => true

end Sys2Proof.Machine
end

