-- ==== Sys2Proof/Machine/Dict.lean ====
section
/-!
DEFINITION. The dictionary engine: one transaction through the checks of 02 Table 2.5 in their order, the value of every
object, the effect of a write (02 R38-R81).
-/
namespace Sys2Proof.Machine

/-- What the engine answers: done with a body, aborted, or under way (02 R58). -/
inductive DRes where
  | ok (body : Oct) (d : Dev)
  | abort (code : Nat) (d : Dev)
  | pend (d : Dev)

/-! ### Values (02 R55, Tables 2.9 and 2.10) -/

/-- ORDERING_CODE (02 Table 2.10): "GW448-Q88-E" or "GW448-Q88-C", then 00h. -/
def orderingCode : Nat := dflt 0x100003 - (if Config.gradeC then 2 * 256 ^ 10 else 0)

/-- The identity of the part (02 Table 2.10). -/
def identity (s : Nat) : Nat :=
  match s with
  | 3 => orderingCode
  | 6 => Config.serialNumber.toNat
  | 7 => if Config.gradeC then 2 else 1
  | _ => dflt (0x100000 + s)

/-- Persistence and access codes of 02 Tables 2.2 and 2.3. -/
def Persist.code : Persist → Nat
  | .none => 0 | .p => 1 | .pw => 2
def Access.code : Access → Nat
  | .ro => 1 | .rw => 2 | .wo => 3 | .rws => 4 | .const => 5

/-- Q_DEFAULT (02 Table 2.9). -/
def ObjRow.qDefault (r : ObjRow) (k : Nat) : Nat :=
  let v := if r.idx = 0x1000 then identity (k % 256) else r.dflt
  match r.ty with
  | .octets _ | .domain _ => 0
  | .i8 => ofSigned 64 (toSigned 8 v)
  | .i16 => ofSigned 64 (toSigned 16 v)
  | .i32 => ofSigned 64 (toSigned 32 v)
  | _ => v

/-- QUERY_RESULT for the address in QUERY_ADDR (02 R70, R71, Table 2.9). -/
def queryResult (a : Nat) : Nat :=
  match rowOf a with
  | some r => r.ty.code + 2 ^ 8 * r.acc.code + 2 ^ 16 * r.dom + 2 ^ 24 * r.per.code + 2 ^ 32 * r.ty.size + 2 ^ 64 * r.qDefault a
  | none => 0

/-- RETRY_SLOTs (03 Table 3.7). -/
def Dev.slotEntry (d : Dev) (s : Nat) : Nat :=
  match d.slot s with
  | some x => (if x.res.isSome then 2 else 1) + 2 ^ 8 * x.cmd + 2 ^ 16 * x.tag + 2 ^ 24 * x.peer + 2 ^ 32 * x.idx
      + 2 ^ 48 * x.sub + 2 ^ 56 * min ((d.ck - x.since) / ckPerMs) 0xFF
  | none => 0

/-- JOBS_ACTIVE (04 Table 4.6). -/
def Dev.jobsActive (d : Dev) : Nat := domSet (fun s => s < 4 && jobActive (d.jobState s))

/-- Values that are computed where an object is read; `none` where the store holds the value. -/
def Dev.computed (d : Dev) (ini k : Nat) : Option Nat :=
  let s := k % 256
  match k / 0x10000 with
  | 0x10 => some (if d.nv.factoryBad && 3 ≤ s then 0 else identity s)
  | 0x18 => if 0x182001 ≤ k && k ≤ 0x182008 then some (d.slotEntry (s - 1)) else none
  | 0x1F => if k = 0x1F0002 then
      (let a := d.rd (iniKey ini 0x1F0001); some (if a = 0 then 0 else queryResult a)) else none
  | 0x20 => d.supRead k
  | 0x21 => d.domRead k
  | 0x22 => if k = 0x220009 then some d.clkStatus else none
  | 0x23 =>
    if k = 0x230001 then some d.jobsActive
    else
      match (List.range 4).find? (fun s => k == jobKey s 4 && d.jobKind s == 4 && d.jobState s == 1) with
      | some s => some (d.loadProgress s)
      | none => none
  | 0x24 => d.nvRead k
  | 0x25 =>
    if k = 0x250902 then some (d.bqRecord ini)
    else if 0x252000 ≤ k && k < 0x253000 && s = 5 then some (d.poundFree (k / 256 - 0x2520)) else none
  | 0x30 => if k = 0x30200C then some d.govStatus else none
  | 0x38 =>
    if 0x382000 ≤ k && k < 0x382200 && s = 9 then some (d.pauseStatus (k / 256 - 0x3820))
    else if 0x382000 ≤ k && k < 0x382200 && s = 12 then some (d.pauseRemain (k / 256 - 0x3820))
    else none
  | 0x40 => if k = 0x40000C then some d.treeFree else if k = 0x40000D then some d.probeSlots else none
  | 0x5A => if s = 0 then none else some (d.cacheEntry (128 * (k / 256 - 0x5A00) + s - 1))
  | 0x60 =>
    if k = 0x606002 then some (d.osMask (· == 2)) else if k = 0x606003 then some (d.osMask (· != 0)) else none
  | 0x68 =>
    if k = 0x680006 then some d.sluStatus
    else if 0x681000 ≤ k && k < 0x681400 && s = 14 then some (d.sluStateMs (k / 256 - 0x6810))
    else if 0x682000 ≤ k && k < 0x682200 && s = 5 then some (d.enPin (k / 256 - 0x6820))
    else none
  | 0x70 =>
    if k = 0x700001 then some (d.clkNs + 2 ^ 32 * d.clkSec)
    else if 0x702000 ≤ k && k < 0x702400 && s = 7 then some (d.chStatus (k / 256 - 0x7020))
    else none
  | 0x78 => d.intRead k
  | 0x7C => if k = 0x7C0004 then some d.flUnreadCount else none
  | 0x7F => d.claimRead k
  | _ => none

/-- Objects held separately for each initiator (02 R69; 09 R299, R325). -/
def perIni (k : Nat) : Bool := k = 0x1F0001 || k = 0x250802 || k = 0x250901

/-- The value an initiator reads from an object that is no DOMAIN. -/
def Dev.readObj (d : Dev) (ini k : Nat) : Nat :=
  (d.computed ini k).getD (d.rd (if perIni k then iniKey ini k else k))

/-! ### Checks (02 Table 2.5) -/

/-- The row of an address, or 0101h or 0102h. -/
def findObj (idx sb : Nat) : Nat ⊕ ObjRow :=
  match rowAt idx sb with
  | some r => .inr r
  | none => if (objRowsOf (idx / 256)).any (fun r => r.hasIdx idx) then .inl 0x0102 else .inl 0x0101

/-- Order 4: 0401h or 0402h for a domain that is not ON (02 R47, R72). -/
def Dev.domAbort (d : Dev) (n : Nat) : Option Nat :=
  if 16 ≤ n then none
  else match d.domEff n with
    | .on => none
    | .off => some 0x0401
    | .retention => some 0x0402

/-- The run-control object of the block an RWS object belongs to (02 R45). -/
def runKey (k : Nat) : Nat :=
  let i := k / 256
  match i / 256 with
  | 0x26 => ringKey (i - 0x2600) 3
  | 0x30 | 0x31 | 0x32 | 0x33 => portRunKey (i / 256 - 0x30)
  | 0x40 => if 0x4020 ≤ i && i < 0x4024 then grpKey (i - 0x4020) 1 else 0x400001
  | 0x50 => canKey (i - 0x5000) 1
  | 0x54 => 0x540001
  | 0x60 =>
    if 0x6020 ≤ i && i < 0x6030 then peerKey (i - 0x6020) 1
    else if 0x6040 ≤ i && i < 0x6048 then winKey (i - 0x6040) 1
    else 0x600001
  | _ => sluKey (i - 0x6810) 1

/-- Order 5: the state rules of the owning chapters for a write. -/
def Dev.stateBad (d : Dev) (ini k v : Nat) : Bool :=
  match k / 0x10000 with
  | 0x21 | 0x22 => d.powState k v
  | 0x23 => d.jobStateBad k v
  | 0x25 => d.pmState k v
  | 0x26 => k < 0x263800 && k % 256 == 3 && d.ringCtrlBlocked (k / 256 - 0x2600) v
  | 0x30 | 0x31 | 0x32 | 0x33 => d.portState k v
  | 0x38 => d.macState k v
  | 0x40 => d.clsHeldState k v
  | 0x50 => d.canStateBad k
  | 0x60 => d.towState ini k v
  | 0x68 => d.sluStateBad k v
  | 0x78 => d.intState k
  | _ => false

/-- Order 6: a running job holds the object (02 R79, 04 R137). -/
def Dev.held (d : Dev) (k : Nat) : Bool :=
  d.jobHeld k || d.portHeld k || (k % 256 == 0 && (imgOf (k / 256)).isSome && d.tableJob (k / 256))

/-- Order 6 rules of a write: a START or a commit that another job stands in the way of. -/
def Dev.heldWrite (d : Dev) (k v : Nat) : Bool := d.held k || d.jobBusy k v || d.clsBusy k v

/-- Order 9: values and defined encodings of the owning chapters. -/
def Dev.valueOk (d : Dev) (k v : Nat) : Bool :=
  match k / 0x10000 with
  | 0x18 => if k = 0x180003 then v == 0xA5 else if 0x181001 ≤ k && k ≤ 0x181005 then v == 0 else true
  | 0x1E => v == 0
  | 0x1F => v < 2 ^ 24
  | 0x20 => supValue k v
  | 0x21 | 0x22 => powValue k v
  | 0x23 => d.jobValue k v
  | 0x24 => (k != 0x242003 && k != 0x242004) || v == 0
  | 0x25 => d.pmValue k v
  | 0x26 =>
    if k < 0x263800 then
      (match k % 256 with
       | 3 => d.ringCtrlOk (k / 256 - 0x2600) v
       | 10 | 11 => v == 0
       | _ => true)
    else k < 0x269001 || v == 0
  | 0x30 | 0x31 | 0x32 | 0x33 => d.portValue k v
  | 0x38 => d.macValue k v
  | 0x40 => d.clsValue k v
  | 0x50 => d.canValue k v
  | 0x54 | 0x58 => d.brgValue k v
  | 0x60 => d.towValue k v
  | 0x68 => d.sluValue k v
  | 0x70 | 0x74 => d.timeValue k v
  | 0x78 => intValue k v
  | 0x7C => d.flValue k v
  | 0x7F => (k != 0x7F0001 && k != 0x7F0003) || v == 0
  | _ => true

/-- Order 9 of a write: type, stated range, encodings (02 R41, R44). -/
def Dev.rangeOk (d : Dev) (r : ObjRow) (k v : Nat) : Bool :=
  ((r.lo ≤ v && v ≤ r.hi) || (r.zeroOk && v == 0) || r.ty == .i8 || r.ty == .i16 || r.ty == .i32 || r.ty == .i64)
    && d.valueOk k v

/-! ### The effect of a write -/

/-- Objects of 09. -/
def Dev.pmEffect (d : Dev) (ini k v : Nat) : WRes :=
  if k = 0x250801 then d.allocReq ini v
  else if k = 0x250803 then .ok (d.freeReq v)
  else if k = 0x250901 then .ok (d.wr (iniKey ini k) v)
  else if 0x252000 ≤ k && k < 0x253000 && k % 256 = 3 then .ok (d.poundEnable (k / 256 - 0x2520) v)
  else .ok (d.wr k v)

/-- Objects of 17: those of channel 3 are the governor's while it holds the channel (17 R610, 20 R663). -/
def Dev.timeWrite (d : Dev) (ini k v : Nat) : WRes :=
  if d.timeHeld k then
    .abort 0x0501 (if k = chKey 3 1 && v ≠ 0 then d.claimRefused ini 4 govClaim else d)
  else .ok (d.timeEffect k v)

/-- The effect of a write that has passed orders 1 to 9. A host's HOST_LINK_RESET waits for the end of its transaction. -/
def Dev.writeEffect (d : Dev) (ini k v : Nat) : WRes :=
  match k / 0x10000 with
  | 0x18 =>
    if k = 0x180003 then .ok (if ini = 0 then d else d.linkReset)
    else
      let d := d.wr k v
      .ok (if k = 0x180002 && v = 0 then d.setLk (fun l => { l with ra := none }) else d)
  | 0x1F => .ok (d.wr (iniKey ini k) v)
  | 0x21 | 0x22 => .ok (d.powEffect ini k v)
  | 0x23 => d.jobEffect ini k v
  | 0x24 => if k = 0x240004 then d.pwWrite ini k v else .ok (d.wr k v)
  | 0x25 => d.pmEffect ini k v
  | 0x26 => .ok (if k < 0x263800 && k % 256 = 3 then d.ringCtrl (k / 256 - 0x2600) v else d.wr k v)
  | 0x30 | 0x31 | 0x32 | 0x33 => d.portEffect ini k v
  | 0x38 => d.macEffect ini k v
  | 0x40 => d.clsEffect ini k v
  | 0x50 => .ok (d.canEffect k v)
  | 0x54 | 0x58 => .ok (d.brgEffect k v)
  | 0x60 => d.towEffect ini k v
  | 0x68 => .ok (d.sluEffect k v)
  | 0x70 | 0x74 => d.timeWrite ini k v
  | 0x78 => .ok (d.intEffect k v)
  | 0x7C => .ok (d.flEffect k v)
  | _ => .ok (d.wr k v)

/-! ### One transaction -/

/-- INT_CLAIM of a target (18 R633). -/
def claimObj (k : Nat) : Bool := 0x781000 ≤ k && k < 0x781400 && k % 256 == 3

/-- Order 2 for a signal-cache entry beyond the signals of the signal map in effect (14 Table 14.11; log entry 97). -/
def Dev.cacheAbsent (d : Dev) (k : Nat) : Bool :=
  k / 0x10000 == 0x5A && k % 256 != 0 && d.signals.length ≤ 128 * (k / 256 - 0x5A00) + k % 256 - 1

/-- Orders 1 and 2: the row, or 0101h or 0102h. -/
def Dev.findAt (d : Dev) (idx sb : Nat) : Nat ⊕ ObjRow :=
  match findObj idx sb with
  | .inr r => if d.cacheAbsent (objKey idx sb) then .inl 0x0102 else .inr r
  | .inl c => .inl c

/-- The abort that orders 1 to 8 give a read, if any. -/
def Dev.readAbort (d : Dev) (ini idx sb off len : Nat) : Option Nat :=
  match d.findAt idx sb with
  | .inl c => some c
  | .inr r =>
    let k := objKey idx sb
    if r.acc = .wo then some 0x0202
    else match d.domAbort r.dom with
      | some c => some c
      | none =>
        if claimObj k && ini ≠ 0 then some 0x0203
        else if d.held k then some 0x0403
        else match r.ty with
          | .domain _ => if len = 0 || 1024 < len then some 0x0302 else none
          | t => if off ≠ 0 || (len ≠ 0 && len ≠ t.size) then some 0x0302 else none

/-- A read that passes its checks (02 R55, R67; 14 R509; 18 R633). A body begins with its LENGTH. -/
def Dev.readNow (d : Dev) (ini idx sb off len : Nat) : DRes :=
  let k := objKey idx sb
  match imgOf idx with
  | some n =>
    (match d.imgRead n off len with
     | .ok b => .ok b d
     | .abort c _ => .abort c d)
  | none =>
    if idx / 256 = 0x5A && sb ≠ 0 then .pend d
    else
      let n := ((rowAt idx sb).map (·.ty.size)).getD 0
      if claimObj k then
        let r := d.intClaim (idx - 0x7810)
        .ok (leOct 2 n ++ leOct n r.1) r.2
      else .ok (leOct 2 n ++ leOct n (d.readObj ini k)) d

/-- A read transaction of an initiator. -/
def Dev.dictRead (d : Dev) (ini idx sb off len : Nat) : DRes :=
  match d.readAbort ini idx sb off len with
  | some c => .abort c d
  | none => d.readNow ini idx sb off len

/-- The outcome of a write's effect as the engine answers it. -/
def WRes.toDRes : WRes → DRes
  | .ok d => .ok [] d
  | .abort c d => .abort c d
  | .pend d => .pend d

/-- Order 5 of a write. -/
def Dev.stateAbort (d : Dev) (r : ObjRow) (ini k v : Nat) : Bool :=
  (r.acc == .rws && d.rd (runKey k) != 0) || (r.per == .pw && !d.energyOk)
    || (match imgOf (k / 256) with
        | some n => k % 256 == 0 && (d.imgBusy n ini || d.imgActive n)
        | none => false)
    || d.stateBad ini k v

/-- The abort that orders 1 to 7 give a write, if any. -/
def Dev.writeAbort (d : Dev) (r : ObjRow) (ini k ty v : Nat) : Option Nat :=
  if r.acc = .ro || r.acc = .const then some 0x0201
  else match (d.domAbort r.dom).orElse (fun _ => if r.per = .pw then d.domAbort dNVM else none) with
    | some c => some c
    | none =>
      if d.stateAbort r ini k v then some 0x0203
      else if d.heldWrite k v then some 0x0403
      else if ty ≠ 0 && ty ≠ r.ty.code then some 0x0303
      else none

/-- Orders 8 and 9 of a write that is no segment (02 R43, R44, R70, R95). -/
def Dev.writeValueAbort (d : Dev) (r : ObjRow) (k off : Nat) (data : Oct) : Option Nat :=
  let v := leNat data
  if off ≠ 0 || data.length ≠ r.ty.size then some 0x0302
  else if !d.rangeOk r k v then some 0x0301
  else if k = 0x1F0001 then
    (match d.findAt (v / 256 % 65536) (v % 256) with
     | .inl c => some c
     | .inr _ => none)
  else none

/-- A write transaction of an initiator: orders 1 to 9, then the effect with orders 10 and 11. -/
def Dev.dictWrite (d : Dev) (ini idx sb ty off : Nat) (data : Oct) : DRes :=
  match d.findAt idx sb with
  | .inl c => .abort c d
  | .inr r =>
    let k := objKey idx sb
    let v := leNat data
    match d.writeAbort r ini k ty v with
    | some c => .abort c (if c = 0x0203 && r.per == .pw && !d.energyOk then d.pwRefused else d)
    | none =>
      match imgOf idx with
      | some n => (d.imgSegment n ini off data).toDRes
      | none =>
        match d.writeValueAbort r k off data with
        | some c => .abort c d
        | none => ((d.noteRx k).writeEffect ini k v).toDRes

end Sys2Proof.Machine
end

