-- ==== Sys2Proof/Machine/HostLink.lean ====
section
/-!
DEFINITION. The host link (03): answers, the response deadline, retry slots, memory commands, STATUS_POLL, DOORBELL,
INT_COMPLETE, and the dictionary operations of peers (15 R554, R555).
-/
namespace Sys2Proof.Machine

/-! ### Answers (03 Table 3.1, R119, R129) -/

/-- The response octets of a command, from the status octet on; none where nothing drives the lines. -/
def Dev.say (d : Dev) (r : Oct) : Dev := d.setLk (fun l => { l with response := r })

/-- SEQ counts a transaction (03 R119). -/
def Dev.seqInc (d : Dev) : Dev := d.setLk (fun l => { l with seq := (l.seq + 1) % 65536 })

/-- BUSY: not accepted, not counted in SEQ (03 R98, R119, R129). -/
def Dev.busy (d : Dev) : Dev := (d.inc 0x181001).say [4]

/-- OK with the octets that follow. -/
def Dev.sayOk (d : Dev) (body : Oct) : Dev := d.seqInc.say (0 :: body)

/-- ABORT, with PEER_CODE after 0602h. -/
def Dev.sayAbort (d : Dev) (code peer : Nat) : Dev :=
  d.seqInc.say (3 :: (leOct 2 code ++ (if code = 0x0602 then leOct 2 peer else [])))

/-- A result as the status octet carries it. -/
def Dev.sayRes (d : Dev) : Res → Dev
  | .ok body => d.sayOk body
  | .abort c p => d.sayAbort c p

/-- Nothing drives the lines. -/
def Dev.silent (d : Dev) : Dev := d.setLk (fun l => { l with lead := 0, response := [] })

/-- A request for CORE RETENTION or OFF that the host or a peer has written has taken effect and still stands (06 R224). -/
def Dev.coreGoes (d : Dev) : Bool :=
  let o := d.dom dCORE
  (!o.shed && (o.pend == some .off || o.pend == some .retention))
    || ((d.transOf dCORE).any (fun t => !t.isReset && !t.shed && t.target != .on))

/-- The host link answers: CORE is ON and stays (02 R48, 06 R224), and its pins have their supply (21 R679). -/
def Dev.linkAnswers (d : Dev) : Bool := d.on dCORE && !d.coreGoes && d.vioPresent

/-- The turnaround of a transaction: HOST_TURNAROUND octets as the object stands when it begins (03 R87, R128). -/
def Dev.turnaround (d : Dev) : Dev := d.setLk (fun l => { l with lead := d.rd 0x180001 })

/-- What the device drives on the lines after a request, octet by octet, none where it drives nothing: A5h in the turnaround but
for the bus handover of quad mode, then the response (03 R87, R88). -/
def Dev.linkLines (d : Dev) (quad : Bool) : List (Option (BitVec 8)) :=
  (List.range d.link.lead).map (fun i => if quad && i == 0 then none else some (oct 0xA5)) ++ d.link.response.map some

/-- A framing error (03 R120, R123). -/
def Dev.framing (d : Dev) : Dev :=
  if d.linkAnswers then ((d.inc 0x181004).setLk (fun l => { l with linkErr := true })).silent else d.silent

/-- A host's transaction ends in the CK after what the commands before it did: a write of the host comes before the engine updates
of its CK, and its reads and its DOORBELL see none of them (01 R32, 02 R74, 10 R356). -/
def Dev.nextCk (d : Dev) : Dev := d.tick 1

/-- A transaction of the host begins: its CK and its turnaround. -/
def Dev.hostStart (d : Dev) : Dev := d.nextCk.turnaround

/-- A command other than STATUS_POLL: nothing answers while CORE is not ON, BUSY before start-up completes (02 R48,
03 R125, 06 R224). -/
def Dev.hostCmd (d : Dev) (f : Dev → Dev) : Dev :=
  if !d.linkAnswers then d.silent else if !d.link.ready then d.busy else f d

/-! ### The response deadline (03 R91, R92) -/

/-- The bound W of Table 3.3, raised while the drain of a MEM_WRITE lasts. -/
def Dev.boundW (d : Dev) (w : Nat) : Nat := w + (match d.link.wrote with
  | some t => t + 72 - d.ck
  | none => 0)

/-- The result misses the deadline of R91: it is ready at `tm.readyCk`, W at the latest, and T_TA is HOST_TURNAROUND octets of
`tm.octetNs`. -/
def Dev.late (d : Dev) (w : Nat) (tm : Timing) : Bool :=
  d.rd 0x180001 * tm.octetNs < min tm.readyCk (d.boundW w) * 10 + 40

/-! ### Retry slots (03 R99-R106) -/

/-- The lowest-numbered FREE slot. -/
def Dev.freeSlot (d : Dev) : Option Nat := d.link.slots.findIdx? (·.isNone)

/-- The next tag: slots hold at most seven others, so the eighth candidate at the latest is free (03 R101). -/
def Dev.nextTag (d : Dev) : Nat → Nat → Nat
  | t, 0 => t
  | t, n + 1 => if d.link.slots.any (fun o => (o.map (·.tag)) == some t) then d.nextTag (t % 255 + 1) n else t

/-- RETRY: the slot is taken (03 R100, R101, R129). -/
def Dev.retry (d : Dev) (s cmd peer idx sb : Nat) (res : Option Res) : Dev :=
  let t := d.nextTag d.link.tag 8
  let d := (d.setSlot s (some ⟨t, cmd, peer, idx, sb, d.ck, res⟩)).setLk (fun l => { l with tag := t % 255 + 1 })
  (d.inc 0x181002).seqInc.say [1, oct s, oct t]

/-- A local dictionary transaction of the host (03 R98-R100, R124): `forced` says that it always receives RETRY (R99). -/
def Dev.hostDict (d : Dev) (cmd idx sb : Nat) (forced late : Bool) (r : DRes) : Dev :=
  match d.freeSlot with
  | none => d.busy
  | some s =>
    let answer (res : Res) (d : Dev) : Dev :=
      if forced || late then d.retry s cmd 0xFF idx sb (some res) else d.sayRes res
    match r with
    | .ok body d => answer (.ok body) (d.settleTxn 0 cmd idx sb none)
    | .abort c d => answer (.abort c 0) (d.settleTxn 0 cmd idx sb (some c))
    | .pend d => d.retry s cmd 0xFF idx sb none

/-- A transaction is not accepted while a local one is PENDING or no slot is FREE (03 R100, R124; log entry 96). -/
def Dev.dictRefused (d : Dev) : Bool := d.localPending.isSome || d.freeSlot.isNone

/-- DICT_READ (03 R95-R97). A read of the signal cache goes on in the bridge (14 R509). -/
def Dev.hostRead (d : Dev) (idx sb off len : Nat) (tm : Timing) : Dev :=
  d.hostCmd (fun d =>
    if d.dictRefused then d.busy
    else
      match d.dictRead 0 idx sb off len with
      | .pend d => (d.hostDict 0x11 idx sb true false (.pend d)).cacheRead 0 (128 * (idx - 0x5A00) + sb - 1)
      | r => d.hostDict 0x11 idx sb false (d.late 48 tm) r)

/-- DICT_WRITE. A write of a PW object always receives RETRY (R99); HOST_LINK_RESET takes effect when SPI_CS_n rises (R126). -/
def Dev.hostWrite (d : Dev) (idx sb ty off : Nat) (data : Oct) (tm : Timing) : Dev :=
  d.hostCmd (fun d =>
    if d.dictRefused then d.busy
    else
      let r := d.dictWrite 0 idx sb ty off data
      let pw := ((rowAt idx sb).map (·.per)) == some .pw
      let e := d.hostDict 0x12 idx sb pw (d.late 48 tm) r
      match r with
      | .ok _ _ => if objKey idx sb = 0x180003 then e.linkReset else e
      | _ => e)

/-- A write of an object of `n` octets by its key, as a row of the table names it. -/
def Dev.hostPut (d : Dev) (k v : Nat) (tm : Timing) : Dev :=
  d.hostWrite (k / 256) (k % 256) 0 0 (leOct (objSize k) v) tm

/-- An abort the host link decides itself (03 R104, R106); it counts as a transaction (DEDUCED, log entry 7). -/
def Dev.linkAbort (d : Dev) (cmd idx sb code : Nat) : Dev := (d.settleTxn 0 cmd idx sb (some code)).sayAbort code 0

/-- DICT_READ_REMOTE and DICT_WRITE_REMOTE (03 R99, R106, R107; 15 R554; log entry 55). -/
def Dev.hostRemote (d : Dev) (cmd peer idx sb ty off len : Nat) (data : Oct) : Dev :=
  d.hostCmd (fun d =>
    match d.freeSlot with
    | none => d.busy
    | some s =>
      if 15 < peer then d.linkAbort cmd idx sb 0x0301
      else if !d.towOn || d.peerState peer != 2 then d.linkAbort cmd idx sb 0x0601
      else
        let d := (d.retry s cmd peer idx sb none).setLk (fun l => { l with remotes := l.remotes ++ [⟨peer, s, cmd, idx, sb, 0⟩] })
        d.towQueue peer (opRecord (cmd - 0x58) s 0 off len idx sb ty ++ data))

/-- A reissue (03 R90, R103, R104). -/
def Dev.hostReissue (d : Dev) (cmd tag : Nat) : Dev :=
  d.hostCmd (fun d =>
    match d.link.slots.findIdx? (fun o => o.any (fun x => x.tag == tag && x.cmd == cmd)) with
    | none => d.linkAbort cmd 0 0 0x0603
    | some s =>
      match (d.slot s).bind (·.res) with
      | none => d.seqInc.say [1, oct s, oct tag]
      | some r => (d.setSlot s none).sayRes r)

/-- A READY slot is not collected within 10 ms (03 R105). -/
def Dev.slotExpiry (d : Dev) (s : Nat) : Dev :=
  match d.slot s with
  | some x =>
    (match x.res with
     | some r =>
       let d := ((d.afterMs x.since 10).setSlot s none).inc 0x181003
       (match r with
        | .abort c p => d.slotAbort x.cmd x.idx x.sub c p
        | .ok _ => d)
     | none => d)
  | none => d

/-- A slot has been PENDING for 1 s (03 R105): what it waited for goes on without it, and its abort is counted (02 R60, R80). -/
def Dev.slotTimeout (d : Dev) (s : Nat) : Dev :=
  match d.slot s with
  | some x =>
    if x.res.isSome then d
    else
      let d := d.afterMs x.since 1000
      let d := if x.peer = 0xFF then d.setLk (fun l => { l with orphans := l.orphans ++ [(x.cmd, x.idx, x.sub, false)] })
        else d.setLk (fun l => { l with remotes := l.remotes.map (fun (y : Remote) =>
          if y.peer == x.peer && y.slot == s && y.fate == 0 then { y with fate := 2 } else y) })
      (d.settleTxn 0 x.cmd x.idx x.sub (some 0x0601)).slotReady s (.abort 0x0601 0)
  | none => d

/-! ### Memory commands (03 R108-R114) -/


/-- The first check of R108 that fails: an abort code, 0 for BLOCK_OFF, and for 0203h the barge. -/
def Dev.memCheck (d : Dev) (a n : Nat) (write : Bool) : Option (Nat × Nat) :=
  if n = 0 || 4096 < n then some (0x0302, 0)
  else if 0x1FFFFF < a + n - 1 then some (0x0301, 0)
  else if (bargesOf a n).any (fun b => !d.bankOn (bankOf b)) then some (0, 0)
  else ((bargesOf a n).find? (fun b => !d.hostMay b write)).map (fun b => (0x0203, b))

/-- A memory command that fails its checks (03 R109; 06 R217; 09 R304). -/
def Dev.memFail (d : Dev) (a : Nat) (e : Nat × Nat) : Dev :=
  if e.1 = 0 then ((d.accessOff 0 a).seqInc).say [2]
  else (if e.1 = 0x0203 then d.ownerRefused e.2 0xFF 0 else d).sayAbort e.1 0

/-- MEM_WRITE (03 R110, R113); its partial words are read with the errors they show (09 R310, R314). -/
def Dev.hostMemWrite (d : Dev) (a : Nat) (data : Oct) (ss : List Strike) : Dev :=
  d.hostCmd (fun d =>
    let n := data.length
    let d := d.awaitOpen (bargesOf a (min n 4096))
    match d.memCheck a n true with
    | some e => d.memFail a e
    | none =>
      (((d.strike ss).writeMem a data).setLk (fun l => { l with
        wrote := some d.ck,
        ra := l.ra.filter (fun x => !(a < x.1 + 64 && x.1 < a + n)) })).sayOk [])

/-- The octets of a read: those the buffer holds come from it, the others from memory (03 R112). -/
def Dev.memFetch (d : Dev) (a n : Nat) (ss : List Strike) (ra : Option (Nat × Oct)) : Oct × List Nat × Dev :=
  let held (x : Nat) : Bool := ra.any (fun l => l.1 ≤ x && x < l.1 + 64)
  let r := d.eccScan ((wordsOf a n).filter (fun w => !held w)) ss
  let m := maskFailed r.1 a (d.memAt a n)
  let l := match ra with
    | some e => m.zipIdx.map (fun x => if held (a + x.2) then e.2.getD (a + x.2 - e.1) 0 else x.1)
    | none => m
  (l, r.1, r.2)

/-- The read-ahead after a MEM_READ: the next 64-octet line of the same barge is read, and held unless it holds an uncorrectable
word (03 R112, 09 R310, R311; log entry 16). -/
def Dev.readAhead (d : Dev) (a n : Nat) : Dev :=
  let last := a + n - 1
  let line := (last / 64 + 1) * 64
  if d.rd 0x180002 = 0 || line / 256 ≠ last / 256 then d
  else
    let r := d.readMem line 64 []
    if r.2.1.isEmpty then r.2.2.setLk (fun l => { l with ra := some (line, r.1) }) else r.2.2

/-- A peer may be about to write SOFT_RESET: its write waits in a lane, or a frame of the Towpath is not yet taken up (07 R247). -/
def Dev.resetComes (d : Dev) : Bool :=
  !d.tow.inbox.isEmpty ||
    d.tow.lanes.any (fun l => l.ops.any (fun x => octAt x.op 0 == 10 && leAt x.op 10 2 == 0x2200 && octAt x.op 12 == 4))

/-- A touched bank, or PM0, is asked or about to leave ON, or may be reset by a peer (03 R111). -/
def Dev.mayLeave (d : Dev) (bs : List Nat) : Bool :=
  d.resetComes || (dPM0 :: bs.map (fun b => bankDom (bankOf b))).any (fun n =>
    (d.transOf n).isSome || (d.dom n).resetReq || (d.dom n).pend == some .off || (d.dom n).pend == some .retention)

/-- The `n` data octets and END from the octets `l` read (03 R111); `cut` says that a touched bank left ON after those. -/
def readTail (l : Oct) (n : Nat) (failed cut : Bool) : Oct :=
  if cut then l ++ zeros (n - l.length) ++ [2] else l ++ [if failed then 1 else 0]

/-- The read of a memory command that is in time (03 R108-R112); `left` is the number of octets read when a touched bank left ON,
if one did. -/
def Dev.memReadNow (d : Dev) (a n : Nat) (ss : List Strike) (left : Option Nat) (acquire : Bool) : Dev :=
  let bs := bargesOf a (min n 4096)
  let d := d.awaitOpen bs
  match d.memCheck a n false with
  | some e => d.memFail a e
  | none =>
    let left := if d.mayLeave bs then left else none
    let r := d.memFetch a (min (left.getD n) n) ss (if acquire then none else d.link.ra)
    let d := r.2.2
    let d := match r.2.1, left with
      | w :: _, none => d.fault 9 dCORE 0x0701 w n 0
      | _, _ => d
    let d := if acquire || left.isSome then d else d.readAhead a n
    d.sayOk (readTail r.1 n (!r.2.1.isEmpty) left.isSome)

/-- MEM_READ (03 Table 3.3). -/
def Dev.hostMemRead (d : Dev) (a n : Nat) (ss : List Strike) (left : Option Nat) (tm : Timing) : Dev :=
  d.hostCmd (fun d => if d.late 72 tm then (d.inc 0x181005).busy else d.memReadNow a n ss left false)

/-! ### Dictionary operations of peers (15 R554, R555) -/

/-- An access a peer has no right to (15 R555). -/
def Dev.dictRight (d : Dev) (n idx : Nat) (write : Bool) : Bool :=
  if write then d.flag 0x600011 n else (0x1000 ≤ idx && idx ≤ 0x1FFF) || d.flag 0x600010 n

/-- The result of a peer's transaction, or its wait (15 R554). -/
def Dev.peerDict (_d : Dev) (i : Nat) (x : LaneOp) (r : DRes) : Dev :=
  let idx := leAt x.op 10 2
  let sb := octAt x.op 12
  let ini := peerIni x.peer
  let cmd := 0x58 + opCode x.op
  match r with
  | .ok body d => ((d.settleTxn ini cmd idx sb none).dictAnswer x.peer x.epoch x.op (.ok body)).laneDone i
  | .abort c d => ((d.settleTxn ini cmd idx sb (some c)).dictAnswer x.peer x.epoch x.op (.abort c 0)).laneDone i
  | .pend d => (d.setTow (fun t => { t with dicts := t.dicts ++ [⟨x.peer, x.epoch, x.op⟩] })).laneDone i

/-- DICT_READ or DICT_WRITE at the head of a lane: it waits while the engine has one of that peer in hand (02 R54, 15 R554). -/
def Dev.laneDict (d : Dev) (i code : Nat) : Dev :=
  match d.laneHead i [code] with
  | (none, d) => d
  | (some x, d) =>
    let d := d.nextCk
    let idx := leAt x.op 10 2
    let sb := octAt x.op 12
    let ini := peerIni x.peer
    match d.domAbort dCORE with
    | some c => (d.respond x c [] false).laneDone i
    | none =>
      if !d.link.ready || d.tow.dicts.any (fun e => e.peer == x.peer) then d
      else if !d.dictRight x.peer idx (code == 10) then d.peerDict i x (.abort 0x0203 d)
      else if code = 10 then
        let v := d.laneData x
        d.peerDict i x (if v.2.1 then .abort 0x0701 v.2.2
          else v.2.2.dictWrite ini idx sb (octAt x.op 13) (opOffset x.op) (v.1.take (opLen x.op)))
      else
        let r := d.dictRead ini idx sb (opOffset x.op) (opLen x.op)
        let d' := d.peerDict i x r
        match r with
        | .pend _ => d'.cacheRead ini (128 * (idx - 0x5A00) + sb - 1)
        | _ => d'

/-- The operation at the head of a lane applied, whatever its code. -/
def Dev.laneStep (d : Dev) (i : Nat) : Dev :=
  match (d.lane i).ops with
  | [] => d
  | x :: _ =>
    match opCode x.op with
    | 1 => d.laneRead i 1 []
    | 2 => d.laneRead i 2 []
    | 3 => d.laneWrite i []
    | 4 => d.laneReserve i []
    | 5 => d.laneAtomic i 5 []
    | 6 => d.laneAtomic i 6 []
    | 7 => d.laneAtomic i 7 []
    | 8 => d.laneFrame i
    | 9 => d.laneDict i 9
    | 10 => d.laneDict i 10
    | _ => d.laneResponse i

/-- A lane applied until it holds no write (03 R114). -/
def Dev.laneDrain (d : Dev) (i : Nat) : Nat → Dev
  | 0 => d
  | n + 1 => if (d.lane i).ops.any (fun x => opCode x.op == 3 || opCode x.op == 4) then (d.laneStep i).laneDrain i n else d

/-- MEM_READ_ACQUIRE (03 R113, R114; 15 R550): acknowledged writes of peers reach memory first. -/
def Dev.hostMemAcquire (d : Dev) (a n : Nat) (ss : List Strike) (left : Option Nat) (tm : Timing) : Dev :=
  d.hostCmd (fun d =>
    if d.late 200 tm then (d.inc 0x181005).busy
    else
      let d := (d.setLk (fun l => { l with ra := none })).cacheDrop (fun _ => true)
      let d := forEach (List.range 4) d (fun i d => d.laneDrain i (2 * (d.lane i).ops.length))
      d.memReadNow a n ss left true)

/-! ### STATUS_POLL, DOORBELL, INT_COMPLETE (03 R115-R118) -/

/-- A mask of the entries of a list that a predicate picks out. -/
def maskOf {α : Type} (l : List α) (p : α → Bool) : Nat := l.zipIdx.foldl (fun a e => if p e.1 then a + 2 ^ e.2 else a) 0

/-- The octets of STATUS_POLL (03 Table 3.5). -/
def Dev.pollOctets (d : Dev) : Oct :=
  let l := d.link
  let ints := maskOf (List.range 4) (fun t => (d.offerTo t).isSome) + 16 * maskOf (List.range 4) d.faulted
  let fl := b2n l.ready + 2 * b2n d.localPending.isSome + 4 * b2n l.linkErr + 8 * b2n l.ra.isSome
  let pm := (List.range 4).foldl (fun a b => a + d.domStatus (bankDom b) % 4 * 4 ^ b) 0
  [oct (maskOf l.slots (fun o => o.any (·.res.isSome))), oct (maskOf l.slots (·.isSome)), oct ints, oct fl, oct pm, 0]
    ++ leOct 2 l.seq

/-- STATUS_POLL (03 R118). -/
def Dev.hostPoll (d : Dev) : Dev :=
  if d.linkAnswers then (d.say (0 :: d.pollOctets)).setLk (fun l => { l with linkErr := false }) else d.silent

/-- DOORBELL (03 R113, R115, R116). -/
def Dev.hostBell (d : Dev) (ring index : Nat) : Dev :=
  d.hostCmd (fun d =>
    let d := d.setLk (fun l => { l with ra := none })
    match d.doorbell ring index with
    | .ok d => d.sayOk []
    | .off => d.seqInc.say [2]
    | .abort c => d.sayAbort c 0)

/-- INT_COMPLETE (03 R117; 18 R634, R637, R638). -/
def Dev.hostComplete (d : Dev) (t s : Nat) : Dev :=
  d.hostCmd (fun d =>
    if 3 < t || 95 < s then d.sayAbort 0x0301 0
    else
    let r := d.intComplete t s
    if r.1 = 0 then r.2.sayOk [] else r.2.sayAbort r.1 0)

end Sys2Proof.Machine
end

