-- ==== Sys2Proof/WellFormed.lean ====
section
/-!
DEFINITION. Which terms are commands of the device: operands name parts it has and values an encoding can carry. What a command
may be sent with and the device then refuses (a value out of range, an object that does not exist) is well formed.
-/
namespace Sys2Proof

/-- Memory errors lie in packet memory (01 R28, R29). -/
def strikesOk (l : List Strike) : Bool := l.all (fun s => s.addr < 2 ^ 21)

/-- The data octets a DLC stands for (14 R483; ISO 11898-1). -/
def dlcOctets (fdf : Bool) (dlc : Nat) : Nat :=
  if dlc ≤ 8 then dlc else if fdf then [12, 16, 20, 24, 32, 48, 64].getD (dlc - 9) 64 else 8

/-- A frame a CAN bus can carry (14, CAN FD frames). -/
def CanFrame.ok (f : CanFrame) : Bool :=
  (f.id < if f.ide then 2 ^ 29 else 2 ^ 11) && f.dlc < 16 && !(f.fdf && f.rtr) && (f.fdf || (!f.brs && !f.esi))
    && f.data.length == (if f.rtr then 0 else dlcOctets f.fdf f.dlc)

/-- An error kind of CAN_LAST_ERROR (14 Table 14.11). -/
def canKindOk (k : Nat) : Bool := 1 ≤ k && k ≤ 6

/-- A receive error names its kind. -/
def canErrOk : CanErr → Bool
  | .mk k _ => canKindOk k

/-- The end of a transmission names its error. -/
def canEndOk : CanEnd → Bool
  | .sent _ => true
  | .lost => true
  | .error k _ _ => canKindOk k

/-- The echoes of a cable are amplitudes of CD_AMPLITUDE's range in the order of their arrival, and phases 2 and 3 keep their
bounds (12 R438). -/
def echoOk (e : Echo) : Bool :=
  e.us ≤ 2000 && e.result < 7 && e.echoes.all (fun x => -32768 ≤ x.2 && x.2 < 32768)
    && (e.echoes.zip (e.echoes.drop 1)).all (fun x => x.1.1 ≤ x.2.1)

/-- The fields fit their places in TOW_ISSUE (15 Table 15.6). -/
def IssueFields.ok (f : IssueFields) : Bool :=
  f.slot < 256 && f.peer < 256 && f.win < 16 && f.scope < 4 && f.barge < 2 ^ 16 && f.rsvWin < 256 && f.off < 2 ^ 32
    && f.len < 2 ^ 16 && f.opA < 2 ^ 64 && f.opB < 2 ^ 64

/-- The term is a command of the device. -/
def Instr.wf : Instr → Bool
  | .pllLockLoss => true
  | .crystalStop => true
  | .crystalRestart => true
  | .dictRead idx sub off len _ => idx < 2 ^ 16 && sub < 2 ^ 8 && off < 2 ^ 32 && len < 2 ^ 16
  | .dictWrite idx sub ty off data _ => idx < 2 ^ 16 && sub < 2 ^ 8 && ty < 2 ^ 8 && off < 2 ^ 32 && data.length < 2 ^ 16
  | .domainSegment img off data _ => img < 14 && off < 2 ^ 32 && data.length < 2 ^ 16
  | .imageCheckDone img => img < 14
  | .domainTransferTimeout img => img < 14
  | .queryAddr v _ => v < 2 ^ 32
  | .memRead addr len strikes _ _ => addr < 2 ^ 24 && len < 2 ^ 16 && strikesOk strikes
  | .memWrite addr data strikes => addr < 2 ^ 24 && data.length < 2 ^ 16 && strikesOk strikes
  | .memReadAcquire addr len strikes _ _ => addr < 2 ^ 24 && len < 2 ^ 16 && strikesOk strikes
  | .statusPoll => true
  | .doorbell ring index => ring < 2 ^ 8 && index < 2 ^ 16
  | .intComplete target source => target < 2 ^ 8 && source < 2 ^ 8
  | .dictReadRemote peer idx sub off len => peer < 2 ^ 8 && idx < 2 ^ 16 && sub < 2 ^ 8 && off < 2 ^ 32 && len < 2 ^ 16
  | .dictWriteRemote peer idx sub ty off data =>
    peer < 2 ^ 8 && idx < 2 ^ 16 && sub < 2 ^ 8 && ty < 2 ^ 8 && off < 2 ^ 32 && data.length < 2 ^ 16
  | .reissue cmd tag => [0x11, 0x12, 0x61, 0x62].contains cmd && 1 ≤ tag && tag < 2 ^ 8
  | .slotReadyExpiry slot => slot < 8
  | .slotPendingTimeout slot => slot < 8
  | .csEarlyRise => true
  | .unknownCommand code =>
    code < 2 ^ 8 && !([0x11, 0x12, 0x21, 0x22, 0x23, 0x31, 0x41, 0x51, 0x61, 0x62].contains (code % 128))
  | .hostLinkReset v _ => v < 2 ^ 8
  | .jobStart slot _ => slot < 4
  | .jobSuspend slot _ => slot < 4
  | .jobResume slot _ => slot < 4
  | .jobCancel slot _ => slot < 4
  | .jobSuspendPoint slot => slot < 4
  | .jobCancelDone slot => slot < 4
  | .poundScrubBarge slot strikes => slot < 4 && strikesOk strikes
  | .bankTestPass slot bad => slot < 4 && bad.all (fun w => w < 2 ^ 21)
  | .tableLoadDone slot _ => slot < 4
  | .cableDiagPhase slot echo => slot < 4 && echoOk echo
  | .powerOnReset => true
  | .porEnd => true
  | .oscStable => true
  | .aonTrimsDone _ _ => true
  | .supplyDown _ => true
  | .downToBackup us _ => us ≤ 40
  | .mainReturn => true
  | .qualifyExpiry => true
  | .supplyBounce _ => true
  | .stretchEnd => true
  | .brownOut _ => true
  | .brownoutLowBackup => true
  | .lockoutEnd => true
  | .energySample vinCode vbakCode _ _ => vinCode < 4096 && vbakCode < 4096
  | .podlClassify _ _ => true
  | .podlPowerOn => true
  | .podlTurnOff => true
  | .domReq dom v _ => dom < 16 && v < 2 ^ 8
  | .domainSelect => true
  | .domainDrainDone => true
  | .domainPowerFail => true
  | .domainTransitionEnd badImages => badImages.all (· < 14)
  | .ownerScanDone bank => bank < 4
  | .wakeEdge latch => latch < 16
  | .wakeClear v _ => v < 2 ^ 16
  | .tempSample celsius => -128 ≤ celsius && celsius < 128
  | .retentionRefresh bank => bank < 4
  | .bankRefresh bank => bank < 4
  | .pllLocked => true
  | .pllLockTimeout => true
  | .nvLoadDone _ => true
  | .resetNAssert _ => true
  | .resetNRelease => true
  | .softReset v _ => v < 2 ^ 16
  | .domReset n _ => n < 2 ^ 8
  | .journalChunkWritten => true
  | .journalCheckWritten => true
  | .journalCommitMark _ => true
  | .homeChunkWritten _ => true
  | .sectorErased => true
  | .commitWordVoid => true
  | .poundEnable p _ => p < 16
  | .poundEnabled p stuck => p < 16 && stuck.all (fun w => w < 2 ^ 21)
  | .poundDisable p _ => p < 16
  | .allocReq v _ => v < 2 ^ 16
  | .freeReq v _ => v < 2 ^ 16
  | .bargeQuery v _ => v < 2 ^ 16
  | .lockCycleClose bank => bank < 4
  | .lockCycleOpen bank strikes => bank < 4 && strikesOk strikes
  | .zeroingDone barge stuck => barge < 8192 && stuck.all (fun w => w < 2 ^ 21)
  | .ringStop ring _ => ring < 56
  | .ringRun ring _ => ring < 56
  | .ringReset ring _ => ring < 56
  | .ringStopped ring => ring < 56
  | .chainFetch ring strikes => ring < 56 && strikesOk strikes
  | .chainComplete ring => ring < 56
  | .rxDescriptorWrite ring => ring < 56
  | .ringCoalTimeout ring => ring < 56
  | .frameReceived port f => port < 4 && f.octets.length < 2 ^ 16
  | .classifyFrame => true
  | .txSelect port => port < 4
  | .frameTransmitted port _ strikes _ => port < 4 && strikesOk strikes
  | .pauseTimerExpiry port => port < 2
  | .pauseRefresh port => port < 2
  | .pauseSend port v _ => port < 2 && v < 2 ^ 16
  | .pauseWdBreak port => port < 2
  | .pauseStrikeReset port => port < 2
  | .pauseRearm port v _ => port < 2 && v < 2 ^ 8
  | .tsoEnable port _ => port < 2
  | .tsoDisable port _ => port < 2
  | .wakeListen port v _ => port < 4 && v < 2 ^ 8
  | .pralineEnable v _ => v < 2 ^ 16
  | .portStop port _ => port < 4
  | .portStart port _ => port < 4
  | .mdioFrameDone data => data < 2 ^ 16
  | .mdioPoll => true
  | .mdioC22Read phy reg _ => phy < 32 && reg < 32
  | .mdioC22Write phy reg data _ => phy < 32 && reg < 32 && data < 2 ^ 16
  | .mdioC45Read phy dev reg _ => phy < 32 && dev < 32 && reg < 2 ^ 16
  | .mdioC45Write phy dev reg data _ => phy < 32 && dev < 32 && reg < 2 ^ 16 && data < 2 ^ 16
  | .govEnable v _ => v < 2 ^ 8
  | .govWindow => true
  | .govStepDrained => true
  | .govHoldLimitExpiry => true
  | .t1lLinkChange _ _ _ _ far => far ≤ 2
  | .t1lSqiUpdate sqi mse => sqi < 8 && mse < 2 ^ 16
  | .plcaBeaconSend port => port == 2 || port == 3
  | .plcaBeaconReceived port => port == 2 || port == 3
  | .plcaBeaconLoss port => port == 2 || port == 3
  | .plcaIdConflict port => port == 2 || port == 3
  | .plcaIdConflictClear port => port == 2 || port == 3
  | .sgCarrierMeasure port node _ => (port == 2 || port == 3) && node < 32
  | .sgHoldExpiry port => port == 2 || port == 3
  | .sgYield port _ => port == 2 || port == 3
  | .sgDriftExpiry port node => (port == 2 || port == 3) && node < 32
  | .segCollision port _ _ => port == 2 || port == 3
  | .backoffExpiry port => port == 2 || port == 3
  | .mergeRelease grp strikes => grp < 4 && strikesOk strikes
  | .mergeWrite grp => grp < 4
  | .mergeTimeout grp => grp < 4
  | .grpStart grp _ => grp < 4
  | .grpStop grp _ => grp < 4
  | .grpStopped grp => grp < 4
  | .clsCommit _ => true
  | .clsTransit _ => true
  | .clsTransitRelease _ => true
  | .clsEnd _ => true
  | .clsAbandon _ => true
  | .transitTimeout => true
  | .canStart ch _ => ch < 2
  | .canStop ch _ => ch < 2
  | .canTxStart ch strikes => ch < 2 && strikesOk strikes
  | .canTxEnd ch e => ch < 2 && canEndOk e
  | .canRxFrame ch f => ch < 2 && f.ok
  | .canBusOff ch => ch < 2
  | .canRecover ch v _ => ch < 2 && v < 2 ^ 8
  | .canBusOffRecovered ch => ch < 2
  | .bridgeInput => true
  | .brgRun v _ => v < 2 ^ 8
  | .omPeriodExpiry om => om < 64
  | .omGapExpiry om => om < 64
  | .signalStale sig => sig < 512
  | .brgCacheRead sig _ => sig < 512
  | .fetchTimeout sig => sig < 512
  | .reservationBackoffExpiry n tag => n < 16 && tag < 2 ^ 8
  | .towStart _ => true
  | .towStop _ => true
  | .peerEnable n v _ => n < 16 && v < 2 ^ 8
  | .helloTimer n => n < 16
  | .helloRx => true
  | .towDataRx => true
  | .towAckRx => true
  | .towAckDelay n => n < 16
  | .towRetransmitTimeout n => n < 16
  | .towDeadTimeout n => n < 16
  | .towKeepalive n => n < 16
  | .towForwardFrame => true
  | .opRead lane strikes => lane < 5 && strikesOk strikes
  | .opReadAcquire lane strikes => lane < 5 && strikesOk strikes
  | .opWrite lane strikes => lane < 5 && strikesOk strikes
  | .opWriteReserve lane strikes => lane < 5 && strikesOk strikes
  | .opFetchAdd lane strikes => lane < 5 && strikesOk strikes
  | .opSwap lane strikes => lane < 5 && strikesOk strikes
  | .opCas lane strikes => lane < 5 && strikesOk strikes
  | .opFrame lane => lane < 5
  | .opDictRead lane => lane < 5
  | .opDictWrite lane => lane < 5
  | .opResponse lane => lane < 5
  | .issueRead f _ => f.ok
  | .issueReadAcquire f _ => f.ok
  | .issueWrite f _ => f.ok
  | .issueWriteReserve f _ => f.ok
  | .issueFetchAdd f _ => f.ok
  | .issueSwap f _ => f.ok
  | .issueCas f _ => f.ok
  | .towSlotRelease v _ => v < 2 ^ 16
  | .towRsvRelease v _ => v < 2 ^ 8
  | .rsvHoldExpiry win => win < 8
  | .winEnable win _ => win < 8
  | .winDisable win _ => win < 8
  | .sluTick => true
  | .pwmPeriodStart out => out < 4
  | .sluOutEnable out v _ => out < 4 && v < 2 ^ 8
  | .sluArm v _ => v < 2 ^ 8
  | .sluStop v _ => v < 2 ^ 8
  | .sluHeartbeat v _ => v < 2 ^ 8
  | .sluHbTimeout out => out < 4
  | .sluHoldElapsed out => out < 4
  | .sluCoastEnd out => out < 4
  | .safeNAssert _ => true
  | .safeNRelease _ => true
  | .tachoEdge t _ => t < 4
  | .tachoWindow t => t < 4
  | .timeSet v _ => v < 2 ^ 80
  | .timeAdjust ns _ => -2 ^ 63 ≤ ns && ns < 2 ^ 63
  | .chCompareFire ch => ch < 4
  | .chPulseEnd ch => ch < 4
  | .ppsPulse => true
  | .chCapture ch _ _ _ => ch < 4
  | .chAck ch v _ => ch < 4 && v < 2 ^ 8
  | .chConfigWrite ch _ v _ => ch < 4 && v < 2 ^ 8
  | .tallyBoundary => true
  | .tallyTrigger v _ => v < 2 ^ 8
  | .tallyModeWrite period v _ => v < (if period then 2 ^ 16 else 2 ^ 8)
  | .intClaim target _ => target < 4
  | .srcStateWrite src v _ => src < 96 && v < 2 ^ 8
  | .intPendingWrite v _ => v < 2 ^ 96
  | .intFaultClear target v _ => target < 4 && v < 2 ^ 8
  | .faultLogWrite => true
  | .flAckSeq v _ => v < 2 ^ 16
  | .flClear v _ => v < 2 ^ 8
  | .monitorChangeOscStart _ => true
  | .podlInrushRampEnd => true
  | .canIntegrationEnd ch => ch < 2
  | .canRxError ch e => ch < 2 && canErrOk e
  | .generationCheckDone n => n ≤ 1100

end Sys2Proof
end

