-- ==== Sys2Proof/Machine/Settle.lean ====
section
/-!
DEFINITION. What every command ends with: consequences that the spec ties to a condition and to no event of their own, and the
operations of commands that belong to no unit alone.
-/
namespace Sys2Proof.Machine

/-- The pending bits of the level sources follow their conditions (18 R623). -/
def Dev.levels (d : Dev) : Dev := ((d.levelSet 3).levelSet 77).levelSet 92

/-- What follows in the same CK from the state a command leaves: a request for CORE whose response has left, a transition that
nothing holds, a start-up without its domain, low-power modes, the next NV write, claims of channels, credits of the bridge,
frames of sessions, held numbers, flow control, TSO claims; the level sources last. -/
@[irreducible] def Dev.settle (d : Dev) : Dev :=
  let d := (((d.coreRequest).transAsk).transBegins 1).startupWatch
  let d := (((d.nvmAfter).regulator).vbakSettle).clockGate
  let d := (((((d.nvKick).chanClaims).brgCredits).towPumpAll).issueRun 17).heldRelease
  let d := forEach (List.range 16) d (fun p d => d.poundMove p)
  let d := forEach [0, 1] d (fun p d => ((d.pauseWatch p).tsoRelease p).tsoUnclaim p)
  d.levels

/-- The device while no command waits: one CK passes (01 R21; log entry 2). -/
def Dev.idleCk (d : Dev) : Dev := (d.tick 1).settle

/-- POR (05 R151, R152; 07 R234, Table 7.2): everything but the NV array is as at State.reset. The CK count, the free values
taken, start-ups and the last response are the model's own records and go on; the board's VIO is none of the device's. -/
def Dev.porReset (d : Dev) : Dev :=
  { Dev.initial with
    nv := d.nvCollapse.nv, ck := d.ck, rng := { d.rng with ckx := 0 }, opens := d.opens,
    aon := { Dev.initial.aon with startups := d.aon.startups },
    sup := { Dev.initial.sup with vioSel := d.sup.vioSel, vioIn := d.sup.vioIn },
    link := { Dev.initial.link with lead := d.link.lead, response := d.link.response } }

/-- The clock's seconds count reaches TALLY_NEXT_S in the periodic mode (17 R613, R616). -/
def Dev.tallyPeriod (d : Dev) : Dev :=
  if d.on dTIME && d.rd 0x740001 = 1 then
    let due := d.rd 0x740005 * 1000000000 * clkUnit
    if due ≤ d.tm.clock || d.clkRate = 0 then d.boundary true false
    else
      (d.tick ((due - d.tm.clock + d.clkRate - 1) / d.clkRate - 1)).boundaryCk (fun d => d.boundary true false)
  else d

/-- The check of CLS_COMMIT ends: the write that waited has its result (13 R474, R475). -/
def Dev.genCheckDone (d : Dev) (n : Nat) : Dev :=
  match d.clsCheckDone n with
  | none => d
  | some (ini, none, d) => d.resolve ini 0x4000 5 (.ok [])
  | some (ini, some c, d) => d.resolve ini 0x4000 5 (.abort c 0)

/-- The octets of TOW_ISSUE (15 Table 15.6). -/
def issueOctets (op : Nat) (f : IssueFields) : Oct :=
  [oct op, oct f.slot, oct f.peer, oct (f.win + 16 * f.scope + 64 * b2n f.freeAfter + 128 * b2n f.release)]
    ++ leOct 2 f.barge ++ [oct f.rsvWin, 0] ++ leOct 4 f.off ++ leOct 2 f.len ++ [0, 0] ++ leOct 8 f.opA ++ leOct 8 f.opB

/-- A write of TOW_ISSUE by the host. -/
def Dev.hostIssue (d : Dev) (op : Nat) (f : IssueFields) (tm : Timing) : Dev :=
  d.hostWrite 0x6060 1 0 0 (issueOctets op f) tm

/-- MDIO_CMD as the host writes it (12 Table 12.3): `c45` holds the register of a clause 45 operation. -/
def mdioWord (op phy dev c45 data : Nat) : Nat :=
  op + 256 * phy + 2 ^ 16 * dev + 2 ^ 32 * c45 + 2 ^ 48 * data

/-- The descriptors of a ring are fetched by the block that owns it: a MAC's TX ring, a CAN TX ring (11 R346, 14 R488). -/
def Dev.chainFetch (d : Dev) (r : Nat) (ss : List Strike) : Dev :=
  if r < 32 then d.macFetch r ss
  else if 48 ≤ r && isTxRing r then d.canFetch r ss
  else d

/-- A command that names only parts the device has acts on the device and settles; another is no command (WellFormed). -/
def State.run (c : Instr) (s : State) (f : Dev → Dev) : Host.Outcome State Fault Refusal :=
  if c.wf then .next { s with dev := (f s.dev).settle } else .fault .illFormed

end Sys2Proof.Machine
end

