-- ==== Sys2Proof/Machine/CmdClock.lean ====
section
/-!
DEFINITION. Commands of the clock (01): what each does to the device.
-/
namespace Sys2Proof.Machine

/-- PLL_LOCK_LOSS. The PLL loses lock: handled as a RESET_n reset (01 R34; 07 R234). -/
def execPllLockLoss (s : State) : Host.Outcome State Fault Refusal :=
  State.run .pllLockLoss s (fun d => d.pllLoss)

/-- CRYSTAL_STOP. CKX stops: everything it clocks is held (01 R35). -/
def execCrystalStop (s : State) : Host.Outcome State Fault Refusal :=
  State.run .crystalStop s (fun d => d.crystalStop)

/-- CRYSTAL_RESTART. CKX runs again (01 R36). -/
def execCrystalRestart (s : State) : Host.Outcome State Fault Refusal :=
  State.run .crystalRestart s (fun d => d.crystalRestart)

end Sys2Proof.Machine
end

