-- ==== Sys2Proof/Machine/CmdDict.lean ====
section
/-!
DEFINITION. Commands of the object dictionary (02): what each does to the device.
-/
namespace Sys2Proof.Machine

/-- DICT_READ. A dictionary read by the host (02 R55; 03 R95-R100, R124, R125). -/
def execDictRead (idx sub off len : Nat) (tm : Timing) (s : State) : Host.Outcome State Fault Refusal :=
  State.run (.dictRead idx sub off len tm) s (fun d => d.hostStart.hostRead idx sub off len tm)

/-- DICT_WRITE. A dictionary write by the host (02 R55; 03 R95-R100, R124, R125). -/
def execDictWrite (idx sub ty off : Nat) (data : Oct) (tm : Timing) (s : State) : Host.Outcome State Fault Refusal :=
  State.run (.dictWrite idx sub ty off data tm) s (fun d => d.hostStart.hostWrite idx sub ty off data tm)

/-- DOMAIN_SEGMENT. A segment of a DOMAIN object (02 R61-R63). -/
def execDomainSegment (img off : Nat) (data : Oct) (tm : Timing) (s : State) : Host.Outcome State Fault Refusal :=
  State.run (.domainSegment img off data tm) s (fun d => d.hostStart.hostWrite (imgIdx img) 0 0x0B off data tm)

/-- IMAGE_CHECK_DONE. The check of a complete image ends (02 R64, R65). -/
def execImageCheckDone (img : Nat) (s : State) : Host.Outcome State Fault Refusal :=
  State.run (.imageCheckDone img) s (fun d => d.imgCheckDone img)

/-- DOMAIN_TRANSFER_TIMEOUT. An open DOMAIN transfer is discarded (02 R66). -/
def execDomainTransferTimeout (img : Nat) (s : State) : Host.Outcome State Fault Refusal :=
  State.run (.domainTransferTimeout img) s (fun d => d.imgTimeout img)

/-- QUERY_ADDR. A write of QUERY_ADDR: QUERY_RESULT describes the object named (02 R70). -/
def execQueryAddr (v : Nat) (tm : Timing) (s : State) : Host.Outcome State Fault Refusal :=
  State.run (.queryAddr v tm) s (fun d => d.hostStart.hostPut 0x1F0001 v tm)

end Sys2Proof.Machine
end

