-- ==== Sys2Proof/Machine/CmdLink.lean ====
section
/-!
DEFINITION. Commands of the host link (03): what each does to the device.
-/
namespace Sys2Proof.Machine

/-- MEM_READ. The host reads packet memory (03 R108, R109, R111-R113). -/
def execMemRead (addr len : Nat) (strikes : List Strike) (left : Option Nat) (tm : Timing) (s : State) :
    Host.Outcome State Fault Refusal :=
  State.run (.memRead addr len strikes left tm) s (fun d => d.hostStart.hostMemRead addr len strikes left tm)

/-- MEM_WRITE. The host writes packet memory (03 R108-R110). -/
def execMemWrite (addr : Nat) (data : Oct) (s : State) (strikes : List Strike := []) : Host.Outcome State Fault Refusal :=
  State.run (.memWrite addr data strikes) s (fun d => d.hostStart.hostMemWrite addr data strikes)

/-- MEM_READ_ACQUIRE. The host reads packet memory with acquire (03 R108, R111, R114). -/
def execMemReadAcquire (addr len : Nat) (strikes : List Strike) (left : Option Nat) (tm : Timing) (s : State) :
    Host.Outcome State Fault Refusal :=
  State.run (.memReadAcquire addr len strikes left tm) s (fun d => d.hostStart.hostMemAcquire addr len strikes left tm)

/-- STATUS_POLL. The host polls the status (03 R118, R125). -/
def execStatusPoll (s : State) : Host.Outcome State Fault Refusal :=
  State.run .statusPoll s (fun d => d.hostStart.hostPoll)

/-- DOORBELL. The host rings a doorbell (03 R115, R116; 10 R336). -/
def execDoorbell (ring index : Nat) (s : State) : Host.Outcome State Fault Refusal :=
  State.run (.doorbell ring index) s (fun d => d.hostStart.hostBell ring index)

/-- INT_COMPLETE. The host completes a source (03 R117; 18 R634, R637). -/
def execIntComplete (target source : Nat) (s : State) : Host.Outcome State Fault Refusal :=
  State.run (.intComplete target source) s (fun d => d.hostStart.hostComplete target source)

/-- DICT_READ_REMOTE. The host reads an object of a peer (03 R106, R107; 15 R554). -/
def execDictReadRemote (peer idx sub off len : Nat) (s : State) : Host.Outcome State Fault Refusal :=
  State.run (.dictReadRemote peer idx sub off len) s (fun d => d.hostStart.hostRemote 0x61 peer idx sub 0 off len [])

/-- DICT_WRITE_REMOTE. The host writes an object of a peer (03 R106, R107; 15 R554). -/
def execDictWriteRemote (peer idx sub ty off : Nat) (data : Oct) (s : State) : Host.Outcome State Fault Refusal :=
  State.run (.dictWriteRemote peer idx sub ty off data) s (fun d =>
    d.hostStart.hostRemote 0x62 peer idx sub ty off data.length data)

/-- REISSUE. A reissue collects the result of a retry slot (03 R103, R104). -/
def execReissue (cmd tag : Nat) (s : State) : Host.Outcome State Fault Refusal :=
  State.run (.reissue cmd tag) s (fun d => d.hostStart.hostReissue cmd tag)

/-- SLOT_READY_EXPIRY. A READY slot is released after 10 ms (03 R105). -/
def execSlotReadyExpiry (slot : Nat) (s : State) : Host.Outcome State Fault Refusal :=
  State.run (.slotReadyExpiry slot) s (fun d => d.slotExpiry slot)

/-- SLOT_PENDING_TIMEOUT. A slot PENDING for 1 s becomes READY with ABORT 0601h (03 R105). -/
def execSlotPendingTimeout (slot : Nat) (s : State) : Host.Outcome State Fault Refusal :=
  State.run (.slotPendingTimeout slot) s (fun d => d.slotTimeout slot)

/-- CS_EARLY_RISE. SPI_CS_n rises before the request is complete (03 R120). -/
def execCsEarlyRise (s : State) : Host.Outcome State Fault Refusal :=
  State.run .csEarlyRise s (fun d => d.framing)

/-- UNKNOWN_COMMAND. A command octet outside Table 3.2 (03 R123). -/
def execUnknownCommand (code : Nat) (s : State) : Host.Outcome State Fault Refusal :=
  State.run (.unknownCommand code) s (fun d => d.framing)

/-- HOST_LINK_RESET. A write of HOST_LINK_RESET (03 R126, R128). -/
def execHostLinkReset (v : Nat) (tm : Timing) (s : State) : Host.Outcome State Fault Refusal :=
  State.run (.hostLinkReset v tm) s (fun d => d.hostStart.hostPut 0x180003 v tm)

end Sys2Proof.Machine
end

