-- ==== Sys2Proof/Machine/CmdJob.lean ====
section
/-!
DEFINITION. Commands of the job engine (04): what each does to the device.
-/
namespace Sys2Proof.Machine

/-- JOB_START. START written to JOB_CMD (04 R131, Table 4.1). -/
def execJobStart (slot : Nat) (tm : Timing) (s : State) : Host.Outcome State Fault Refusal :=
  State.run (.jobStart slot tm) s (fun d => d.hostStart.hostPut (jobKey slot 2) 1 tm)

/-- JOB_SUSPEND. SUSPEND written to JOB_CMD (04 R132, R133). -/
def execJobSuspend (slot : Nat) (tm : Timing) (s : State) : Host.Outcome State Fault Refusal :=
  State.run (.jobSuspend slot tm) s (fun d => d.hostStart.hostPut (jobKey slot 2) 2 tm)

/-- JOB_RESUME. RESUME written to JOB_CMD (04 R147). -/
def execJobResume (slot : Nat) (tm : Timing) (s : State) : Host.Outcome State Fault Refusal :=
  State.run (.jobResume slot tm) s (fun d => d.hostStart.hostPut (jobKey slot 2) 3 tm)

/-- JOB_CANCEL. CANCEL written to JOB_CMD (04 R132, R145). -/
def execJobCancel (slot : Nat) (tm : Timing) (s : State) : Host.Outcome State Fault Refusal :=
  State.run (.jobCancel slot tm) s (fun d => d.hostStart.hostPut (jobKey slot 2) 4 tm)

/-- JOB_SUSPEND_POINT. A job reaches its suspend point (04 R133). -/
def execJobSuspendPoint (slot : Nat) (s : State) : Host.Outcome State Fault Refusal :=
  State.run (.jobSuspendPoint slot) s (fun d => d.jobSuspendPoint slot)

/-- JOB_CANCEL_DONE. The undo of a cancelled job ends (04 R145). -/
def execJobCancelDone (slot : Nat) (s : State) : Host.Outcome State Fault Refusal :=
  State.run (.jobCancelDone slot) s (fun d => d.jobCancelDone slot)

/-- POUND_SCRUB_BARGE. POUND_SCRUB scrubs its next barge (09 R318). -/
def execPoundScrubBarge (slot : Nat) (strikes : List Strike) (s : State) : Host.Outcome State Fault Refusal :=
  State.run (.poundScrubBarge slot strikes) s (fun d => d.scrubBarge slot strikes)

/-- BANK_TEST_PASS. A pass of BANK_TEST ends; `bad` lists the words that failed (09 R319, R320). -/
def execBankTestPass (slot : Nat) (bad : List Nat) (s : State) : Host.Outcome State Fault Refusal :=
  State.run (.bankTestPass slot bad) s (fun d => d.bankTestPass slot bad)

/-- TABLE_LOAD_DONE. TABLE_LOAD ends (04 R138). -/
def execTableLoadDone (slot : Nat) (readOk : Bool) (s : State) : Host.Outcome State Fault Refusal :=
  State.run (.tableLoadDone slot readOk) s (fun d => d.tableLoadDone slot readOk)

/-- CABLE_DIAG_PHASE. A phase of CABLE_DIAG ends (12 R438, R439). -/
def execCableDiagPhase (slot : Nat) (echo : Echo) (s : State) : Host.Outcome State Fault Refusal :=
  State.run (.cableDiagPhase slot echo) s (fun d => d.cablePhase slot echo)

end Sys2Proof.Machine
end

