-- ==== Sys2Proof/Machine/CmdSupply.lean ====
section
/-!
DEFINITION. Commands of the supply and the stored-energy monitor (05): what each does to the device.
-/
namespace Sys2Proof.Machine

/-- POWER_ON_RESET. Both supplies fall below their absent thresholds (05 R151, R152; 07 R234). -/
def execPowerOnReset (s : State) : Host.Outcome State Fault Refusal :=
  State.run .powerOnReset s (fun d => d.porReset)

/-- POR_END. POR ends (05 R711). -/
def execPorEnd (s : State) : Host.Outcome State Fault Refusal :=
  State.run .porEnd s (fun d => d.porEnd)

/-- OSC_STABLE. The crystal oscillator is stable (21 R691; 06 R209). -/
def execOscStable (s : State) : Host.Outcome State Fault Refusal :=
  State.run .oscStable s (fun d => d.oscStable)

/-- AON_TRIMS_DONE. Start-up step 1 ends (07 R238). -/
def execAonTrimsDone (mainInRange vbakOk : Bool) (s : State) : Host.Outcome State Fault Refusal :=
  State.run (.aonTrimsDone mainInRange vbakOk) s (fun d => d.trimsDone mainInRange vbakOk)

/-- SUPPLY_DOWN. Main is lost: DOWN (05 R157, R161, R171). -/
def execSupplyDown (vbakOk : Bool) (s : State) : Host.Outcome State Fault Refusal :=
  State.run (.supplyDown vbakOk) s (fun d => d.supplyDown vbakOk)

/-- DOWN_TO_BACKUP. DOWN ends in BACKUP, 40 µs after it was entered at the latest (05 R157, R185). -/
def execDownToBackup (us : Nat) (mainInRange : Bool) (s : State) : Host.Outcome State Fault Refusal :=
  State.run (.downToBackup us mainInRange) s (fun d => d.toBackup us mainInRange)

/-- MAIN_RETURN. Main is in range again: QUALIFY (05 R157). -/
def execMainReturn (s : State) : Host.Outcome State Fault Refusal :=
  State.run .mainReturn s (fun d => d.mainReturn)

/-- QUALIFY_EXPIRY. QUALIFY ends in MAIN (05 R157, R158). -/
def execQualifyExpiry (s : State) : Host.Outcome State Fault Refusal :=
  State.run .qualifyExpiry s (fun d => d.qualifyExpiry)

/-- SUPPLY_BOUNCE. Main is lost during QUALIFY (05 R174). -/
def execSupplyBounce (dt : Nat) (s : State) : Host.Outcome State Fault Refusal :=
  State.run (.supplyBounce dt) s (fun d => d.bounce dt)

/-- STRETCH_END. The stretch of QUALIFY ends (05 R175). -/
def execStretchEnd (s : State) : Host.Outcome State Fault Refusal :=
  State.run .stretchEnd s (fun d => d.stretchEnd)

/-- BROWN_OUT. A brown-out (05 R168, R169). -/
def execBrownOut (coreRail : Bool) (s : State) : Host.Outcome State Fault Refusal :=
  State.run (.brownOut coreRail) s (fun d => d.brownOut coreRail)

/-- BROWNOUT_LOW_BACKUP. The brown-out of a DOWN entered without enough backup (05 R171). -/
def execBrownoutLowBackup (s : State) : Host.Outcome State Fault Refusal :=
  State.run .brownoutLowBackup s (fun d => d.lowBackup)

/-- LOCKOUT_END. The lockout of a brown-out ends (05 R170). -/
def execLockoutEnd (s : State) : Host.Outcome State Fault Refusal :=
  State.run .lockoutEnd s (fun d => d.lockoutEnd)

/-- ENERGY_SAMPLE. The monitor samples VIN and VBAK (05 R176). -/
def execEnergySample (vinCode vbakCode : Nat) (s : State) (vbakOk : Bool := false) (vio : Option Nat := none) :
    Host.Outcome State Fault Refusal :=
  State.run (.energySample vinCode vbakCode vbakOk vio) s (fun d => d.energyTick vinCode vbakCode vbakOk vio)

/-- PODL_CLASSIFY. The PoDL detection signature, and the classification where the PSE asks for it (05 R181, R182). -/
def execPodlClassify (ohms : Option Nat) (s : State) (asked : Bool := true) : Host.Outcome State Fault Refusal :=
  State.run (.podlClassify ohms asked) s (fun d => d.podlClassify ohms asked)

/-- PODL_POWER_ON. The partner applies power (05 R183). -/
def execPodlPowerOn (s : State) : Host.Outcome State Fault Refusal :=
  State.run .podlPowerOn s (fun d => d.podlPower)

/-- PODL_TURN_OFF. PoDL power is turned off (05 R184). -/
def execPodlTurnOff (s : State) : Host.Outcome State Fault Refusal :=
  State.run .podlTurnOff s (fun d => d.podlOff)

/-- PODL_INRUSH_RAMP_END. The inrush ramp ends (05 R183). -/
def execPodlInrushRampEnd (s : State) : Host.Outcome State Fault Refusal :=
  State.run .podlInrushRampEnd s (fun d => d.podlRamped)

/-- MONITOR_CHANGE_OSC_START. A comparator output changes: a stopped oscillator starts (06 R714). -/
def execMonitorChangeOscStart (s : State) (vbak : Option Bool := none) : Host.Outcome State Fault Refusal :=
  State.run (.monitorChangeOscStart vbak) s (fun d => d.monitorChange vbak)

end Sys2Proof.Machine
end

