-- ==== Sys2Proof/Machine/CmdPower.lean ====
section
/-!
DEFINITION. Commands of the power domains (06): what each does to the device.
-/
namespace Sys2Proof.Machine

/-- DOM_REQ. A write of DOM_REQ (06 R191-R193, R214). -/
def execDomReq (dom v : Nat) (tm : Timing) (s : State) : Host.Outcome State Fault Refusal :=
  State.run (.domReq dom v tm) s (fun d => d.hostStart.hostPut (0x211001 + dom) v tm)

/-- DOMAIN_SELECT. The controller selects a transition (06 R195, R196, R202). -/
def execDomainSelect (s : State) : Host.Outcome State Fault Refusal :=
  State.run .domainSelect s (fun d => d.domSelect)

/-- DOMAIN_DRAIN_DONE. The drain step of a transition ends (06 R201). -/
def execDomainDrainDone (s : State) : Host.Outcome State Fault Refusal :=
  State.run .domainDrainDone s (fun d => d.drainDone)

/-- DOMAIN_POWER_FAIL. A domain's supply does not come up (06 R222). -/
def execDomainPowerFail (s : State) : Host.Outcome State Fault Refusal :=
  State.run .domainPowerFail s (fun d => d.powerFail)

/-- DOMAIN_TRANSITION_END. The last step of a transition ends; `badImages` lists stored images that fail their check
at ON (06 R194). -/
def execDomainTransitionEnd (badImages : List Nat) (s : State) : Host.Outcome State Fault Refusal :=
  State.run (.domainTransitionEnd badImages) s (fun d => d.transEnds badImages)

/-- OWNER_SCAN_DONE. The owner scan of a kept bank ends (09 R323). -/
def execOwnerScanDone (bank : Nat) (s : State) : Host.Outcome State Fault Refusal :=
  State.run (.ownerScanDone bank) s (fun d => d.scanDone bank)

/-- WAKE_EDGE. A wake edge sets its latch (06 R208, R209). -/
def execWakeEdge (latch : Nat) (s : State) : Host.Outcome State Fault Refusal :=
  State.run (.wakeEdge latch) s (fun d => d.wakeEdge latch)

/-- WAKE_CLEAR. A write of WAKE_CLEAR (06 R210). -/
def execWakeClear (v : Nat) (tm : Timing) (s : State) : Host.Outcome State Fault Refusal :=
  State.run (.wakeClear v tm) s (fun d => d.hostStart.hostPut 0x214003 v tm)

/-- TEMP_SAMPLE. The temperature is sampled (06 R206). -/
def execTempSample (celsius : Int) (s : State) : Host.Outcome State Fault Refusal :=
  State.run (.tempSample celsius) s (fun d => d.tempSample celsius)

/-- RETENTION_REFRESH. A bank in RETENTION is refreshed (06 R205). -/
def execRetentionRefresh (bank : Nat) (s : State) : Host.Outcome State Fault Refusal :=
  State.run (.retentionRefresh bank) s (fun d => d.refresh bank .retention)

/-- BANK_REFRESH. A bank that is ON is refreshed (09 R315). -/
def execBankRefresh (bank : Nat) (s : State) : Host.Outcome State Fault Refusal :=
  State.run (.bankRefresh bank) s (fun d => d.refresh bank .on)

end Sys2Proof.Machine
end

