-- ==== Sys2Proof/Machine/CmdReset.lean ====
section
/-!
DEFINITION. Commands of reset and start-up (07): what each does to the device.
-/
namespace Sys2Proof.Machine

/-- PLL_LOCKED. The PLL reports lock (07 R229). -/
def execPllLocked (s : State) : Host.Outcome State Fault Refusal :=
  State.run .pllLocked s (fun d => d.pllLocked)

/-- PLL_LOCK_TIMEOUT. The PLL does not lock in time (07 R254). -/
def execPllLockTimeout (s : State) : Host.Outcome State Fault Refusal :=
  State.run .pllLockTimeout s (fun d => d.pllTimeout)

/-- NV_LOAD_DONE. The NV load ends (08 R276, R277; 07 R241). -/
def execNvLoadDone (found : LoadFound) (s : State) : Host.Outcome State Fault Refusal :=
  State.run (.nvLoadDone found) s (fun d => d.loadDone found)

/-- RESET_N_ASSERT. RESET_n goes low for `held` CK (07 R244). -/
def execResetNAssert (s : State) (held : Nat := 100) : Host.Outcome State Fault Refusal :=
  State.run (.resetNAssert held) s (fun d => d.resetNAssert held)

/-- RESET_N_RELEASE. RESET_n goes high (07 R245). -/
def execResetNRelease (s : State) : Host.Outcome State Fault Refusal :=
  State.run .resetNRelease s (fun d => d.resetNRelease)

/-- SOFT_RESET. A write of SOFT_RESET (07 R247). -/
def execSoftReset (v : Nat) (tm : Timing) (s : State) : Host.Outcome State Fault Refusal :=
  State.run (.softReset v tm) s (fun d => d.hostStart.hostPut 0x220004 v tm)

/-- DOM_RESET. A write of DOM_RESET (07 R249, R250). -/
def execDomReset (n : Nat) (tm : Timing) (s : State) : Host.Outcome State Fault Refusal :=
  State.run (.domReset n tm) s (fun d => d.hostStart.hostPut 0x220005 n tm)

end Sys2Proof.Machine
end

