-- ==== Sys2Proof/Machine/CmdNv.lean ====
section
/-!
DEFINITION. Commands of the NV store (08): what each does to the device.
-/
namespace Sys2Proof.Machine

/-- JOURNAL_CHUNK_WRITTEN. A chunk of a record is in the journal (08 R263). -/
def execJournalChunkWritten (s : State) : Host.Outcome State Fault Refusal :=
  State.run .journalChunkWritten s (fun d => d.nvStepEnds [1] true)

/-- JOURNAL_CHECK_WRITTEN. The check word of a record is in the journal (08 R263). -/
def execJournalCheckWritten (s : State) : Host.Outcome State Fault Refusal :=
  State.run .journalCheckWritten s (fun d => d.nvStepEnds [2] true)

/-- JOURNAL_COMMIT_MARK. The commit word of a record is in the journal; `pass`: its margin read passes (08 R260, R267). -/
def execJournalCommitMark (s : State) (pass : Bool := true) : Host.Outcome State Fault Refusal :=
  State.run (.journalCommitMark pass) s (fun d => d.nvStepEnds [3] pass)

/-- HOME_CHUNK_WRITTEN. A chunk or the mark of a home bank is written; `pass`: the margin read of the mark passes (08
R260, R274). -/
def execHomeChunkWritten (s : State) (pass : Bool := true) : Host.Outcome State Fault Refusal :=
  State.run (.homeChunkWritten pass) s (fun d => d.nvStepEnds [4] pass)

/-- SECTOR_ERASED. A sector is erased (08 R274, R285). -/
def execSectorErased (s : State) : Host.Outcome State Fault Refusal :=
  State.run .sectorErased s (fun d => d.nvStepEnds [5] true)

/-- COMMIT_WORD_VOID. A commit word that failed its margin read is voided (08 R715). -/
def execCommitWordVoid (s : State) : Host.Outcome State Fault Refusal :=
  State.run .commitWordVoid s (fun d => d.nvStepEnds [0] true)

end Sys2Proof.Machine
end

