-- ==== Sys2Proof/Machine/CmdPm.lean ====
section
/-!
DEFINITION. Commands of the packet memory (09): what each does to the device.
-/
namespace Sys2Proof.Machine

/-- POUND_ENABLE. 01h written to POUND_ENABLE (09 R296). -/
def execPoundEnable (p : Nat) (tm : Timing) (s : State) : Host.Outcome State Fault Refusal :=
  State.run (.poundEnable p tm) s (fun d => d.hostStart.hostPut (0x252003 + 256 * p) 1 tm)

/-- POUND_ENABLED. A pound is enabled (09 R296). -/
def execPoundEnabled (p : Nat) (s : State) (stuck : List Nat := []) : Host.Outcome State Fault Refusal :=
  State.run (.poundEnabled p stuck) s (fun d => d.poundEnabled p stuck)

/-- POUND_DISABLE. 00h written to POUND_ENABLE (09 R297). -/
def execPoundDisable (p : Nat) (tm : Timing) (s : State) : Host.Outcome State Fault Refusal :=
  State.run (.poundDisable p tm) s (fun d => d.hostStart.hostPut (0x252003 + 256 * p) 0 tm)

/-- ALLOC_REQ. A write of ALLOC_REQ (09 R299). -/
def execAllocReq (v : Nat) (tm : Timing) (s : State) : Host.Outcome State Fault Refusal :=
  State.run (.allocReq v tm) s (fun d => d.hostStart.hostPut 0x250801 v tm)

/-- FREE_REQ. A write of FREE_REQ (09 R300). -/
def execFreeReq (v : Nat) (tm : Timing) (s : State) : Host.Outcome State Fault Refusal :=
  State.run (.freeReq v tm) s (fun d => d.hostStart.hostPut 0x250803 v tm)

/-- BARGE_QUERY. A write of BARGE_QUERY (09 R325). -/
def execBargeQuery (v : Nat) (tm : Timing) (s : State) : Host.Outcome State Fault Refusal :=
  State.run (.bargeQuery v tm) s (fun d => d.hostStart.hostPut 0x250901 v tm)

/-- LOCK_CYCLE_CLOSE. A lock cycle begins: CLOSE (09 R305, R306). -/
def execLockCycleClose (bank : Nat) (s : State) : Host.Outcome State Fault Refusal :=
  State.run (.lockCycleClose bank) s (fun d => d.lockClose bank)

/-- LOCK_CYCLE_OPEN. A lock cycle ends its ZERO phase: OPEN (09 R305, R306). -/
def execLockCycleOpen (bank : Nat) (strikes : List Strike) (s : State) : Host.Outcome State Fault Refusal :=
  State.run (.lockCycleOpen bank strikes) s (fun d => d.lockOpen bank strikes)

/-- ZEROING_DONE. The zeroing of a freed barge ends; `stuck` lists words that fail it (09 R301). -/
def execZeroingDone (barge : Nat) (stuck : List Nat) (s : State) : Host.Outcome State Fault Refusal :=
  State.run (.zeroingDone barge stuck) s (fun d => d.zeroingDone barge stuck)

end Sys2Proof.Machine
end

