-- ==== Sys2Proof/Machine/CmdRing.lean ====
section
/-!
DEFINITION. Commands of the rings (10): what each does to the device.
-/
namespace Sys2Proof.Machine

/-- RING_STOP. STOP written to RING_CTRL (10 R331, R334). -/
def execRingStop (ring : Nat) (tm : Timing) (s : State) : Host.Outcome State Fault Refusal :=
  State.run (.ringStop ring tm) s (fun d => d.hostStart.hostPut (ringKey ring 3) 0 tm)

/-- RING_RUN. RUN written to RING_CTRL (10 R331). -/
def execRingRun (ring : Nat) (tm : Timing) (s : State) : Host.Outcome State Fault Refusal :=
  State.run (.ringRun ring tm) s (fun d => d.hostStart.hostPut (ringKey ring 3) 1 tm)

/-- RING_RESET. RESET written to RING_CTRL (10 R335). -/
def execRingReset (ring : Nat) (tm : Timing) (s : State) : Host.Outcome State Fault Refusal :=
  State.run (.ringReset ring tm) s (fun d => d.hostStart.hostPut (ringKey ring 3) 2 tm)

/-- RING_STOPPED. A stopping ring is quiet (10 R334). -/
def execRingStopped (ring : Nat) (s : State) : Host.Outcome State Fault Refusal :=
  State.run (.ringStopped ring) s (fun d => d.ringStopped ring)

/-- CHAIN_FETCH. A TX ring fetches a chain (10 R346, R349). -/
def execChainFetch (ring : Nat) (strikes : List Strike) (s : State) : Host.Outcome State Fault Refusal :=
  State.run (.chainFetch ring strikes) s (fun d => d.chainFetch ring strikes)

/-- CHAIN_COMPLETE. A chain completes (10 R348). -/
def execChainComplete (ring : Nat) (s : State) : Host.Outcome State Fault Refusal :=
  State.run (.chainComplete ring) s (fun d => d.chainComplete ring)

/-- RX_DESCRIPTOR_WRITE. An RX descriptor is written (10 R351). -/
def execRxDescriptorWrite (ring : Nat) (s : State) : Host.Outcome State Fault Refusal :=
  State.run (.rxDescriptorWrite ring) s (fun d => d.rxWrite ring)

/-- RING_COAL_TIMEOUT. RING_COAL_TIME expires (10 R353). -/
def execRingCoalTimeout (ring : Nat) (s : State) : Host.Outcome State Fault Refusal :=
  State.run (.ringCoalTimeout ring) s (fun d => d.ringCoalTimeout ring)

end Sys2Proof.Machine
end

