-- ==== Sys2Proof/Machine/CmdMac.lean ====
section
/-!
DEFINITION. Commands of the MACs (11): what each does to the device.
-/
namespace Sys2Proof.Machine

/-- FRAME_RECEIVED. A frame arrives at a port (11 R360). -/
def execFrameReceived (port : Nat) (f : WireFrame) (s : State) : Host.Outcome State Fault Refusal :=
  State.run (.frameReceived port f) s (fun d => d.rxFrame port f)

/-- CLASSIFY_FRAME. The classifier takes the next frame (13 R447). -/
def execClassifyFrame (s : State) : Host.Outcome State Fault Refusal :=
  State.run .classifyFrame s (fun d => d.clsAccept.classify (fun d f n => d.brgTake f n) (fun d f n => d.towPath f n))

/-- TX_SELECT. The MAC chooses what it sends (11 R378). -/
def execTxSelect (port : Nat) (s : State) : Host.Outcome State Fault Refusal :=
  State.run (.txSelect port) s (fun d => d.txSelect port)

/-- FRAME_TRANSMITTED. A transmission ends (10 R347). -/
def execFrameTransmitted (port : Nat) (deferred : Bool) (strikes : List Strike) (s : State) (sfdAgo : Nat := 0) :
    Host.Outcome State Fault Refusal :=
  State.run (.frameTransmitted port deferred strikes sfdAgo) s (fun d => d.txDone port deferred strikes sfdAgo)

/-- PAUSE_TIMER_EXPIRY. The pause timer reaches zero (11 R381). -/
def execPauseTimerExpiry (port : Nat) (s : State) : Host.Outcome State Fault Refusal :=
  State.run (.pauseTimerExpiry port) s (fun d => d.pauseExpire port)

/-- PAUSE_REFRESH. A pause that lasts is sent again (11 R382). -/
def execPauseRefresh (port : Nat) (s : State) : Host.Outcome State Fault Refusal :=
  State.run (.pauseRefresh port) s (fun d => d.pauseRefresh port)

/-- PAUSE_SEND. A write of PAUSE_SEND (11 R383). -/
def execPauseSend (port v : Nat) (tm : Timing) (s : State) : Host.Outcome State Fault Refusal :=
  State.run (.pauseSend port v tm) s (fun d => d.hostStart.hostPut (macKey 0x3820 port 6) v tm)

/-- PAUSE_WD_BREAK. The pause watchdog breaks a pause (11 R387). -/
def execPauseWdBreak (port : Nat) (s : State) : Host.Outcome State Fault Refusal :=
  State.run (.pauseWdBreak port) s (fun d => d.pauseBreak port)

/-- PAUSE_STRIKE_RESET. The strike count returns to 0 (11 R388). -/
def execPauseStrikeReset (port : Nat) (s : State) : Host.Outcome State Fault Refusal :=
  State.run (.pauseStrikeReset port) s (fun d => d.strikeReset port)

/-- PAUSE_REARM. A write of PAUSE_REARM (11 R389). -/
def execPauseRearm (port v : Nat) (tm : Timing) (s : State) : Host.Outcome State Fault Refusal :=
  State.run (.pauseRearm port v tm) s (fun d => d.hostStart.hostPut (macKey 0x3820 port 0x0A) v tm)

/-- TSO_ENABLE. 01h written to TSO_ENABLE (11 R376). -/
def execTsoEnable (port : Nat) (tm : Timing) (s : State) : Host.Outcome State Fault Refusal :=
  State.run (.tsoEnable port tm) s (fun d => d.hostStart.hostPut (macKey 0x3830 port 1) 1 tm)

/-- TSO_DISABLE. 00h written to TSO_ENABLE (11 R376). -/
def execTsoDisable (port : Nat) (tm : Timing) (s : State) : Host.Outcome State Fault Refusal :=
  State.run (.tsoDisable port tm) s (fun d => d.hostStart.hostPut (macKey 0x3830 port 1) 0 tm)

/-- WAKE_LISTEN. A write of WAKE_LISTEN (11 R392). -/
def execWakeListen (port v : Nat) (tm : Timing) (s : State) : Host.Outcome State Fault Refusal :=
  State.run (.wakeListen port v tm) s (fun d => d.hostStart.hostPut (macKey 0x3800 port 5) v tm)

/-- PRALINE_ENABLE. A write of PRALINE_ENABLE (11 R391). -/
def execPralineEnable (v : Nat) (tm : Timing) (s : State) : Host.Outcome State Fault Refusal :=
  State.run (.pralineEnable v tm) s (fun d => d.hostStart.hostPut 0x385011 v tm)

end Sys2Proof.Machine
end

