-- ==== Sys2Proof/Machine/CmdPort.lean ====
section
/-!
DEFINITION. Commands of the ports (12): what each does to the device.
-/
namespace Sys2Proof.Machine

/-- PORT_STOP. 00h written to PORT_RUN (12 R400). -/
def execPortStop (port : Nat) (tm : Timing) (s : State) : Host.Outcome State Fault Refusal :=
  State.run (.portStop port tm) s (fun d => d.hostStart.hostPut (portRunKey port) 0 tm)

/-- PORT_START. 01h written to PORT_RUN (12 R401). -/
def execPortStart (port : Nat) (tm : Timing) (s : State) : Host.Outcome State Fault Refusal :=
  State.run (.portStart port tm) s (fun d => d.hostStart.hostPut (portRunKey port) 1 tm)

/-- MDIO_FRAME_DONE. An MDIO frame ends; `data` is what a read returns (12 R408). -/
def execMdioFrameDone (data : Nat) (s : State) : Host.Outcome State Fault Refusal :=
  State.run (.mdioFrameDone data) s (fun d => d.mdioDone data)

/-- MDIO_POLL. MDIO_POLL_MS expires (12 R409). -/
def execMdioPoll (s : State) : Host.Outcome State Fault Refusal :=
  State.run .mdioPoll s (fun d => d.mdioPoll)

/-- MDIO_C22_READ. MDIO_CMD, clause 22 read (12 R413). -/
def execMdioC22Read (phy reg : Nat) (tm : Timing) (s : State) : Host.Outcome State Fault Refusal :=
  State.run (.mdioC22Read phy reg tm) s (fun d => d.hostStart.hostPut 0x301005 (mdioWord 1 phy reg 0 0) tm)

/-- MDIO_C22_WRITE. MDIO_CMD, clause 22 write (12 R413). -/
def execMdioC22Write (phy reg data : Nat) (tm : Timing) (s : State) : Host.Outcome State Fault Refusal :=
  State.run (.mdioC22Write phy reg data tm) s (fun d => d.hostStart.hostPut 0x301005 (mdioWord 2 phy reg 0 data) tm)

/-- MDIO_C45_READ. MDIO_CMD, clause 45 read (12 R412, R413). -/
def execMdioC45Read (phy dev reg : Nat) (tm : Timing) (s : State) : Host.Outcome State Fault Refusal :=
  State.run (.mdioC45Read phy dev reg tm) s (fun d => d.hostStart.hostPut 0x301005 (mdioWord 3 phy dev reg 0) tm)

/-- MDIO_C45_WRITE. MDIO_CMD, clause 45 write (12 R412, R413). -/
def execMdioC45Write (phy dev reg data : Nat) (tm : Timing) (s : State) : Host.Outcome State Fault Refusal :=
  State.run (.mdioC45Write phy dev reg data tm) s (fun d => d.hostStart.hostPut 0x301005 (mdioWord 4 phy dev reg data) tm)

/-- GOV_ENABLE. A write of GOV_ENABLE (12 R414). -/
def execGovEnable (v : Nat) (tm : Timing) (s : State) : Host.Outcome State Fault Refusal :=
  State.run (.govEnable v tm) s (fun d => d.hostStart.hostPut 0x302001 v tm)

/-- GOV_WINDOW. A governor window ends (12 R415, R416). -/
def execGovWindow (s : State) : Host.Outcome State Fault Refusal :=
  State.run .govWindow s (fun d => d.govWindow)

/-- GOV_STEP_DRAINED. The drain of a rate step ends (12 R417, R418). -/
def execGovStepDrained (s : State) : Host.Outcome State Fault Refusal :=
  State.run .govStepDrained s (fun d => d.govDrained)

/-- GOV_HOLD_LIMIT_EXPIRY. A hold of the governor reaches its limit (12 R444). -/
def execGovHoldLimitExpiry (s : State) : Host.Outcome State Fault Refusal :=
  State.run .govHoldLimitExpiry s (fun d => d.govHoldLimit)

/-- T1L_LINK_CHANGE. The Clause 146 link status changes (12 R422, R425). -/
def execT1lLinkChange (up able24 req24 master : Bool) (s : State) (far : Nat := 0) : Host.Outcome State Fault Refusal :=
  State.run (.t1lLinkChange up able24 req24 master far) s (fun d => d.t1lLink up able24 req24 far master)

/-- T1L_SQI_UPDATE. T1L_SQI and T1L_MSE are updated (12 R425). -/
def execT1lSqiUpdate (sqi mse : Nat) (s : State) : Host.Outcome State Fault Refusal :=
  State.run (.t1lSqiUpdate sqi mse) s (fun d => d.t1lSqi sqi mse)

/-- PLCA_BEACON_SEND. The coordinator sends BEACON (12 R428). -/
def execPlcaBeaconSend (port : Nat) (s : State) : Host.Outcome State Fault Refusal :=
  State.run (.plcaBeaconSend port) s (fun d => d.beaconSend port)

/-- PLCA_BEACON_RECEIVED. A BEACON is received (12 R428). -/
def execPlcaBeaconReceived (port : Nat) (s : State) : Host.Outcome State Fault Refusal :=
  State.run (.plcaBeaconReceived port) s (fun d => d.beaconRecv port)

/-- PLCA_BEACON_LOSS. No BEACON in time (12 R428). -/
def execPlcaBeaconLoss (port : Nat) (s : State) : Host.Outcome State Fault Refusal :=
  State.run (.plcaBeaconLoss port) s (fun d => d.beaconLoss port)

/-- PLCA_ID_CONFLICT. Another node uses the own PLCA ID (12 R442). -/
def execPlcaIdConflict (port : Nat) (s : State) : Host.Outcome State Fault Refusal :=
  State.run (.plcaIdConflict port) s (fun d => d.idConflict port)

/-- PLCA_ID_CONFLICT_CLEAR. The ID conflict is over (12 R442). -/
def execPlcaIdConflictClear (port : Nat) (s : State) : Host.Outcome State Fault Refusal :=
  State.run (.plcaIdConflictClear port) s (fun d => d.idConflictClear port)

/-- SG_CARRIER_MEASURE. The start of another node's carrier is measured (12 R430). -/
def execSgCarrierMeasure (port node : Nat) (o : Int) (s : State) : Host.Outcome State Fault Refusal :=
  State.run (.sgCarrierMeasure port node o) s (fun d => d.sgMeasure port node o)

/-- SG_HOLD_EXPIRY. The hold before the own opportunity ends (12 R433). -/
def execSgHoldExpiry (port : Nat) (s : State) : Host.Outcome State Fault Refusal :=
  State.run (.sgHoldExpiry port) s (fun d => d.sgHoldExpiry port)

/-- SG_YIELD. A carrier in the hold band: the opportunity is yielded (12 R434). -/
def execSgYield (port : Nat) (s : State) (into : Option Nat := none) : Host.Outcome State Fault Refusal :=
  State.run (.sgYield port into) s (fun d => d.sgYield port into)

/-- SG_DRIFT_EXPIRY. A node has not been measured for 1 s (12 R431). -/
def execSgDriftExpiry (port node : Nat) (s : State) : Host.Outcome State Fault Refusal :=
  State.run (.sgDriftExpiry port node) s (fun d => d.sgDriftExpiry port node)

/-- SEG_COLLISION. A collision on a segment (12 R443). -/
def execSegCollision (port : Nat) (late : Bool) (s : State) (deferred : Bool := false) : Host.Outcome State Fault Refusal :=
  State.run (.segCollision port late deferred) s (fun d => d.collision port late deferred)

/-- BACKOFF_EXPIRY. The back-off after a collision ends (12 R427). -/
def execBackoffExpiry (port : Nat) (s : State) : Host.Outcome State Fault Refusal :=
  State.run (.backoffExpiry port) s (fun d => d.backoffEnd port)

end Sys2Proof.Machine
end

