-- ==== Sys2Proof/Machine/CmdCls.lean ====
section
/-!
DEFINITION. Commands of the classifier and the merge unit (13): what each does to the device.
-/
namespace Sys2Proof.Machine

/-- MERGE_RELEASE. The merge unit takes the oldest released number (13 R467). -/
def execMergeRelease (grp : Nat) (strikes : List Strike) (s : State) : Host.Outcome State Fault Refusal :=
  State.run (.mergeRelease grp strikes) s (fun d => d.mergeRelease grp strikes)

/-- MERGE_WRITE. The merge unit writes a descriptor (13 R468). -/
def execMergeWrite (grp : Nat) (s : State) : Host.Outcome State Fault Refusal :=
  State.run (.mergeWrite grp) s (fun d => d.mergeWrite grp)

/-- MERGE_TIMEOUT. The oldest number has waited too long (13 R469). -/
def execMergeTimeout (grp : Nat) (s : State) : Host.Outcome State Fault Refusal :=
  State.run (.mergeTimeout grp) s (fun d => d.mergeTimeout grp)

/-- GRP_START. 01h written to GRP_RUN (13 R465). -/
def execGrpStart (grp : Nat) (tm : Timing) (s : State) : Host.Outcome State Fault Refusal :=
  State.run (.grpStart grp tm) s (fun d => d.hostStart.hostPut (grpKey grp 1) 1 tm)

/-- GRP_STOP. 00h written to GRP_RUN (13 R471). -/
def execGrpStop (grp : Nat) (tm : Timing) (s : State) : Host.Outcome State Fault Refusal :=
  State.run (.grpStop grp tm) s (fun d => d.hostStart.hostPut (grpKey grp 1) 0 tm)

/-- GRP_STOPPED. A stopping group is empty (13 R471). -/
def execGrpStopped (grp : Nat) (s : State) : Host.Outcome State Fault Refusal :=
  State.run (.grpStopped grp) s (fun d => d.grpStopped grp)

/-- CLS_COMMIT. COMMIT written to CLS_COMMIT (13 R474, R475). -/
def execClsCommit (tm : Timing) (s : State) : Host.Outcome State Fault Refusal :=
  State.run (.clsCommit tm) s (fun d => d.hostStart.hostPut 0x400005 1 tm)

/-- CLS_TRANSIT. TRANSIT written to CLS_COMMIT (13 R477). -/
def execClsTransit (tm : Timing) (s : State) : Host.Outcome State Fault Refusal :=
  State.run (.clsTransit tm) s (fun d => d.hostStart.hostPut 0x400005 2 tm)

/-- CLS_TRANSIT_RELEASE. TRANSIT AND RELEASE written to CLS_COMMIT (13 R478). -/
def execClsTransitRelease (tm : Timing) (s : State) : Host.Outcome State Fault Refusal :=
  State.run (.clsTransitRelease tm) s (fun d => d.hostStart.hostPut 0x400005 3 tm)

/-- CLS_END. END written to CLS_COMMIT (13 R473, R474). -/
def execClsEnd (tm : Timing) (s : State) : Host.Outcome State Fault Refusal :=
  State.run (.clsEnd tm) s (fun d => d.hostStart.hostPut 0x400005 4 tm)

/-- CLS_ABANDON. ABANDON written to CLS_COMMIT (13 R473). -/
def execClsAbandon (tm : Timing) (s : State) : Host.Outcome State Fault Refusal :=
  State.run (.clsAbandon tm) s (fun d => d.hostStart.hostPut 0x400005 5 tm)

/-- TRANSIT_TIMEOUT. TRANSIT has lasted CLS_TRANSIT_TIMEOUT (13 R480). -/
def execTransitTimeout (s : State) : Host.Outcome State Fault Refusal :=
  State.run .transitTimeout s (fun d => d.transitTimeout)

/-- GENERATION_CHECK_DONE. The check of the inactive generation ends (13 R474, R475), `n` CK after it began: at most
1,100 CK. -/
def execGenerationCheckDone (s : State) (n : Nat := 0) : Host.Outcome State Fault Refusal :=
  State.run (.generationCheckDone n) s (fun d => d.genCheckDone n)

end Sys2Proof.Machine
end

