-- ==== Sys2Proof/Machine/CmdCan.lean ====
section
/-!
DEFINITION. Commands of the CAN FD channels (14): what each does to the device.
-/
namespace Sys2Proof.Machine

/-- CAN_START. 01h written to CAN_RUN (14 R484). -/
def execCanStart (ch : Nat) (tm : Timing) (s : State) : Host.Outcome State Fault Refusal :=
  State.run (.canStart ch tm) s (fun d => d.hostStart.hostPut (canKey ch 1) 1 tm)

/-- CAN_STOP. 00h written to CAN_RUN (14 R490). -/
def execCanStop (ch : Nat) (tm : Timing) (s : State) : Host.Outcome State Fault Refusal :=
  State.run (.canStop ch tm) s (fun d => d.hostStart.hostPut (canKey ch 1) 0 tm)

/-- CAN_TX_START. The bus allows a new frame (14 R488). -/
def execCanTxStart (ch : Nat) (strikes : List Strike) (s : State) : Host.Outcome State Fault Refusal :=
  State.run (.canTxStart ch strikes) s (fun d => d.canTxStart ch strikes (fun d k c => d.fetchFail k c))

/-- CAN_TX_END. A transmission ends (14 R489). -/
def execCanTxEnd (ch : Nat) (e : CanEnd) (s : State) : Host.Outcome State Fault Refusal :=
  State.run (.canTxEnd ch e) s (fun d => d.canTxEnd ch e (fun d k c => d.fetchFail k c))

/-- CAN_RX_FRAME. A frame is received (14 R492). -/
def execCanRxFrame (ch : Nat) (f : CanFrame) (s : State) : Host.Outcome State Fault Refusal :=
  State.run (.canRxFrame ch f) s (fun d => d.canRxFrame ch f)

/-- CAN_BUS_OFF. The transmit error counter passes 255 (14 R491). -/
def execCanBusOff (ch : Nat) (s : State) : Host.Outcome State Fault Refusal :=
  State.run (.canBusOff ch) s (fun d => d.canBusOff ch (fun d k c => d.fetchFail k c))

/-- CAN_RECOVER. A write of CAN_RECOVER (14 R487). -/
def execCanRecover (ch v : Nat) (tm : Timing) (s : State) : Host.Outcome State Fault Refusal :=
  State.run (.canRecover ch v tm) s (fun d => d.hostStart.hostPut (canKey ch 14) v tm)

/-- CAN_BUS_OFF_RECOVERED. Recovery from bus-off ends (14 R487). -/
def execCanBusOffRecovered (ch : Nat) (s : State) : Host.Outcome State Fault Refusal :=
  State.run (.canBusOffRecovered ch) s (fun d => d.canRecovered ch)

/-- CAN_INTEGRATION_END. Bus integration ends (14 R487). -/
def execCanIntegrationEnd (ch : Nat) (s : State) : Host.Outcome State Fault Refusal :=
  State.run (.canIntegrationEnd ch) s (fun d => d.canIntegrated ch)

/-- CAN_RX_ERROR. A receive error (14 R487). -/
def execCanRxError (ch : Nat) (e : CanErr) (s : State) : Host.Outcome State Fault Refusal :=
  State.run (.canRxError ch e) s (fun d => match e with | .mk kind plus8 => d.canRxError ch kind plus8)

end Sys2Proof.Machine
end

