-- ==== Sys2Proof/Machine/CmdBridge.lean ====
section
/-!
DEFINITION. Commands of the bridge (14): what each does to the device.
-/
namespace Sys2Proof.Machine

/-- BRIDGE_INPUT. The bridge takes its next input (14 R511). -/
def execBridgeInput (s : State) : Host.Outcome State Fault Refusal :=
  State.run .bridgeInput s (fun d => d.bridgeInput)

/-- BRG_RUN. A write of BRG_RUN (14 R514). -/
def execBrgRun (v : Nat) (tm : Timing) (s : State) : Host.Outcome State Fault Refusal :=
  State.run (.brgRun v tm) s (fun d => d.hostStart.hostPut 0x540001 v tm)

/-- OM_PERIOD_EXPIRY. The period of an output message ends (14 R506). -/
def execOmPeriodExpiry (om : Nat) (s : State) : Host.Outcome State Fault Refusal :=
  State.run (.omPeriodExpiry om) s (fun d => d.omPeriod om)

/-- OM_GAP_EXPIRY. OM_MIN_GAP ends (14 R506). -/
def execOmGapExpiry (om : Nat) (s : State) : Host.Outcome State Fault Refusal :=
  State.run (.omGapExpiry om) s (fun d => d.omGap om)

/-- SIGNAL_STALE. A signal has not been received in time (14 R508). -/
def execSignalStale (sig : Nat) (s : State) : Host.Outcome State Fault Refusal :=
  State.run (.signalStale sig) s (fun d => d.sigStale sig)

/-- BRG_CACHE_READ. A read of the signal cache (14 R509). -/
def execBrgCacheRead (sig : Nat) (tm : Timing) (s : State) : Host.Outcome State Fault Refusal :=
  State.run (.brgCacheRead sig tm) s (fun d => d.hostStart.hostRead (cacheIdx sig) (cacheSub sig) 0 0 tm)

/-- FETCH_TIMEOUT. A fetch is not answered in time (14 R510). -/
def execFetchTimeout (sig : Nat) (s : State) : Host.Outcome State Fault Refusal :=
  State.run (.fetchTimeout sig) s (fun d => d.fetchTimeout sig)

end Sys2Proof.Machine
end

