-- ==== Sys2Proof/Machine/CmdTow.lean ====
section
/-!
DEFINITION. Commands of Towpath (15): what each does to the device.
-/
namespace Sys2Proof.Machine

/-- RESERVATION_BACKOFF_EXPIRY. The back-off of a reservation ends (14 R516). -/
def execReservationBackoffExpiry (n tag : Nat) (s : State) : Host.Outcome State Fault Refusal :=
  State.run (.reservationBackoffExpiry n tag) s (fun d => d.backoffExpiry n tag)

/-- TOW_START. 01h written to TOW_RUN (15 R535). -/
def execTowStart (tm : Timing) (s : State) : Host.Outcome State Fault Refusal :=
  State.run (.towStart tm) s (fun d => d.hostStart.hostPut 0x600001 1 tm)

/-- TOW_STOP. 00h written to TOW_RUN (15 R535). -/
def execTowStop (tm : Timing) (s : State) : Host.Outcome State Fault Refusal :=
  State.run (.towStop tm) s (fun d => d.hostStart.hostPut 0x600001 0 tm)

/-- PEER_ENABLE. A write of PEER_ENABLE (15 R521). -/
def execPeerEnable (n v : Nat) (tm : Timing) (s : State) : Host.Outcome State Fault Refusal :=
  State.run (.peerEnable n v tm) s (fun d => d.hostStart.hostPut (peerKey n 1) v tm)

/-- HELLO_TIMER. A HELLO is due (15 R523). -/
def execHelloTimer (n : Nat) (s : State) : Host.Outcome State Fault Refusal :=
  State.run (.helloTimer n) s (fun d => d.helloTimer n)

/-- HELLO_RX. A HELLO is taken from the received frames (15 R523, R524). -/
def execHelloRx (s : State) : Host.Outcome State Fault Refusal :=
  State.run .helloRx s (fun d => d.helloRx)

/-- TOW_DATA_RX. A DATA frame is taken from the received frames (15 R528, R529, R530). -/
def execTowDataRx (s : State) : Host.Outcome State Fault Refusal :=
  State.run .towDataRx s (fun d => d.dataRx)

/-- TOW_ACK_RX. An ACK is taken from the received frames (15 R531). -/
def execTowAckRx (s : State) : Host.Outcome State Fault Refusal :=
  State.run .towAckRx s (fun d => d.ackRx)

/-- TOW_ACK_DELAY. The delay of an ACK ends (15 R530). -/
def execTowAckDelay (n : Nat) (s : State) : Host.Outcome State Fault Refusal :=
  State.run (.towAckDelay n) s (fun d => d.ackDelay n)

/-- TOW_RETRANSMIT_TIMEOUT. The retransmission timer expires (15 R531, R532). -/
def execTowRetransmitTimeout (n : Nat) (s : State) : Host.Outcome State Fault Refusal :=
  State.run (.towRetransmitTimeout n) s (fun d => d.rtoExpiry n)

/-- TOW_DEAD_TIMEOUT. Nothing has arrived in time: the session is lost (15 R525). -/
def execTowDeadTimeout (n : Nat) (s : State) : Host.Outcome State Fault Refusal :=
  State.run (.towDeadTimeout n) s (fun d => d.deadTimeout n)

/-- TOW_KEEPALIVE. A keep-alive is due (15 R526). -/
def execTowKeepalive (n : Nat) (s : State) : Host.Outcome State Fault Refusal :=
  State.run (.towKeepalive n) s (fun d => d.keepalive n)

/-- TOW_FORWARD_FRAME. The bridge's next path frame goes into its session (15 R558). -/
def execTowForwardFrame (s : State) : Host.Outcome State Fault Refusal :=
  State.run .towForwardFrame s (fun d => d.forward)

/-- OP_READ. READ at the head of a lane (15 R543). -/
def execOpRead (lane : Nat) (strikes : List Strike) (s : State) : Host.Outcome State Fault Refusal :=
  State.run (.opRead lane strikes) s (fun d => d.laneRead lane 1 strikes)

/-- OP_READ_ACQUIRE. READ_ACQUIRE at the head of a lane (15 R543). -/
def execOpReadAcquire (lane : Nat) (strikes : List Strike) (s : State) : Host.Outcome State Fault Refusal :=
  State.run (.opReadAcquire lane strikes) s (fun d => d.laneRead lane 2 strikes)

/-- OP_WRITE. WRITE at the head of a lane (15 R543). -/
def execOpWrite (lane : Nat) (s : State) (strikes : List Strike := []) : Host.Outcome State Fault Refusal :=
  State.run (.opWrite lane strikes) s (fun d => d.laneWrite lane strikes)

/-- OP_WRITE_RESERVE. WRITE_RESERVE at the head of a lane (15 R551). -/
def execOpWriteReserve (lane : Nat) (s : State) (strikes : List Strike := []) : Host.Outcome State Fault Refusal :=
  State.run (.opWriteReserve lane strikes) s (fun d => d.laneReserve lane strikes)

/-- OP_FETCH_ADD. FETCH_ADD at the head of a lane (15 R544). -/
def execOpFetchAdd (lane : Nat) (strikes : List Strike) (s : State) : Host.Outcome State Fault Refusal :=
  State.run (.opFetchAdd lane strikes) s (fun d => d.laneAtomic lane 5 strikes)

/-- OP_SWAP. SWAP at the head of a lane (15 R544). -/
def execOpSwap (lane : Nat) (strikes : List Strike) (s : State) : Host.Outcome State Fault Refusal :=
  State.run (.opSwap lane strikes) s (fun d => d.laneAtomic lane 6 strikes)

/-- OP_CAS. CAS at the head of a lane (15 R544). -/
def execOpCas (lane : Nat) (strikes : List Strike) (s : State) : Host.Outcome State Fault Refusal :=
  State.run (.opCas lane strikes) s (fun d => d.laneAtomic lane 7 strikes)

/-- OP_FRAME. A tunnelled frame at the head of a lane (15 R557). -/
def execOpFrame (lane : Nat) (s : State) : Host.Outcome State Fault Refusal :=
  State.run (.opFrame lane) s (fun d => d.laneFrame lane)

/-- OP_DICT_READ. A peer's dictionary read at the head of a lane (15 R554, R555). -/
def execOpDictRead (lane : Nat) (s : State) : Host.Outcome State Fault Refusal :=
  State.run (.opDictRead lane) s (fun d => d.laneDict lane 9)

/-- OP_DICT_WRITE. A peer's dictionary write at the head of a lane (15 R554, R555). -/
def execOpDictWrite (lane : Nat) (s : State) : Host.Outcome State Fault Refusal :=
  State.run (.opDictWrite lane) s (fun d => d.laneDict lane 10)

/-- OP_RESPONSE. A response at the head of a lane (15 R548). -/
def execOpResponse (lane : Nat) (s : State) : Host.Outcome State Fault Refusal :=
  State.run (.opResponse lane) s (fun d => d.laneResponse lane)

/-- ISSUE_READ. TOW_ISSUE with READ (15 R546). -/
def execIssueRead (f : IssueFields) (tm : Timing) (s : State) : Host.Outcome State Fault Refusal :=
  State.run (.issueRead f tm) s (fun d => d.hostStart.hostIssue 1 f tm)

/-- ISSUE_READ_ACQUIRE. TOW_ISSUE with READ_ACQUIRE (15 R546). -/
def execIssueReadAcquire (f : IssueFields) (tm : Timing) (s : State) : Host.Outcome State Fault Refusal :=
  State.run (.issueReadAcquire f tm) s (fun d => d.hostStart.hostIssue 2 f tm)

/-- ISSUE_WRITE. TOW_ISSUE with WRITE (15 R546). -/
def execIssueWrite (f : IssueFields) (tm : Timing) (s : State) : Host.Outcome State Fault Refusal :=
  State.run (.issueWrite f tm) s (fun d => d.hostStart.hostIssue 3 f tm)

/-- ISSUE_WRITE_RESERVE. TOW_ISSUE with WRITE_RESERVE (15 R551). -/
def execIssueWriteReserve (f : IssueFields) (tm : Timing) (s : State) : Host.Outcome State Fault Refusal :=
  State.run (.issueWriteReserve f tm) s (fun d => d.hostStart.hostIssue 4 f tm)

/-- ISSUE_FETCH_ADD. TOW_ISSUE with FETCH_ADD (15 R546). -/
def execIssueFetchAdd (f : IssueFields) (tm : Timing) (s : State) : Host.Outcome State Fault Refusal :=
  State.run (.issueFetchAdd f tm) s (fun d => d.hostStart.hostIssue 5 f tm)

/-- ISSUE_SWAP. TOW_ISSUE with SWAP (15 R546). -/
def execIssueSwap (f : IssueFields) (tm : Timing) (s : State) : Host.Outcome State Fault Refusal :=
  State.run (.issueSwap f tm) s (fun d => d.hostStart.hostIssue 6 f tm)

/-- ISSUE_CAS. TOW_ISSUE with CAS (15 R546). -/
def execIssueCas (f : IssueFields) (tm : Timing) (s : State) : Host.Outcome State Fault Refusal :=
  State.run (.issueCas f tm) s (fun d => d.hostStart.hostIssue 7 f tm)

/-- TOW_SLOT_RELEASE. A write of TOW_SLOT_RELEASE (15 R548). -/
def execTowSlotRelease (v : Nat) (tm : Timing) (s : State) : Host.Outcome State Fault Refusal :=
  State.run (.towSlotRelease v tm) s (fun d => d.hostStart.hostPut 0x606004 v tm)

/-- TOW_RSV_RELEASE. A write of TOW_RSV_RELEASE (15 R553). -/
def execTowRsvRelease (v : Nat) (tm : Timing) (s : State) : Host.Outcome State Fault Refusal :=
  State.run (.towRsvRelease v tm) s (fun d => d.hostStart.hostPut 0x606005 v tm)

/-- RSV_HOLD_EXPIRY. A reservation's hold time ends (15 R553). -/
def execRsvHoldExpiry (win : Nat) (s : State) : Host.Outcome State Fault Refusal :=
  State.run (.rsvHoldExpiry win) s (fun d => d.rsvExpiry win)

/-- WIN_ENABLE. 01h written to WIN_ENABLE (15 R539). -/
def execWinEnable (win : Nat) (tm : Timing) (s : State) : Host.Outcome State Fault Refusal :=
  State.run (.winEnable win tm) s (fun d => d.hostStart.hostPut (winKey win 1) 1 tm)

/-- WIN_DISABLE. 00h written to WIN_ENABLE (15 R561). -/
def execWinDisable (win : Nat) (tm : Timing) (s : State) : Host.Outcome State Fault Refusal :=
  State.run (.winDisable win tm) s (fun d => d.hostStart.hostPut (winKey win 1) 0 tm)

end Sys2Proof.Machine
end

