-- ==== Sys2Proof/Machine/CmdSluice.lean ====
section
/-!
DEFINITION. Commands of the sluice (16): what each does to the device.
-/
namespace Sys2Proof.Machine

/-- SLU_TICK. A millisecond of the sluice passes (16 R563). -/
def execSluTick (s : State) : Host.Outcome State Fault Refusal :=
  State.run .sluTick s (fun d => d.sluTick)

/-- PWM_PERIOD_START. A PWM period begins (16 R565). -/
def execPwmPeriodStart (out : Nat) (s : State) : Host.Outcome State Fault Refusal :=
  State.run (.pwmPeriodStart out) s (fun d => d.pwmPeriod out)

/-- SLU_OUT_ENABLE. A write of SLU_OUT_ENABLE (16 R568). -/
def execSluOutEnable (out v : Nat) (tm : Timing) (s : State) : Host.Outcome State Fault Refusal :=
  State.run (.sluOutEnable out v tm) s (fun d => d.hostStart.hostPut (sluKey out 1) v tm)

/-- SLU_ARM. A write of SLU_ARM (16 R573). -/
def execSluArm (v : Nat) (tm : Timing) (s : State) : Host.Outcome State Fault Refusal :=
  State.run (.sluArm v tm) s (fun d => d.hostStart.hostPut 0x680003 v tm)

/-- SLU_STOP. A write of SLU_STOP (16 R574). -/
def execSluStop (v : Nat) (tm : Timing) (s : State) : Host.Outcome State Fault Refusal :=
  State.run (.sluStop v tm) s (fun d => d.hostStart.hostPut 0x680004 v tm)

/-- SLU_HEARTBEAT. A write of SLU_HEARTBEAT (16 R570). -/
def execSluHeartbeat (v : Nat) (tm : Timing) (s : State) : Host.Outcome State Fault Refusal :=
  State.run (.sluHeartbeat v tm) s (fun d => d.hostStart.hostPut 0x680002 v tm)

/-- SLU_HB_TIMEOUT. An output's heartbeat is missing (16 R570). -/
def execSluHbTimeout (out : Nat) (s : State) : Host.Outcome State Fault Refusal :=
  State.run (.sluHbTimeout out) s (fun d => d.sluHbTimeout out)

/-- SLU_HOLD_ELAPSED. An output's hold time ends (16 R569). -/
def execSluHoldElapsed (out : Nat) (s : State) : Host.Outcome State Fault Refusal :=
  State.run (.sluHoldElapsed out) s (fun d => d.sluHoldElapsed out)

/-- SLU_COAST_END. An output's coast ends (16 R578). -/
def execSluCoastEnd (out : Nat) (s : State) : Host.Outcome State Fault Refusal :=
  State.run (.sluCoastEnd out) s (fun d => d.sluCoastEnd out)

/-- SAFE_N_ASSERT. SAFE_n has been low for `us` µs (16 R580). -/
def execSafeNAssert (s : State) (us : Nat := 100) : Host.Outcome State Fault Refusal :=
  State.run (.safeNAssert us) s (fun d => d.safeAssert us)

/-- SAFE_N_RELEASE. SAFE_n has been high for `us` µs (16 R580). -/
def execSafeNRelease (s : State) (us : Nat := 100) : Host.Outcome State Fault Refusal :=
  State.run (.safeNRelease us) s (fun d => d.safeRelease us)

/-- TACHO_EDGE. An edge at a tachometer input, `dt` CK after the last command (16 R583). -/
def execTachoEdge (t dt : Nat) (s : State) : Host.Outcome State Fault Refusal :=
  State.run (.tachoEdge t dt) s (fun d => (d.tick dt).tachoEdge t)

/-- TACHO_WINDOW. A tachometer window ends (16 R584). -/
def execTachoWindow (t : Nat) (s : State) : Host.Outcome State Fault Refusal :=
  State.run (.tachoWindow t) s (fun d => d.tachoWindow t)

end Sys2Proof.Machine
end

