-- ==== Sys2Proof/Machine/CmdTime.lean ====
section
/-!
DEFINITION. Commands of the clock, its channels and the tallies (17): what each does to the device.
-/
namespace Sys2Proof.Machine

/-- TIME_SET. A write of TIME_SET (17 R595). -/
def execTimeSet (v : Nat) (tm : Timing) (s : State) : Host.Outcome State Fault Refusal :=
  State.run (.timeSet v tm) s (fun d => d.hostStart.hostPut 0x700002 v tm)

/-- TIME_ADJUST. A write of TIME_ADJUST (17 R595). -/
def execTimeAdjust (ns : Int) (tm : Timing) (s : State) : Host.Outcome State Fault Refusal :=
  State.run (.timeAdjust ns tm) s (fun d => d.hostStart.hostPut 0x700003 (ofSigned 64 ns) tm)

/-- CH_COMPARE_FIRE. The clock reaches CH_TARGET (17 R604, R605). -/
def execChCompareFire (ch : Nat) (s : State) : Host.Outcome State Fault Refusal :=
  State.run (.chCompareFire ch) s (fun d => d.chCompare ch)

/-- CH_PULSE_END. The pulse of a channel ends (17 R604). -/
def execChPulseEnd (ch : Nat) (s : State) : Host.Outcome State Fault Refusal :=
  State.run (.chPulseEnd ch) s (fun d => d.chPulseEnd ch)

/-- PPS_PULSE. The nanoseconds count passes through zero (17 R606). -/
def execPpsPulse (s : State) : Host.Outcome State Fault Refusal :=
  State.run .ppsPulse s (fun d => d.pps)

/-- CH_CAPTURE. An edge at a capture input, `dt` CK after the last command (17 R607). -/
def execChCapture (ch : Nat) (ppsIn rising : Bool) (dt : Nat) (s : State) : Host.Outcome State Fault Refusal :=
  State.run (.chCapture ch ppsIn rising dt) s (fun d => (d.tick dt).chCapture ch ppsIn rising)

/-- CH_ACK. A write of CH_ACK (17 R608). -/
def execChAck (ch v : Nat) (tm : Timing) (s : State) : Host.Outcome State Fault Refusal :=
  State.run (.chAck ch v tm) s (fun d => d.hostStart.hostPut (chKey ch 8) v tm)

/-- CH_CONFIG_WRITE. A write of CH_MODE, or of CH_CTRL (17 R609, R610). -/
def execChConfigWrite (ch : Nat) (ctrl : Bool) (v : Nat) (tm : Timing) (s : State) : Host.Outcome State Fault Refusal :=
  State.run (.chConfigWrite ch ctrl v tm) s (fun d => d.hostStart.hostPut (chKey ch (if ctrl then 2 else 1)) v tm)

/-- TALLY_BOUNDARY. A periodic tally boundary (17 R613, R614). -/
def execTallyBoundary (s : State) : Host.Outcome State Fault Refusal :=
  State.run .tallyBoundary s (fun d => d.tallyPeriod)

/-- TALLY_TRIGGER. A write of TALLY_TRIGGER (17 R613). -/
def execTallyTrigger (v : Nat) (tm : Timing) (s : State) : Host.Outcome State Fault Refusal :=
  State.run (.tallyTrigger v tm) s (fun d => d.hostStart.hostPut 0x740003 v tm)

/-- TALLY_MODE_WRITE. A write of TALLY_MODE, or of TALLY_PERIOD_S (17 R616). -/
def execTallyModeWrite (period : Bool) (v : Nat) (tm : Timing) (s : State) : Host.Outcome State Fault Refusal :=
  State.run (.tallyModeWrite period v tm) s (fun d => d.hostStart.hostPut (if period then 0x740002 else 0x740001) v tm)

end Sys2Proof.Machine
end

