-- ==== Sys2Proof/Machine/CmdIntc.lean ====
section
/-!
DEFINITION. Commands of the interrupt controller (18): what each does to the device.
-/
namespace Sys2Proof.Machine

/-- INT_CLAIM. A read of INT_CLAIM_t (18 R633). -/
def execIntClaim (target : Nat) (tm : Timing) (s : State) : Host.Outcome State Fault Refusal :=
  State.run (.intClaim target tm) s (fun d => d.hostStart.hostRead (0x7810 + target) 3 0 0 tm)

/-- SRC_STATE_WRITE. A write of SRC_STATE_s (18 R627). -/
def execSrcStateWrite (src v : Nat) (tm : Timing) (s : State) : Host.Outcome State Fault Refusal :=
  State.run (.srcStateWrite src v tm) s (fun d => d.hostStart.hostPut (srcStateKey src) v tm)

/-- INT_PENDING_WRITE. A write of INT_PENDING (18 R628). -/
def execIntPendingWrite (v : Nat) (tm : Timing) (s : State) : Host.Outcome State Fault Refusal :=
  State.run (.intPendingWrite v tm) s (fun d => d.hostStart.hostPut 0x780003 v tm)

/-- INT_FAULT_CLEAR. A write of INT_FAULT_CLEAR_t (18 R639). -/
def execIntFaultClear (target v : Nat) (tm : Timing) (s : State) : Host.Outcome State Fault Refusal :=
  State.run (.intFaultClear target v tm) s (fun d => d.hostStart.hostPut (tgtKey target 7) v tm)

end Sys2Proof.Machine
end

