-- ==== Sys2Proof/Machine/CmdFault.lean ====
section
/-!
DEFINITION. Commands of the fault log (19): what each does to the device.
-/
namespace Sys2Proof.Machine

/-- FAULT_LOG_WRITE. The next queued event is written to the fault log (19 R655). -/
def execFaultLogWrite (s : State) : Host.Outcome State Fault Refusal :=
  State.run .faultLogWrite s (fun d => d.flWrite)

/-- FL_ACK_SEQ. A write of FL_ACK_SEQ (19 R660). -/
def execFlAckSeq (v : Nat) (tm : Timing) (s : State) : Host.Outcome State Fault Refusal :=
  State.run (.flAckSeq v tm) s (fun d => d.hostStart.hostPut 0x7C0003 v tm)

/-- FL_CLEAR. A write of FL_CLEAR (19 R660). -/
def execFlClear (v : Nat) (tm : Timing) (s : State) : Host.Outcome State Fault Refusal :=
  State.run (.flClear v tm) s (fun d => d.hostStart.hostPut 0x7C0007 v tm)

end Sys2Proof.Machine
end

