-- ==== Sys2Proof/Machine/Dispatch.lean ====
section
/-!
DEFINITION. The meaning of every command.
-/
namespace Sys2Proof.Machine

def exec (i : Instr) (s : State) : Host.Outcome State Fault Refusal :=
  match i with
  | .pllLockLoss => Sys2Proof.Machine.execPllLockLoss s
  | .crystalStop => Sys2Proof.Machine.execCrystalStop s
  | .crystalRestart => Sys2Proof.Machine.execCrystalRestart s
  | .dictRead idx sub off len tm => Sys2Proof.Machine.execDictRead idx sub off len tm s
  | .dictWrite idx sub ty off data tm => Sys2Proof.Machine.execDictWrite idx sub ty off data tm s
  | .domainSegment img off data tm => Sys2Proof.Machine.execDomainSegment img off data tm s
  | .imageCheckDone img => Sys2Proof.Machine.execImageCheckDone img s
  | .domainTransferTimeout img => Sys2Proof.Machine.execDomainTransferTimeout img s
  | .queryAddr v tm => Sys2Proof.Machine.execQueryAddr v tm s
  | .memRead addr len strikes left tm => Sys2Proof.Machine.execMemRead addr len strikes left tm s
  | .memWrite addr data strikes => Sys2Proof.Machine.execMemWrite addr data s strikes
  | .memReadAcquire addr len strikes left tm => Sys2Proof.Machine.execMemReadAcquire addr len strikes left tm s
  | .statusPoll => Sys2Proof.Machine.execStatusPoll s
  | .doorbell ring index => Sys2Proof.Machine.execDoorbell ring index s
  | .intComplete target source => Sys2Proof.Machine.execIntComplete target source s
  | .dictReadRemote peer idx sub off len => Sys2Proof.Machine.execDictReadRemote peer idx sub off len s
  | .dictWriteRemote peer idx sub ty off data => Sys2Proof.Machine.execDictWriteRemote peer idx sub ty off data s
  | .reissue cmd tag => Sys2Proof.Machine.execReissue cmd tag s
  | .slotReadyExpiry slot => Sys2Proof.Machine.execSlotReadyExpiry slot s
  | .slotPendingTimeout slot => Sys2Proof.Machine.execSlotPendingTimeout slot s
  | .csEarlyRise => Sys2Proof.Machine.execCsEarlyRise s
  | .unknownCommand code => Sys2Proof.Machine.execUnknownCommand code s
  | .hostLinkReset v tm => Sys2Proof.Machine.execHostLinkReset v tm s
  | .jobStart slot tm => Sys2Proof.Machine.execJobStart slot tm s
  | .jobSuspend slot tm => Sys2Proof.Machine.execJobSuspend slot tm s
  | .jobResume slot tm => Sys2Proof.Machine.execJobResume slot tm s
  | .jobCancel slot tm => Sys2Proof.Machine.execJobCancel slot tm s
  | .jobSuspendPoint slot => Sys2Proof.Machine.execJobSuspendPoint slot s
  | .jobCancelDone slot => Sys2Proof.Machine.execJobCancelDone slot s
  | .poundScrubBarge slot strikes => Sys2Proof.Machine.execPoundScrubBarge slot strikes s
  | .bankTestPass slot bad => Sys2Proof.Machine.execBankTestPass slot bad s
  | .tableLoadDone slot readOk => Sys2Proof.Machine.execTableLoadDone slot readOk s
  | .cableDiagPhase slot echo => Sys2Proof.Machine.execCableDiagPhase slot echo s
  | .powerOnReset => Sys2Proof.Machine.execPowerOnReset s
  | .porEnd => Sys2Proof.Machine.execPorEnd s
  | .oscStable => Sys2Proof.Machine.execOscStable s
  | .aonTrimsDone mainInRange vbakOk => Sys2Proof.Machine.execAonTrimsDone mainInRange vbakOk s
  | .supplyDown vbakOk => Sys2Proof.Machine.execSupplyDown vbakOk s
  | .downToBackup us mainInRange => Sys2Proof.Machine.execDownToBackup us mainInRange s
  | .mainReturn => Sys2Proof.Machine.execMainReturn s
  | .qualifyExpiry => Sys2Proof.Machine.execQualifyExpiry s
  | .supplyBounce dt => Sys2Proof.Machine.execSupplyBounce dt s
  | .stretchEnd => Sys2Proof.Machine.execStretchEnd s
  | .brownOut coreRail => Sys2Proof.Machine.execBrownOut coreRail s
  | .brownoutLowBackup => Sys2Proof.Machine.execBrownoutLowBackup s
  | .lockoutEnd => Sys2Proof.Machine.execLockoutEnd s
  | .energySample vinCode vbakCode vbakOk vio => Sys2Proof.Machine.execEnergySample vinCode vbakCode s vbakOk vio
  | .podlClassify ohms asked => Sys2Proof.Machine.execPodlClassify ohms s asked
  | .podlPowerOn => Sys2Proof.Machine.execPodlPowerOn s
  | .podlTurnOff => Sys2Proof.Machine.execPodlTurnOff s
  | .domReq dom v tm => Sys2Proof.Machine.execDomReq dom v tm s
  | .domainSelect => Sys2Proof.Machine.execDomainSelect s
  | .domainDrainDone => Sys2Proof.Machine.execDomainDrainDone s
  | .domainPowerFail => Sys2Proof.Machine.execDomainPowerFail s
  | .domainTransitionEnd badImages => Sys2Proof.Machine.execDomainTransitionEnd badImages s
  | .ownerScanDone bank => Sys2Proof.Machine.execOwnerScanDone bank s
  | .wakeEdge latch => Sys2Proof.Machine.execWakeEdge latch s
  | .wakeClear v tm => Sys2Proof.Machine.execWakeClear v tm s
  | .tempSample celsius => Sys2Proof.Machine.execTempSample celsius s
  | .retentionRefresh bank => Sys2Proof.Machine.execRetentionRefresh bank s
  | .bankRefresh bank => Sys2Proof.Machine.execBankRefresh bank s
  | .pllLocked => Sys2Proof.Machine.execPllLocked s
  | .pllLockTimeout => Sys2Proof.Machine.execPllLockTimeout s
  | .nvLoadDone found => Sys2Proof.Machine.execNvLoadDone found s
  | .resetNAssert held => Sys2Proof.Machine.execResetNAssert s held
  | .resetNRelease => Sys2Proof.Machine.execResetNRelease s
  | .softReset v tm => Sys2Proof.Machine.execSoftReset v tm s
  | .domReset n tm => Sys2Proof.Machine.execDomReset n tm s
  | .journalChunkWritten => Sys2Proof.Machine.execJournalChunkWritten s
  | .journalCheckWritten => Sys2Proof.Machine.execJournalCheckWritten s
  | .journalCommitMark pass => Sys2Proof.Machine.execJournalCommitMark s pass
  | .homeChunkWritten pass => Sys2Proof.Machine.execHomeChunkWritten s pass
  | .sectorErased => Sys2Proof.Machine.execSectorErased s
  | .commitWordVoid => Sys2Proof.Machine.execCommitWordVoid s
  | .poundEnable p tm => Sys2Proof.Machine.execPoundEnable p tm s
  | .poundEnabled p stuck => Sys2Proof.Machine.execPoundEnabled p s stuck
  | .poundDisable p tm => Sys2Proof.Machine.execPoundDisable p tm s
  | .allocReq v tm => Sys2Proof.Machine.execAllocReq v tm s
  | .freeReq v tm => Sys2Proof.Machine.execFreeReq v tm s
  | .bargeQuery v tm => Sys2Proof.Machine.execBargeQuery v tm s
  | .lockCycleClose bank => Sys2Proof.Machine.execLockCycleClose bank s
  | .lockCycleOpen bank strikes => Sys2Proof.Machine.execLockCycleOpen bank strikes s
  | .zeroingDone barge stuck => Sys2Proof.Machine.execZeroingDone barge stuck s
  | .ringStop ring tm => Sys2Proof.Machine.execRingStop ring tm s
  | .ringRun ring tm => Sys2Proof.Machine.execRingRun ring tm s
  | .ringReset ring tm => Sys2Proof.Machine.execRingReset ring tm s
  | .ringStopped ring => Sys2Proof.Machine.execRingStopped ring s
  | .chainFetch ring strikes => Sys2Proof.Machine.execChainFetch ring strikes s
  | .chainComplete ring => Sys2Proof.Machine.execChainComplete ring s
  | .rxDescriptorWrite ring => Sys2Proof.Machine.execRxDescriptorWrite ring s
  | .ringCoalTimeout ring => Sys2Proof.Machine.execRingCoalTimeout ring s
  | .frameReceived port f => Sys2Proof.Machine.execFrameReceived port f s
  | .classifyFrame => Sys2Proof.Machine.execClassifyFrame s
  | .txSelect port => Sys2Proof.Machine.execTxSelect port s
  | .frameTransmitted port deferred strikes sfdAgo => Sys2Proof.Machine.execFrameTransmitted port deferred strikes s sfdAgo
  | .pauseTimerExpiry port => Sys2Proof.Machine.execPauseTimerExpiry port s
  | .pauseRefresh port => Sys2Proof.Machine.execPauseRefresh port s
  | .pauseSend port v tm => Sys2Proof.Machine.execPauseSend port v tm s
  | .pauseWdBreak port => Sys2Proof.Machine.execPauseWdBreak port s
  | .pauseStrikeReset port => Sys2Proof.Machine.execPauseStrikeReset port s
  | .pauseRearm port v tm => Sys2Proof.Machine.execPauseRearm port v tm s
  | .tsoEnable port tm => Sys2Proof.Machine.execTsoEnable port tm s
  | .tsoDisable port tm => Sys2Proof.Machine.execTsoDisable port tm s
  | .wakeListen port v tm => Sys2Proof.Machine.execWakeListen port v tm s
  | .pralineEnable v tm => Sys2Proof.Machine.execPralineEnable v tm s
  | .portStop port tm => Sys2Proof.Machine.execPortStop port tm s
  | .portStart port tm => Sys2Proof.Machine.execPortStart port tm s
  | .mdioFrameDone data => Sys2Proof.Machine.execMdioFrameDone data s
  | .mdioPoll => Sys2Proof.Machine.execMdioPoll s
  | .mdioC22Read phy reg tm => Sys2Proof.Machine.execMdioC22Read phy reg tm s
  | .mdioC22Write phy reg data tm => Sys2Proof.Machine.execMdioC22Write phy reg data tm s
  | .mdioC45Read phy dev reg tm => Sys2Proof.Machine.execMdioC45Read phy dev reg tm s
  | .mdioC45Write phy dev reg data tm => Sys2Proof.Machine.execMdioC45Write phy dev reg data tm s
  | .govEnable v tm => Sys2Proof.Machine.execGovEnable v tm s
  | .govWindow => Sys2Proof.Machine.execGovWindow s
  | .govStepDrained => Sys2Proof.Machine.execGovStepDrained s
  | .govHoldLimitExpiry => Sys2Proof.Machine.execGovHoldLimitExpiry s
  | .t1lLinkChange up able24 req24 master far => Sys2Proof.Machine.execT1lLinkChange up able24 req24 master s far
  | .t1lSqiUpdate sqi mse => Sys2Proof.Machine.execT1lSqiUpdate sqi mse s
  | .plcaBeaconSend port => Sys2Proof.Machine.execPlcaBeaconSend port s
  | .plcaBeaconReceived port => Sys2Proof.Machine.execPlcaBeaconReceived port s
  | .plcaBeaconLoss port => Sys2Proof.Machine.execPlcaBeaconLoss port s
  | .plcaIdConflict port => Sys2Proof.Machine.execPlcaIdConflict port s
  | .plcaIdConflictClear port => Sys2Proof.Machine.execPlcaIdConflictClear port s
  | .sgCarrierMeasure port node o => Sys2Proof.Machine.execSgCarrierMeasure port node o s
  | .sgHoldExpiry port => Sys2Proof.Machine.execSgHoldExpiry port s
  | .sgYield port into => Sys2Proof.Machine.execSgYield port s into
  | .sgDriftExpiry port node => Sys2Proof.Machine.execSgDriftExpiry port node s
  | .segCollision port late deferred => Sys2Proof.Machine.execSegCollision port late s deferred
  | .backoffExpiry port => Sys2Proof.Machine.execBackoffExpiry port s
  | .mergeRelease grp strikes => Sys2Proof.Machine.execMergeRelease grp strikes s
  | .mergeWrite grp => Sys2Proof.Machine.execMergeWrite grp s
  | .mergeTimeout grp => Sys2Proof.Machine.execMergeTimeout grp s
  | .grpStart grp tm => Sys2Proof.Machine.execGrpStart grp tm s
  | .grpStop grp tm => Sys2Proof.Machine.execGrpStop grp tm s
  | .grpStopped grp => Sys2Proof.Machine.execGrpStopped grp s
  | .clsCommit tm => Sys2Proof.Machine.execClsCommit tm s
  | .clsTransit tm => Sys2Proof.Machine.execClsTransit tm s
  | .clsTransitRelease tm => Sys2Proof.Machine.execClsTransitRelease tm s
  | .clsEnd tm => Sys2Proof.Machine.execClsEnd tm s
  | .clsAbandon tm => Sys2Proof.Machine.execClsAbandon tm s
  | .transitTimeout => Sys2Proof.Machine.execTransitTimeout s
  | .canStart ch tm => Sys2Proof.Machine.execCanStart ch tm s
  | .canStop ch tm => Sys2Proof.Machine.execCanStop ch tm s
  | .canTxStart ch strikes => Sys2Proof.Machine.execCanTxStart ch strikes s
  | .canTxEnd ch e => Sys2Proof.Machine.execCanTxEnd ch e s
  | .canRxFrame ch f => Sys2Proof.Machine.execCanRxFrame ch f s
  | .canBusOff ch => Sys2Proof.Machine.execCanBusOff ch s
  | .canRecover ch v tm => Sys2Proof.Machine.execCanRecover ch v tm s
  | .canBusOffRecovered ch => Sys2Proof.Machine.execCanBusOffRecovered ch s
  | .bridgeInput => Sys2Proof.Machine.execBridgeInput s
  | .brgRun v tm => Sys2Proof.Machine.execBrgRun v tm s
  | .omPeriodExpiry om => Sys2Proof.Machine.execOmPeriodExpiry om s
  | .omGapExpiry om => Sys2Proof.Machine.execOmGapExpiry om s
  | .signalStale sig => Sys2Proof.Machine.execSignalStale sig s
  | .brgCacheRead sig tm => Sys2Proof.Machine.execBrgCacheRead sig tm s
  | .fetchTimeout sig => Sys2Proof.Machine.execFetchTimeout sig s
  | .reservationBackoffExpiry n tag => Sys2Proof.Machine.execReservationBackoffExpiry n tag s
  | .towStart tm => Sys2Proof.Machine.execTowStart tm s
  | .towStop tm => Sys2Proof.Machine.execTowStop tm s
  | .peerEnable n v tm => Sys2Proof.Machine.execPeerEnable n v tm s
  | .helloTimer n => Sys2Proof.Machine.execHelloTimer n s
  | .helloRx => Sys2Proof.Machine.execHelloRx s
  | .towDataRx => Sys2Proof.Machine.execTowDataRx s
  | .towAckRx => Sys2Proof.Machine.execTowAckRx s
  | .towAckDelay n => Sys2Proof.Machine.execTowAckDelay n s
  | .towRetransmitTimeout n => Sys2Proof.Machine.execTowRetransmitTimeout n s
  | .towDeadTimeout n => Sys2Proof.Machine.execTowDeadTimeout n s
  | .towKeepalive n => Sys2Proof.Machine.execTowKeepalive n s
  | .towForwardFrame => Sys2Proof.Machine.execTowForwardFrame s
  | .opRead lane strikes => Sys2Proof.Machine.execOpRead lane strikes s
  | .opReadAcquire lane strikes => Sys2Proof.Machine.execOpReadAcquire lane strikes s
  | .opWrite lane strikes => Sys2Proof.Machine.execOpWrite lane s strikes
  | .opWriteReserve lane strikes => Sys2Proof.Machine.execOpWriteReserve lane s strikes
  | .opFetchAdd lane strikes => Sys2Proof.Machine.execOpFetchAdd lane strikes s
  | .opSwap lane strikes => Sys2Proof.Machine.execOpSwap lane strikes s
  | .opCas lane strikes => Sys2Proof.Machine.execOpCas lane strikes s
  | .opFrame lane => Sys2Proof.Machine.execOpFrame lane s
  | .opDictRead lane => Sys2Proof.Machine.execOpDictRead lane s
  | .opDictWrite lane => Sys2Proof.Machine.execOpDictWrite lane s
  | .opResponse lane => Sys2Proof.Machine.execOpResponse lane s
  | .issueRead f tm => Sys2Proof.Machine.execIssueRead f tm s
  | .issueReadAcquire f tm => Sys2Proof.Machine.execIssueReadAcquire f tm s
  | .issueWrite f tm => Sys2Proof.Machine.execIssueWrite f tm s
  | .issueWriteReserve f tm => Sys2Proof.Machine.execIssueWriteReserve f tm s
  | .issueFetchAdd f tm => Sys2Proof.Machine.execIssueFetchAdd f tm s
  | .issueSwap f tm => Sys2Proof.Machine.execIssueSwap f tm s
  | .issueCas f tm => Sys2Proof.Machine.execIssueCas f tm s
  | .towSlotRelease v tm => Sys2Proof.Machine.execTowSlotRelease v tm s
  | .towRsvRelease v tm => Sys2Proof.Machine.execTowRsvRelease v tm s
  | .rsvHoldExpiry win => Sys2Proof.Machine.execRsvHoldExpiry win s
  | .winEnable win tm => Sys2Proof.Machine.execWinEnable win tm s
  | .winDisable win tm => Sys2Proof.Machine.execWinDisable win tm s
  | .sluTick => Sys2Proof.Machine.execSluTick s
  | .pwmPeriodStart out => Sys2Proof.Machine.execPwmPeriodStart out s
  | .sluOutEnable out v tm => Sys2Proof.Machine.execSluOutEnable out v tm s
  | .sluArm v tm => Sys2Proof.Machine.execSluArm v tm s
  | .sluStop v tm => Sys2Proof.Machine.execSluStop v tm s
  | .sluHeartbeat v tm => Sys2Proof.Machine.execSluHeartbeat v tm s
  | .sluHbTimeout out => Sys2Proof.Machine.execSluHbTimeout out s
  | .sluHoldElapsed out => Sys2Proof.Machine.execSluHoldElapsed out s
  | .sluCoastEnd out => Sys2Proof.Machine.execSluCoastEnd out s
  | .safeNAssert us => Sys2Proof.Machine.execSafeNAssert s us
  | .safeNRelease us => Sys2Proof.Machine.execSafeNRelease s us
  | .tachoEdge t dt => Sys2Proof.Machine.execTachoEdge t dt s
  | .tachoWindow t => Sys2Proof.Machine.execTachoWindow t s
  | .timeSet v tm => Sys2Proof.Machine.execTimeSet v tm s
  | .timeAdjust ns tm => Sys2Proof.Machine.execTimeAdjust ns tm s
  | .chCompareFire ch => Sys2Proof.Machine.execChCompareFire ch s
  | .chPulseEnd ch => Sys2Proof.Machine.execChPulseEnd ch s
  | .ppsPulse => Sys2Proof.Machine.execPpsPulse s
  | .chCapture ch ppsIn rising dt => Sys2Proof.Machine.execChCapture ch ppsIn rising dt s
  | .chAck ch v tm => Sys2Proof.Machine.execChAck ch v tm s
  | .chConfigWrite ch ctrl v tm => Sys2Proof.Machine.execChConfigWrite ch ctrl v tm s
  | .tallyBoundary => Sys2Proof.Machine.execTallyBoundary s
  | .tallyTrigger v tm => Sys2Proof.Machine.execTallyTrigger v tm s
  | .tallyModeWrite period v tm => Sys2Proof.Machine.execTallyModeWrite period v tm s
  | .intClaim target tm => Sys2Proof.Machine.execIntClaim target tm s
  | .srcStateWrite src v tm => Sys2Proof.Machine.execSrcStateWrite src v tm s
  | .intPendingWrite v tm => Sys2Proof.Machine.execIntPendingWrite v tm s
  | .intFaultClear target v tm => Sys2Proof.Machine.execIntFaultClear target v tm s
  | .faultLogWrite => Sys2Proof.Machine.execFaultLogWrite s
  | .flAckSeq v tm => Sys2Proof.Machine.execFlAckSeq v tm s
  | .flClear v tm => Sys2Proof.Machine.execFlClear v tm s
  | .monitorChangeOscStart vbak => Sys2Proof.Machine.execMonitorChangeOscStart s vbak
  | .podlInrushRampEnd => Sys2Proof.Machine.execPodlInrushRampEnd s
  | .canIntegrationEnd ch => Sys2Proof.Machine.execCanIntegrationEnd ch s
  | .canRxError ch e => Sys2Proof.Machine.execCanRxError ch e s
  | .generationCheckDone n => Sys2Proof.Machine.execGenerationCheckDone s n

end Sys2Proof.Machine
end

