-- ==== Sys2Proof/Machine/Pins.lean ====
section
/-!
DEFINITION. What each signal pin does in each state of the device (21 R678-R682, R699, R702, Tables 21.2 and 21.3). The levels of
the power pins and the line signals of the PHYs are outside the device's logic.
-/
namespace Sys2Proof.Machine

/-- The pins of 21 Table 21.3, alike ones by their number (R680). -/
inductive Pin where
  | vin | vsys | vbak | vaon | vkeep | vcore | vio | avddS | avddL | vcapNv
  | gnd | agnd | rsvd
  | podlDet | podlCls | podlGate | vioSel | xtalIn | xtalOut | t1lRext
  | resetN | safeN
  | canRxd (c : Fin 2)
  | tach (t : Fin 4)
  | pwm (k : Fin 4)
  | en (j : Fin 2)
  | canTxd (c : Fin 2)
  | evt (k : Fin 4)
  | ppsIn
  | int (t : Fin 4)
  | spiCsN | spiSclk
  | spiIo (n : Fin 4)
  | mdc | mdio | rmiiRefclk
  | rmiiTxd (i : Fin 2)
  | rmiiTxEn
  | rmiiRxd (i : Fin 2)
  | rmiiCrsDv | rmiiRxEr
  | test
  | segLine (q : Fin 2) (neg : Bool)
  | t1lLine (neg : Bool)
  deriving DecidableEq, Repr

/-- The pins by number, 1 first, the exposed pad last (21 Table 21.3). -/
def pinTable : List Pin :=
  [.vin, .vin, .vsys, .vbak, .vaon, .vkeep, .podlDet, .podlCls, .podlGate, .vioSel, .xtalIn, .xtalOut, .resetN, .safeN,
   .canRxd 0, .canRxd 1, .gnd, .tach 0, .tach 1, .tach 2, .tach 3, .pwm 0, .pwm 1, .pwm 2, .pwm 3, .en 0, .en 1, .vcore, .vio]
  ++ [.canTxd 0, .canTxd 1, .evt 0, .evt 1, .evt 2, .evt 3, .ppsIn, .int 0, .int 1, .int 2, .int 3, .vcore, .vio, .spiCsN,
      .spiSclk, .spiIo 0, .spiIo 1, .spiIo 2, .spiIo 3, .vio, .mdc, .mdio, .rmiiRefclk, .rmiiTxd 0, .rmiiTxd 1, .rmiiTxEn,
      .rmiiRxd 0, .rmiiRxd 1, .rmiiCrsDv, .rmiiRxEr, .vcore, .vio, .test, .rsvd, .rsvd]
  ++ [.avddS, .segLine 1 false, .segLine 1 true, .agnd, .segLine 0 false, .segLine 0 true, .agnd, .avddL, .t1lLine false,
      .t1lLine true, .agnd, .t1lRext, .agnd, .vcore, .vio, .vcapNv, .gnd, .rsvd, .rsvd, .rsvd, .gnd, .vsys, .gnd, .vin, .gnd]

/-- What a pin does: high-impedance, that with its pull-down, driven to a level, read, there but ignored, the impedance of an
unpowered node of the segment, a supply or ground, a rail at 0 V, no function, or at work as its owning chapter states. -/
inductive PinSt where
  | hiZ | pullDown | low | high | input | ignored | unpowered | supply | zero | open_ | active
  deriving DecidableEq, Repr

/-- A driven level. -/
def PinSt.level (b : Bool) : PinSt := if b then .high else .low

/-- The I/O banks (21 Table 21.2); the lines of the PHYs hang on AVDD_L and AVDD_S, which are VIO (R685). -/
inductive PadBank where
  | aon | keep | vio
  deriving DecidableEq, Repr

/-- The bank of a pin; supplies, grounds, the analog pins of AON and the pins without a function have none (21 Table 21.3). -/
def Pin.bank : Pin → Option PadBank
  | .resetN | .safeN | .canRxd _ => some .aon
  | .tach _ | .pwm _ | .en _ => some .keep
  | .vin | .vsys | .vbak | .vaon | .vkeep | .vcore | .vio | .avddS | .avddL | .vcapNv | .gnd | .agnd | .rsvd => none
  | .podlDet | .podlCls | .podlGate | .vioSel | .xtalIn | .xtalOut => none
  | _ => some .vio

/-- The pad supply of a bank is present (21 Table 21.2; log entry 85). -/
def Dev.padOn (d : Dev) : PadBank → Bool
  | .aon => !d.aon.inPor
  | .keep => d.on dKEEP
  | .vio => d.vioPresent

/-- A pin without a bank. The PoDL pins work before VIN exists: the signature stands from classification on, and the gate is charged
while the PSE's power is taken (05 R181-R184). VKEEP is at 0 V when KEEP is OFF. -/
def Dev.plainPin (d : Dev) : Pin → PinSt
  | .vkeep => if (d.dom dKEEP).st = .off then .zero else .supply
  | .podlDet => if d.rd 0x204001 = 0 || d.rd 0x204001 = 5 then .hiZ else .active
  | .podlGate => .level (d.rd 0x204001 == 3 || d.rd 0x204001 == 4)
  | .podlCls | .vioSel => .active
  | .xtalIn | .xtalOut => if d.aon.osc then .active else .hiZ
  | .rsvd => .open_
  | _ => .supply

/-- The inactive level of EVTk: bit 4 of CH_CTRL makes the pin active low (17 R604). -/
def Dev.evtIdle (d : Dev) (k : Nat) : PinSt := .level (d.flag (chKey k 2) 4)

/-- EVTk while no sluice holds it (21 R682, Table 21.3). -/
def Dev.evtPin (d : Dev) (k : Nat) : PinSt :=
  let out := match d.rd (chKey k 1) with
    | 1 | 2 => d.flag (chKey k 2) 3
    | 4 => k == 3 && d.flag (chKey k 2) 3
    | _ => false
  match d.domEff dTIME with
  | .off => .pullDown
  | .retention => d.evtIdle k
  | .on =>
    if out then .level ((d.chan k).active != d.flag (chKey k 2) 4)
    else if d.rd (chKey k 1) = 3 && !d.flag (chKey k 2) 2 then .input else .pullDown

/-- A pin of the VIO bank while VIO is present. While the trunk is stopped, TX_EN is low and CRS_DV ignored (12 R400). -/
def Dev.vioPin (d : Dev) : Pin → PinSt
  | .canTxd _ => if d.on dCAN then .active else .high
  | .evt k =>
    if k = 1 && d.sluEvt1 then (match d.pwmLevel 3 with
      | some b => .level b
      | none => .hiZ)
    else d.evtPin k
  | .ppsIn => if d.on dTIME then .input else .ignored
  | .int t => .level (d.on dCORE && (d.offerTo t).isSome)
  | .spiCsN | .spiSclk => if d.on dCORE then .input else .ignored
  | .spiIo _ => if d.on dCORE then .active else .hiZ
  | .mdc => if d.on dMACT then .active else .low
  | .mdio => if d.on dMACT then .active else .hiZ
  | .rmiiRefclk => if d.refclk then .active else .low
  | .rmiiTxd _ => if d.on dMACT then .active else .low
  | .rmiiTxEn => if d.on dMACT && d.rd (portRunKey 0) = 1 then .active else .low
  | .rmiiRxd _ | .rmiiRxEr => if d.on dMACT then .input else .ignored
  | .rmiiCrsDv => if d.on dMACT && d.rd (portRunKey 0) = 1 then .input else .ignored
  | .segLine q _ => if d.on (macDom (2 + q)) then .active else .unpowered
  | .t1lLine _ => if d.on dMACL then .active else .hiZ
  | .t1lRext => .active
  | .test => .input
  | _ => .hiZ

/-- The state of a pin (21 R679, R680, R699). -/
def Dev.pin (d : Dev) (p : Pin) : PinSt :=
  match p.bank with
  | none => d.plainPin p
  | some b =>
    if !d.padOn b then (match p with
      | .segLine _ _ => .unpowered
      | _ => .hiZ)
    else match p with
      | .resetN | .safeN | .canRxd _ => .input
      | .tach _ => .input
      | .pwm k => (match d.pwmLevel k with
        | some b => .level b
        | none => .hiZ)
      | .en j => (match d.enLevel j with
        | some v => .level (v == 1)
        | none => .hiZ)
      | p => d.vioPin p

end Sys2Proof.Machine
end

