-- ==== Sys2Proof/Safety.lean ====
section
/-!
DEFINITION. The terms of the statements: a queue of commands of the device, a transaction of the host that nothing
refuses, a device in which nothing follows by itself, what is promised of the interrupt controller.
-/
namespace Sys2Proof.Machine

/-- Every command that waits is a command of the device. -/
def State.queueOk (s : State) : Prop := ∀ c ∈ s.pending, c.wf = true

/-- While CORE is ON, a level source whose condition holds is pending or in service (18 R623). -/
def Dev.levelsKept (d : Dev) : Prop :=
  d.on dCORE = true → ∀ s, levelSource s = true → d.levelCond s = true → d.isPending s = true ∨ d.inService s = true

/-- The canonical form of the object store: keys strictly rising, no entry equal to its object's default. -/
def storeWf : Store → Bool
  | [] => true
  | [(k, v)] => v != dflt k
  | (k, v) :: (k', v') :: t => v != dflt k && k < k' && storeWf ((k', v') :: t)

/-- The free lists are kept: packet memory lists each barge once, and no free list holds a barge twice, a barge of another bank, or
one that is not FREE (09 R324). -/
def Dev.freesKept (d : Dev) : Prop :=
  d.pm.barges.Pairwise (fun a b => a.1 < b.1)
    ∧ ∀ e ∈ d.pm.frees, e.2.2.Nodup ∧ ∀ b ∈ e.2.2, bankOf b = e.2.1 ∧ (d.barge b).owner = .free

/-- The state with another device, after what follows in the same CK. -/
def State.after (s : State) (d : Dev) : State := { s with dev := d.settle }

/-- A command of the host other than STATUS_POLL is looked at: the link answers and start-up has completed (02 R48, 03 R125,
06 R224). -/
def Dev.hostUp (d : Dev) : Bool := d.linkAnswers && d.link.ready

/-- A dictionary transaction of the host is taken and answered in time (03 R91, R98, R100, R124). -/
def Dev.linkTakes (d : Dev) (tm : Timing) : Bool := d.hostUp && !d.dictRefused && !d.late 48 tm

/-- Orders 1 to 9 of 02 Table 2.5 pass for a host's write of `v`, whole, to an object that is no table image and not of
class PW. -/
def Dev.passes (d : Dev) (k v : Nat) : Bool :=
  match d.findAt (k / 256) (k % 256) with
  | .inl _ => false
  | .inr r => (d.writeAbort r 0 k 0 v).isNone && (imgOf (k / 256)).isNone && r.per != .pw && decide (v < 256 ^ objSize k)
      && (d.writeValueAbort r k 0 (leOct (objSize k) v)).isNone

/-- A host's write of `v` to the object `k` reaches its effect and is answered in time. -/
def Dev.hostTakes (d : Dev) (k v : Nat) (tm : Timing) : Bool := d.linkTakes tm && d.passes k v

/-- The device after a transaction of the host that ends with OK: counted, SEQ advanced, the octets of the answer given
(02 R80; 03 R119, Table 3.1). -/
def Dev.answered (d : Dev) (body : Oct) : Dev := d.countTxn.sayOk body

/-- The commands a host gives over the host link but STATUS_POLL and those that are no command of the protocol (03 Table 3.2): each is
answered, or driven by nothing, as Dev.hostCmd says. -/
def overLink : Instr → Bool
  | .dictRead .. | .dictWrite .. | .domainSegment .. | .queryAddr .. | .memRead .. | .memWrite .. | .memReadAcquire .. |
    .doorbell .. | .intComplete .. | .dictReadRemote .. | .dictWriteRemote .. | .reissue .. | .hostLinkReset .. |
    .jobStart .. | .jobSuspend .. | .jobResume .. | .jobCancel .. | .domReq .. | .wakeClear .. | .softReset .. |
    .domReset .. | .poundEnable .. | .poundDisable .. | .allocReq .. | .freeReq .. | .bargeQuery .. | .ringStop .. |
    .ringRun .. | .ringReset .. | .pauseSend .. | .pauseRearm .. | .tsoEnable .. | .tsoDisable .. | .wakeListen .. |
    .pralineEnable .. | .portStop .. | .portStart .. | .mdioC22Read .. | .mdioC22Write .. | .mdioC45Read .. |
    .mdioC45Write .. | .govEnable .. | .grpStart .. | .grpStop .. | .clsCommit .. | .clsTransit .. | .clsTransitRelease
    .. | .clsEnd .. | .clsAbandon .. | .canStart .. | .canStop .. | .canRecover .. | .brgRun .. | .brgCacheRead .. |
    .towStart .. | .towStop .. | .peerEnable .. | .issueRead .. | .issueReadAcquire .. | .issueWrite .. |
    .issueWriteReserve .. | .issueFetchAdd .. | .issueSwap .. | .issueCas .. | .towSlotRelease .. | .towRsvRelease .. |
    .winEnable .. | .winDisable .. | .sluOutEnable .. | .sluArm .. | .sluStop .. | .sluHeartbeat .. | .timeSet .. |
    .timeAdjust .. | .chAck .. | .chConfigWrite .. | .tallyTrigger .. | .tallyModeWrite .. | .intClaim .. |
    .srcStateWrite .. | .intPendingWrite .. | .intFaultClear .. | .flAckSeq .. | .flClear .. => true
  | _ => false

/-- Nothing follows by itself in this device but the level sources (Settle.lean). -/
def Dev.quiet (d : Dev) : Bool :=
  d.aon.coreDue.isNone && d.aon.trans.all (fun t => !t.waiting) && d.aon.startup != .coreOn && d.aon.startup != .nvLoad
    && !d.aon.nvmOffAfter && !d.sup.regPend
    && (d.pllNeeded || (!d.aon.pll && d.aon.pllStart.isNone)) && (d.oscNeeded || !d.aon.osc)
    && (d.nv.step.isSome || !d.on dNVM)
    && (d.domEff dTIME == .off || (d.rd (chKey 3 1) == 0 && !d.chUsesEvt1))
    && d.claims.isEmpty && d.brg.ethHeld.isEmpty && d.brg.towHeld.isEmpty
    && (!d.towOn || (List.range 16).all (fun n => (d.sess n).waiting.isEmpty && (d.sess n).ctl.isEmpty)) && d.tow.todo.isEmpty
    && d.cls.held.isEmpty && (List.range 16).all (fun p => d.poundState p != 1)
    && d.sup.vbakDue.isNone
    && [0, 1].all (fun p => !(d.on (macDom p) && d.flag (macKey 0x3820 p 1) 1) && !(d.mac p).tsoOff)

end Sys2Proof.Machine
end

