-- ==== Sys2Proof/Certificates/Slice0/Obligations.lean ====
section
/-!
DEFINITION. The statements for the provers. A completion clause reads: from every queue `q` and every device `d` that meets its
hypotheses, the command answers the next state with the queue as it was and the device it names, after what follows in the
same CK (`Dev.settle`, which SettleOfQuietDevice describes).
-/
section
open Sys2Proof Sys2Proof.Machine

/-! ### The queue, and what follows every command -/

/-- A step takes the command at the front of the queue and runs it on the queue's rest; with no command waiting one CK
passes, the model's choice (log entry 2). -/
def Obligations.StepRunsFrontCommand : Prop :=
  (∀ (c : Instr) (q : List Instr) (d : Dev), step ⟨c :: q, d⟩ = exec c ⟨q, d⟩)
  ∧ (∀ d : Dev, step ⟨[], d⟩ = .next ⟨[], d.idleCk⟩)

/-- No command is refused: one that names parts the device has answers a next state, another stops with illFormed, the
model's own fault for terms that are no command. -/
def Obligations.CommandsAnswerOrAreIllFormed : Prop :=
  ∀ (c : Instr) (s : State),
    (c.wf = true → ∃ t, exec c s = .next t) ∧ (c.wf = false → exec c s = .fault .illFormed)

/-- Commands are taken first in, first out: a step removes the front command and leaves the order and the content of the rest;
a command alone never changes the queue; and a queue of commands of the device never stops a step, and stays one: the queue is the
model's own (log entries 2, 10). -/
def Obligations.QueueIsFifoAndNeverStops : Prop :=
  (∀ s t : State, step s = .next t → t.pending = s.pending.tail)
  ∧ (∀ (c : Instr) (s t : State), exec c s = .next t → t.pending = s.pending)
  ∧ (∀ s : State, s.queueOk → ∃ t, step s = .next t ∧ t.queueOk)

/-- In a quiet device nothing follows a command but the level sources of 18 R623; they change nothing but objects, and no object but
SRC_STATE of sources 3, 77 and 92. -/
def Obligations.SettleOfQuietDevice : Prop :=
  (∀ d : Dev, d.quiet = true → d.settle = d.levels)
  ∧ (∀ d : Dev, (∃ st, d.levels = { d with store := st }) ∧
    (∀ k, k ≠ srcStateKey 3 → k ≠ srcStateKey 77 → k ≠ srcStateKey 92 → d.levels.rd k = d.rd k))

/-- R623 as an invariant of every step: while CORE is ON, a level source whose condition holds is pending or in service. -/
def Obligations.LevelSourcesStayPending : Prop :=
  ∀ s t : State, s.dev.levelsKept → step s = .next t → t.dev.levelsKept

/-- Every step keeps the canonical forms: of packet memory, where no octet is listed twice or lists the value an unlisted one reads as (the
model's, log entry 1), and of the object store (02 R52: an object without an entry reads its default). -/
def Obligations.CanonicalFormsStay : Prop :=
  (∀ s t : State, memWf s.dev.pm.mem = true → step s = .next t → memWf t.dev.pm.mem = true)
  ∧ (∀ s t : State, storeWf s.dev.store = true → step s = .next t → storeWf t.dev.store = true)

/-- Every step keeps the free lists: no list holds a barge twice, and every barge in one lies in the list's bank and is FREE (09 R324). -/
def Obligations.FreeListsStayFree : Prop :=
  ∀ s t : State, s.dev.freesKept → step s = .next t → t.dev.freesKept

/-- The invariants of LevelSourcesStayPending, CanonicalFormsStay and FreeListsStayFree hold right after reset. -/
def Obligations.InvariantsAtReset : Prop :=
  State.reset.dev.levelsKept ∧ memWf State.reset.dev.pm.mem = true ∧ storeWf State.reset.dev.store = true ∧ State.reset.dev.freesKept

/-! ### Clocks (01) -/

/-- PLL lock loss, a crystal stop and a crystal restart (01 R34-R36; 07 R233, R234, Table 7.2): lock loss counts and resets every domain
but KEEP with cause 5, discards what is staged, and runs start-up, while RESET_n is low the PLL alone (07 R245, R246); a crystal stop
counts, collapses the NV step, forces every domain but KEEP OFF; the restart discards what is staged, runs start-up from step 1 with
cause 3, and ON requests of wake latches set meanwhile are placed. What a stop interrupts, that transitions go on from where the
stop held them, and that a lock loss outside start-up counts, is the model's choice (log entries 28 and 34). -/
def Obligations.ClockCommandsComplete : Prop :=
  (∀ (q : List Instr) (d : Dev), d.aon.pll = true →
    exec .pllLockLoss ⟨q, d⟩ = .next ⟨q,
      (let e := ((d.inc 0x220006).setAon (fun a => { a with pll := false, pllStart := none })).resetDomains
        [1, 2, 3, 4, 5, 6, 7, 8, 9, 10, 11, 12, 13, 14, 15]
       let e := e.stagedGone
       if e.aon.rstLow then (e.wr 0x220002 5).pllRun else (e.startupBegin 5 .pllLock).pllStep).settle⟩)
  ∧ (∀ (q : List Instr) (d : Dev), d.aon.osc = true → d.aon.xtalStopped = false →
    exec .crystalStop ⟨q, d⟩ = .next ⟨q, (((((d.inc 0x220007).nvCollapse.sluStopClock).interrupted).setAon (fun a =>
      { a with osc := false, pll := false, pllStart := none, xtalStopped := true,
               stopAt := ((d.inc 0x220007).nvCollapse.sluStopClock).ck })).forceOff
      [1, 2, 3, 4, 5, 6, 7, 8, 9, 10, 11, 12, 13, 14, 15] true).settle⟩)
  ∧ (∀ (q : List Instr) (d : Dev), d.aon.xtalStopped = true →
    exec .crystalRestart ⟨q, d⟩ = .next ⟨q, ((({ (d.setAon (fun a => { a with
      osc := true, xtalStopped := false, tempAt := d.ck,
      trans := a.trans.map (fun (t : Trans) => { t with start := t.start + (d.ck - a.stopAt) }) })).sluStartClock with
        sup := { d.sup with energyAt := d.ck } } : Dev).stagedGone.flEmpty.startupBegin 3 .trims).wakeNow).settle⟩)

/-! ### The dictionary (02) -/

/-- A read of an object that is no table image, no cached signal and no INT_CLAIM, when nothing refuses it: the octets of its
value after their LENGTH, no object changed but DICT_TRANSACTIONS (02 R55, R80). Like every transaction of the host it has a CK of
its own, after those of the commands before it, and its turnaround octets precede the answer (02 R74, 03 R87). -/
def Obligations.DictReadCompletes : Prop :=
  ∀ (q : List Instr) (d0 d : Dev) (idx sb off len : Nat) (tm : Timing) (r : ObjRow), d = d0.hostStart →
    idx < 2 ^ 16 → sb < 2 ^ 8 → off < 2 ^ 32 → len < 2 ^ 16 → d.linkTakes tm = true → rowAt idx sb = some r →
    d.readAbort 0 idx sb off len = none → imgOf idx = none → (idx / 256 ≠ 0x5A ∨ sb = 0) → claimObj (objKey idx sb) = false →
    exec (.dictRead idx sb off len tm) ⟨q, d0⟩ = .next ⟨q,
      (d.answered (leOct 2 r.ty.size ++ leOct r.ty.size (d.readObj 0 (objKey idx sb)))).settle⟩

/-- Writes of the dictionary that nothing refuses. A write whose effect is applied at once is counted and answered OK;
of an object of 05 the effect is the value stored. QUERY_ADDR takes the address. The first segment of a table image opens a
transfer, a later one extends it (02 R61), once the check of the sender's own earlier transfer has ended (02 R54). -/
def Obligations.DictWritesComplete : Prop :=
  (∀ (q : List Instr) (d0 d d' : Dev) (k v : Nat) (tm : Timing), d = d0.hostStart → k < 2 ^ 24 → k ≠ 0x180003 → d.hostTakes k v tm = true →
    (d.noteRx k).writeEffect 0 k v = .ok d' →
    exec (.dictWrite (k / 256) (k % 256) 0 0 (leOct (objSize k) v) tm) ⟨q, d0⟩ = .next ⟨q, (d'.answered []).settle⟩)
  ∧ (∀ (q : List Instr) (d0 d : Dev) (k v : Nat) (tm : Timing), d = d0.hostStart → k / 2 ^ 16 = 0x20 → d.hostTakes k v tm = true →
    exec (.dictWrite (k / 256) (k % 256) 0 0 (leOct (objSize k) v) tm) ⟨q, d0⟩ = .next ⟨q, ((d.wr k v).answered []).settle⟩)
  ∧ (∀ (q : List Instr) (d0 d : Dev) (v : Nat) (tm : Timing), d = d0.hostStart → v < 2 ^ 32 → d.hostTakes 0x1F0001 v tm = true →
    exec (.queryAddr v tm) ⟨q, d0⟩ = .next ⟨q, ((d.wr 0x1F0001 v).answered []).settle⟩)
  ∧ (∀ (q : List Instr) (d0 d e : Dev) (n : Nat) (data : Oct) (tm : Timing) (r : ObjRow), d = d0.hostStart → e = d.imgCheckDone n → n < 14 → d.linkTakes tm = true →
    rowAt (imgIdx n) 0 = some r → d.writeAbort r 0 (imgIdx n * 256) 0x0B (leNat data) = none →
    0 < data.length → data.length < 16 →
    exec (.domainSegment n 0 data tm) ⟨q, d0⟩ = .next ⟨q,
      ((e.setImg n (fun i => { i with xfer := some ⟨0, data, e.ck⟩ })).answered []).settle⟩)
  ∧ (∀ (q : List Instr) (d0 d e : Dev) (n : Nat) (data : Oct) (tm : Timing) (r : ObjRow) (x : Xfer), d = d0.hostStart → e = d.imgCheckDone n → n < 14 → d.linkTakes tm = true →
    rowAt (imgIdx n) 0 = some r → d.writeAbort r 0 (imgIdx n * 256) 0x0B (leNat data) = none →
    (e.img n).xfer = some x → 16 ≤ x.data.length → x.data.length < 2 ^ 32 → 0 < data.length → data.length ≤ 1024 →
    (x.data ++ data).length < leAt (x.data ++ data) 4 4 →
    exec (.domainSegment n x.data.length data tm) ⟨q, d0⟩ = .next ⟨q,
      ((e.setImg n (fun i => { i with xfer := some ⟨0, x.data ++ data, e.ck⟩ })).answered []).settle⟩)

/-- The check of a complete image, at 8 octets per CK: one of the bridge or the sluice (images 10 to 13) that passes is staged, and the
write that waited has its result (02 R64, R65); one that fails is discarded, the write ends with 0702h; one of the classifier (images 0 to
9) that passes takes effect in the inactive generation, is aborted with 0203h in the active one, and with 0501h or 0502h where tree
memory or probe slots stand in its way (13 R459, R460; 20 R663). An open transfer that hears nothing for 1 s is discarded and
counted (02 R66). -/
def Obligations.ImageEventsComplete : Prop :=
  (∀ (q : List Instr) (d : Dev) (n : Nat) (x : Xfer), 10 ≤ n → n < 14 → (d.img n).check = some x → imageOk n x.data = true →
    exec (.imageCheckDone n) ⟨q, d⟩ = .next ⟨q,
      ((((d.advanceTo (x.last + (x.data.length + 7) / 8)).setImg n (fun i => { i with check := none })).setImg n
        (fun i => { i with staged := some x.data })).resolve x.ini (imgIdx n) 0 (.ok [])).settle⟩)
  ∧ (∀ (q : List Instr) (d e : Dev) (n : Nat) (x : Xfer), n < 14 → (d.img n).check = some x → imageOk n x.data = false →
    e = (d.advanceTo (x.last + (x.data.length + 7) / 8)).setImg n (fun i => { i with check := none }) →
    exec (.imageCheckDone n) ⟨q, d⟩ = .next ⟨q, (e.resolve x.ini (imgIdx n) 0 (.abort 0x0702 0)).settle⟩)
  ∧ (∀ (q : List Instr) (d e : Dev) (n : Nat) (x : Xfer), n < 10 → (d.img n).check = some x → imageOk n x.data = true →
    e = (d.advanceTo (x.last + (x.data.length + 7) / 8)).setImg n (fun i => { i with check := none }) → n / 5 = e.clsActive →
    exec (.imageCheckDone n) ⟨q, d⟩ = .next ⟨q, (e.resolve x.ini (imgIdx n) 0 (.abort 0x0203 0)).settle⟩)
  ∧ (∀ (q : List Instr) (d e : Dev) (n : Nat) (x : Xfer), n < 10 → (d.img n).check = some x → imageOk n x.data = true →
    e = (d.advanceTo (x.last + (x.data.length + 7) / 8)).setImg n (fun i => { i with check := none }) → n / 5 ≠ e.clsActive →
    e.genClash n x.data = none →
    exec (.imageCheckDone n) ⟨q, d⟩ = .next ⟨q, ((e.genPut n x.data).resolve x.ini (imgIdx n) 0 (.ok [])).settle⟩)
  ∧ (∀ (q : List Instr) (d e : Dev) (n c : Nat) (x : Xfer), n < 10 → (d.img n).check = some x → imageOk n x.data = true →
    e = (d.advanceTo (x.last + (x.data.length + 7) / 8)).setImg n (fun i => { i with check := none }) → n / 5 ≠ e.clsActive →
    e.genClash n x.data = some c →
    exec (.imageCheckDone n) ⟨q, d⟩ = .next ⟨q,
      ((if c = 0x0501 then e.probeRefused n x.ini x.data else e).resolve x.ini (imgIdx n) 0 (.abort c 0)).settle⟩)
  ∧ (∀ (q : List Instr) (d : Dev) (n : Nat) (x : Xfer), n < 14 → (d.img n).xfer = some x →
    exec (.domainTransferTimeout n) ⟨q, d⟩ = .next ⟨q,
      (((d.advanceTo (x.last + 100000000)).setImg n (fun i => { i with xfer := none })).inc 0x1E1003).settle⟩)

/-! ### The host link (03) -/

/-- Memory commands that pass the checks of R108 once no lock cycle on their barges is between CLOSE and OPEN. A read answers the octets, from
the read-ahead buffer where that holds them, and END: 00h, or 01h and a fault-log entry when a word failed; a write stores its octets at
its address, its partial words read with the errors they show. Without errors, and with an empty buffer, the octets are those of
memory, and a write changes nothing but its octets (03 R108-R114). The octets the host sends for them spell the commands, in
single or quad width (03 R84, Table 3.2). -/
def Obligations.MemoryCommandsComplete : Prop :=
  (∀ (q : List Instr) (d0 d e : Dev) (a n : Nat) (ss : List Strike) (tm : Timing), d = d0.hostStart →
    e = d.awaitOpen (bargesOf a (min n 4096)) → a < 2 ^ 24 → strikesOk ss = true → d.hostUp = true → d.late 72 tm = false →
    e.memCheck a n false = none →
    exec (.memRead a n ss none tm) ⟨q, d0⟩ = .next ⟨q,
      (let r := e.memFetch a n ss e.link.ra
       let f := match r.2.1 with
         | [] => r.2.2
         | w :: _ => r.2.2.fault 9 dCORE 0x0701 w n 0
       (f.readAhead a n).sayOk (r.1 ++ [if r.2.1.isEmpty then 0 else 1])).settle⟩)
  ∧ (∀ (q : List Instr) (d0 d : Dev) (a n : Nat) (tm : Timing), d = d0.hostStart → a < 2 ^ 24 → d.hostUp = true → d.late 72 tm = false →
    (bargesOf a n).all (fun b => !d.lockClosed b) = true → d.memCheck a n false = none → d.link.ra = none →
    (wordsOf a n).all (fun w => !d.pm.bad.contains w && d.pm.upsets.all (fun s => strikeWord s != w)) = true →
    exec (.memRead a n [] none tm) ⟨q, d0⟩ = .next ⟨q, ((d.readAhead a n).sayOk (d.memAt a n ++ [0])).settle⟩)
  ∧ (∀ (q : List Instr) (d0 d e : Dev) (a : Nat) (data : Oct) (ss : List Strike), d = d0.hostStart →
    e = d.awaitOpen (bargesOf a (min data.length 4096)) → a < 2 ^ 24 → strikesOk ss = true → d.hostUp = true →
    e.memCheck a data.length true = none → data.length < 2 ^ 16 →
    exec (.memWrite a data ss) ⟨q, d0⟩ = .next ⟨q, ((((e.strike ss).writeMem a data).setLk (fun l =>
      { l with wrote := some e.ck,
               ra := l.ra.filter (fun x => !(a < x.1 + 64 && x.1 < a + data.length)) })).sayOk []).settle⟩)
  ∧ (∀ (q : List Instr) (d0 d : Dev) (a : Nat) (data : Oct), d = d0.hostStart → a < 2 ^ 24 → d.hostUp = true →
    (bargesOf a data.length).all (fun b => !d.lockClosed b) = true → d.memCheck a data.length true = none → d.pm.bad = [] →
    d.pm.upsets = [] →
    exec (.memWrite a data []) ⟨q, d0⟩ = .next ⟨q, (((d.setPm (fun m => { m with mem := memWrite m.mem a data })).setLk (fun l =>
      { l with wrote := some d.ck,
               ra := l.ra.filter (fun x => !(a < x.1 + 64 && x.1 < a + data.length)) })).sayOk []).settle⟩)
  ∧ (∀ (q : List Instr) (d0 d : Dev) (a n : Nat) (tm : Timing), d = d0.hostStart → a < 2 ^ 24 → d.hostUp = true → d.late 200 tm = false →
    (bargesOf a n).all (fun b => !d.lockClosed b) = true → d.memCheck a n false = none →
    (wordsOf a n).all (fun w => !d.pm.bad.contains w && d.pm.upsets.all (fun s => strikeWord s != w)) = true →
    (∀ i < 4, ∀ x ∈ (d.lane i).ops, opCode x.op ≠ 3 ∧ opCode x.op ≠ 4) →
    exec (.memReadAcquire a n [] none tm) ⟨q, d0⟩ = .next ⟨q, ((((d.setLk (fun l => { l with ra := none })).setTow (fun t =>
      { t with cache := [] })).sayOk (d.memAt a n ++ [0]))).settle⟩)
  ∧ (∀ (a n t r : Nat) (data : Oct) (ss : List Strike) (left : Option Nat), a < 2 ^ 24 → n < 2 ^ 16 → data.length < 2 ^ 16 →
    hostRequest (0x21 :: (leOct 3 a ++ leOct 2 n)) ss left t r = .memRead a n ss left ⟨8 * t, r⟩
    ∧ hostRequest (0xA3 :: (leOct 3 a ++ leOct 2 n)) ss left t r = .memReadAcquire a n ss left ⟨2 * t, r⟩
    ∧ hostRequest (0x22 :: (leOct 3 a ++ leOct 2 data.length ++ data)) ss left t r = .memWrite a data ss)

/-- STATUS_POLL answers its eight octets and clears LINK_ERR (03 R118). A DOORBELL within a ring's range, of a TX or an RX ring,
moves RING_HOST and empties the read-ahead buffer (03 R113, R115, R116; 10 R336, R337). INT_COMPLETE of the source on top of a target's stack takes it off (03 R117; 18 R634). -/
def Obligations.PollBellCompleteCommandsComplete : Prop :=
  (∀ (q : List Instr) (d0 d : Dev), d = d0.hostStart → d.linkAnswers = true →
    exec .statusPoll ⟨q, d0⟩ = .next ⟨q, (d.setLk (fun l => { l with response := 0 :: d.pollOctets, linkErr := false })).settle⟩)
  ∧ (∀ (q : List Instr) (d0 d : Dev) (r i : Nat), d = d0.hostStart → r < 56 → isTxRing r = true → i < 2 ^ 16 → d.hostUp = true →
    (d.ringState r = 1 ∨ d.ringState r = 2) → d.brgRing r = false → d.on dPM0 = true →
    sub16 (d.ringHost r) (d.ringDev r) ≤ sub16 i (d.ringDev r) → sub16 i (d.ringDev r) ≤ d.ringN r →
    exec (.doorbell r i) ⟨q, d0⟩ = .next ⟨q, (((d.setLk (fun l => { l with ra := none })).wr (ringKey r 4) i).sayOk []).settle⟩)
  ∧ (∀ (q : List Instr) (d0 d : Dev) (r i : Nat), d = d0.hostStart → r < 56 → isTxRing r = false → i < 2 ^ 16 → d.hostUp = true →
    (d.ringState r = 1 ∨ d.ringState r = 2) → d.brgRing r = false → d.on dPM0 = true →
    sub16 (d.ringDev r) i ≤ sub16 (d.ringDev r) (d.ringHost r) →
    exec (.doorbell r i) ⟨q, d0⟩ = .next ⟨q, (((d.setLk (fun l => { l with ra := none })).wr (ringKey r 4) i).sayOk []).settle⟩)
  ∧ (∀ (q : List Instr) (d0 d : Dev) (t s : Nat), d = d0.hostStart → t < 4 → s < 96 → d.hostUp = true → d.faulted t = false →
    (d.stack t).head?.map (·.1) = some s →
    exec (.intComplete t s) ⟨q, d0⟩ = .next ⟨q, ((d.popTop t).sayOk []).settle⟩)

/-- A transaction for a peer whose session is OPEN takes the lowest free slot, is answered RETRY and goes to the peer (03 R99, R106, R107).
A reissue of a READY slot frees it and gives its result (03 R103, R104). -/
def Obligations.RetryCommandsComplete : Prop :=
  (∀ (q : List Instr) (d0 d : Dev) (peer idx sb off len s : Nat), d = d0.hostStart → peer < 16 → idx < 2 ^ 16 → sb < 2 ^ 8 → off < 2 ^ 32 → len < 2 ^ 16 →
    d.hostUp = true → d.freeSlot = some s → d.towOn = true → d.peerState peer = 2 →
    exec (.dictReadRemote peer idx sb off len) ⟨q, d0⟩ = .next ⟨q,
      (((d.retry s 0x61 peer idx sb none).setLk (fun l => { l with remotes := l.remotes ++ [⟨peer, s, 0x61, idx, sb, 0⟩] })).towQueue peer
        (opRecord 9 s 0 off len idx sb 0)).settle⟩)
  ∧ (∀ (q : List Instr) (d0 d : Dev) (peer idx sb ty off s : Nat) (data : Oct), d = d0.hostStart → peer < 16 → idx < 2 ^ 16 → sb < 2 ^ 8 → ty < 2 ^ 8 →
    off < 2 ^ 32 → data.length < 2 ^ 16 → d.hostUp = true → d.freeSlot = some s → d.towOn = true → d.peerState peer = 2 →
    exec (.dictWriteRemote peer idx sb ty off data) ⟨q, d0⟩ = .next ⟨q,
      (((d.retry s 0x62 peer idx sb none).setLk (fun l => { l with remotes := l.remotes ++ [⟨peer, s, 0x62, idx, sb, 0⟩] })).towQueue peer
        (opRecord 10 s 0 off data.length idx sb ty ++ data)).settle⟩)
  ∧ (∀ (q : List Instr) (d0 d : Dev) (cmd tag s : Nat) (x : Slot) (r : Res), d = d0.hostStart → cmd ∈ [0x11, 0x12, 0x61, 0x62] → 1 ≤ tag → tag < 2 ^ 8 →
    d.hostUp = true → d.link.slots.findIdx? (fun o => o.any (fun x => x.tag == tag && x.cmd == cmd)) = some s →
    d.slot s = some x → x.res = some r →
    exec (.reissue cmd tag) ⟨q, d0⟩ = .next ⟨q, ((d.setSlot s none).sayRes r).settle⟩)

/-- A READY slot is freed 10 ms after it became READY and counted; with an abort nobody collected that is logged. A slot PENDING for 1 s
becomes READY with ABORT 0601h, which is counted, and what it waited for goes on without it, the model's choice (log entry 7) (02 R60, R80; 03 R105). Framing errors count and set LINK_ERR, and nothing answers (03 R120, R123).
HOST_LINK_RESET is answered, then frees every slot (03 R126). -/
def Obligations.LinkEventsComplete : Prop :=
  (∀ (q : List Instr) (d : Dev) (s : Nat) (x : Slot) (body : Oct), s < 8 → d.slot s = some x → x.res = some (.ok body) →
    exec (.slotReadyExpiry s) ⟨q, d⟩ = .next ⟨q, (((d.advanceTo (x.since + 1000000)).setSlot s none).inc 0x181003).settle⟩)
  ∧ (∀ (q : List Instr) (d : Dev) (s : Nat) (x : Slot) (c p : Nat), s < 8 → d.slot s = some x → x.res = some (.abort c p) →
    exec (.slotReadyExpiry s) ⟨q, d⟩ = .next ⟨q,
      ((((d.advanceTo (x.since + 1000000)).setSlot s none).inc 0x181003).slotAbort x.cmd x.idx x.sub c p).settle⟩)
  ∧ (∀ (q : List Instr) (d : Dev) (s : Nat) (x : Slot), s < 8 → d.slot s = some x → x.res = none → x.peer = 0xFF →
    exec (.slotPendingTimeout s) ⟨q, d⟩ = .next ⟨q,
      ((((d.advanceTo (x.since + 100000000)).setLk (fun l => { l with orphans := l.orphans ++ [(x.cmd, x.idx, x.sub, false)] })).settleTxn
        0 x.cmd x.idx x.sub (some 0x0601)).slotReady s (.abort 0x0601 0)).settle⟩)
  ∧ (∀ (q : List Instr) (d : Dev) (s : Nat) (x : Slot), s < 8 → d.slot s = some x → x.res = none → x.peer ≠ 0xFF →
    exec (.slotPendingTimeout s) ⟨q, d⟩ = .next ⟨q,
      ((((d.advanceTo (x.since + 100000000)).setLk (fun l => { l with remotes := l.remotes.map (fun (y : Remote) =>
        if y.peer == x.peer && y.slot == s && y.fate == 0 then { y with fate := 2 } else y) })).settleTxn
        0 x.cmd x.idx x.sub (some 0x0601)).slotReady s (.abort 0x0601 0)).settle⟩)
  ∧ (∀ (q : List Instr) (d : Dev), d.linkAnswers = true →
    exec .csEarlyRise ⟨q, d⟩ = .next ⟨q, ((d.inc 0x181004).setLk (fun l => { l with linkErr := true, lead := 0, response := [] })).settle⟩)
  ∧ (∀ (q : List Instr) (d : Dev) (code : Nat), code < 2 ^ 8 →
    code % 128 ∉ [0x11, 0x12, 0x21, 0x22, 0x23, 0x31, 0x41, 0x51, 0x61, 0x62] → d.linkAnswers = true →
    exec (.unknownCommand code) ⟨q, d⟩ = .next ⟨q, ((d.inc 0x181004).setLk (fun l => { l with linkErr := true, lead := 0, response := [] })).settle⟩)
  ∧ (∀ (q : List Instr) (d0 d : Dev) (tm : Timing), d = d0.hostStart → d.hostTakes 0x180003 0xA5 tm = true →
    exec (.hostLinkReset 0xA5 tm) ⟨q, d0⟩ = .next ⟨q, ((d.answered []).linkReset).settle⟩)

/-! ### Jobs (04) -/

/-- The four commands of a job slot, when nothing refuses them (04 R131-R136, R144, R147): START of a job that claims no probe slots starts
it (of a pound scrub: RUNNING, progress and result 0, the total the pound's barges); SUSPEND of a RUNNING job makes it SUSPENDING, and
of one that is SUSPENDING or SUSPENDED changes nothing; RESUME makes a SUSPENDING or SUSPENDED one RUNNING again; CANCEL of one that is not CANCELLING makes it CANCELLING, and takes a rate step back at once (04 Table 4.1). -/
def Obligations.JobCommandsComplete : Prop :=
  (∀ (q : List Instr) (d0 d : Dev) (n : Nat) (tm : Timing), d = d0.hostStart → n < 4 → d.hostTakes (jobKey n 2) 1 tm = true →
    (d.jobKind n ≤ 3 → d.nvStartFits (d.jobKind n) = true) → d.jobProbes n = none →
    exec (.jobStart n tm) ⟨q, d0⟩ = .next ⟨q, ((d.jobStart n).answered []).settle⟩)
  ∧ (∀ (q : List Instr) (d0 d : Dev) (n : Nat) (tm : Timing), d = d0.hostStart → n < 4 → d.hostTakes (jobKey n 2) 1 tm = true → d.jobKind n = 5 →
    exec (.jobStart n tm) ⟨q, d0⟩ = .next ⟨q, ((((((((d.wr (jobKey n 4) 0).wr (jobKey n 7) 0).wr (jobKey n 8) 0).setJobU n
      (fun _ => ⟨d.ck, 0, [], [], [], 0, 0, []⟩)).wr (jobKey n 3) 1).wr (jobKey n 5)
      ((((((d.wr (jobKey n 4) 0).wr (jobKey n 7) 0).wr (jobKey n 8) 0).wr (jobKey n 3) 1)).poundCount (d.jobParam n 0))).answered
      [])).settle⟩)
  ∧ (∀ (q : List Instr) (d0 d : Dev) (n : Nat) (tm : Timing), d = d0.hostStart → n < 4 → d.hostTakes (jobKey n 2) 2 tm = true → d.jobState n = 1 →
    exec (.jobSuspend n tm) ⟨q, d0⟩ = .next ⟨q, (((d.setJobU n (fun u => { u with askAt := d.ck })).wr (jobKey n 3) 2).answered []).settle⟩)
  ∧ (∀ (q : List Instr) (d0 d : Dev) (n : Nat) (tm : Timing), d = d0.hostStart → n < 4 → d.hostTakes (jobKey n 2) 2 tm = true →
    d.jobState n ≠ 1 → exec (.jobSuspend n tm) ⟨q, d0⟩ = .next ⟨q, (d.answered []).settle⟩)
  ∧ (∀ (q : List Instr) (d0 d : Dev) (n : Nat) (tm : Timing), d = d0.hostStart → n < 4 → d.hostTakes (jobKey n 2) 3 tm = true →
    exec (.jobResume n tm) ⟨q, d0⟩ = .next ⟨q, (((d.setJobU n (fun u => { u with
      cause := 0, items := if d.jobKind n = 5 || d.jobKind n = 6 then [] else u.items,
      since := if d.jobState n == 3 || (d.jobKind n == 6 && !(d.jobU n).items.isEmpty) then d.ck else u.since })).wr
        (jobKey n 3) 1).answered []).settle⟩)
  ∧ (∀ (q : List Instr) (d0 d : Dev) (n : Nat) (tm : Timing), d = d0.hostStart → n < 4 → d.hostTakes (jobKey n 2) 4 tm = true → d.jobState n ≠ 4 →
    exec (.jobCancel n tm) ⟨q, d0⟩ = .next ⟨q,
      (let e := ((d.loadStops n).setJobU n (fun u => { u with cause := 0, askAt := d.ck })).wr (jobKey n 3) 4
       (if d.jobKind n = 8 then e.rateUndo else e).answered []).settle⟩)

/-- Suspend points, cancels that end, and a pound scrub. A SUSPENDING job, or one a domain that leaves asks to suspend, that stands at
its kind's suspend point is SUSPENDED, with cause 1 for the host's request (04 R133, R139, R142, R146); one that does not stand
there goes on. A CANCELLING job ends CANCELLED with result 0 once what Table 4.1 names is undone: a bank test zeroes its bank in
65,536 CK, a cable diagnosis leaves its port down, a rate step its advertisement as it was, a table load its claims, an NV job its
reservation (04 R145). A scrub reads its next barge that is not retired, at its pace, and moves on; one with an uncorrectable word ends
the job FAILED with 0701h at its end (09 R318, 04 R141). That one asked in the CK of its last unit ends with that unit is 04 R143. -/
def Obligations.JobScrubEventsComplete : Prop :=
  (∀ (q : List Instr) (d : Dev) (n c : Nat), n < 4 → c = (d.jobU n).cause → d.jobState n = 2 ∨ (d.jobState n = 1 ∧ c ≠ 0) →
    d.jobKind n = 5 ∨ (d.jobKind n = 6 ∧ (d.jobU n).items ≠ []) ∨ ((d.jobKind n = 1 ∨ d.jobKind n = 3) ∧ d.nvAtPoint n = true) →
    exec (.jobSuspendPoint n) ⟨q, d⟩ = .next ⟨q,
      ((((d.wr (jobKey n 8) (if c = 0 then 1 else c)).setJobU n (fun u => { u with cause := 0 })).wr (jobKey n 3) 3).fire (8 + n)).settle⟩)
  ∧ (∀ (q : List Instr) (d : Dev) (n : Nat), n < 4 →
    (d.jobKind n = 6 ∧ (d.jobU n).items = []) ∨ ((d.jobKind n = 1 ∨ d.jobKind n = 3) ∧ d.nvAtPoint n = false) →
    exec (.jobSuspendPoint n) ⟨q, d⟩ = .next ⟨q, d.settle⟩)
  ∧ (∀ (q : List Instr) (d e : Dev) (n : Nat), n < 4 → d.jobState n = 4 → d.jobKind n < 4 → d.nvCancelled n = true →
    e = (if d.jobKind n = 0 then d else d.nvRelease) →
    exec (.jobCancelDone n) ⟨q, d⟩ = .next ⟨q,
      ((((e.setJobU n (fun _ => JobU.idle)).wr (jobKey n 7) 0).wr (jobKey n 3) 7).fire (8 + n)).settle⟩)
  ∧ (∀ (q : List Instr) (d e : Dev) (n : Nat), n < 4 → d.jobState n = 4 →
    (d.jobKind n = 4 ∧ e = d.jobUnclaim n) ∨ (d.jobKind n = 5 ∧ e = d) ∨ (d.jobKind n = 7 ∧ e = d.setLink (d.jobParam n 0) 0)
      ∨ (d.jobKind n = 8 ∧ e = d.rateUndo) →
    exec (.jobCancelDone n) ⟨q, d⟩ = .next ⟨q,
      ((((e.setJobU n (fun _ => JobU.idle)).wr (jobKey n 7) 0).wr (jobKey n 3) 7).fire (8 + n)).settle⟩)
  ∧ (∀ (q : List Instr) (d e : Dev) (n : Nat), n < 4 → d.jobState n = 4 → d.jobKind n = 6 →
    e = d.advanceTo ((d.jobU n).askAt + 65536) → (e.dom (bankDom (e.jobParam n 0))).st ≠ .off →
    exec (.jobCancelDone n) ⟨q, d⟩ = .next ⟨q,
      (((((e.bankTestEnd n false).setJobU n (fun _ => JobU.idle)).wr (jobKey n 7) 0).wr (jobKey n 3) 7).fire (8 + n)).settle⟩)
  ∧ (∀ (q : List Instr) (d e : Dev) (n j p at_ : Nat) (ss : List Strike), n < 4 → strikesOk ss = true → p = d.jobParam n 1 →
    at_ = max d.ck (if p = 0 then 0 else (d.jobU n).since + 10000 / p) → d.jobUnit n 5 at_ (p == 0) = true →
    d.scrubNext (d.jobParam n 0) (d.rd (jobKey n 4)) (d.rd (jobKey n 5) - d.rd (jobKey n 4)) = some j →
    d.lockBusy (d.poundBase (d.jobParam n 0) + j) = false → e = d.advanceTo at_ →
    exec (.poundScrubBarge n ss) ⟨q, d⟩ = .next ⟨q,
      (let r := e.readMem (256 * (d.poundBase (d.jobParam n 0) + j)) 256 ss
       let f := (r.2.2.setJobU n (fun u => { u with
         since := e.ck, items := if e.jobAsked n then [0] else [],
         code := if r.2.1.isEmpty then u.code else 0x0701 })).wr (jobKey n 4) (j + 1)
       if (f.scrubNext (d.jobParam n 0) (j + 1) (d.rd (jobKey n 5) - (j + 1))).isNone then
         (f.wr (jobKey n 4) (d.rd (jobKey n 5))).jobLast n (fun f =>
           if (f.jobU n).code != 0 && f.jobState n != 4 then f.jobFail n (f.jobU n).code else f.jobDone n)
       else f).settle⟩)

/-- Units of the other jobs. A pass of a RUNNING bank test counts the words that fail to verify and notes the first, and moves the
progress on by 65,536 words (09 R319); between two passes the bank reads as the pattern that the next pass verifies, the model's
choice (log entry 64); the last pass ends the job, DONE, or FAILED with 0701h where a word failed (09 R319, R320). A load of a table, staged or
stored, ends: one that passes its checks is in effect, in a generation too, and the job DONE; one of a stored image that fails them, or
of an image that clashes with the other generation, ends FAILED with 0702h (04 R138, R710; 13 R459, R460). The phases of a cable diagnosis:
10 ms for foreign energy; the echoes; the first echo above 200 permille and its analysis, whose code is the model's choice (log entry
93); the results written, the port left stopped, the job DONE (12 R438, R439). -/
def Obligations.JobUnitEventsComplete : Prop :=
  (∀ (q : List Instr) (d e f : Dev) (n m : Nat) (bad : List Nat), n < 4 → (∀ w ∈ bad, w < 2 ^ 21) → d.jobKind n = 6 → d.jobState n = 1 →
    (d.jobU n).items = [] → (d.jobU n).cause = 0 → m = d.rd (jobKey n 4) → m + 65536 < 262144 →
    e = d.advanceTo ((d.jobU n).since + 131072) →
    f = forEach (if m = 0 then [] else (bad.map (fun a => a / 8 * 8)).filter (fun a => bankOfAddr a == d.jobParam n 0)) e (fun a x =>
      (if x.rd 0x255001 = 0xFFFFFFFF then (x.inc 0x255002).wr 0x255001 a else x.inc 0x255002).setJobU n (fun u =>
        { u with failed := if u.failed.contains (a / 256) then u.failed else u.failed ++ [a / 256] })) →
    exec (.bankTestPass n bad) ⟨q, d⟩ = .next ⟨q, (((f.wr (jobKey n 4) (m + 65536)).setJobU n
      (fun u => { u with items := if f.jobAsked n then [0] else [], since := f.ck })).setPm (fun x => { x with
        mem := memZero x.mem (0x80000 * d.jobParam n 0) 0x80000,
        filled := x.filled.filter (fun y => y.1 != d.jobParam n 0) ++ [(d.jobParam n 0, m / 65536 + 1)] })).settle⟩)
  ∧ (∀ (q : List Instr) (d e f : Dev) (n : Nat), n < 4 → d.jobKind n = 6 → d.jobState n = 1 → (d.jobU n).items = [] →
    (d.jobU n).cause = 0 → d.rd (jobKey n 4) = 196608 → e = d.advanceTo ((d.jobU n).since + 131072) →
    f = (((e.wr (jobKey n 4) 262144).setJobU n (fun u => { u with items := if e.jobAsked n then [0] else [], since := e.ck })).setPm (fun x =>
      { x with mem := memZero x.mem (0x80000 * d.jobParam n 0) 0x80000,
               filled := x.filled.filter (fun y => y.1 != d.jobParam n 0) })).bankTestEnd n true →
    exec (.bankTestPass n []) ⟨q, d⟩ = .next ⟨q, (if (d.jobU n).failed = [] then f.jobDone n else f.jobFail n 0x0701).settle⟩)
  ∧ (∀ (q : List Instr) (d e : Dev) (n i c : Nat) (l : Oct) (ok : Bool), n < 4 → c = d.loadCount n → l = (d.jobU n).data →
    d.jobUnit n 4 (max d.ck ((d.jobU n).since + c)) false = true → d.jobImage n = some i →
    e = (d.advanceTo ((d.jobU n).since + c)).wr (jobKey n 4) c → (i < 10 → e.genClash i l = none) →
    (d.jobParam n 2 = 1 → 16 ≤ l.length ∧ headerOk i l = true ∧ leAt l 4 4 = l.length ∧ ok = true ∧ imageOk i l = true) →
    exec (.tableLoadDone n ok) ⟨q, d⟩ = .next ⟨q, ((e.tablePut i l).jobDone n).settle⟩)
  ∧ (∀ (q : List Instr) (d e : Dev) (n i c : Nat) (l : Oct) (ok : Bool), n < 4 → c = d.loadCount n → l = (d.jobU n).data →
    d.jobUnit n 4 (max d.ck ((d.jobU n).since + c)) false = true → d.jobImage n = some i → d.jobState n ≠ 4 →
    e = (d.advanceTo ((d.jobU n).since + c)).wr (jobKey n 4) c →
    (i < 10 ∧ e.genClash i l ≠ none) ∨ (d.jobParam n 2 = 1 ∧ (ok = false ∨ imageOk i l = false)) →
    exec (.tableLoadDone n ok) ⟨q, d⟩ = .next ⟨q, (((if i = 13 then e.fire 83 else e).jobUnclaim n).jobFail n 0x0702).settle⟩)
  ∧ (∀ (q : List Instr) (d f : Dev) (n : Nat) (e : Echo), n < 4 → echoOk e = true →
    d.jobUnit n 7 (max d.ck ((d.jobU n).since + 1000000)) false = true → d.rd (jobKey n 4) = 0 → (d.jobU n).code ≠ 4 →
    f = d.advanceTo ((d.jobU n).since + 1000000) →
    exec (.cableDiagPhase n e) ⟨q, d⟩ = .next ⟨q, ((f.wr (jobKey n 4) 1).setJobU n
      (fun x => { x with since := f.ck, code := if e.energy then 4 else x.code })).settle⟩)
  ∧ (∀ (q : List Instr) (d f : Dev) (n : Nat) (e : Echo), n < 4 → echoOk e = true →
    d.jobUnit n 7 (max d.ck ((d.jobU n).since + e.us * 100)) false = true → d.rd (jobKey n 4) = 1 → (d.jobU n).code ≠ 4 →
    f = d.advanceTo ((d.jobU n).since + e.us * 100) →
    exec (.cableDiagPhase n e) ⟨q, d⟩ = .next ⟨q, ((f.wr (jobKey n 4) 2).setJobU n
      (fun x => { x with since := f.ck, echoes := e.echoes })).settle⟩)
  ∧ (∀ (q : List Instr) (d f : Dev) (n : Nat) (e : Echo) (x : Option (Nat × Int)), n < 4 → echoOk e = true →
    d.jobUnit n 7 (max d.ck ((d.jobU n).since + min e.us 1000 * 100)) false = true → d.rd (jobKey n 4) = 2 → (d.jobU n).code ≠ 4 →
    f = d.advanceTo ((d.jobU n).since + min e.us 1000 * 100) →
    x = (d.jobU n).echoes.find? (fun y => 200 < y.2.natAbs) →
    exec (.cableDiagPhase n e) ⟨q, d⟩ = .next ⟨q, ((f.wr (jobKey n 4) 3).setJobU n (fun u => { u with
      since := f.ck, echoes := x.toList, code := cableResult x e.result })).settle⟩)
  ∧ (∀ (q : List Instr) (d f : Dev) (n p : Nat) (e : Echo), n < 4 → echoOk e = true →
    d.jobUnit n 7 (max d.ck ((d.jobU n).since + 1)) false = true → 3 ≤ d.rd (jobKey n 4) ∨ (d.jobU n).code = 4 → p = d.jobParam n 0 →
    f = d.advanceTo ((d.jobU n).since + 1) →
    exec (.cableDiagPhase n e) ⟨q, d⟩ = .next ⟨q, (((((f.wr (0x305002 + 0x10000 * p) (d.jobU n).code).wr (0x305003 + 0x10000 * p)
      (cableDistance (f.rd (0x305001 + 0x10000 * p)) ((d.jobU n).echoes.head?.map (·.1)))).wr (0x305004 + 0x10000 * p)
        (ofSigned 16 (((d.jobU n).echoes.head?.map (·.2)).getD 0))).setLink p 0).jobDone n).settle⟩)

/-! ### The supply (05) -/

/-- POR and start-up steps 0 and 1. POR leaves everything but the NV array as at State.reset, but for the model's own counts and the board's VIO (log entry 85) (05 R151,
R152; 07 R234). At its end start-up begins with cause 1 and the oscillator starts (05 R711). A stable oscillator ends step 0
(21 R691), and ON requests of wake latches set meanwhile are placed (06 R209). Step 1 ends, 50 µs after it began, with the PLL's start,
or after POR with the comparators at their levels, and main in range moves the selector to QUALIFY (05 R158; 07 R238). A comparator that
changes while the oscillator is stopped starts it, and that of VBAK_OK is noted until its level has been held; while the oscillator
runs, that one acts after the hold of 48 CKX behind its synchronizer, whose 2 or 3 CKX are a free value (05 R153; 06 R714; log entries 6
and 83). -/
def Obligations.SupplyStartCommandsComplete : Prop :=
  (∀ (q : List Instr) (d : Dev),
    exec .powerOnReset ⟨q, d⟩ = .next ⟨q, ({ Dev.initial with
      nv := d.nvCollapse.nv, ck := d.ck, rng := { d.rng with ckx := 0 }, opens := d.opens,
      aon := { Dev.initial.aon with startups := d.aon.startups },
      sup := { Dev.initial.sup with vioSel := d.sup.vioSel, vioIn := d.sup.vioIn },
      link := { Dev.initial.link with lead := d.link.lead, response := d.link.response } } : Dev).settle⟩)
  ∧ (∀ (q : List Instr) (d : Dev), d.aon.inPor = true →
    exec .porEnd ⟨q, d⟩ = .next ⟨q, (((d.setAon (fun a => { a with inPor := false, oscStarting := true })).wr 0x220002 1).setAon
      (fun a => { a with startup := .oscStart, startAt := d.ck, stepAt := d.ck, startups := a.startups + 1, upBase := none,
                         nvmOffAfter := false }) |>.setLk (fun l => { l with ready := false })).settle⟩)
  ∧ (∀ (q : List Instr) (d : Dev), d.aon.osc = false → d.aon.inPor = false → d.aon.xtalStopped = false →
    (d.aon.oscStarting || d.oscNeeded) = true →
    exec .oscStable ⟨q, d⟩ = .next ⟨q, (((d.setAon (fun a =>
      { a with osc := true, oscStarting := false, tempAt := d.ck, monitorAt := a.monitorAt.map (fun _ => d.ck),
               startup := if d.aon.startup = .oscStart then .trims else a.startup,
               stepAt := if d.aon.startup = .oscStart then d.ck else a.stepAt })).setSup
        (fun s => { s with energyAt := d.ck })).wakeNow).settle⟩)
  ∧ (∀ (q : List Instr) (d : Dev) (main vbak : Bool), d.supRuns = true → d.aon.startup = .trims → (d.advanceTo (d.aon.stepAt + 5000)).sup.everMain = true →
    exec (.aonTrimsDone main vbak) ⟨q, d⟩ = .next ⟨q, ((d.advanceTo (d.aon.stepAt + 5000)).pllStep).settle⟩)
  ∧ (∀ (q : List Instr) (d : Dev) (main vbak : Bool), d.supRuns = true → d.aon.startup = .trims →
    (d.advanceTo (d.aon.stepAt + 5000)).sup.everMain = false →
    exec (.aonTrimsDone main vbak) ⟨q, d⟩ = .next ⟨q,
      (let e := ((d.advanceTo (d.aon.stepAt + 5000)).setSup (fun s => { s with vbakOk := vbak })).mainEdge main
       let f := e.setAon (fun a => { a with startup := .supplySelect, stepAt := e.ck })
       if main && f.supState = 2 then
         (f.setSup (fun s => { s with qualAt := f.ck, qualMs := if f.sup.stretch then 500 else 20 })).selEnter 3
       else f).settle⟩)
  ∧ (∀ (q : List Instr) (d : Dev) (v : Option Bool), d.aon.osc = false → d.aon.inPor = false → d.aon.xtalStopped = false →
    exec (.monitorChangeOscStart v) ⟨q, d⟩ = .next ⟨q, ((d.setAon (fun a =>
      { a with oscStarting := true, monitorAt := some d.ck })).setSup (fun s =>
        { s with vbakDue := if v = none then s.vbakDue else v })).settle⟩)
  ∧ (∀ (q : List Instr) (d e : Dev) (b : Bool) (n : Nat), d.aon.osc = true → d.aon.inPor = false → d.aon.xtalStopped = false →
    (n, e) = d.holdCk →
    exec (.monitorChangeOscStart (some b)) ⟨q, d⟩ = .next ⟨q, ((e.tick n).setSup (fun s =>
      { s with vbakOk := b, vbakDue := none })).settle⟩)

/-- The selector's moves (05 R157, R158, R161, R171-R175), a level that changed while the oscillator was stopped held for 48 CKX first (06
R714): MAIN to DOWN, with the shed requests unless the backup is too low, DOWN to BACKUP with the hold time noted and on to QUALIFY
if main is back, BACKUP to QUALIFY, QUALIFY to MAIN at its end, a bounce back to BACKUP, the third within 1 s with the
stretch, the end of the stretch. The CKX of a synchronizer are free values (log entry 6). -/
def Obligations.SupplySelectorCommandsComplete : Prop :=
  (∀ (q : List Instr) (d e : Dev) (vbak : Bool), d.supRuns = true → d.supState = 0 → e = d.monitorHold →
    exec (.supplyDown vbak) ⟨q, d⟩ = .next ⟨q,
      (let f := ((((((e.inc 0x202001).wr 0x201003 (e.rd 0x201001)).wr 0x201004 (e.rd 0x201002)).setSup (fun s => { s with
         vbakOk := vbak, vbakDue := none, downAt := e.ck, lowBackup := !vbak, regPend := vbak, regDue := none })).mainEdge false).selEnter 1).sluDown.setNv
           (fun v => { v with pws := v.pws.map (fun (p : PwReq) => { p with recheck := true }) })
       if vbak then forEach [1, 2, 3, 4, 5, 6, 7, 8, 9, 10, 11, 12, 13, 14, 15] f (fun n x => x.shedOne n) else f).settle⟩)
  ∧ (∀ (q : List Instr) (d : Dev) (us : Nat) (main : Bool), us ≤ 40 → d.supRuns = true → d.supState = 1 → d.sup.lowBackup = false →
    exec (.downToBackup us main) ⟨q, d⟩ = .next ⟨q,
      (let e := d.advanceTo (d.sup.downAt + us * 100)
       let f := (((e.wr 0x202003 (min ((e.ck - e.sup.downAt) / 100) 0xFF)).selEnter 2).mainEdge main).regulator
       if main then (f.tick 1).qualify else f).settle⟩)
  ∧ (∀ (q : List Instr) (d e : Dev), d.supRuns = true → d.supState = 2 → d.supSettled = true → e = d.monitorHold.mainEdge true →
    exec .mainReturn ⟨q, d⟩ = .next ⟨q, ((e.setSup (fun s => { s with qualAt := e.ck, qualMs := if e.sup.stretch then 500 else 20 })).selEnter
      3).settle⟩)
  ∧ (∀ (q : List Instr) (d : Dev), d.supRuns = true → d.supState = 3 →
    exec .qualifyExpiry ⟨q, d⟩ = .next ⟨q, ((d.advanceTo (d.sup.qualAt + d.sup.qualMs * 100000)).mainEntered).settle⟩)
  ∧ (∀ (q : List Instr) (d e : Dev) (dt : Nat), d.supRuns = true → d.supState = 3 → dt < d.sup.qualMs * 100000 →
    e = ((((d.advanceTo (d.sup.qualAt + dt)).mainEdge false).inc 0x202002).selEnter 2) →
    exec (.supplyBounce dt) ⟨q, d⟩ = .next ⟨q,
      (let third := decide (2 ≤ (e.sup.bounces.filter (fun t => e.ck ≤ t + 100000000)).length) && !e.sup.stretch
       let f := e.setSup (fun s => { s with
         bounces := (s.bounces ++ [e.ck]).drop (s.bounces.length - 1), stretch := s.stretch || third })
       if third then f.fire 2 else f).settle⟩)
  ∧ (∀ (q : List Instr) (d : Dev) (t : Nat), d.sup.bounces.getLast? = some t → d.sup.stretch = true → d.supRuns = true →
    exec .stretchEnd ⟨q, d⟩ = .next ⟨q, ((d.advanceTo (t + 100000000)).setSup (fun s => { s with stretch := false })).settle⟩)

/-- Brown-outs (05 R168-R171, R185): the core rail records cause 3 on main and 1 elsewhere, VBAK cause 2, and each counts, locks out and forces
every domain but KEEP OFF; VBAK's turns the sluice's outputs as 16 R582 says; the brown-out of a DOWN with too little backup records cause 4, ends the step of the
non-volatile array, and the selector goes to BACKUP, on to QUALIFY if main is back; at the end of the lockout of cause 3 start-up runs.
That the hold time stops at FFh, what a brown-out leaves of a start-up, and that a step that writes a mark passes its margin read are
the model's choices (log entries 84, 28 and 33). -/
def Obligations.BrownOutCommandsComplete : Prop :=
  (∀ (q : List Instr) (d e : Dev) (rail : Bool), d.supRuns = true → d.sup.everMain = true → (rail = true ∨ d.supState ≠ 0) →
    e = d.monitorHold →
    exec (.brownOut rail) ⟨q, d⟩ = .next ⟨q,
      (let c := if rail then (if d.supState = 0 then 3 else 1) else 2
       let f := ((((e.nvCollapse.wr 0x202004 c).inc 0x202005).setAon (fun a =>
         { a with startup := .none, rstLow := false, nvmOffAfter := false, coreDue := none })).setSup (fun s =>
           { s with lockout := true, lockCause := c })).forceOff [1, 2, 3, 4, 5, 6, 7, 8, 9, 10, 11, 12, 13, 14, 15] true
       if rail then f else f.sluBrownOut).settle⟩)
  ∧ (∀ (q : List Instr) (d x : Dev), d.supRuns = true → d.supState = 1 → d.sup.lowBackup = true →
    x = (if d.nv.step.isSome then d.nvFinish true else d) →
    exec .brownoutLowBackup ⟨q, d⟩ = .next ⟨q,
      (let e := (((((x.nvCollapse.wr 0x202004 4).inc 0x202005).setAon (fun a =>
          { a with startup := .none, rstLow := false, nvmOffAfter := false, coreDue := none })).setSup (fun s =>
          { s with lockout := true, lockCause := 4 })).forceOff [1, 2, 3, 4, 5, 6, 7, 8, 9, 10, 11, 12, 13, 14, 15] true).setSup
          (fun s => { s with lowBackup := false, regPend := true, regDue := none })
       let f := ((e.wr 0x202003 (min ((e.ck - e.sup.downAt) / 100) 0xFF)).selEnter 2).regulator
       if f.sup.mainIn then (f.tick 1).qualify else f).settle⟩)
  ∧ (∀ (q : List Instr) (d : Dev), d.supRuns = true → d.sup.lockout = true → d.sup.lockCause = 3 →
    exec .lockoutEnd ⟨q, d⟩ = .next ⟨q, ((d.setSup (fun s =>
      { s with lockout := false, lockCause := 0, src1Due := true })).supplyRestart).settle⟩)

/-- The monitor and PoDL. A sample sets VIN_MV to 10 mV a code, VBAK_MV to 1.5 mV a code, and STORED_ENERGY (2030h:05) from both (05 R176, R712), by the model's reading of the figure (log entry 31); with it come the level of
VBAK_OK and the board's VIO, where that has changed (log entry 85). A change of
PODL_STATE is counted, fires source 4 and edges wake latch 1; with PODL_CLS open it is 0, with a resistor of no class 5, with one of
a class 1 once the signature is detected and 2 once the PSE has asked for the class; power gives 3, the end of the ramp 4, turning off 1 (05 R181-R184). -/
def Obligations.EnergyAndPodlCommandsComplete : Prop :=
  (∀ (q : List Instr) (d e x : Dev) (vin vbak : Nat) (ok : Bool) (v : Option Nat), vin < 4096 → vbak < 4096 → d.supRuns = true →
    x = d.setSup (fun s => { s with vioIn := v.getD s.vioIn }) → e = x.advanceTo (x.sup.energyAt + 100000) →
    exec (.energySample vin vbak ok v) ⟨q, d⟩ = .next ⟨q,
      (let m := (e.wr 0x200003 (10 * vin)).wr 0x200004 (vbak * 3 / 2)
       (m.wr 0x203005 (energyOf m.backupTerm m.holdupTerm)).setSup (fun s => { s with energyAt := e.ck, vbakOk := ok, vbakDue := none })).settle⟩)
  ∧ (∀ (q : List Instr) (d : Dev) (asked : Bool), d.rd 0x204001 ≠ 3 → d.rd 0x204001 ≠ 4 →
    exec (.podlClassify none asked) ⟨q, d⟩ = .next ⟨q, ((d.wr 0x204002 0).podlSet 0).settle⟩)
  ∧ (∀ (q : List Instr) (d : Dev) (r c : Nat) (asked : Bool), d.rd 0x204001 ≠ 3 → d.rd 0x204001 ≠ 4 → podlClass r = some c →
    exec (.podlClassify (some r) asked) ⟨q, d⟩ = .next ⟨q,
      (if asked then ((d.wr 0x204002 c).podlSet 1).podlSet 2 else (d.wr 0x204002 c).podlSet 1).settle⟩)
  ∧ (∀ (q : List Instr) (d : Dev) (r : Nat) (asked : Bool), d.rd 0x204001 ≠ 3 → d.rd 0x204001 ≠ 4 → podlClass r = none →
    exec (.podlClassify (some r) asked) ⟨q, d⟩ = .next ⟨q, ((d.wr 0x204002 0).podlSet 5).settle⟩)
  ∧ (∀ (q : List Instr) (d : Dev), d.rd 0x204001 = 2 →
    exec .podlPowerOn ⟨q, d⟩ = .next ⟨q, ((((d.wr 0x204001 3).inc 0x204003).fire 4).latch 1).settle⟩)
  ∧ (∀ (q : List Instr) (d : Dev), d.rd 0x204001 = 3 →
    exec .podlInrushRampEnd ⟨q, d⟩ = .next ⟨q, ((((d.wr 0x204001 4).inc 0x204003).fire 4).latch 1).settle⟩)
  ∧ (∀ (q : List Instr) (d : Dev), (d.rd 0x204001 = 2 ∨ d.rd 0x204001 = 3 ∨ d.rd 0x204001 = 4) →
    exec .podlTurnOff ⟨q, d⟩ = .next ⟨q, ((((d.wr 0x204001 1).inc 0x204003).fire 4).latch 1).settle⟩)

/-! ### Power domains (06) -/

/-- Requests and the controller (06 R191-R196, R201, R202, R224). A DOM_REQ places its request, but for CORE away from ON, which waits
for its response; a selection takes the next transition, CORE first where it is missing; the drain's end completes
the lock cycles in progress on what the domain holds and takes what it held. -/
def Obligations.DomainRequestCommandsComplete : Prop :=
  (∀ (q : List Instr) (d0 d : Dev) (n : Nat) (tm : Timing), d = d0.hostStart → n < 16 → d.hostTakes (0x211001 + n) 2 tm = true →
    exec (.domReq n 2 tm) ⟨q, d0⟩ = .next ⟨q, ((d.placeReq n .on).answered []).settle⟩)
  ∧ (∀ (q : List Instr) (d0 d : Dev) (n v : Nat) (tm : Timing), d = d0.hostStart → n < 16 → n ≠ 1 → v < 2 →
    d.hostTakes (0x211001 + n) v tm = true →
    exec (.domReq n v tm) ⟨q, d0⟩ = .next ⟨q, ((d.placeReq n (if v = 1 then .retention else .off)).answered []).settle⟩)
  ∧ (∀ (q : List Instr) (d0 d : Dev) (v : Nat) (tm : Timing), d = d0.hostStart → v < 2 → d.hostTakes 0x211002 v tm = true →
    exec (.domReq 1 v tm) ⟨q, d0⟩ = .next ⟨q, (((d.wr 0x211002 v).setAon (fun a => { a with coreDue := some (0xFF, v) })).answered
      []).settle⟩)
  ∧ (∀ (q : List Instr) (d e : Dev) (n : Nat) (t : DSt) (r : Bool), d.aon.trans = none → d.aon.osc = true → d.aon.xtalStopped = false →
    e = d.clearRequests → e.nextTrans = some (n, t, r) →
    exec .domainSelect ⟨q, d⟩ = .next ⟨q, (if t = .on ∧ r = false ∧ 2 ≤ n ∧ (e.dom 1).st ≠ .on
      then (e.placeReq 1 .on).transSelect 1 .on false else e.transSelect n t r).settle⟩)
  ∧ (∀ (q : List Instr) (d : Dev) (t : Trans), d.aon.trans = some t → t.waiting = false → t.drained = false → d.transDrains t = true →
    d.aon.xtalStopped = false →
    exec .domainDrainDone ⟨q, d⟩ = .next ⟨q, ((((d.advanceTo (t.start + drainCk t.dom)).setAon (fun a =>
      { a with trans := some { t with drained := true } })).drainLocks t.dom).leaves t.dom (t.isReset || t.target == .off) t.isReset).settle⟩)

/-- Transitions that end, of every domain, a supply that fails, and the owner scan of a bank. From OFF to ON: the domain is ON, starts
up with its objects at their defaults and its images loaded, takes its claims, and source 6 fires unless a request waits (06 R194,
R198, R199; 20 R669); from RETENTION to ON what it kept goes on; to RETENTION or OFF it leaves what it held as its drain ends, which goes
with it at OFF (06 R201; 07 Table 7.2); a domain reset leaves, loses and starts up again in one (07 R250). A supply that fails in a
transition to ON: the domain is OFF, marked failed, counted, logged, and source 7 fires (06 R222); until when it may fail is the model's
choice (log entry 29). The scan of a bank's owner array, 2,048 CK: a FREE barge joins its free list, in barge order; with the bank
kept through a reset every one that an engine owns, or that is locked, is freed with zeroing, as log entry 37 says for one in no
pound (09 R323). -/
def Obligations.DomainTransitionCommandsComplete : Prop :=
  (∀ (q : List Instr) (d e : Dev) (t : Trans) (bad : List Nat) (n : Nat), (∀ i ∈ bad, i < 14) → d.aon.trans = some t → n = t.dom → n < 16 →
    t.target = .on → t.isReset = false → t.waiting = false → t.pllWait = false → t.lost = false → d.aon.xtalStopped = false →
    (d.dom n).st = .off → e = d.advanceTo (t.start + d.transCk t) →
    exec (.domainTransitionEnd bad) ⟨q, d⟩ = .next ⟨q,
      (let e := ((e.transOver n .on false).startsUp n bad).claimsOn n
       let e := if n = 14 then e.towReachesOn else e
       let e := if (e.dom n).pend.isNone then e.fire 6 else e
       let e := if n = 1 then e.coreUp else e
       if n = 2 && (e.aon.startup = .nvLoad || e.aon.nvLoadDue) then e.setAon (fun a => { a with stepAt := e.ck }) else e).settle⟩)
  ∧ (∀ (q : List Instr) (d e : Dev) (t : Trans) (bad : List Nat) (n : Nat), (∀ i ∈ bad, i < 14) → d.aon.trans = some t → n = t.dom → n < 16 →
    t.target = .on → t.isReset = false → t.waiting = false → t.pllWait = false → t.lost = false → d.aon.xtalStopped = false →
    (d.dom n).st = .retention → e = d.advanceTo (t.start + d.transCk t) →
    exec (.domainTransitionEnd bad) ⟨q, d⟩ = .next ⟨q,
      (let e := ((e.transOver n .on false).resumes n).claimsOn n
       let e := if n = 14 then e.towReachesOn else e
       let e := if (e.dom n).pend.isNone then e.fire 6 else e
       if n = 2 && (e.aon.startup = .nvLoad || e.aon.nvLoadDue) then e.setAon (fun a => { a with stepAt := e.ck }) else e).settle⟩)
  ∧ (∀ (q : List Instr) (d e : Dev) (t : Trans) (n : Nat), d.aon.trans = some t → n = t.dom → n < 16 → t.target = .retention →
    t.isReset = false → t.waiting = false → t.pllWait = false → t.lost = false → d.aon.xtalStopped = false → (d.dom n).st = .on →
    e = d.advanceTo (t.start + d.transCk t) →
    exec (.domainTransitionEnd []) ⟨q, d⟩ = .next ⟨q,
      (let e := (if t.drained then e else (e.drainLocks n).leaves n false false).transOver n .retention false
       if (e.dom n).pend.isNone then e.fire 6 else e).settle⟩)
  ∧ (∀ (q : List Instr) (d e : Dev) (t : Trans) (n : Nat), d.aon.trans = some t → n = t.dom → n < 16 → t.target = .off →
    t.isReset = false → t.waiting = false → t.pllWait = false → t.lost = false → d.aon.xtalStopped = false → (d.dom n).st ≠ .off →
    e = d.advanceTo (t.start + d.transCk t) →
    exec (.domainTransitionEnd []) ⟨q, d⟩ = .next ⟨q,
      (let e := ((if t.drained then e else (e.drainLocks n).leaves n true false).transOver n .off false).goesOff n
       let e := if n = 1 then e.stagedGone else e
       if (e.dom n).pend.isNone then e.fire 6 else e).settle⟩)
  ∧ (∀ (q : List Instr) (d e : Dev) (t : Trans) (bad : List Nat) (n : Nat), (∀ i ∈ bad, i < 14) → d.aon.trans = some t → n = t.dom → n < 16 →
    n ≠ 1 → n ≠ 2 → n ≠ 3 → t.target = .on → t.isReset = true → t.waiting = false → t.pllWait = false → t.lost = false →
    d.aon.xtalStopped = false → e = d.advanceTo (t.start + d.transCk t) →
    exec (.domainTransitionEnd bad) ⟨q, d⟩ = .next ⟨q,
      (let e := ((if t.drained then e else (e.drainLocks n).leaves n true true).transOver n .on false).goesOff n
       let e := (e.startsUp n bad).claimsOn n
       let e := if n = 14 then e.towReachesOn else e
       if (e.dom n).pend.isNone then e.fire 6 else e).settle⟩)
  ∧ (∀ (q : List Instr) (d e : Dev) (t : Trans) (n : Nat), d.aon.trans = some t → n = t.dom → n < 16 → n ≠ 1 → n ≠ 2 →
    t.target = .on → t.isReset = false → t.waiting = false → d.aon.xtalStopped = false →
    (t.pllWait = true ∨ d.ck ≤ t.start + rampCk n + 1500) → e = d.advanceTo (t.start + rampCk n + 500) →
    exec .domainPowerFail ⟨q, d⟩ = .next ⟨q,
      (let e := if (d.dom n).st = .retention then
           (((e.leaves n true false).transOver n .off true).wr (0x211001 + n) 0).goesOff n
         else (e.transOver n .off true).wr (0x211001 + n) 0
       ((e.inc 0x213004).fault 0x0B 0xFF 0 n 0).fire 7).settle⟩)
  ∧ (∀ (q : List Instr) (d e : Dev) (b since : Nat) (kept : Bool), b < 4 → d.pm.scan.find? (fun e => e.1 == b) = some (b, kept, since) →
    d.bankOn b = true → e = d.advanceTo (since + 2048) →
    exec (.ownerScanDone b) ⟨q, d⟩ = .next ⟨q,
      (forEach (e.pm.barges.filter (fun x => bankOf x.1 == b)) (e.setPm (fun m => { m with scan := m.scan.filter (fun x => x.1 != b) })) (fun x f =>
        if x.2.owner = .free ∧ x.2.next = none then
          match (List.range 16).find? (fun p => f.poundState p != 0 && f.inPound p x.1) with
          | some p => if x.2.retired then f else f.addFree p b [x.1]
          | none => f.requestLock x.1 .host 0
        else if kept = true ∧ x.2.retired = false ∧ (x.2.next ≠ none ∨ (x.2.owner ≠ .host ∧ x.2.owner ≠ .free)) then
          let g := f.setBarge x.1 (fun r => { r with next := none })
          if (f.barge x.1).owner = .zeroing ∧ f.pooled x.1 = true then g.zeroFrom x.1
          else g.pushLock x.1 (f.barge x.1).owner (if f.pooled x.1 then .zeroing else .host) 256
        else f)).watchPounds.settle⟩)

/-- Wake latches, the temperature and refresh (06 R205-R210; 09 R315). An edge of an armed latch that is clear sets it, places its ON
requests, and fires the latch's source (18 R622, R636); WAKE_CLEAR clears the latches it names; above 85 degrees the hot flag is set, at 80 or less it clears after a
second; a refresh moves the bank's row on, 7.80 us after its last, at the faster rate 3.88 us. -/
def Obligations.WakeAndRefreshCommandsComplete : Prop :=
  (∀ (q : List Instr) (d : Dev) (n : Nat), 0 < n → n < 16 → d.flag 0x214001 n = true → d.flag 0x214002 n = false → d.aon.inPor = false →
    d.aon.osc = true → d.sup.lockout = false →
    exec (.wakeEdge n) ⟨q, d⟩ = .next ⟨q, (((d.wr 0x214002 (setBit (d.rd 0x214002) n true)).wakeRequests (2 ^ n)).fire
      (latchSource n)).settle⟩)
  ∧ (∀ (q : List Instr) (d0 d : Dev) (v : Nat) (tm : Timing), d = d0.hostStart → v < 2 ^ 16 → d.hostTakes 0x214003 v tm = true →
    exec (.wakeClear v tm) ⟨q, d0⟩ = .next ⟨q, ((d.wr 0x214002 ((List.range 16).foldl
      (fun a n => if v.testBit n then setBit a n false else a) (d.rd 0x214002))).answered []).settle⟩)
  ∧ (∀ (q : List Instr) (d e : Dev) (c : Int), 85 < c → c < 128 → d.aon.osc = true → e = d.advanceTo (d.aon.tempAt + 100000) →
    exec (.tempSample c) ⟨q, d⟩ = .next ⟨q, ((e.setAon (fun a => { a with tempAt := e.ck, lastCelsius := c, coolSince := none })).wr 0x214004
      1).settle⟩)
  ∧ (∀ (q : List Instr) (d e : Dev) (c : Int) (since : Nat), -128 ≤ c → c ≤ 80 → d.aon.osc = true → e = d.advanceTo (d.aon.tempAt + 100000) →
    e.rd 0x214004 = 1 → e.aon.coolSince = some since → since + 100000000 ≤ e.ck →
    exec (.tempSample c) ⟨q, d⟩ = .next ⟨q, ((e.setAon (fun a => { a with tempAt := e.ck, lastCelsius := c, coolSince := none })).wr 0x214004
      0).settle⟩)
  ∧ (∀ (q : List Instr) (d e : Dev) (b : Nat), b < 4 → (d.dom (3 + b)).st = .retention → d.aon.xtalStopped = false →
    e = d.advanceTo (d.aon.refAt.getD b 0 + (if d.rd 0x214004 = 1 then 388 else 780)) →
    exec (.retentionRefresh b) ⟨q, d⟩ = .next ⟨q, (e.setAon (fun a => { a with
      refRow := updAt a.refRow b (fun r => (r + 1) % 8192), refAt := updAt a.refAt b (fun _ => e.ck) })).settle⟩)
  ∧ (∀ (q : List Instr) (d e : Dev) (b : Nat), b < 4 → (d.dom (3 + b)).st = .on → d.aon.xtalStopped = false →
    e = d.advanceTo (d.aon.refAt.getD b 0 + (if d.rd 0x214004 = 1 then 388 else 780)) →
    exec (.bankRefresh b) ⟨q, d⟩ = .next ⟨q, (e.setAon (fun a => { a with
      refRow := updAt a.refRow b (fun r => (r + 1) % 8192), refAt := updAt a.refAt b (fun _ => e.ck) })).settle⟩)

/-! ### Reset and start-up (07) -/

/-- Start-up and resets (07 R229, R241, R244-R250, R254; 08 R277, R278): the PLL's lock ends step 3 with a request for CORE; a lock that takes 100 us
counts and starts anew; the NV load ends step 5, in no more than R277 and R278 allow and no less than the reading of the headers takes (log entry
61, the model's reading); RESET_n low for 50 CK resets every domain but KEEP with cause 4 and discards what is staged, for fewer nothing, and its release runs
start-up from step 3 in the CK after; a soft reset without CORE resets its set, one of CORE waits for its response; DOM_RESET asks for the
domain's reset. -/
def Obligations.ResetCommandsComplete : Prop :=
  (∀ (q : List Instr) (d : Dev) (t : Nat), d.aon.pllStart = some t → d.aon.startup = .pllLock → d.aon.trans = none →
    exec .pllLocked ⟨q, d⟩ = .next ⟨q, ((d.setAon (fun a =>
      { a with pll := true, pllStart := none, startup := .coreOn, stepAt := d.ck })).placeReq 1 .on).settle⟩)
  ∧ (∀ (q : List Instr) (d : Dev) (t : Nat), d.aon.pllStart = some t → d.aon.startup = .pllLock →
    exec .pllLockTimeout ⟨q, d⟩ = .next ⟨q, (((d.advanceTo (t + 10000)).inc 0x220006).setAon (fun a =>
      { a with pllStart := some (d.advanceTo (t + 10000)).ck })).settle⟩)
  ∧ (∀ (q : List Instr) (d : Dev) (f : LoadFound) (n : Nat), d.aon.startup = .nvLoad → d.on dNVM = true →
    n = d.nv.opened.length + d.nv.partly.length →
    exec (.nvLoadDone f) ⟨q, d⟩ = .next ⟨q, ((((d.advanceTo (d.aon.stepAt
      + max (1024 * n / 100) (min f.us (12 + 21 * n / 2)) * 100)).nvLoad f).setAon
      (fun a => { a with nvLoadDue := false })).step5End).settle⟩)
  ∧ (∀ (q : List Instr) (d : Dev) (held : Nat), held < 50 → d.aon.pll = true → d.aon.rstLow = false →
    exec (.resetNAssert held) ⟨q, d⟩ = .next ⟨q, (d.tick held).settle⟩)
  ∧ (∀ (q : List Instr) (d : Dev) (held : Nat), 50 ≤ held → d.aon.pll = true → d.aon.rstLow = false →
    exec (.resetNAssert held) ⟨q, d⟩ = .next ⟨q, (((((d.tick 50).setAon (fun a => { a with rstLow := true })).resetDomains
      [1, 2, 3, 4, 5, 6, 7, 8, 9, 10, 11, 12, 13, 14, 15]).stagedGone).wr 0x220002 4).settle⟩)
  ∧ (∀ (q : List Instr) (d : Dev), d.aon.rstLow = true → d.aon.pll = true →
    exec .resetNRelease ⟨q, d⟩ = .next ⟨q, ((((d.setAon (fun a => { a with rstLow := false })).tick 1).startupBegin
      (d.rd 0x220002) .pllLock).pllStep).settle⟩)
  ∧ (∀ (q : List Instr) (d0 d : Dev) (tm : Timing), d = d0.hostStart → d.hostTakes 0x220004 0x7A5E tm = true → (d.rd 0x220003).testBit 1 = true →
    exec (.softReset 0x7A5E tm) ⟨q, d0⟩ = .next ⟨q, ((d.setAon (fun a => { a with coreDue := some (0xFF, 2) })).answered []).settle⟩)
  ∧ (∀ (q : List Instr) (d0 d : Dev) (tm : Timing), d = d0.hostStart → d.hostTakes 0x220004 0x7A5E tm = true → (d.rd 0x220003).testBit 1 = false →
    exec (.softReset 0x7A5E tm) ⟨q, d0⟩ = .next ⟨q, (((d.tick 1).softReset).answered []).settle⟩)
  ∧ (∀ (q : List Instr) (d0 d : Dev) (n : Nat) (tm : Timing), d = d0.hostStart → n < 16 → d.hostTakes 0x220005 n tm = true →
    exec (.domReset n tm) ⟨q, d0⟩ = .next ⟨q, ((d.setDom n (fun o => { o with resetReq := true })).answered []).settle⟩)

/-! ### The non-volatile store (08) -/

/-- The end of each step of the array, at its time (08 R259-R282, R715); one that writes a mark goes on while its margin read does not
pass. A chunk of a job's record places its words; the check
word one word more; the commit mark of a PW record commits it, stores the value and ends the write; a chunk of a home bank
moves the compaction on and the mark makes the new home valid; an erased sector is counted and holds nothing; a void programs
the eight octets 00h into the record's commit word and is no longer due. -/
def Obligations.NvStepCommandsComplete : Prop :=
  (∀ (q : List Instr) (d : Dev) (n at_ : Nat) (o : Bool) (w : NvWrite), d.nv.step = some ⟨.chunk n, o, at_⟩ → d.nv.cur = some w →
    exec .journalChunkWritten ⟨q, d⟩ = .next ⟨q,
      (let e := ((d.advanceTo (at_ + 10 * (n + b2n o) * 100)).setNv (fun v => { v with step := none })).nvWrote n
      if w.words ≤ w.written + n then e.nvDefaultsAt 1 else e).settle⟩)
  ∧ (∀ (q : List Instr) (d : Dev) (at_ : Nat) (o : Bool), d.nv.step = some ⟨.check, o, at_⟩ →
    exec .journalCheckWritten ⟨q, d⟩ = .next ⟨q, (((((d.advanceTo (at_ + 10 * (1 + b2n o) * 100)).setNv (fun v =>
      { v with step := none }))).nvWrote 1).nvDefaultsAt 2).settle⟩)
  ∧ (∀ (q : List Instr) (d : Dev) (at_ : Nat) (o : Bool), d.nv.step = some ⟨.commit, o, at_⟩ →
    exec (.journalCommitMark true) ⟨q, d⟩ = .next ⟨q, (((d.advanceTo (at_ + 10 * (1 + b2n o) * 100)).setNv (fun v =>
      { v with step := none })).nvCommitted).settle⟩)
  ∧ (∀ (q : List Instr) (d : Dev) (at_ : Nat) (o : Bool), d.nv.step = some ⟨.commit, o, at_⟩ →
    exec (.journalCommitMark false) ⟨q, d⟩ = .next ⟨q, (d.advanceTo (at_ + 10 * (1 + b2n o) * 100)).settle⟩)
  ∧ (∀ (q : List Instr) (d : Dev) (n at_ : Nat) (o pass : Bool), d.nv.step = some ⟨.home n, o, at_⟩ →
    exec (.homeChunkWritten pass) ⟨q, d⟩ = .next ⟨q, (((d.advanceTo (at_ + 10 * n * 100)).setNv (fun v =>
      { v with step := none })).nvHomeWrote n).settle⟩)
  ∧ (∀ (q : List Instr) (d : Dev) (at_ : Nat) (o : Bool) (c : Compact), d.nv.step = some ⟨.mark, o, at_⟩ → d.nv.comp = some c →
    exec (.homeChunkWritten true) ⟨q, d⟩ = .next ⟨q, ((d.advanceTo (at_ + 8000)).setNv (fun v => { v with
      step := none, homes := updAt v.homes c.bank (fun h => { h with mark := [0xC3, 0x5A, 0x3C, 0xA5, 0xC3, 0x5A, 0x3C, 0xA5] }),
      comp := if d.nvJob = some c.slot then some { c with phase := 3, between := false } else none })).settle⟩)
  ∧ (∀ (q : List Instr) (d : Dev) (at_ : Nat) (o : Bool), d.nv.step = some ⟨.mark, o, at_⟩ →
    exec (.homeChunkWritten false) ⟨q, d⟩ = .next ⟨q, (d.advanceTo (at_ + 8000)).settle⟩)
  ∧ (∀ (q : List Instr) (d : Dev) (s at_ : Nat) (o : Bool), d.nv.step = some ⟨.erase s, o, at_⟩ →
    exec .sectorErased ⟨q, d⟩ = .next ⟨q, (((d.advanceTo (at_ + 120000)).setNv (fun v => { v with step := none })).nvErased s).settle⟩)
  ∧ (∀ (q : List Instr) (d : Dev) (at_ : Nat) (o : Bool), d.nv.step = some ⟨.void, o, at_⟩ →
    exec .commitWordVoid ⟨q, d⟩ = .next ⟨q, ((d.advanceTo (at_ + 1000)).setNv (fun v =>
      ({ v with step := none, voidDue := false } : Nv).setRec v.seq (fun r => { r with commit := List.replicate 8 0 }))).settle⟩)

/-! ### Packet memory (09) -/

/-- Pounds, allocation and the query (09 R293, R296-R300, R313, R325). Enabling a DISABLED pound makes it ENABLING; in that state its HOST
barges in ON banks go one after the other, in ascending order, through zeroing (09 R296; log entry 36); what is
left of them zeroed, 32 slots each and 32 more for a poisoned one, it is ENABLED with source 23, and those that fail the verify read are
retired and stay ZEROING, the model's reading (log entry 75); barges of banks that are OFF join when their bank is initialised (log entry 76). Disabling one makes its
FREE barges the host's, of banks in RETENTION too, and it is DISABLED. ALLOC_REQ of one barge takes the oldest of the next bank in turn
for the host and shows it; FREE_REQ of a HOST barge asks for its zeroing if it has a pound, else for a cycle that leaves it the host's, of
length 256 (log entry 37); BARGE_QUERY names a barge. -/
def Obligations.PoundCommandsComplete : Prop :=
  (∀ (q : List Instr) (d0 d : Dev) (p : Nat) (tm : Timing), d = d0.hostStart → p < 16 → d.hostTakes (0x252003 + 256 * p) 1 tm = true → d.poundState p = 0 →
    exec (.poundEnable p tm) ⟨q, d0⟩ = .next ⟨q, (((d.wr (0x252003 + 256 * p) 1).wr (0x252007 + 256 * p) 1).answered
      []).settle⟩)
  ∧ (∀ (d : Dev) (p b : Nat), d.poundState p = 1 → d.on dPM0 = true → (d.poundOnBarges p).any d.moving = false →
    (d.poundOnBarges p).find? (fun b => (d.barge b).owner == .host && !d.lockBusy b) = some b →
    d.poundMove p = (d.setBarge b (fun r => { r with owner := .zeroing })).zeroFrom b)
  ∧ (∀ (q : List Instr) (d0 d : Dev) (p : Nat) (tm : Timing), d = d0.hostStart → p < 16 → d.hostTakes (0x252003 + 256 * p) 0 tm = true → d.poundState p ≠ 0 →
    exec (.poundDisable p tm) ⟨q, d0⟩ = .next ⟨q,
      ((((Dev.setPm (forEach ((d.poundKnown p).filter (fun b => (d.barge b).owner == .free)) (d.wr (0x252003 + 256 * p) 0)
        (fun b e => e.setBarge b (fun r => { r with owner := .host, valid := 0 })))
        (fun m => { m with frees := m.frees.filter (fun e => e.1 != p) })).wr (0x252007 + 256 * p) 0).watchPound
        p).answered []).settle⟩)
  ∧ (∀ (q : List Instr) (d0 d : Dev) (p : Nat) (tm : Timing), d = d0.hostStart → p < 16 → d.hostTakes (0x252003 + 256 * p) 0 tm = true →
    d.poundState p = 0 →
    exec (.poundDisable p tm) ⟨q, d0⟩ = .next ⟨q, ((d.wr (0x252003 + 256 * p) 0).answered []).settle⟩)
  ∧ (∀ (q : List Instr) (d e : Dev) (p since : Nat) (stuck bs left : List Nat), p < 16 → (∀ w ∈ stuck, w < 2 ^ 21) → d.poundState p = 1 →
    d.on dPM0 = true → bs = d.poundOnBarges p →
    left = bs.filter (fun b => ((d.barge b).owner == .zeroing && !(d.barge b).retired) || ((d.barge b).owner == .host && !d.lockBusy b)) →
    bs.all (fun b => (d.barge b).owner == .free || (d.barge b).retired || left.contains b) = true →
    since = ((d.pm.zeroAt.find? (fun x => left.contains x.1)).map (·.2)).getD d.ck →
    e = d.advanceTo (since + (left.map (fun b => if (d.barge b).poison then 64 else 32)).sum) →
    exec (.poundEnabled p stuck) ⟨q, d⟩ = .next ⟨q,
      (let e := forEach left (e.setPm (fun m => { m with zeroAt := m.zeroAt.filter (fun x => !left.contains x.1) })) (fun b e =>
          ((e.zeroBarge b).verified b (stuck.any (fun w => w / 256 == b))).setBarge b
            (fun r => { r with owner := if r.retired then .zeroing else .free, valid := 0 }))
       let e := forEach (List.range 4) e (fun k e => e.addFree p k (left.filter (fun b => bankOf b == k && !(e.barge b).retired)))
       let e := e.wr (0x252007 + 256 * p) 2
       (if e.poundFree p < e.rd (0x252004 + 256 * p) then e.setPm (fun m => { m with lowPounds := p :: m.lowPounds }) else e).fire 23).settle⟩)
  ∧ (∀ (q : List Instr) (d0 d d' : Dev) (p b : Nat) (tm : Timing), d = d0.hostStart → p < 16 → d.hostTakes 0x250801 (256 + p) tm = true → d.on dPM0 = true →
    1 ≤ d.poundFree p → d.allocOne p .host = some (b, d') →
    exec (.allocReq (256 + p) tm) ⟨q, d0⟩ = .next ⟨q, (((d'.watchPound p).wr 0x250802
      (leNat (leOct 2 b ++ List.replicate 14 (oct 0xFF)))).answered []).settle⟩)
  ∧ (∀ (q : List Instr) (d0 d : Dev) (b : Nat) (tm : Timing), d = d0.hostStart → b < 8192 → d.hostTakes 0x250803 b tm = true → d.pooled b = true →
    d.locksOf b = [] → (d.barge b).owner = .host →
    exec (.freeReq b tm) ⟨q, d0⟩ = .next ⟨q, ((d.setPm (fun m =>
      { m with lockq := updAt m.lockq (b / 2048) (queueLock ⟨b, .zeroing, 256, Owner.host.code, d.ck⟩) })).answered []).settle⟩)
  ∧ (∀ (q : List Instr) (d0 d : Dev) (b : Nat) (tm : Timing), d = d0.hostStart → b < 8192 → d.hostTakes 0x250803 b tm = true → d.pooled b = false →
    exec (.freeReq b tm) ⟨q, d0⟩ = .next ⟨q, ((d.setPm (fun m =>
      { m with lockq := updAt m.lockq (b / 2048) (queueLock ⟨b, .host, 256, Owner.host.code, d.ck⟩) })).answered []).settle⟩)
  ∧ (∀ (q : List Instr) (d0 d : Dev) (b : Nat) (tm : Timing), d = d0.hostStart → b < 8192 → d.hostTakes 0x250901 b tm = true →
    exec (.bargeQuery b tm) ⟨q, d0⟩ = .next ⟨q, ((d.wr 0x250901 b).answered []).settle⟩)

/-- Lock cycles (09 R301-R308): CLOSE takes the bank's oldest request and notes the new owner; OPEN comes after the
ZERO phase, in the CK that a cycle without accesses to drain and without contention takes, the model's choice (log entry 74): a cycle for each word beyond the valid length and three for a partial one, none towards ZEROING; it zeroes the barge from
its valid length on, then gives it its owner and length; a barge whose zeroing ends clean joins its free list, or is the host's. -/
def Obligations.LockCycleCommandsComplete : Prop :=
  (∀ (q : List Instr) (d : Dev) (k : Nat) (r : LockReq) (t : List LockReq), k < 4 → d.pm.cycle.getD k none = none →
    d.pm.lockq.getD k [] = r :: t → d.bankOn k = true →
    exec (.lockCycleClose k) ⟨q, d⟩ = .next ⟨q, ((d.setBarge r.barge (fun x => { x with next := some r.dest })).setPm (fun m =>
      { m with lockq := updAt m.lockq k (fun _ => t), cycle := updAt m.cycle k (fun _ => some { r with at_ := d.ck }) })).settle⟩)
  ∧ (∀ (q : List Instr) (d e : Dev) (k : Nat) (r : LockReq) (ss : List Strike), k < 4 → strikesOk ss = true →
    d.pm.cycle.getD k none = some r → r.dest ≠ .zeroing →
    e = d.advanceTo (r.at_ + 1 + (32 - (r.len + 7) / 8 + (if r.len % 8 = 0 then 0 else 3))) →
    exec (.lockCycleOpen k ss) ⟨q, d⟩ = .next ⟨q, (((e.setPm (fun m => { m with cycle := updAt m.cycle k (fun _ => none) })).zeroMem
      (256 * r.barge + r.len) (256 - r.len) ss).setBarge r.barge (fun x => { x with owner := r.dest, valid := r.len, next := none })).settle⟩)
  ∧ (∀ (q : List Instr) (d e : Dev) (k : Nat) (r : LockReq) (ss : List Strike), k < 4 → strikesOk ss = true →
    d.pm.cycle.getD k none = some r → r.dest = .zeroing →
    e = d.advanceTo (r.at_ + 1) →
    exec (.lockCycleOpen k ss) ⟨q, d⟩ = .next ⟨q, (((e.setPm (fun m => { m with cycle := updAt m.cycle k (fun _ => none) })).zeroFrom
      r.barge).setBarge r.barge (fun x => { x with owner := .zeroing, valid := r.len, next := none })).settle⟩)
  ∧ (∀ (q : List Instr) (d e : Dev) (b since : Nat), b < 8192 → (d.barge b).owner = .zeroing → (d.barge b).next = none →
    (d.barge b).retired = false → d.bankOn (bankOf b) = true → d.pm.zeroAt.find? (fun x => x.1 == b) = some (b, since) →
    e = d.advanceTo (since + (if (d.barge b).poison then 64 else 32)) →
    exec (.zeroingDone b []) ⟨q, d⟩ = .next ⟨q, (((e.setPm (fun m => { m with
      mem := memZero m.mem (256 * b) 256, bad := m.bad.filter (fun w => w / 256 != b),
      upsets := m.upsets.filter (fun s => strikeWord s / 256 != b), zeroAt := m.zeroAt.filter (fun x => x.1 != b) })).setBarge b
        (fun r => { r with poison := false })).joinFree b).settle⟩)

/-! ### Rings (10) and MACs (11) -/

/-- Rings (10 R331-R335, R346-R348, R351, R353). A RUNNING ring becomes STOPPING by a stop, and also by a reset, which then
waits; a STOPPED ring runs, or has its indices at 0 after a reset; a quiet STOPPING ring is STOPPED. A MAC that has selected
a ring fetches the chain: the fetch index moves on and the barges are taken for TXDMA. A chain of the ring's head that has
ended OK is written back and counted; the RX descriptor at the head is written; coalescing ends in the ring's event. -/
def Obligations.RingCommandsComplete : Prop :=
  (∀ (q : List Instr) (d0 d : Dev) (r : Nat) (tm : Timing), d = d0.hostStart → r < 56 → d.hostTakes (ringKey r 3) 0 tm = true → d.ringState r = 1 →
    exec (.ringStop r tm) ⟨q, d0⟩ = .next ⟨q, ((d.wr (ringKey r 3) 2).answered []).settle⟩)
  ∧ (∀ (q : List Instr) (d0 d : Dev) (r : Nat) (tm : Timing), d = d0.hostStart → r < 56 → d.hostTakes (ringKey r 3) 1 tm = true → d.ringState r = 0 →
    exec (.ringRun r tm) ⟨q, d0⟩ = .next ⟨q, ((d.wr (ringKey r 3) 1).answered []).settle⟩)
  ∧ (∀ (q : List Instr) (d0 d : Dev) (r : Nat) (tm : Timing), d = d0.hostStart → r < 56 → d.hostTakes (ringKey r 3) 2 tm = true → d.ringState r = 1 →
    exec (.ringReset r tm) ⟨q, d0⟩ = .next ⟨q, (((d.wr (ringKey r 3) 2).setRing r (fun x =>
      { x with resetAfter := true })).answered []).settle⟩)
  ∧ (∀ (q : List Instr) (d0 d : Dev) (r : Nat) (tm : Timing), d = d0.hostStart → isTxRing r = true → r < 56 → d.hostTakes (ringKey r 3) 2 tm = true →
    d.ringState r = 0 → d.ringQuiet r = true → d.ringRetained r = false → d.ringReach r = true →
    exec (.ringReset r tm) ⟨q, d0⟩ = .next ⟨q, (let e := forEach (List.range (sub16 (d.ringHost r) (d.ringFetch r))) d (fun i e =>
        e.flushSlot r (d.ringFetch r + i))
      ((((((e.wr (ringKey r 4) 0).wr (ringKey r 5) 0).wr (ringKey r 6) 0).setRing r (fun x =>
        { x with resetAfter := false })).wr (ringKey r 3) 0).answered []).settle)⟩)
  ∧ (∀ (q : List Instr) (d : Dev) (r : Nat), r < 56 → d.ringState r = 2 → d.ringQuiet r = true → d.on dCORE = true →
    d.ringRetained r = false → (d.ring r).resetAfter = false →
    exec (.ringStopped r) ⟨q, d⟩ = .next ⟨q, (d.wr (ringKey r 3) 0).settle⟩)
  ∧ (∀ (q : List Instr) (d d' e : Dev) (r n : Nat) (ds : List Oct) (ss : List Strike), r < 32 → strikesOk ss = true →
    (d.mac (r / 8)).cur = .ring r → d.ringState r = 1 → d.ringReach r = true → d.canSend (r / 8) = true →
    d.nextChain r = some (n, false) → (d.strike ss).readDescs r (d.ringFetch r) n = (ds, false, d') →
    (d'.wr (ringKey r 6) ((d.ringFetch r + n) % 65536)).earlyCode (r / 8) ds = (none, e) → r < e.rings.length →
    (e.ring r).chains = [] → e.chainRefused (e.chainSource r) (chainBarges false ds) = none →
    (chainBarges false ds).any (fun b => (e.barge b.1).poison) = false →
    exec (.chainFetch r ss) ⟨q, d⟩ = .next ⟨q, (((e.takeBarges (chainBarges false ds)).setRing r (fun y =>
      { y with chains := y.chains ++ [⟨d.ringFetch r, ds, chainBarges false ds, none, 0, none, 0, false⟩] })).setSel (r / 8)
        (.ring r) (.chain r (d.ringFetch r))).settle⟩)
  ∧ (∀ (q : List Instr) (d : Dev) (r : Nat) (c : Chain) (t : List Chain), r < 56 → (d.ring r).chains = c :: t → c.code = some 0 →
    c.returned = true → d.locksClear (c.barges.map (·.1)) = true → d.ringState r = 1 → d.ringReach r = true →
    exec (.chainComplete r) ⟨q, d⟩ = .next ⟨q, (let e := forEach c.descs.zipIdx d (fun (x : Oct × Nat) (e : Dev) =>
        e.writeMem (e.slotAddr r (c.start + x.2)) (chainWriteBack (isCanRing r) c 0 x.2 x.1))
      let e := (e.wr (ringKey r 5) ((e.ringDev r + c.descs.length) % 65536)).setRing r (fun x => { x with chains := t })
      (if !isCanRing r && c.ts.isSome then e.cnt (r / 8) 39 else e).ringCount r (c.descs.any (fun x => dEvent x && !(!isCanRing r && dIsTso x)))).settle⟩)
  ∧ (∀ (q : List Instr) (d : Dev) (r : Nat) (w : RxWrite) (t : List RxWrite), r < 56 → (d.ring r).rxq = w :: t →
    d.locksClear w.barges = true → d.ringState r = 1 → d.ringReach r = true → w.barges.any (fun b => (d.barge b).poison) = false →
    exec (.rxDescriptorWrite r) ⟨q, d⟩ = .next ⟨q, (let e := (d.writeMem (d.slotAddr r (d.ringDev r)) w.desc)
      let e := e.numWritten w.num (e.ringDev r)
      let n := (e.ringDev r + 1) % 65536
      (((e.wr (ringKey r 5) n).wr (ringKey r 6) n).setRing r (fun x => { x with rxq := t })).ringCount r false).settle⟩)
  ∧ (∀ (q : List Instr) (d e : Dev) (r t : Nat), r < 56 → (d.ring r).coalSince = some t → d.rd (ringKey r 9) ≠ 0 →
    e = d.advanceTo (t + d.rd (ringKey r 9) * 100) →
    exec (.ringCoalTimeout r) ⟨q, d⟩ = .next ⟨q, ((e.setRing r (fun x => { x with coal := 0, coalSince := none })).fire
      (24 + e.rd (ringKey r 7))).settle⟩)

/-- Frames at a MAC (11 Table 11.1, R369-R379; 10 R347). A clean frame that the address filter takes and no earlier step
keeps is stored and waits for the classifier. An idle MAC sends a pending PAUSE frame first, else what the order of the
rings and the Towpath queue gives. A PAUSE frame sent is counted; a frame of a chain sent is counted and the chain ends OK,
one that meets an uncorrectable word is cut after the octets before it, with the complement of their FCS, and ends with POISON (19 R649; the
cut's place is the model's choice, log entry 91); a Towpath frame leaves from its barges (15 R532). The settings of checksum insertion are those of
the chain's LAST descriptor: the model's choice, log entry 73. -/
def Obligations.FrameCommandsComplete : Prop :=
  (∀ (q : List Instr) (d c y b x e d' : Dev) (p : Nat) (f : WireFrame) (l data : Oct) (c3 c4 : Nat) (bs : List Nat), p < 4 →
    f.octets.length < 2 ^ 16 → 18 ≤ f.octets.length → f.cut = false → d.on (macDom p) = true → d.rd (portRunKey p) ≠ 0 →
    d.linkUp p = true → (d.mac p).cutAt = none → c = d.atSfd p f.sfdAgo → c.rxErrors p f = 0 → l = f.octets.take (f.octets.length - 4) → data = l.take 2048 →
    c.acceptAddr p l = true → etherType l ≠ 0x8808 → c.wakeListen p = false →
    y = (d.carrierEnd p).setMac p (fun m => { m with was := [] }) →
    b = (if p = 0 then y.setGov (fun g => { g with rxOct := g.rxOct + f.octets.length + 20 }) else y) → b.isTowFrame l = false →
    c3 = (if c.flag (macKey 0x3800 p 1) 4 then l3Csum data else 0) → c4 = (if c.flag (macKey 0x3800 p 1) 4 then l4Csum data else 0) →
    x = (if c3 = 2 then (b.countOk p data f.octets.length).cnt p 23 else b.countOk p data f.octets.length) →
    e = (if c4 = 2 then x.cnt p 24 else x) → e.on dCLS = true → e.allOn [dCORE, dPM0] = true →
    e.storeFrame p (c.rd (0x268001 + p)) data = (some bs, d') →
    exec (.frameReceived p f) ⟨q, d⟩ = .next ⟨q, (let e := if decide (2048 < l.length) then d'.cnt p 14 else d'
      e.setCls (fun x => { x with
        queue := arrive
          ⟨p, data, bs, 64 * c3 + 256 * c4 + 1024 * b2n (2048 < l.length), b.rxStamp p f.sfdAgo, e.ck⟩ x.queue })).settle⟩)
  ∧ (∀ (q : List Instr) (d e : Dev) (p v : Nat) (a : Bool), p < 4 → e = d.oppWatch p → (e.mac p).cur = .idle → e.canSend p = true →
    (p = 0 → e.gov.step = none) → (e.mac p).pendPause = some (v, a) →
    exec (.txSelect p) ⟨q, d⟩ = .next ⟨q, (e.setMac p (fun m =>
      { m with cur := .pause v a, nxt := .idle, attempts := 0, pendPause := none })).settle⟩)
  ∧ (∀ (q : List Instr) (d e : Dev) (p : Nat) (s : TxSel) (t : List TxSel), p < 4 → e = d.oppWatch p → (e.mac p).cur = .idle →
    e.canSend p = true → (p = 0 → e.gov.step = none) → (e.mac p).pendPause = none → (e.mac p).pauseEnd = none → e.txOrder p = s :: t →
    exec (.txSelect p) ⟨q, d⟩ = .next ⟨q, (e.setMac p (fun m => m.begin s)).settle⟩)
  ∧ (∀ (q : List Instr) (d e : Dev) (p : Nat), p < 4 → e = d.oppWatch p → (e.mac p).cur ≠ .idle → (e.mac p).nxt = .idle →
    (e.mac p).backoff = none → e.sending p = true →
    exec (.txSelect p) ⟨q, d⟩ = .next ⟨q, (e.setMac p (fun m => { m with nxt := e.txChoose p })).settle⟩)
  ∧ (∀ (q : List Instr) (d : Dev) (p v ago : Nat) (a df : Bool) (ss : List Strike) (l : Oct), p < 4 → strikesOk ss = true →
    d.on (macDom p) = true → (d.mac p).backoff = none → d.mayStart p = true → (d.mac p).hold = false → (d.mac p).cur = .pause v a → l = d.pauseFrame p v →
    exec (.frameTransmitted p df ss ago) ⟨q, d⟩ = .next ⟨q, ((((d.govSent p (l.length + 4)).cnt p 30).setMac p (fun m =>
      { m with lastTx := l ++ fcsOf l, xoff := if a then v != 0 else m.xoff })).txNext p).settle⟩)
  ∧ (∀ (q : List Instr) (d b e : Dev) (p r s ago : Nat) (df : Bool) (ss : List Strike) (c : Chain) (l l' : Oct) (bad : Bool), p < 4 →
    strikesOk ss = true → d.on (macDom p) = true → (d.mac p).backoff = none → d.mayStart p = true → (d.mac p).hold = false →
    (d.mac p).cur = .chain r s →
    b = (if df && 2 ≤ p && (d.mac p).attempts = 0 && d.sending p then d.cnt p 36 else d).strike ss → b.chainOf r s = some c →
    c.code = none → b.locksClear (c.barges.map (·.1)) = true → b.allOn (chainNeeds c) = true → dIsTso (c.descs.headD []) = false →
    b.readPlaces (chainPlaces c.barges) = (l, [], e) → insertCsums (c.descs.getLastD []) l = (l', bad) →
    e.flag (0x701003 + 256 * p) (r % 8) = false →
    exec (.frameTransmitted p df ss ago) ⟨q, d⟩ = .next ⟨q,
      (let ts := if c.descs.any dTsReq then e.txStamp p ago else none
       let x := (if bad then e.inc (macKey 0x3840 p 2) else e).countTx p (padFrame l')
       (((x.setChain r s (fun c => { c with attempts := (e.mac p).attempts + 1, ts := ts })).endChain r s 0).oppSent p).txNext
         p).settle⟩)
  ∧ (∀ (q : List Instr) (d b e : Dev) (p r s ago : Nat) (df : Bool) (ss : List Strike) (c : Chain) (l o : Oct) (w : Nat) (bad : List Nat),
    p < 4 → strikesOk ss = true → d.on (macDom p) = true → (d.mac p).backoff = none → d.mayStart p = true → (d.mac p).hold = false →
    (d.mac p).cur = .chain r s → b = (if df && 2 ≤ p && (d.mac p).attempts = 0 && d.sending p then d.cnt p 36 else d).strike ss →
    b.chainOf r s = some c → c.code = none → b.locksClear (c.barges.map (·.1)) = true → b.allOn (chainNeeds c) = true →
    dIsTso (c.descs.headD []) = false → b.readPlaces (chainPlaces c.barges) = (l, w :: bad, e) →
    o = (insertCsums (c.descs.getLastD []) l).1.take (readBefore (chainPlaces c.barges) (w :: bad)) →
    exec (.frameTransmitted p df ss ago) ⟨q, d⟩ = .next ⟨q,
      (((((e.setMac p (fun m => { m with lastTx := o ++ (fcsOf o).map (fun b => ~~~b) })).setChain r s (fun c =>
        { c with attempts := (e.mac p).attempts + 1 })).endChain r s 3).oppSent p).txNext p).settle⟩)
  ∧ (∀ (q : List Instr) (d b e : Dev) (p ago : Nat) (df : Bool) (ss : List Strike) (f : TowTx) (t : List TowTx) (l : Oct), p < 4 →
    strikesOk ss = true → d.on (macDom p) = true → (d.mac p).backoff = none → d.mayStart p = true → (d.mac p).hold = false →
    (d.mac p).cur = .tow → b = (if df && 2 ≤ p && (d.mac p).attempts = 0 && d.sending p then d.cnt p 36 else d).strike ss →
    (b.mac p).towq = f :: t → b.locksClear f.barges = true →
    b.allOn (dPM0 :: (f.barges.map (fun b => bankDom (bankOf b))).eraseDups) = true →
    f.barges.any (fun x => (b.barge x).poison) = false → b.readPlaces (framePlaces f.barges f.len) = (l, [], e) →
    exec (.frameTransmitted p df ss ago) ⟨q, d⟩ = .next ⟨q,
      (let x := (e.countTx p (padFrame l)).setMac p (fun m => { m with towq := t })
       ((if f.own then x.freeBarges f.barges else x).oppSent p).txNext p).settle⟩)

/-- PAUSE, TSO, wake-listen and pralines (11 R376, R381-R389, R391, R392). The timer's end stops the watchdog and starts the quiet
time; a pause that lasts is refreshed; PAUSE_SEND leaves a frame pending; the watchdog breaks a pause, counts a strike and
fires 60; a quiet limit clears the strikes, PAUSE_REARM too and the defeat with them. TSO takes its scratch barge and gives it
back; WAKE_LISTEN (a frame selected and not yet on the wire does not begin) and PRALINE_ENABLE take their values, the pralines their pattern slots. -/
def Obligations.PauseAndTsoCommandsComplete : Prop :=
  (∀ (q : List Instr) (d e : Dev) (p t : Nat), p < 2 → (d.mac p).pauseEnd = some t → e = d.advanceTo t →
    exec (.pauseTimerExpiry p) ⟨q, d⟩ = .next ⟨q, (e.setMac p (fun m =>
      { m with pauseEnd := none, wdSince := none, quietSince := some e.ck })).settle⟩)
  ∧ (∀ (q : List Instr) (d e : Dev) (p t : Nat), p < 2 → (d.mac p).lastAuto = some t → d.on (macDom p) = true →
    d.flag (macKey 0x3820 p 1) 1 = true → d.poundState (d.rd (0x268001 + p)) = 2 →
    d.poundFree (d.rd (0x268001 + p)) < d.rd (macKey 0x3820 p 4) → e = d.advanceTo (t + d.rd (macKey 0x3820 p 5) * 100) →
    exec (.pauseRefresh p) ⟨q, d⟩ = .next ⟨q, ((e.setMac p (fun m =>
      { m with pendPause := some (e.rd (macKey 0x3820 p 2), true) })).setMac p (fun m => { m with lastAuto := some e.ck })).settle⟩)
  ∧ (∀ (q : List Instr) (d0 d : Dev) (p v : Nat) (tm : Timing), d = d0.hostStart → p < 2 → v < 2 ^ 16 → d.hostTakes (macKey 0x3820 p 6) v tm = true →
    exec (.pauseSend p v tm) ⟨q, d0⟩ = .next ⟨q, ((d.setMac p (fun m => { m with pendPause := some (v, false) })).answered []).settle⟩)
  ∧ (∀ (q : List Instr) (d e : Dev) (p t x : Nat), p < 2 → (d.mac p).wdSince = some t → d.on (macDom p) = true →
    (d.mac p).pauseEnd = some x → t + d.rd (macKey 0x3820 p 7) * 100 < x → e = d.advanceTo (t + d.rd (macKey 0x3820 p 7) * 100) →
    exec (.pauseWdBreak p) ⟨q, d⟩ = .next ⟨q,
      (let n := min ((e.mac p).strikes + 1) 15
       let y := ((e.setMac p (fun m => { m with pauseEnd := none, wdSince := none, quietSince := some e.ck, strikes := n })).inc
         (macKey 0x3820 p 0xB)).fire 60
       if y.rd (macKey 0x3820 p 8) ≠ 0 && y.rd (macKey 0x3820 p 8) ≤ n && !(y.mac p).defeated
       then (y.setMac p (fun m => { m with defeated := true })).fire 60 else y).settle⟩)
  ∧ (∀ (q : List Instr) (d e : Dev) (p t : Nat), p < 2 → (d.mac p).quietSince = some t → d.on (macDom p) = true → (d.mac p).pauseEnd = none →
    e = d.advanceTo (t + d.rd (macKey 0x3820 p 7) * 100) →
    exec (.pauseStrikeReset p) ⟨q, d⟩ = .next ⟨q, (e.setMac p (fun m => { m with strikes := 0, quietSince := none })).settle⟩)
  ∧ (∀ (q : List Instr) (d0 d : Dev) (p : Nat) (tm : Timing), d = d0.hostStart → p < 2 → d.hostTakes (macKey 0x3820 p 0xA) 1 tm = true →
    exec (.pauseRearm p 1 tm) ⟨q, d0⟩ = .next ⟨q, ((d.setMac p (fun m => { m with defeated := false, strikes := 0 })).answered []).settle⟩)
  ∧ (∀ (q : List Instr) (d0 d : Dev) (p b : Nat) (tm : Timing), d = d0.hostStart → p < 2 → d.hostTakes (macKey 0x3830 p 1) 1 tm = true →
    d.rd (macKey 0x3830 p 1) = 0 → d.rd (macKey 0x3830 p 2) = b → d.claimBlock [⟨4, b, 7, p⟩] = none →
    exec (.tsoEnable p tm) ⟨q, d0⟩ = .next ⟨q, ((((d.takeClaims [⟨4, b, 7, p⟩]).wr (macKey 0x3830 p 1) 1).requestLock b .txdma
      0).answered []).settle⟩)
  ∧ (∀ (q : List Instr) (d0 d : Dev) (p : Nat) (tm : Timing), d = d0.hostStart → p < 2 → d.hostTakes (macKey 0x3830 p 1) 0 tm = true →
    d.rd (macKey 0x3830 p 1) = 1 →
    exec (.tsoDisable p tm) ⟨q, d0⟩ = .next ⟨q, ((((d.wr (macKey 0x3830 p 1) 0).setMac p (fun m =>
      { m with tsoOff := true })).tsoRelease p).answered []).settle⟩)
  ∧ (∀ (q : List Instr) (d0 d : Dev) (p v : Nat) (tm : Timing), d = d0.hostStart → p < 4 → v < 2 ^ 8 → d.hostTakes (macKey 0x3800 p 5) v tm = true →
    exec (.wakeListen p v tm) ⟨q, d0⟩ = .next ⟨q, ((((d.noteRx (macKey 0x3800 p 5)).wakeHold p v).wr (macKey 0x3800 p 5) v).answered []).settle⟩)
  ∧ (∀ (q : List Instr) (d0 d e : Dev) (v : Nat) (tm : Timing), d = d0.hostStart → v < 2 ^ 16 → d.hostTakes 0x385011 v tm = true →
    e = d.noteRx 0x385011 → e.claimBlock (pralineClaims v) = none →
    exec (.pralineEnable v tm) ⟨q, d0⟩ = .next ⟨q, ((((e.dropClaims (fun c => c.kind == 1 && c.holder == 1 && !v.testBit c.inst)).takeClaims
      (pralineClaims v)).wr 0x385011 v).answered []).settle⟩)

/-! ### Ports (12) -/

/-- PORT_RUN and the MDIO master (12 R399-R401, R407-R413). A stop cuts the frame being received and halts the port with the
link down, a start brings it up: a segment port with PLCA is NEGOTIATING until its first beacon, the coordinator too, the model's choice
(log entries 44 and 45), without PLCA UP at once; what a foreign beacon stopped starts again (12 R441). MDIO_CMD
shows busy and queues the frames of its clause, one of clause 22 or four of clause 45; the last frame of a command gives its
data; the poll timer asks for the status register. -/
def Obligations.PortRunAndMdioCommandsComplete : Prop :=
  (∀ (q : List Instr) (d0 d : Dev) (p : Nat) (tm : Timing), d = d0.hostStart → p < 4 → d.hostTakes (portRunKey p) 0 tm = true → d.rd (portRunKey p) = 1 →
    exec (.portStop p tm) ⟨q, d0⟩ = .next ⟨q, ((((d.cutReceive p).wr (portRunKey p) 0).portHalt p 0).answered []).settle⟩)
  ∧ (∀ (q : List Instr) (d0 d : Dev) (tm : Timing), d = d0.hostStart → d.hostTakes (portRunKey 0) 1 tm = true → d.rd (portRunKey 0) = 0 →
    exec (.portStart 0 tm) ⟨q, d0⟩ = .next ⟨q, ((let x := (d.wr (portRunKey 0) 1).setMdio (fun m =>
        { m with link := false, lastPoll := d.ck })
      let e := x.setLink 0 2
      (e.setMdio (fun m => { m with seqq := m.seqq ++ [e.seqFrame 4 x.anarFull false, e.seqFrame 0 0x1200 false] })).mdioKick).answered
        []).settle⟩)
  ∧ (∀ (q : List Instr) (d0 d : Dev) (tm : Timing), d = d0.hostStart → d.hostTakes (portRunKey 1) 1 tm = true → d.rd (portRunKey 1) = 0 →
    exec (.portStart 1 tm) ⟨q, d0⟩ = .next ⟨q, (((d.wr (portRunKey 1) 1).setLink 1 2).answered []).settle⟩)
  ∧ (∀ (q : List Instr) (d0 d : Dev) (p : Nat) (tm : Timing), d = d0.hostStart → 2 ≤ p → p < 4 → d.hostTakes (portRunKey p) 1 tm = true →
    d.rd (portRunKey p) = 0 → d.rd (segKey 0x3210 p 1) = 1 →
    exec (.portStart p tm) ⟨q, d0⟩ = .next ⟨q,
      (let e := ((d.wr (portRunKey p) 1).setSeg p (fun s =>
         { Seg.idle with yieldRun := s.yieldRun, conflictAt := s.conflictAt })).plcaBit p 2 false
       ((((e.driftReset p).plcaBit p 0 false).plcaBit p 1 false).setLink p 2).answered []).settle⟩)
  ∧ (∀ (q : List Instr) (d0 d : Dev) (p : Nat) (tm : Timing), d = d0.hostStart → 2 ≤ p → p < 4 → d.hostTakes (portRunKey p) 1 tm = true →
    d.rd (portRunKey p) = 0 → d.rd (segKey 0x3210 p 1) = 0 →
    exec (.portStart p tm) ⟨q, d0⟩ = .next ⟨q,
      (let e := ((d.wr (portRunKey p) 1).setSeg p (fun s =>
         { Seg.idle with yieldRun := s.yieldRun, conflictAt := s.conflictAt })).plcaBit p 2 false
       ((((e.driftReset p).plcaBit p 0 false).plcaBit p 1 false).setLink p 3).answered []).settle⟩)
  ∧ (∀ (q : List Instr) (d e : Dev) (data : Nat) (f : MdioFrame), data < 2 ^ 16 → d.mdio.cur = some f → f.kind = .host true →
    f.write = false → e = d.advanceTo (d.mdio.curAt + 64 * d.rd 0x301002) →
    exec (.mdioFrameDone data) ⟨q, d⟩ = .next ⟨q, (((e.setMdio (fun m => { m with cur := none })).wr 0x301006
      (2 + 65536 * data)).mdioKick).settle⟩)
  ∧ (∀ (q : List Instr) (d e : Dev), d.on dMACT = true → d.rd (portRunKey 0) = 1 →
    e = d.advanceTo (d.mdio.lastPoll + d.rd 0x301003 * 100000) →
    exec .mdioPoll ⟨q, d⟩ = .next ⟨q, ((e.setMdio (fun m => { m with
      lastPoll := e.ck, pollq := if m.pollq.isEmpty then [⟨.poll, false, e.rd 0x301001, 1, 0⟩] else m.pollq })).mdioKick).settle⟩)
  ∧ (∀ (q : List Instr) (d0 d : Dev) (phy reg : Nat) (tm : Timing), d = d0.hostStart → phy < 32 → reg < 32 → d.hostTakes 0x301005 (mdioWord 1 phy reg 0 0) tm = true →
    exec (.mdioC22Read phy reg tm) ⟨q, d0⟩ = .next ⟨q, ((((d.wr 0x301006 1).setMdio (fun m =>
      { m with hostq := [⟨.host true, false, phy, reg, 0⟩] })).mdioKick).answered []).settle⟩)
  ∧ (∀ (q : List Instr) (d0 d : Dev) (phy reg data : Nat) (tm : Timing), d = d0.hostStart → phy < 32 → reg < 32 → data < 2 ^ 16 →
    d.hostTakes 0x301005 (mdioWord 2 phy reg 0 data) tm = true →
    exec (.mdioC22Write phy reg data tm) ⟨q, d0⟩ = .next ⟨q, ((((d.wr 0x301006 1).setMdio (fun m =>
      { m with hostq := [⟨.host true, true, phy, reg, data⟩] })).mdioKick).answered []).settle⟩)
  ∧ (∀ (q : List Instr) (d0 d : Dev) (phy dev reg : Nat) (tm : Timing), d = d0.hostStart → phy < 32 → dev < 32 → reg < 2 ^ 16 →
    d.hostTakes 0x301005 (mdioWord 3 phy dev reg 0) tm = true →
    exec (.mdioC45Read phy dev reg tm) ⟨q, d0⟩ = .next ⟨q, ((((d.wr 0x301006 1).setMdio (fun m =>
      { m with hostq := [⟨.host false, true, phy, 13, dev⟩, ⟨.host false, true, phy, 14, reg⟩, ⟨.host false, true, phy, 13, 0x4000 + dev⟩,
                         ⟨.host true, false, phy, 14, 0⟩] })).mdioKick).answered []).settle⟩)
  ∧ (∀ (q : List Instr) (d0 d : Dev) (phy dev reg data : Nat) (tm : Timing), d = d0.hostStart → phy < 32 → dev < 32 → reg < 2 ^ 16 → data < 2 ^ 16 →
    d.hostTakes 0x301005 (mdioWord 4 phy dev reg data) tm = true →
    exec (.mdioC45Write phy dev reg data tm) ⟨q, d0⟩ = .next ⟨q, ((((d.wr 0x301006 1).setMdio (fun m =>
      { m with hostq := [⟨.host false, true, phy, 13, dev⟩, ⟨.host false, true, phy, 14, reg⟩, ⟨.host false, true, phy, 13, 0x4000 + dev⟩,
                         ⟨.host true, true, phy, 14, data⟩] })).mdioKick).answered []).settle⟩)

/-- The speed governor and the long-reach port (12 R414-R418, R423, R425, R444). The governor takes compare channel 3 at enabling
and gives it back; a window, whose end channel 3 compares the clock with (17 R605, R610), measures the use and counts for the dwells, one
that completes a dwell begins a step; one while a step runs counts 0 and judges nothing, and where the next begins is the model's
choice too (log entry 46); without TIME it is a fault of the engine (01 R17); a drained step writes the new advertisement and restarts auto-negotiation; a hold limit halts
the governor. A 10BASE-T1L link that comes up gives its result from T1L_FORCE or, with auto-negotiation, from the capabilities and
the role preferences (the role where these leave it open is log entry 47), one that is lost reads DOWN; T1L_SQI follows every ms. -/
def Obligations.GovernorAndT1lCommandsComplete : Prop :=
  (∀ (q : List Instr) (d0 d : Dev) (tm : Timing), d = d0.hostStart → d.hostTakes 0x302001 1 tm = true → d.domEff dTIME ≠ .off → d.claimBlock [govClaim] = none →
    d.rd 0x302001 = 0 →
    exec (.govEnable 1 tm) ⟨q, d0⟩ = .next ⟨q, ((((d.takeClaims [govClaim]).setGov (fun g =>
      { g with downRun := 0, upRun := 0, winStart := d.tm.clock, txOct := 0, rxOct := 0 })).wr 0x302001 1).answered []).settle⟩)
  ∧ (∀ (q : List Instr) (d0 d : Dev) (tm : Timing), d = d0.hostStart → d.hostTakes 0x302001 1 tm = true → d.domEff dTIME = .off →
    d.rd 0x302001 = 1 →
    exec (.govEnable 1 tm) ⟨q, d0⟩ = .next ⟨q, ((d.setGov (fun g => { g with halted := false })).answered []).settle⟩)
  ∧ (∀ (q : List Instr) (d0 d : Dev) (tm : Timing), d = d0.hostStart → d.hostTakes 0x302001 0 tm = true →
    exec (.govEnable 0 tm) ⟨q, d0⟩ = .next ⟨q, (((d.wr 0x302001 0).dropClaims (fun c => c.kind == 2 && c.holder == 5)).answered []).settle⟩)
  ∧ (∀ (q : List Instr) (d e : Dev) (u dn up span : Nat) (hi run : Bool), d.allOn [dMACT, dTIME] = true → d.rd 0x302001 = 1 →
    d.govHolds = true → d.linkState 0 = 3 → d.rateJob = none →
    span = d.rd 0x302006 * 1000000 * 4194304 → e = d.clockReach (d.gov.winStart + span) →
    u = max e.gov.txOct e.gov.rxOct * 8 / (100 * e.rd 0x302006) → hi = decide (e.rd 0x300003 = 100) → run = e.gov.step.isSome →
    dn = (if hi && u < e.rd 0x302002 then e.gov.downRun + 1 else 0) → up = (if !hi && e.rd 0x302003 < u then e.gov.upRun + 1 else 0) →
    exec .govWindow ⟨q, d⟩ = .next ⟨q,
      (let x := (e.wr 0x302008 (min u 65535)).setGov (fun v => { v with
         txOct := 0, rxOct := 0, winStart := e.gov.winStart + (e.tm.clock - e.gov.winStart) / span * span, downRun := if run then 0 else dn, upRun := if run then 0 else up })
       if x.gov.halted || run then x
       else if hi && x.dwellWindows 0x302004 ≤ dn then x.govStep 10 none
       else if !hi && x.dwellWindows 0x302005 ≤ up then x.govStep 100 none else x).settle⟩)
  ∧ (∀ (q : List Instr) (d : Dev), d.on dMACT = true → d.on dTIME = false → d.rd 0x302001 = 1 →
    exec .govWindow ⟨q, d⟩ = .next ⟨q, (d.engineOff dMACT [dTIME]).settle⟩)
  ∧ (∀ (q : List Instr) (d : Dev) (g : GovStep), d.gov.step = some g → g.drained = false → g.bmcrAt = none → (d.mac 0).cur = .idle →
    d.on dMACT = true → d.rd (portRunKey 0) ≠ 0 →
    exec .govStepDrained ⟨q, d⟩ = .next ⟨q, (let e := d.setGov (fun v => { v with step := some { g with drained := true } })
      let e := match g.job with
        | some s => e.jobProgress s 1
        | none => e
      (e.setMdio (fun m => { m with seqq := m.seqq ++ [e.seqFrame 4 (if g.target = 10 then 0x41 else e.anarFull) false,
        e.seqFrame 0 0x1200 true] })).mdioKick).settle⟩)
  ∧ (∀ (q : List Instr) (d e : Dev) (g : GovStep) (t : Nat), d.gov.step = some g → g.bmcrAt = some t →
    e = d.advanceTo (t + d.rd 0x302007 * 100000) →
    exec .govHoldLimitExpiry ⟨q, d⟩ = .next ⟨q,
      (let x := ((e.setGov (fun v =>
        { v with step := none, halted := true, downRun := 0, upRun := 0 })).inc 0x30200A).fire 61
      let x := if x.rd (portRunKey 0) = 1 then (x.setMdio (fun m => { m with
          seqq := m.seqq ++ [x.seqFrame 4 x.anarFull false, x.seqFrame 0 0x1200 false] })).mdioKick else x
      match g.job with
      | some s => x.jobFail s 0x0203
      | none => x).settle⟩)
  ∧ (∀ (q : List Instr) (d : Dev) (able req draw an hi ms : Bool) (far : Nat), far ≤ 2 → d.on dMACL = true → d.rd (portRunKey 1) ≠ 0 →
    d.linkState 1 ≠ 6 → an = decide (d.rd 0x311002 = 1) →
    hi = (if an then d.flag 0x311001 0 && able && (d.flag 0x311001 1 || req) else d.flag 0x311003 0) →
    ms = (if an then t1lRole (d.rd 0x311004) far draw else d.flag 0x311003 1) →
    exec (.t1lLinkChange true able req draw far) ⟨q, d⟩ = .next ⟨q,
      (let e := if d.linkState 1 = 3 then d else d.setMac 1 (fun m => { m with sqiAt := d.ck })
       (e.wr 0x311005 (b2n hi + 2 * b2n ms + 4 * b2n an)).setLink 1 3).settle⟩)
  ∧ (∀ (q : List Instr) (d : Dev) (able req draw : Bool) (far : Nat), far ≤ 2 → d.on dMACL = true → d.rd (portRunKey 1) ≠ 0 →
    d.linkState 1 = 3 →
    exec (.t1lLinkChange false able req draw far) ⟨q, d⟩ = .next ⟨q, (d.setLink 1 1).settle⟩)
  ∧ (∀ (q : List Instr) (d e : Dev) (sqi mse : Nat), sqi < 8 → mse < 2 ^ 16 → d.on dMACL = true → d.linkState 1 = 3 →
    e = d.advanceTo ((d.mac 1).sqiAt + 100000) →
    exec (.t1lSqiUpdate sqi mse) ⟨q, d⟩ = .next ⟨q, (((e.setMac 1 (fun m => { m with sqiAt := e.ck })).wr 0x311006 sqi).wr 0x311007
      mse).settle⟩)

/-- The segment ports (12 R427-R436, R441-R443). The coordinator's first beacon brings the link up, each later one follows the opportunities of
PLCA_NODE_COUNT nodes and its hold, or the carrier it yielded to; a follower's received beacon starts the count anew; a beacon that a
coordinator hears stops its own; 4,000 bit times without one lose the link. A foreign carrier in the own opportunity is an ID conflict,
noted, and cleared after a second. A carrier measured moves the drift of its node by an eighth of the difference, the first one sets it, and
the count to the next node; an opportunity starts as the hold fixed at T0 ends, or is yielded to a carrier inside it, whose offset then
counts as the predecessor's; a node unheard for a second is unknown. A collision draws a back-off, whose end lets the MAC try
again. Where the count goes on from, when a hold is fixed and the order of draws in one CK are the model's choices (log entries 95 and
3). -/
def Obligations.SegmentCommandsComplete : Prop :=
  (∀ (q : List Instr) (d e : Dev) (p : Nat), p = 2 ∨ p = 3 → d.plcaOn p = true → d.plcaId p = 0 → (d.seg p).coordOff = false →
    (d.seg p).yielded = false → (d.seg p).count = none →
    e = (((d.yieldClear p).plcaBit p 0 true).plcaBit p 1 true).setLink p 3 →
    exec (.plcaBeaconSend p) ⟨q, d⟩ = .next ⟨q, (e.oppBegin p e.ck).settle⟩)
  ∧ (∀ (q : List Instr) (d b e : Dev) (p c s t : Nat), p = 2 ∨ p = 3 → d.plcaOn p = true → d.plcaId p = 0 → (d.seg p).coordOff = false →
    (d.seg p).yielded = false → (d.seg p).count = some c →
    t = (d.seg p).countAt + (d.rd (segKey 0x3210 p 3) - c) * (10 * d.rd (segKey 0x3210 p 4)) →
    s = (((d.seg p).held).getD (d.sgHold p)).toNat → b = (d.wr (segKey 0x3220 p 7) s).advanceTo (t + s) →
    e = (((b.yieldClear p).plcaBit p 0 true).plcaBit p 1 true).setLink p 3 →
    exec (.plcaBeaconSend p) ⟨q, d⟩ = .next ⟨q, (e.oppBegin p e.ck).settle⟩)
  ∧ (∀ (q : List Instr) (d e : Dev) (p : Nat), p = 2 ∨ p = 3 → d.plcaOn p = true → d.plcaId p = 0 → (d.seg p).coordOff = false →
    (d.seg p).yielded = true →
    e = (((d.setSeg p (fun s => { s with yielded := false })).plcaBit p 0 true).plcaBit p 1 true).setLink p 3 →
    exec (.plcaBeaconSend p) ⟨q, d⟩ = .next ⟨q, (e.oppBegin p e.ck).settle⟩)
  ∧ (∀ (q : List Instr) (d : Dev) (p : Nat), p = 2 ∨ p = 3 → d.plcaOn p = true → d.plcaId p ≠ 0 →
    exec (.plcaBeaconReceived p) ⟨q, d⟩ = .next ⟨q, (((d.setSeg p (fun s => { s with
      beaconAt := some d.ck, hadBeacon := true, opp := none, held := none, count := some 0, countAt := d.ck })).plcaBit p 0
        true).setLink p 3).settle⟩)
  ∧ (∀ (q : List Instr) (d : Dev) (p : Nat), p = 2 ∨ p = 3 → d.plcaOn p = true → d.plcaId p = 0 → (d.seg p).coordOff = false →
    exec (.plcaBeaconReceived p) ⟨q, d⟩ = .next ⟨q, ((((((d.setSeg p (fun s =>
      { s with coordOff := true, opp := none, count := none, held := none, yielded := false })).plcaBit p 0 false).plcaBit p 1
      false).plcaBit p 2 true).inc (segKey 0x3210 p 8)).fire 63 |>.setLink p 5).settle⟩)
  ∧ (∀ (q : List Instr) (d e : Dev) (p t : Nat), p = 2 ∨ p = 3 → (d.seg p).beaconAt = some t → d.plcaOn p = true → d.linkState p = 3 →
    d.plcaId p ≠ 0 → e = d.advanceTo (t + 40000) →
    exec (.plcaBeaconLoss p) ⟨q, d⟩ = .next ⟨q, (((e.setSeg p (fun s =>
      { s with beaconAt := none, opp := none, count := none, held := none })).plcaBit p 0 false).setLink p 5).settle⟩)
  ∧ (∀ (q : List Instr) (d : Dev) (p : Nat), p = 2 ∨ p = 3 → d.plcaSends p = true → d.plcaId p ≠ 0 → (d.seg p).opp ≠ none →
    d.sending p = true →
    exec (.plcaIdConflict p) ⟨q, d⟩ = .next ⟨q, ((((d.plcaBit p 3 true).setSeg p (fun s => { s with conflictAt := some d.ck })).inc
      (segKey 0x3210 p 8)).fire 63).settle⟩)
  ∧ (∀ (q : List Instr) (d : Dev) (p : Nat), p = 2 ∨ p = 3 → (d.seg p).opp = none ∨ d.sending p = false →
    exec (.plcaIdConflict p) ⟨q, d⟩ = .next ⟨q, d.settle⟩)
  ∧ (∀ (q : List Instr) (d e : Dev) (p t : Nat), p = 2 ∨ p = 3 → (d.seg p).conflictAt = some t → e = d.advanceTo (t + 100000000) →
    exec (.plcaIdConflictClear p) ⟨q, d⟩ = .next ⟨q, ((e.plcaBit p 3 false).setSeg p (fun s => { s with conflictAt := none })).settle⟩)
  ∧ (∀ (q : List Instr) (d b : Dev) (p j v c : Nat) (o x n : Int) (late : Bool), p = 2 ∨ p = 3 → j < d.rd (segKey 0x3210 p 3) → j < 32 →
    d.plcaOn p = true → j ≠ d.plcaId p → (d.seg p).count = some c → c ≤ j ∨ j = d.predecessor p →
    late = decide (j = d.predecessor p ∧ d.sgT p ≤ o) →
    b = (if late then d.setSeg p (fun s => { s with held := some (((d.seg p).held).getD (d.sgHold p)) }) else d) →
    x = clampInt (-32767) 32767 o → v = d.rd (segKey 0x3240 p (1 + j)) →
    n = (if v = 0x8000 then x else toSigned 16 v + (x - toSigned 16 v).tdiv 8) →
    exec (.sgCarrierMeasure p j o) ⟨q, d⟩ = .next ⟨q, (let e := (b.wr (segKey 0x3240 p (1 + j)) (ofSigned 16 n)).setSeg p (fun s =>
        { s with measured := updAt s.measured j (fun _ => some d.ck) })
      (((if j = e.predecessor p && e.sgT p ≤ x then e.inc (segKey 0x3220 p 9) else e).selfUpdate p).setSeg p (fun s =>
        { s with count := some (if late && !d.sgWants p then j + 2 else j + 1), countAt := d.ck }))).settle⟩)
  ∧ (∀ (q : List Instr) (d e : Dev) (p c s t : Nat), p = 2 ∨ p = 3 → d.plcaSends p = true → d.plcaId p ≠ 0 →
    (d.seg p).count = some c → c ≤ d.plcaId p → t = (d.seg p).countAt + (d.plcaId p - c) * (10 * d.rd (segKey 0x3210 p 4)) →
    s = (((d.seg p).held).getD (d.sgHold p)).toNat → e = ((d.wr (segKey 0x3220 p 7) s).advanceTo (t + s)).yieldClear p →
    exec (.sgHoldExpiry p) ⟨q, d⟩ = .next ⟨q, (e.oppBegin p t).settle⟩)
  ∧ (∀ (q : List Instr) (d b e f : Dev) (p s : Nat) (into : Option Nat), p = 2 ∨ p = 3 → d.sgHolds p = true →
    s = (((d.seg p).held).getD (d.sgHold p)).toNat → 0 < s → (∀ i, into = some i → i < s) →
    b = (d.inc (segKey 0x3220 p 5)).wr (segKey 0x3220 p 7) s →
    e = (match into with | some i => b.sgEstimate p (b.predecessor p) (b.sgT p + i) | none => b) →
    f = e.setSeg p (fun x => { x with yieldRun := (d.seg p).yieldRun + 1, yielded := e.plcaId p == 0, opp := none, held := none,
                                      count := some (if e.plcaId p = 0 then e.rd (segKey 0x3210 p 3) else e.plcaId p + 1), countAt := e.ck }) →
    exec (.sgYield p into) ⟨q, d⟩ = .next ⟨q, (if f.rd (segKey 0x3220 p 3) ≤ (d.seg p).yieldRun + 1 && !(f.rd (segKey 0x3220 p 4)).testBit 0 then
        ((f.wr (segKey 0x3220 p 4) (setBit (f.rd (segKey 0x3220 p 4)) 0 true)).inc (segKey 0x3220 p 8)).fire 62
      else f).settle⟩)
  ∧ (∀ (q : List Instr) (d : Dev) (p : Nat) (into : Option Nat), p = 2 ∨ p = 3 →
    (d.plcaId p = 0 ∧ (d.seg p).coordOff = true) ∨ (d.plcaId p ≠ 0 ∧ d.plcaSends p = false) →
    exec (.sgYield p into) ⟨q, d⟩ = .next ⟨q, d.settle⟩)
  ∧ (∀ (q : List Instr) (d e : Dev) (p j t : Nat), p = 2 ∨ p = 3 → j < 32 → (d.seg p).measured.getD j none = some t →
    e = d.advanceTo (t + 100000000) →
    exec (.sgDriftExpiry p j) ⟨q, d⟩ = .next ⟨q, (((e.setSeg p (fun s =>
      { s with measured := updAt s.measured j (fun _ => none) })).wr (segKey 0x3240 p (1 + j)) 0x8000).selfUpdate p).settle⟩)
  ∧ (∀ (q : List Instr) (d e : Dev) (p r s n : Nat) (df : Bool), p = 2 ∨ p = 3 → d.on (macDom p) = true → (d.mac p).backoff = none →
    (d.mac p).hold = false → (d.mac p).cur = .chain r s ∨ (d.mac p).cur = .tow → n = (d.mac p).attempts + 1 → n < 16 →
    e = ((if df && n = 1 then d.cnt p 36 else d).oppEnd p).cnt p 33 →
    exec (.segCollision p false df) ⟨q, d⟩ = .next ⟨q, ((e.draw (macDom p)).2.setMac p (fun m =>
      { m with attempts := n, backoff := some (e.ck, (e.draw (macDom p)).1 % 2 ^ min n 10),
               hold := (e.draw (macDom p)).2.wakeListen p })).settle⟩)
  ∧ (∀ (q : List Instr) (d e : Dev) (p t n : Nat), p = 2 ∨ p = 3 → (d.mac p).backoff = some (t, n) → e = d.advanceTo (t + n * 5120) →
    exec (.backoffExpiry p) ⟨q, d⟩ = .next ⟨q, (e.setMac p (fun m => { m with backoff := none })).settle⟩)

/-! ### The classifier and the merge unit (13) -/

/-- Classification and generations (13 R447, R454-R458, R461, R463, R472-R480). The frame at the head is accepted 64 CK after the one before
it at the earliest; its first match decides its action and mark, MARK goes on to the port's default, TREE to the leaf of a walk of 32
visits, whose entries without a stated test are free values; without a match the default applies. Table 13.6 gives what an action does. In
the TRANSIT states a frame whose entry CLS_TRANSIT_MAP names, and with the tree released every TREE action, goes to the transit ring. With CLS_RUN 00h, and for a frame
with a poisoned barge, which the model treats so by its choice (log entry 79), a default RING takes the frame and any other drops it,
counted. A commit that switches waits for its check: RETRY; TRANSIT and its release enter their states, ABANDON leaves them for RUNNING;
the check that passes switches and answers the write that waited, one that fails aborts it with 0702h; TRANSIT ends by time with a switch, or
by going back, where the other generation is not ready. Which entries a check of a generation looks at is log entry 51. -/
def Obligations.ClassifierCommandsComplete : Prop :=
  (∀ (q : List Instr) (d e b : Dev) (f : RxFrame) (t : List RxFrame) (n a : Nat) (x key : Oct), d.cls.queue = f :: t → d.on dCLS = true →
    e = (d.advanceTo d.cls.ready).setCls (fun c => { c with ready := (d.advanceTo d.cls.ready).ck + 64 }) →
    b = e.setCls (fun c => { c with queue := t }) → b.allOn [dCLS, dCORE, dPM0] = true → b.rd 0x400001 = 1 → b.framePoisoned f = false →
    key = b.clsKey b.clsActive f → b.firstMatch b.clsActive key = some (n, x) → a = octAt x 80 → a ≠ 5 → a ≠ 6 →
    b.clsState ≤ 1 ∨ b.flag 0x400008 n = false →
    exec .classifyFrame ⟨q, d⟩ = .next ⟨q, (b.clsAct ⟨f, some n, octAt x 81⟩ key a (leAt x 82 2) Dev.brgTake Dev.towPath).settle⟩)
  ∧ (∀ (d : Dev) (j : Judged) (key : Oct) (g : Nat) (brg tow : Dev → RxFrame → Nat → Dev),
    d.clsAct j key 0 g brg tow = (d.freeBarges j.fr.barges).cnt j.fr.port 20
    ∧ d.clsAct j key 1 g brg tow = d.clsRing j (g % 16) 0 0 none
    ∧ (d.rd (0x403001 + g % 8) / 256 = 0 →
      d.clsAct j key 2 g brg tow = ((d.inc 0x40000A).freeBarges j.fr.barges).cnt j.fr.port 20)
    ∧ (d.rd (0x403001 + g % 8) / 256 = 1 → d.allOn (d.pathNeeds 1 j.fr.port).2 = true →
      d.clsAct j key 2 g brg tow = brg (d.handBarges j.fr.barges .brg j.fr.data.length) j.fr (g % 8))
    ∧ (d.rd (0x403001 + g % 8) / 256 = 2 → d.allOn d.towNeeds = true →
      d.clsAct j key 2 g brg tow = tow (d.handBarges j.fr.barges (.tow (d.rd (0x403001 + g % 8) % 16)) j.fr.data.length) j.fr
        (d.rd (0x403001 + g % 8) % 16))
    ∧ (∀ (r : Nat) (e : Dev), (r, e) = d.indirEntry key → d.clsAct j key 3 g brg tow =
        (if r / 0x4000 = 0 then e.clsRing j (r % 16) 0 0 none else if r / 0x4000 = 1 then e.clsPath j (r % 8) brg tow
         else (e.freeBarges j.fr.barges).cnt j.fr.port 20))
    ∧ d.clsAct j key 4 g brg tow = d.clsGroup (g % 4) j key)
  ∧ (∀ (d : Dev) (j : Judged) (key : Oct) (g : Nat), d.rd (grpKey g 1) ≠ 1 →
    d.clsGroup g j key = ((d.inc (grpKey g 10)).freeBarges j.fr.barges).cnt j.fr.port 20)
  ∧ (∀ (d e : Dev) (j : Judged) (key : Oct) (g h : Nat), d.rd (grpKey g 1) = 1 → d.rd (grpKey g 2) = 1 → (h, e) = d.hash key →
    d.clsGroup g j key = e.clsRing j ((d.workers g).getD (h % (d.workers g).length) 0) 0 0 none)
  ∧ (∀ (d e : Dev) (j : Judged) (key : Oct) (g s w : Nat), d.rd (grpKey g 1) = 1 → d.rd (grpKey g 2) ≠ 1 → (d.grp g).barrier = none →
    d.cls.held.any (fun e => e.1 == g) = false → d.workers g ≠ [] → s = d.rd (grpKey g 6) → sub16 s (d.rd (grpKey g 7)) < 256 →
    w = (d.workers g).getD ((d.grp g).rot % (d.workers g).length) 0 →
    e = (d.wr (grpKey g 6) ((s + 1) % 65536)).setGrp g (fun x => { x with
      nums := x.nums ++ [⟨s, w, .out none⟩], rot := (x.rot + 1) % (d.workers g).length,
      headAt := if x.nums.isEmpty then d.ck else x.headAt }) →
    d.clsGroup g j key = e.clsRing j w (s % 256) 0 (some (g, s)))
  ∧ (∀ (q : List Instr) (d e b : Dev) (f : RxFrame) (t : List RxFrame) (v : Nat) (key : Oct), d.cls.queue = f :: t → d.on dCLS = true →
    e = (d.advanceTo d.cls.ready).setCls (fun c => { c with ready := (d.advanceTo d.cls.ready).ck + 64 }) →
    b = e.setCls (fun c => { c with queue := t }) → b.allOn [dCLS, dCORE, dPM0] = true → b.rd 0x400001 = 1 → b.framePoisoned f = false →
    key = b.clsKey b.clsActive f → b.firstMatch b.clsActive key = none → v = b.rd (0x401002 + 256 * f.port) →
    exec .classifyFrame ⟨q, d⟩ = .next ⟨q, (b.clsAct ⟨f, none, v / 256 % 256⟩ key (v % 256) (v / 65536) Dev.brgTake Dev.towPath).settle⟩)
  ∧ (∀ (q : List Instr) (d e b : Dev) (f : RxFrame) (t : List RxFrame) (n v : Nat) (x key : Oct), d.cls.queue = f :: t → d.on dCLS = true →
    e = (d.advanceTo d.cls.ready).setCls (fun c => { c with ready := (d.advanceTo d.cls.ready).ck + 64 }) →
    b = e.setCls (fun c => { c with queue := t }) → b.allOn [dCLS, dCORE, dPM0] = true → b.rd 0x400001 = 1 → b.framePoisoned f = false →
    key = b.clsKey b.clsActive f → b.firstMatch b.clsActive key = some (n, x) → octAt x 80 = 5 →
    b.clsState ≤ 1 ∨ b.flag 0x400008 n = false → v = b.rd (0x401002 + 256 * f.port) →
    exec .classifyFrame ⟨q, d⟩ = .next ⟨q, (b.clsAct ⟨f, some n, if v / 256 % 256 = 0 then octAt x 81 else v / 256 % 256⟩ key (v % 256)
      (v / 65536) Dev.brgTake Dev.towPath).settle⟩)
  ∧ (∀ (q : List Instr) (d e b u : Dev) (f : RxFrame) (t : List RxFrame) (n o v : Nat) (x key l : Oct), d.cls.queue = f :: t → d.on dCLS = true →
    e = (d.advanceTo d.cls.ready).setCls (fun c => { c with ready := (d.advanceTo d.cls.ready).ck + 64 }) →
    b = e.setCls (fun c => { c with queue := t }) → b.allOn [dCLS, dCORE, dPM0] = true → b.rd 0x400001 = 1 → b.framePoisoned f = false →
    key = b.clsKey b.clsActive f → b.firstMatch b.clsActive key = some (n, x) → octAt x 80 = 6 →
    b.clsState ≤ 1 ∨ (b.clsState = 2 ∧ b.flag 0x400008 n = false) →
    (o, u) = (if opensTest (b.clsBody b.clsActive 3) then b.free else (0, b)) → v = b.rd (0x401002 + 256 * f.port) →
    (treeWalk (b.clsBody b.clsActive 3) key (b.treeNodes b.clsActive) o 32 (leAt x 82 2) = some l → octAt l 1 ≠ 5 →
      exec .classifyFrame ⟨q, d⟩ = .next ⟨q, (u.clsAct ⟨f, some n, if octAt l 2 = 0 then octAt x 81 else octAt l 2⟩ key (octAt l 1)
        (leAt l 4 2) Dev.brgTake Dev.towPath).settle⟩)
    ∧ (treeWalk (b.clsBody b.clsActive 3) key (b.treeNodes b.clsActive) o 32 (leAt x 82 2) = none →
      exec .classifyFrame ⟨q, d⟩ = .next ⟨q, (((u.inc 0x40000A).fire 67).clsDefault ⟨f, some n, octAt x 81⟩ key Dev.brgTake
        Dev.towPath).settle⟩))
  ∧ (∀ (q : List Instr) (d e b : Dev) (f : RxFrame) (t : List RxFrame) (n : Nat) (x : Oct), d.cls.queue = f :: t → d.on dCLS = true →
    e = (d.advanceTo d.cls.ready).setCls (fun c => { c with ready := (d.advanceTo d.cls.ready).ck + 64 }) →
    b = e.setCls (fun c => { c with queue := t }) → b.allOn [dCLS, dCORE, dPM0] = true → b.rd 0x400001 = 1 → b.framePoisoned f = false →
    b.firstMatch b.clsActive (b.clsKey b.clsActive f) = some (n, x) → 2 ≤ b.clsState →
    b.flag 0x400008 n = true ∨ (3 ≤ b.clsState ∧ octAt x 80 = 6) →
    exec .classifyFrame ⟨q, d⟩ = .next ⟨q,
      (let y := b.deliverRx (rxRing (b.rd 0x400006)) ((⟨f, some n, octAt x 81⟩ : Judged).desc 0 0x2000) f.barges f.data.length none
       if y.1 then y.2.inc 0x400009 else y.2.cnt f.port 22).settle⟩)
  ∧ (∀ (q : List Instr) (d e b : Dev) (f : RxFrame) (t : List RxFrame) (v : Nat), d.cls.queue = f :: t → d.on dCLS = true →
    e = (d.advanceTo d.cls.ready).setCls (fun c => { c with ready := (d.advanceTo d.cls.ready).ck + 64 }) →
    b = e.setCls (fun c => { c with queue := t }) → b.allOn [dCLS, dCORE, dPM0] = true →
    b.rd 0x400001 = 0 ∨ b.framePoisoned f = true → v = b.rd (0x401002 + 256 * f.port) →
    exec .classifyFrame ⟨q, d⟩ = .next ⟨q,
      (if v % 256 = 1 then b.clsRing ⟨f, none, v / 256 % 256⟩ (v / 65536 % 16) 0 0 none
       else ((b.inc 0x40000A).freeBarges f.barges).cnt f.port 19).settle⟩)
  ∧ (∀ (q : List Instr) (d0 d : Dev) (s : Nat) (tm : Timing), d = d0.hostStart → d.hostTakes 0x400005 1 tm = true → d.clsState ≤ 1 → d.freeSlot = some s →
    exec (.clsCommit tm) ⟨q, d0⟩ = .next ⟨q, ((d.setCls (fun c => { c with commit := some (1, 0, d.ck) })).retry s 0x12 0xFF 0x4000 5
      none).settle⟩)
  ∧ (∀ (q : List Instr) (d0 d : Dev) (s : Nat) (tm : Timing), d = d0.hostStart → d.hostTakes 0x400005 4 tm = true → 2 ≤ d.clsState → d.freeSlot = some s →
    exec (.clsEnd tm) ⟨q, d0⟩ = .next ⟨q, ((d.setCls (fun c => { c with commit := some (4, 0, d.ck) })).retry s 0x12 0xFF 0x4000 5
      none).settle⟩)
  ∧ (∀ (q : List Instr) (d0 d : Dev) (tm : Timing), d = d0.hostStart → d.hostTakes 0x400005 2 tm = true → d.clsState = 1 →
    exec (.clsTransit tm) ⟨q, d0⟩ = .next ⟨q, (((d.wr 0x400002 2).setCls (fun c =>
      { c with transitAt := some (c.transitAt.getD d.ck) })).answered []).settle⟩)
  ∧ (∀ (q : List Instr) (d0 d : Dev) (tm : Timing), d = d0.hostStart → d.hostTakes 0x400005 3 tm = true → d.clsState = 1 →
    exec (.clsTransitRelease tm) ⟨q, d0⟩ = .next ⟨q, ((((d.wr 0x400002 3).setCls (fun c =>
      { c with transitAt := some (c.transitAt.getD d.ck) })).freeActive).answered []).settle⟩)
  ∧ (∀ (q : List Instr) (d0 d : Dev) (tm : Timing), d = d0.hostStart → d.hostTakes 0x400005 5 tm = true → d.clsState = 2 →
    exec (.clsAbandon tm) ⟨q, d0⟩ = .next ⟨q, (((d.setCls (fun c => { c with transitAt := none })).wr 0x400002 1).answered []).settle⟩)
  ∧ (∀ (q : List Instr) (d e : Dev) (t : Nat), d.cls.transitAt = some t → d.on dCLS = true → d.clsState = 2 →
    e = d.advanceTo (t + d.rd 0x400007 * 100000) → e.genOk (1 - e.clsActive) = false → e.clsState = 2 →
    exec .transitTimeout ⟨q, d⟩ = .next ⟨q, (((e.setCls (fun c => { c with transitAt := none })).wr 0x400002 1).fire 65).settle⟩)
  ∧ (∀ (q : List Instr) (d e : Dev) (t : Nat), d.cls.transitAt = some t → d.on dCLS = true → d.clsState = 3 →
    e = d.advanceTo (t + d.rd 0x400007 * 100000) → e.genOk (1 - e.clsActive) = false → e.clsState = 3 →
    exec .transitTimeout ⟨q, d⟩ = .next ⟨q, (((e.wr 0x400002 4).setCls (fun c => { c with transitAt := none })).fire 65).settle⟩)
  ∧ (∀ (q : List Instr) (d e : Dev) (t : Nat), d.cls.transitAt = some t → d.on dCLS = true → d.clsState = 2 ∨ d.clsState = 3 →
    e = d.advanceTo (t + d.rd 0x400007 * 100000) → e.genOk (1 - e.clsActive) = true →
    exec .transitTimeout ⟨q, d⟩ = .next ⟨q, ((e.clsSwitch).fire 65).settle⟩)
  ∧ (∀ (q : List Instr) (d e : Dev) (cmd ini t n : Nat), n ≤ 1100 → d.cls.commit = some (cmd, ini, t) →
    e = (d.advanceTo (t + n)).setCls (fun c => { c with commit := none }) → switches e.clsState cmd = true →
    exec (.generationCheckDone n) ⟨q, d⟩ = .next ⟨q, (if e.genOk (1 - e.clsActive) then (e.clsSwitch).resolve ini 0x4000 5 (.ok [])
      else e.resolve ini 0x4000 5 (.abort 0x0702 0)).settle⟩)

/-- Reorder groups (13 R464-R471). A released descriptor to be transmitted is read by the merge stage; the head's is written to the
merge ring with its number and the gap bit, its reserved bits zero (00 R10), and the head moves; a head that waits too long is skipped, counted, fires 66. A group
starts; it stops at once without outstanding numbers, else it is stopping until the last has passed. What a skip and a merge ring outside the table do
is the model's choice (log entries 50, 94). -/
def Obligations.MergeCommandsComplete : Prop :=
  (∀ (q : List Instr) (d e e' : Dev) (g slot t : Nat) (n : SeqNum) (ss : List Strike) (x : Oct), g < 4 → strikesOk ss = true →
    d.on dCLS = true → (d.grp g).late = [] → (d.grp g).nums = [n] → n.st = .out (some (slot, t)) →
    e = d.setGrp g (fun y => { y with late := y.late.filter (fun z => !d.slotReleased z.1 z.2) }) → (e.grp g).nums = [n] →
    e.slotReleased n.ring slot = true → e.ringReach (rxRing n.ring) = true →
    e.readMem (e.slotAddr (rxRing n.ring) slot) 32 ss = (x, [], e') →
    exec (.mergeRelease g ss) ⟨q, d⟩ = .next ⟨q, (((e'.setNum g n.seq (fun n => { n with
      st := if (octAt x 31).testBit 7 then .released x else .discarded })).grpAdvance g).heldRelease).settle⟩)
  ∧ (∀ (q : List Instr) (d : Dev) (g : Nat) (n : SeqNum) (t : List SeqNum) (desc : Oct), g < 4 → (d.grp g).nums = n :: t →
    n.st = .released desc → d.on dCLS = true → d.rd (grpKey g 4) < 16 → d.rxAccepts (rxRing (d.rd (grpKey g 4))) = true →
    d.ringReach (rxRing (d.rd (grpKey g 4))) = true →
    exec (.mergeWrite g) ⟨q, d⟩ = .next ⟨q, (let r := rxRing (d.rd (grpKey g 4))
      let e := d.writeMem (d.slotAddr r (d.ringDev r)) (rxDescClean (patch (patch desc 29 [oct n.seq]) 30
        (leOct 2 (setBit (setBit (leAt desc 30 2) 15 true) 12 (d.grp g).gap))))
      let x := (e.ringDev r + 1) % 65536
      (((((e.wr (ringKey r 5) x).wr (ringKey r 6) x).setGrp g (fun x => { x with gap := false })).ringCount r false).headPast g
        1 |>.grpAdvance g).heldRelease).settle⟩)
  ∧ (∀ (q : List Instr) (d e : Dev) (g slot t : Nat) (n : SeqNum) (l : List SeqNum), g < 4 → (d.grp g).nums = n :: l →
    n.st = .out (some (slot, t)) → d.on dCLS = true → d.slotReleased n.ring slot = false →
    e = d.advanceTo (max t (d.grp g).headAt + d.rd (grpKey g 5) * 100) →
    exec (.mergeTimeout g) ⟨q, d⟩ = .next ⟨q, (((((e.setNum g n.seq (fun n => { n with st := .skipped })).setGrp g (fun x =>
      { x with late := x.late ++ [(n.ring, slot)] })).inc (grpKey g 8)).fire 66).grpAdvance g).heldRelease.settle⟩)
  ∧ (∀ (q : List Instr) (d0 d : Dev) (g : Nat) (tm : Timing), d = d0.hostStart → g < 4 → d.hostTakes (grpKey g 1) 1 tm = true →
    exec (.grpStart g tm) ⟨q, d0⟩ = .next ⟨q, ((d.wr (grpKey g 1) 1).answered []).settle⟩)
  ∧ (∀ (q : List Instr) (d0 d : Dev) (g : Nat) (tm : Timing), d = d0.hostStart → g < 4 → d.hostTakes (grpKey g 1) 0 tm = true → d.rd (grpKey g 1) = 1 →
    (d.grp g).nums ≠ [] →
    exec (.grpStop g tm) ⟨q, d0⟩ = .next ⟨q, ((d.wr (grpKey g 1) 2).answered []).settle⟩)
  ∧ (∀ (q : List Instr) (d : Dev) (g : Nat), g < 4 → d.rd (grpKey g 1) = 2 → (d.grp g).nums = [] →
    exec (.grpStopped g) ⟨q, d⟩ = .next ⟨q, ((((d.wr (grpKey g 1) 0).wr (grpKey g 6) 0).wr (grpKey g 7) 0).setGrp g (fun x =>
      { Grp.idle with late := x.late })).settle⟩)

/-! ### CAN and the bridge (14) -/

/-- CAN channels (14 R485-R493; ISO 11898-1, PRESUMED, log entry 52). A start begins to integrate with the error counts at 0; a
stop waits for the frame on the bus. The candidate of a ring is sent with its data; a frame of the bridge sent lowers the
transmit count and leaves its queue. A frame received waits for the running bridge. The limit
leads to bus-off; CAN_RECOVER starts recovery, which ends error active with the counts at 0, as integration ends. A receive
error is noted and counted. What becomes of a frame when the channel stops, and its timestamp, rest on log entries 53 and 80. -/
def Obligations.CanCommandsComplete : Prop :=
  (∀ (q : List Instr) (d0 d : Dev) (c : Nat) (tm : Timing), d = d0.hostStart → c < 2 → d.hostTakes (canKey c 1) 1 tm = true → d.rd (canKey c 1) = 0 →
    exec (.canStart c tm) ⟨q, d0⟩ = .next ⟨q, ((((((d.wr (canKey c 1) 1).setCan c (fun x =>
      { x with stopping := false, pastLimit := false, stopAt := none })).wr (canKey c 11) 0).wr (canKey c 12) 0).setCanState c 1).answered []).settle⟩)
  ∧ (∀ (q : List Instr) (d0 d : Dev) (c : Nat) (tm : Timing), d = d0.hostStart → c < 2 → d.hostTakes (canKey c 1) 0 tm = true →
    d.rd (canKey c 1) = 1 →
    exec (.canStop c tm) ⟨q, d0⟩ = .next ⟨q, ((((d.wr (canKey c 1) 0).setCan c (fun x => { x with stopping := true })).canStopNow
      c).answered []).settle⟩)
  ∧ (∀ (q : List Instr) (d b e : Dev) (c v : Nat) (t : CanTx) (ss : List Strike) (x : Chain) (data : Oct), c < 2 → strikesOk ss = true →
    d.canCanSend c = true → (d.can c).tx = none → b = (d.candOff (48 + 4 * c)).candOff (49 + 4 * c) →
    bestCand (b.canCands c) = some (v, t) → (t.msg.fdf = false ∨ b.rd (canKey c 6) ≠ 0) → t.fromBridge = false →
    b.chainOf t.ring t.start = some x → (b.strike ss).readPlaces (bargePlaces x.barges) = (data, [], e) →
    exec (.canTxStart c ss) ⟨q, d⟩ = .next ⟨q, (let e := e.setChain t.ring t.start (fun x => { x with attempts := x.attempts + 1 })
      e.setCan c (fun x => { x with tx := some { t with
        msg := { t.msg with data := data }, ts := if e.on dTIME then some (e.stampAt 0 20) else none } })).settle⟩)
  ∧ (∀ (q : List Instr) (d b : Dev) (c v : Nat) (t : CanTx) (ss : List Strike), c < 2 → strikesOk ss = true →
    d.canCanSend c = true → (d.can c).tx = none → b = (d.candOff (48 + 4 * c)).candOff (49 + 4 * c) →
    bestCand (b.canCands c) = some (v, t) → (t.msg.fdf = false ∨ b.rd (canKey c 6) ≠ 0) → t.fromBridge = true →
    exec (.canTxStart c ss) ⟨q, d⟩ = .next ⟨q, ((b.setBrg (fun x => { x with outq := updAt x.outq c (fun q => updAt q 0 (fun m =>
      { m with attempts := m.attempts + 1 })) })).setCan c (fun x => { x with tx := some t })).settle⟩)
  ∧ (∀ (q : List Instr) (d : Dev) (c delay : Nat) (t : CanTx), c < 2 → (d.can c).tx = some t → t.fromBridge = true → t.msg.fdf = false →
    exec (.canTxEnd c (.sent delay)) ⟨q, d⟩ = .next ⟨q, (let e := ((d.setCan c (fun x => { x with tx := none })).canCnt c 5).canCnt c 7 t.msg.data.length
      (((e.setErr c 11 (e.canTec c - 1)).errState c).popOut c).canStopNow c).settle⟩)
  ∧ (∀ (q : List Instr) (d b x y e : Dev) (c : Nat) (f : CanFrame) (m : CanMsg), c < 2 → f.ok = true → d.canHears c f.sofAgo = true →
    (f.fdf = false ∨ d.rd (canKey c 6) ≠ 0) → b = d.canRxGood c →
    m = ⟨f.id, f.ide, f.rtr, f.fdf, f.brs, f.esi, f.dlc, f.data, if b.on dTIME then some (b.stampAt f.sofAgo 20) else none⟩ →
    x = (b.canCnt c 0).canCnt c 2 f.data.length → y = (if f.fdf then x.canCnt c 1 else x) →
    e = (if f.rtr then y.canCnt c 3 else y) → e.brgRuns = true → e.canWaiting c < 4 →
    exec (.canRxFrame c f) ⟨q, d⟩ = .next ⟨q, (e.setBrg (fun b => { b with inq := queueIn e.ck (.can c m) b.inq })).settle⟩)
  ∧ (∀ (q : List Instr) (d : Dev) (c : Nat), c < 2 → (d.can c).pastLimit = true → d.on dCAN = true → (d.ring (48 + 4 * c)).chains = [] →
    (d.ring (49 + 4 * c)).chains = [] → d.brg.outq.getD c [] = [] → d.rd (canKey c 8) ≠ 1 →
    exec (.canBusOff c) ⟨q, d⟩ = .next ⟨q, ((((d.setCan c (fun x => { x with pastLimit := false })).setCanState c 4).inc
      (canKey c 16)).canCnt c 15).settle⟩)
  ∧ (∀ (q : List Instr) (d0 d : Dev) (c : Nat) (tm : Timing), d = d0.hostStart → c < 2 → d.hostTakes (canKey c 14) 1 tm = true →
    exec (.canRecover c 1 tm) ⟨q, d0⟩ = .next ⟨q, ((d.setCanState c 5).answered []).settle⟩)
  ∧ (∀ (q : List Instr) (d : Dev) (c : Nat), c < 2 → d.on dCAN = true → d.canRun c = true → d.canState c = 5 →
    exec (.canBusOffRecovered c) ⟨q, d⟩ = .next ⟨q, (((d.setErr c 11 0).setErr c 12 0).setCanState c 2).settle⟩)
  ∧ (∀ (q : List Instr) (d : Dev) (c : Nat), c < 2 → d.on dCAN = true → d.canRun c = true → d.canState c = 1 →
    exec (.canIntegrationEnd c) ⟨q, d⟩ = .next ⟨q, (d.setCanState c 2).settle⟩)
  ∧ (∀ (q : List Instr) (d : Dev) (c k : Nat) (p8 : Bool), c < 2 → canErrOk (.mk k p8) = true → d.on dCAN = true →
    d.canState c = 2 ∨ d.canState c = 3 →
    exec (.canRxError c (.mk k p8)) ⟨q, d⟩ = .next ⟨q, (((d.noteErr c k).setErr c 12 (d.canRec c + if p8 then 8 else 1)).errState
      c).settle⟩)

/-- The bridge (14 R494-R511). A running bridge routes its oldest input; its start begins the periods, its stop drains the inputs; an
output message is sent at its period and when its gap ends; an old signal is stale and fires 73; a cached signal is read
through a slot that is READY at once; a fetch that hears nothing ends with 0602h and fires 74. That BRG_RUN 00h drains the inputs uncounted, and that a tacho reading enters
a stopped bridge, are the model's choices (log entry 54). -/
def Obligations.BridgeCommandsComplete : Prop :=
  (∀ (q : List Instr) (d e : Dev) (c at_ : Nat) (m : CanMsg) (t : List (Nat × BrgIn)), d.brgRuns = true → d.brg.inq = (at_, .can c m) :: t →
    e = ((d.advanceTo d.brg.ready).setBrg (fun b => { b with inq := t })).brgSpend 8 →
    exec .bridgeInput ⟨q, d⟩ = .next ⟨q, (e.route c m (fun e => e.canDefault c m)).settle⟩)
  ∧ (∀ (q : List Instr) (d0 d : Dev) (tm : Timing), d = d0.hostStart → d.hostTakes 0x540001 1 tm = true → d.rd 0x540001 = 0 →
    exec (.brgRun 1 tm) ⟨q, d0⟩ = .next ⟨q, (((d.wr 0x540001 1).setBrg (fun b =>
      { b with oms := b.oms.map (fun o => { o with period := d.ck }) })).answered []).settle⟩)
  ∧ (∀ (q : List Instr) (d0 d : Dev) (tm : Timing), d = d0.hostStart → d.hostTakes 0x540001 0 tm = true → d.rd 0x540001 = 1 →
    exec (.brgRun 0 tm) ⟨q, d0⟩ = .next ⟨q, (((d.wr 0x540001 0).brgDrain).answered []).settle⟩)
  ∧ (∀ (q : List Instr) (d e : Dev) (o per : Nat), o < 64 → d.brgRuns = true → leAt (d.outMsgs.getD o []) 8 2 = per → per ≠ 0 →
    e = d.advanceTo ((d.om o).period + per * 100000) →
    exec (.omPeriodExpiry o) ⟨q, d⟩ = .next ⟨q, ((e.setOm o (fun x =>
      { x with period := (d.om o).period + per * 100000 })).omSend o).settle⟩)
  ∧ (∀ (q : List Instr) (d e : Dev) (o t : Nat), o < 64 → d.brgRuns = true → (d.om o).deferred = true → (d.om o).last = some t →
    e = d.advanceTo (t + leAt (d.outMsgs.getD o []) 10 2 * 100000) →
    exec (.omGapExpiry o) ⟨q, d⟩ = .next ⟨q, (e.omNow o).settle⟩)
  ∧ (∀ (q : List Instr) (d e : Dev) (k : Nat) (s : SigC), k < 512 → d.sigC k = some s → octAt (d.signals.getD k []) 13 ≠ 0 →
    s.stale = false → d.on dBRG = true → e = d.advanceTo (s.since + 10 * octAt (d.signals.getD k []) 13 * 100000) →
    exec (.signalStale k) ⟨q, d⟩ = .next ⟨q, (((e.putSig { s with stale := true }).inc 0x581003).fire 73).settle⟩)
  ∧ (∀ (q : List Instr) (d0 d : Dev) (k s : Nat) (tm : Timing), d = d0.hostStart → k < 512 → d.linkTakes tm = true → d.freeSlot = some s →
    d.readAbort 0 (cacheIdx k) (cacheSub k) 0 0 = none →
    ∀ (e : Dev), e = d.retry s 0x11 0xFF (cacheIdx k) (cacheSub k) none → (leAt (e.signals.getD k []) 14 2).testBit 15 = false →
      exec (.brgCacheRead k tm) ⟨q, d0⟩ = .next ⟨q, (e.resolve 0 (cacheIdx k) (cacheSub k) (.ok (leOct 2 16 ++ leOct 16
        (e.cacheEntry k)))).settle⟩)
  ∧ (∀ (q : List Instr) (d e : Dev) (k : Nat) (f : Fetch), k < 512 → d.brg.fetches.find? (fun f => f.sig == k) = some f →
    e = d.advanceTo (f.since + d.rd 0x540006 * 100000) →
    exec (.fetchTimeout k) ⟨q, d⟩ = .next ⟨q, (((e.inc 0x581004).fire 74).fetchEnd k (.abort 0x0602 0x0601)).settle⟩)

/-! ### Towpath (15) -/

/-- Sessions (15 R522-R532, R535). A start claims its scratch barges and opens the sessions of enabled peers, a stop ends them; PEER_ENABLE
opens or ends one. A HELLO with the own epoch opens the session; the next DATA frame in order takes barges, a place in the
lane of its port and the next number; an ACK frees what it acknowledges. The timers send HELLO, ACK and keepalive, send again
(half way to the limit with source 79), or lose the session. Which command drops which frame, when the first HELLO goes and what a stop ends
are the model's choices (log entries 55, 57, 81). -/
def Obligations.SessionCommandsComplete : Prop :=
  (∀ (q : List Instr) (d0 d : Dev) (tm : Timing), d = d0.hostStart → d.hostTakes 0x600001 1 tm = true → d.rd 0x600001 = 0 → d.claimBlock d.scratchClaims = none →
    exec (.towStart tm) ⟨q, d0⟩ = .next ⟨q, ((((d.takeClaims d.scratchClaims).wr 0x600001 1).sessStart).answered []).settle⟩)
  ∧ (∀ (q : List Instr) (d0 d : Dev) (tm : Timing), d = d0.hostStart → d.hostTakes 0x600001 0 tm = true → d.rd 0x600001 = 1 →
    exec (.towStop tm) ⟨q, d0⟩ = .next ⟨q, (d.towStop.answered []).settle⟩)
  ∧ (∀ (q : List Instr) (d0 d : Dev) (n : Nat) (tm : Timing), d = d0.hostStart → n < 16 → d.hostTakes (peerKey n 1) 1 tm = true → d.rd (peerKey n 1) = 0 →
    d.rd 0x600001 = 1 →
    exec (.peerEnable n 1 tm) ⟨q, d0⟩ = .next ⟨q, (((d.wr (peerKey n 1) 1).sessOpening n).answered []).settle⟩)
  ∧ (∀ (q : List Instr) (d0 d : Dev) (n : Nat) (tm : Timing), d = d0.hostStart → n < 16 → d.hostTakes (peerKey n 1) 0 tm = true → d.rd (peerKey n 1) = 1 →
    exec (.peerEnable n 0 tm) ⟨q, d0⟩ = .next ⟨q, (((d.wr (peerKey n 1) 0).sessEnd n).answered []).settle⟩)
  ∧ (∀ (q : List Instr) (d e : Dev) (n : Nat), n < 16 → d.towOn = true → d.peerState n = 1 →
    e = d.advanceTo ((d.sess n).helloAt + d.rd 0x60000B * 100000) →
    exec (.helloTimer n) ⟨q, d⟩ = .next ⟨q, ((e.setSess n (fun s => { s with helloAt := e.ck })).sendHello n).settle⟩)
  ∧ (∀ (q : List Instr) (d : Dev) (p n : Nat) (l : Oct) (t : List (Nat × Oct)), d.tow.inbox = (p, l) :: t → d.towOn = true → d.towKind l = 3 →
    d.peerOfNode (octAt l (towAt l + 2)) = some n → d.peerState n = 1 → leAt l (towAt l + 8) 2 = d.ownEpoch n →
    exec .helloRx ⟨q, d⟩ = .next ⟨q, ((((((((d.setTow (fun x => { x with inbox := t })).heard n).wr (peerKey n 7) (d.ownEpoch n + 65536 * leAt l
      (towAt l + 6) 2)).setSeqs n 0 0).setPeer n 2).setSess n (fun s => { s with lastRx := d.ck, run := 0, ackDue := none })).sendHello
        n).towPump n 8).settle⟩)
  ∧ (∀ (q : List Instr) (d c e d' : Dev) (p n : Nat) (l b : Oct) (t : List (Nat × Oct)) (bs : List Nat), d.tow.inbox = (p, l) :: t →
    d.towOn = true → d.towKind l = 1 → d.peerOfNode (octAt l (towAt l + 2)) = some n → c = (d.setTow (fun x => { x with inbox := t })).heard n →
    c.peerState n = 2 → c.epochsOk n l = true → e = c.ackTaken n (leAt l (towAt l + 12) 2) →
    b = sub l (towAt l + 16) (leAt l (towAt l + 14) 2) → sub16 (leAt l (towAt l + 10) 2) (e.nextExp n) = 0 →
    e.on dPM0 = true → (e.lane p).ops.length < 8 → e.towAlloc n (b.drop 16).length = (some bs, d') →
    exec .towDataRx ⟨q, d⟩ = .next ⟨q, (let f := (d'.fillBarges bs (b.drop 16)).scratchWrite p (sub l (towAt l) 32)
      let f := f.setLane p (fun x =>
        { x with ops := x.ops ++ [⟨n, f.ownEpoch n, b.take 16, b.drop 16, bs, (f.win (opWin b)).closing, false, none⟩] })
      let f := f.setSeqs n (f.nextSend n) (f.nextExp n + 1)
      f.setSess n (fun s => { s with ackDue := some (s.ackDue.getD f.ck) })).settle⟩)
  ∧ (∀ (q : List Instr) (d : Dev) (p n : Nat) (l : Oct) (t : List (Nat × Oct)), d.tow.inbox = (p, l) :: t → d.towOn = true → d.towKind l = 2 →
    d.peerOfNode (octAt l (towAt l + 2)) = some n →
    ∀ (e : Dev), e = (d.setTow (fun x => { x with inbox := t })).heard n → e.peerState n = 2 → e.epochsOk n l = true →
      exec .towAckRx ⟨q, d⟩ = .next ⟨q, (e.ackTaken n (leAt l (towAt l + 12) 2)).settle⟩)
  ∧ (∀ (q : List Instr) (d e : Dev) (n t : Nat), n < 16 → (d.sess n).ackDue = some t → d.towOn = true → d.peerState n = 2 →
    e = d.advanceTo (t + d.rd 0x60000C * 100) →
    exec (.towAckDelay n) ⟨q, d⟩ = .next ⟨q, (e.sendAck n).settle⟩)
  ∧ (∀ (q : List Instr) (d b : Dev) (n r : Nat) (f : TowFrame) (fs : List TowFrame), n < 16 → (d.sess n).unacked = f :: fs → d.towOn = true →
    d.peerState n = 2 → b = (d.advanceTo (f.sentAt + d.rd 0x600008 * 100)).towStat 1 → r = (b.sess n).run + 1 →
    exec (.towRetransmitTimeout n) ⟨q, d⟩ = .next ⟨q, (let e := b.setSess n (fun s => { s with run := r })
      let e := if r = (e.rd 0x600009 + 1) / 2 then e.fire 79 else e
      if e.rd 0x600009 ≤ r then e.sessLost n 2
      else
        let g := forEach (e.sess n).unacked e (fun f e => e.resend n f)
        g.setSess n (fun s => { s with unacked := s.unacked.map (fun f => { f with sentAt := g.ck }) })).settle⟩)
  ∧ (∀ (q : List Instr) (d e : Dev) (n : Nat), n < 16 → d.towOn = true → d.peerState n = 2 →
    e = d.advanceTo ((d.sess n).lastRx + d.rd 0x60000A * 100000) →
    exec (.towDeadTimeout n) ⟨q, d⟩ = .next ⟨q, ((((e.inc (peerKey n 10)).fault 0x0E dTOW 0x0601 n 3).sessDrop n).sessOpening n).settle⟩)
  ∧ (∀ (q : List Instr) (d e : Dev) (n : Nat), n < 16 → d.towOn = true → d.peerState n = 2 →
    e = d.advanceTo ((d.sess n).lastTx + d.rd 0x60000A * 100000 / 4) →
    exec (.towKeepalive n) ⟨q, d⟩ = .next ⟨q, (e.sendAck n).settle⟩)

/-- Operations at the head of a lane that pass the checks of 15 Table 15.4 and whose window barges and data are sound (09 R311, R312;
15 R533, R537, R542-R545, R551, R554, R557): a read answers the octets, a write stores its barges' octets, a reserving write takes a
free reservation first and is refused while another holds it, a PLANT atomic stores its new value and answers the old one, one of
another scope notes it in its read slot and stores and answers in its write slot; there a word that was written in between makes both
values undefined, free values (R545; log entry 6). The barges of a HOST window pass to the peer before and back to the host after, once
per operation (R540; that an atomic keeps them between its slots is the model's choice, log entry 81). A frame goes to its RX ring, a dictionary
operation runs with the peer's rights, a response ends its slot. -/
def Obligations.LaneCommandsComplete : Prop :=
  (∀ (q : List Instr) (d e b : Dev) (i : Nat) (x : LaneOp) (t : List LaneOp) (ss : List Strike) (v : Oct), i < 5 → strikesOk ss = true →
    d.on dTOW = true → d.towMac = true → (d.lane i).ops = x :: t → e = d.awaitLocks (d.opBarges x) → e.opCheck x = none →
    e.opPoison x = false → (e.winHand x (opOwner x)).readMem (e.opAddr x) (opLen x.op) ss = (v, [], b) →
    (opCode x.op = 1 → exec (.opRead i ss) ⟨q, d⟩ = .next ⟨q, (((b.winHand x .host).respond x 0 v false).laneDone i).settle⟩)
    ∧ (opCode x.op = 2 → exec (.opReadAcquire i ss) ⟨q, d⟩ = .next ⟨q, (((b.winHand x .host).respond x 0 v false).laneDone i).settle⟩))
  ∧ (∀ (q : List Instr) (d e f b : Dev) (i : Nat) (x : LaneOp) (t : List LaneOp) (ss : List Strike) (v : Oct), i < 5 → strikesOk ss = true →
    d.on dTOW = true → d.towMac = true → (d.lane i).ops = x :: t → e = d.awaitLocks (d.opBarges x) → e.opCheck x = none →
    (e.strike ss).laneData x = (v, false, f) → (f.winHand x (opOwner x)).eccScan (partWords (e.opAddr x) (opLen x.op)) [] = ([], b) →
    opCode x.op = 3 →
    exec (.opWrite i ss) ⟨q, d⟩ = .next ⟨q,
      (let b := (b.writeMem (e.opAddr x) (v.take (opLen x.op))).winHand x .host
       let b := if opRelease x.op && b.rsv (opWin x.op) = (if x.peer = 0xFF then 0xFE else x.peer) then b.rsvFree (opWin x.op) else b
       (b.respond x 0 [] false).laneDone i).settle⟩)
  ∧ (∀ (q : List Instr) (d e f b : Dev) (i : Nat) (x : LaneOp) (t : List LaneOp) (ss : List Strike) (v : Oct), i < 5 → strikesOk ss = true →
    d.on dTOW = true → d.towMac = true → (d.lane i).ops = x :: t → e = d.awaitLocks (d.opBarges x) → e.opCheck x = none →
    opCode x.op = 4 →
    (e.rsv (opWin x.op) = 0xFF ∨ e.rsv (opWin x.op) = x.peer → (e.strike ss).laneData x = (v, false, f) →
      (f.winHand x (opOwner x)).eccScan (partWords (e.opAddr x) (opLen x.op)) [] = ([], b) →
      exec (.opWriteReserve i ss) ⟨q, d⟩ = .next ⟨q,
        (let b := ((b.rsvTake (opWin x.op) x.peer x.peer).writeMem (e.opAddr x) (v.take (opLen x.op))).winHand x .host
         let b := if opRelease x.op && b.rsv (opWin x.op) = (if x.peer = 0xFF then 0xFE else x.peer) then b.rsvFree (opWin x.op) else b
         (b.respond x 0 [] false).laneDone i).settle⟩)
    ∧ (e.rsv (opWin x.op) < 16 → e.rsv (opWin x.op) ≠ x.peer →
      exec (.opWriteReserve i ss) ⟨q, d⟩ = .next ⟨q, (((((e.inc (winKey (opWin x.op) 8)).towStat 5).fire 78).respond x 0x0203 []
        false).laneDone i).settle⟩))
  ∧ (∀ (q : List Instr) (d e f b : Dev) (i : Nat) (x : LaneOp) (t : List LaneOp) (ss : List Strike) (v o : Oct), i < 5 → strikesOk ss = true →
    d.on dTOW = true → d.towMac = true → (d.lane i).ops = x :: t → e = d.awaitLocks (d.opBarges x) → e.opCheck x = none →
    e.opPoison x = false → x.old = none → (e.strike ss).laneData x = (v, false, f) →
    (f.winHand x (opOwner x)).readMem (e.opAddr x) 8 [] = (o, [], b) → opScope x.op = 2 →
    (opCode x.op = 5 → exec (.opFetchAdd i ss) ⟨q, d⟩ = .next ⟨q, ((((b.writeMem (e.opAddr x) (leOct 8 ((leNat o + leAt v 0 8)
        % 2 ^ 64))).winHand x .host).respond x 0 (leOct 8 (leNat o)) false).laneDone i).settle⟩)
    ∧ (opCode x.op = 6 → exec (.opSwap i ss) ⟨q, d⟩ = .next ⟨q, ((((b.writeMem (e.opAddr x) (leOct 8 (leAt v 0 8))).winHand x
        .host).respond x 0 (leOct 8 (leNat o)) false).laneDone i).settle⟩)
    ∧ (opCode x.op = 7 → leNat o = leAt v 0 8 → exec (.opCas i ss) ⟨q, d⟩ = .next ⟨q, ((((b.writeMem (e.opAddr x) (leOct 8 (leAt
        v 8 8))).winHand x .host).respond x 0 (leOct 8 (leNat o)) false).laneDone i).settle⟩)
    ∧ (opCode x.op = 7 → leNat o ≠ leAt v 0 8 → exec (.opCas i ss) ⟨q, d⟩ = .next ⟨q, (((b.winHand x .host).respond x 0 (leOct 8
        (leNat o)) false).laneDone i).settle⟩))
  ∧ (∀ (q : List Instr) (d e f b : Dev) (i : Nat) (x : LaneOp) (t : List LaneOp) (ss : List Strike) (v o : Oct), i < 5 → strikesOk ss = true →
    d.on dTOW = true → d.towMac = true → (d.lane i).ops = x :: t → e = d.awaitLocks (d.opBarges x) → e.opCheck x = none →
    e.opPoison x = false → x.old = none → (e.strike ss).laneData x = (v, false, f) →
    (f.winHand x (opOwner x)).readMem (e.opAddr x) 8 [] = (o, [], b) → opScope x.op ≠ 2 →
    (opCode x.op = 5 → exec (.opFetchAdd i ss) ⟨q, d⟩ = .next ⟨q, (b.setLane i (fun l =>
      { l with ops := updAt l.ops 0 (fun y => { y with old := some (leNat o) }) })).settle⟩)
    ∧ (opCode x.op = 6 → exec (.opSwap i ss) ⟨q, d⟩ = .next ⟨q, (b.setLane i (fun l =>
      { l with ops := updAt l.ops 0 (fun y => { y with old := some (leNat o) }) })).settle⟩)
    ∧ (opCode x.op = 7 → exec (.opCas i ss) ⟨q, d⟩ = .next ⟨q, (b.setLane i (fun l =>
      { l with ops := updAt l.ops 0 (fun y => { y with old := some (leNat o) }) })).settle⟩))
  ∧ (∀ (q : List Instr) (d e f b : Dev) (i o : Nat) (x : LaneOp) (t : List LaneOp) (ss : List Strike) (v w : Oct), i < 5 →
    strikesOk ss = true → d.on dTOW = true → d.towMac = true → (d.lane i).ops = x :: t → e = d.awaitLocks (d.opBarges x) →
    x.old = some o → e.opBanks (e.opAddr x) 8 = none → (e.strike ss).laneData x = (v, false, f) →
    f.readMem (e.opAddr x) 8 [] = (w, [], b) → leNat w = o →
    (opCode x.op = 5 → exec (.opFetchAdd i ss) ⟨q, d⟩ = .next ⟨q, ((((b.writeMem (e.opAddr x) (leOct 8 ((o + leAt v 0 8)
        % 2 ^ 64))).winHand x .host).respond x 0 (leOct 8 o) false).laneDone i).settle⟩)
    ∧ (opCode x.op = 6 → exec (.opSwap i ss) ⟨q, d⟩ = .next ⟨q, ((((b.writeMem (e.opAddr x) (leOct 8 (leAt v 0 8))).winHand x
        .host).respond x 0 (leOct 8 o) false).laneDone i).settle⟩)
    ∧ (opCode x.op = 7 → o = leAt v 0 8 → exec (.opCas i ss) ⟨q, d⟩ = .next ⟨q, ((((b.writeMem (e.opAddr x) (leOct 8 (leAt
        v 8 8))).winHand x .host).respond x 0 (leOct 8 o) false).laneDone i).settle⟩)
    ∧ (opCode x.op = 7 → o ≠ leAt v 0 8 → exec (.opCas i ss) ⟨q, d⟩ = .next ⟨q, (((b.winHand x .host).respond x 0 (leOct 8
        o) false).laneDone i).settle⟩))
  ∧ (∀ (q : List Instr) (d e f b : Dev) (i o : Nat) (x : LaneOp) (t : List LaneOp) (ss : List Strike) (v w : Oct), i < 5 →
    strikesOk ss = true → d.on dTOW = true → d.towMac = true → (d.lane i).ops = x :: t → e = d.awaitLocks (d.opBarges x) →
    x.old = some o → e.opBanks (e.opAddr x) 8 = none → (e.strike ss).laneData x = (v, false, f) →
    f.readMem (e.opAddr x) 8 [] = (w, [], b) → leNat w ≠ o →
    ∀ (r : Dev), r = ((((b.free.2.free.2.writeMem (e.opAddr x) (leOct 8 (b.free.1 % 2 ^ 64))).winHand x .host).respond x 0
        (leOct 8 (b.free.2.free.1 % 2 ^ 64)) false).laneDone i).settle →
      (opCode x.op = 5 → exec (.opFetchAdd i ss) ⟨q, d⟩ = .next ⟨q, r⟩)
      ∧ (opCode x.op = 6 → exec (.opSwap i ss) ⟨q, d⟩ = .next ⟨q, r⟩)
      ∧ (opCode x.op = 7 → exec (.opCas i ss) ⟨q, d⟩ = .next ⟨q, r⟩))
  ∧ (∀ (q : List Instr) (d e : Dev) (i : Nat) (x : LaneOp) (t : List LaneOp), i < 5 → d.towMac = true → (d.lane i).ops = x :: t →
    opCode x.op = 8 → x.lost = false → d.allOn [dTOW, dCORE, dPM0] = true →
    e = (d.deliverRx (rxRing (d.rd 0x600012)) (rxDesc i x.data.length 0 0 0 0 (tagCount x.data) false none x.barges) x.barges
      x.data.length).2.awaitLocks x.barges →
    exec (.opFrame i) ⟨q, d⟩ = .next ⟨q, (((e.setLane i (fun l =>
      { l with ops := updAt l.ops 0 (fun y => { y with barges := [] }) })).respond x 0 [] false).laneDone i).settle⟩)
  ∧ (∀ (q : List Instr) (d e e' : Dev) (i : Nat) (x : LaneOp) (t : List LaneOp) (body : Oct), i < 5 → d.on dTOW = true → d.towMac = true →
    (d.lane i).ops = x :: t → e = d.nextCk → e.domAbort dCORE = none → e.link.ready = true →
    e.tow.dicts.any (fun y => y.peer == x.peer) = false → opCode x.op = 9 → e.dictRight x.peer (leAt x.op 10 2) false = true →
    e.dictRead (peerIni x.peer) (leAt x.op 10 2) (octAt x.op 12) (opOffset x.op) (opLen x.op) = .ok body e' →
    exec (.opDictRead i) ⟨q, d⟩ = .next ⟨q, (((e'.settleTxn (peerIni x.peer) 0x61 (leAt x.op 10 2) (octAt x.op 12) none).dictAnswer
      x.peer x.epoch x.op (.ok body)).laneDone i).settle⟩)
  ∧ (∀ (q : List Instr) (d e e' f : Dev) (i : Nat) (x : LaneOp) (t : List LaneOp) (body v : Oct), i < 5 → d.on dTOW = true → d.towMac = true →
    (d.lane i).ops = x :: t → e = d.nextCk → e.domAbort dCORE = none → e.link.ready = true →
    e.tow.dicts.any (fun y => y.peer == x.peer) = false → opCode x.op = 10 → e.laneData x = (v, false, f) → e.dictRight x.peer (leAt x.op 10 2) true = true →
    f.dictWrite (peerIni x.peer) (leAt x.op 10 2) (octAt x.op 12) (octAt x.op 13) (opOffset x.op) (v.take (opLen x.op)) = .ok body e' →
    exec (.opDictWrite i) ⟨q, d⟩ = .next ⟨q, (((e'.settleTxn (peerIni x.peer) 0x62 (leAt x.op 10 2) (octAt x.op 12) none).dictAnswer
      x.peer x.epoch x.op (.ok body)).laneDone i).settle⟩)
  ∧ (∀ (q : List Instr) (d e f : Dev) (i : Nat) (x : LaneOp) (t : List LaneOp) (y : OpSlot) (v : Oct), i < 5 → d.on dTOW = true → d.towMac = true →
    (d.lane i).ops = x :: t → opCode x.op = 0x83 → x.peer < 16 → opTag x.op < 16 → opCode y.op = 3 →
    d.laneData x = (v, false, f) → e = f.laneDone i → e.opSlot (opTag x.op) = some y → e.osState (opTag x.op) = 1 →
    e.rd (opSlotKey (opTag x.op)) / 65536 % 256 = x.peer →
    exec (.opResponse i) ⟨q, d⟩ = .next ⟨q, (e.slotDone (opTag x.op) (opStatus x.op) (v.take (opLen x.op)).length 0).settle⟩)

/-- TOW_ISSUE towards a peer whose session is OPEN, or to the own node (FFh), while Towpath can run it (15 R546-R551). The slot is PENDING; a
barge that moves has passed to its owner; a write's octets are read from it; the lines a write or an atomic touches leave the cache;
a reserving write takes the local reservation; the operation goes to the peer, or to the LOCAL lane. With the cache enabled a READ
whose lines it all holds is answered from it at once, another reads whole lines (R549). While TOW, PM0 or the MAC is not ON the slot is
PENDING and the operation waits, its attempt a fault entry (01 R16, R17); that it waits is the model's choice (log entry 78). -/
def Obligations.IssueCommandsComplete : Prop :=
  (∀ (q : List Instr) (d0 d e b : Dev) (f : IssueFields) (tm : Timing) (code : Nat) (op : Oct), d = d0.hostStart → f.ok = true → f.peer < 16 →
    d.peerOpen f.peer = true → d.hostTakes 0x606001 (leNat (issueOctets code f)) tm = true → d.towReady = true → d.tow.todo = [] →
    e = d.wr (opSlotKey f.slot) (1 + 256 * code + 65536 * f.peer) → e.rd 0x60000D ≠ 1 →
    b = (e.requestLock f.barge (.tow f.peer) 256).awaitLocks [f.barge] → b.rd 0x60000D ≠ 1 →
    op = opRecord code f.slot (f.win % 8 + 16 * f.scope + 64 * b2n f.release) f.off f.len 0 0 0 →
    (code = 1 → exec (.issueRead f tm) ⟨q, d0⟩ = .next ⟨q, (((b.setOpSlot f.slot
      (some ⟨op, [], some f.barge, f.len, false, none, 1, none, f.off⟩)).launch f.peer op []).answered []).settle⟩)
    ∧ (code = 2 → exec (.issueReadAcquire f tm) ⟨q, d0⟩ = .next ⟨q, ((((b.cacheDrop (fun c => c.peer == f.peer)).setOpSlot f.slot
      (some ⟨op, [], some f.barge, f.len, false, none, 1, none, f.off⟩)).launch f.peer op []).answered []).settle⟩))
  ∧ (∀ (q : List Instr) (d0 d e : Dev) (f : IssueFields) (tm : Timing) (data : Oct), d = d0.hostStart → f.ok = true → f.peer < 16 →
    d.peerOpen f.peer = true → d.hostTakes 0x606001 (leNat (issueOctets 1 f)) tm = true → d.towReady = true → d.tow.todo = [] →
    e = d.wr (opSlotKey f.slot) (1 + 256 + 65536 * f.peer) → e.cacheHit (issueOctets 1 f) = some data →
    exec (.issueRead f tm) ⟨q, d0⟩ = .next ⟨q, ((((((((e.towStat 9).requestLock f.barge (.tow f.peer) 256).awaitLocks [f.barge]).writeMem
      (256 * f.barge) data).setOpSlot f.slot (some ⟨[], [], some f.barge, f.len, false, none, 1, none, f.off⟩)).slotDone f.slot 0 f.len
        0).answered [])).settle⟩)
  ∧ (∀ (q : List Instr) (d0 d e b : Dev) (f : IssueFields) (tm : Timing) (o : Nat) (op : Oct), d = d0.hostStart → f.ok = true → f.peer < 16 →
    d.peerOpen f.peer = true → d.hostTakes 0x606001 (leNat (issueOctets 1 f)) tm = true → d.towReady = true → d.tow.todo = [] →
    e = d.wr (opSlotKey f.slot) (1 + 256 + 65536 * f.peer) → e.cacheHit (issueOctets 1 f) = none →
    b = (e.requestLock f.barge (.tow f.peer) 256).awaitLocks [f.barge] → b.rd 0x60000D = 1 → o = f.off / 64 * 64 →
    op = opRecord 1 f.slot (f.win % 8 + 16 * f.scope + 64 * b2n f.release) o ((f.off + f.len + 63) / 64 * 64 - o) 0 0 0 →
    exec (.issueRead f tm) ⟨q, d0⟩ = .next ⟨q, (((b.setOpSlot f.slot
      (some ⟨op, [], some f.barge, f.len, false, none, 1, none, f.off⟩)).launch f.peer op []).answered []).settle⟩)
  ∧ (∀ (q : List Instr) (d0 d y e b : Dev) (f : IssueFields) (tm : Timing) (code : Nat) (op data : Oct) (bad : List Nat), d = d0.hostStart →
    f.ok = true → f.peer < 16 → d.peerOpen f.peer = true → d.hostTakes 0x606001 (leNat (issueOctets code f)) tm = true →
    d.towReady = true → d.tow.todo = [] →
    y = d.wr (opSlotKey f.slot) (1 + 256 * code + 65536 * f.peer) →
    e = (if code = 4 then y.rsvTake (f.rsvWin % 8) 0xFE f.peer else y) →
    ((e.requestLock f.barge (.tow f.peer) 256).awaitLocks [f.barge]).readMem (256 * f.barge) f.len [] = (data, bad, b) →
    (b.barge f.barge).poison = false → op = opRecord code f.slot (f.win % 8 + 16 * f.scope + 64 * b2n f.release) f.off f.len 0 0 0 →
    (code = 3 → exec (.issueWrite f tm) ⟨q, d0⟩ = .next ⟨q, ((((b.cacheTouch f.peer (f.win % 8) f.off f.len).setOpSlot f.slot
      (some ⟨op, data, some f.barge, 256, f.freeAfter, none, 1, none, f.off⟩)).launch f.peer op data).answered []).settle⟩)
    ∧ (code = 4 → exec (.issueWriteReserve f tm) ⟨q, d0⟩ = .next ⟨q, ((((b.cacheTouch f.peer (f.win % 8) f.off f.len).setOpSlot f.slot
      (some ⟨op, data, some f.barge, 256, f.freeAfter, some (f.rsvWin % 8), 1, none, f.off⟩)).launch f.peer op data).answered
        []).settle⟩))
  ∧ (∀ (q : List Instr) (d0 d e : Dev) (f : IssueFields) (tm : Timing) (code : Nat) (op : Oct), d = d0.hostStart → f.ok = true → f.peer < 16 →
    d.peerOpen f.peer = true → d.hostTakes 0x606001 (leNat (issueOctets code f)) tm = true → d.towReady = true → d.tow.todo = [] →
    e = (d.wr (opSlotKey f.slot) (1 + 256 * code + 65536 * f.peer)).cacheTouch f.peer (f.win % 8) f.off 8 →
    op = opRecord code f.slot (f.win % 8 + 16 * f.scope + 64 * b2n f.release) f.off (if code = 7 then 16 else 8) 0 0 0 →
    (code = 5 → exec (.issueFetchAdd f tm) ⟨q, d0⟩ = .next ⟨q, (((e.setOpSlot f.slot (some ⟨op, leOct 8 f.opA, none, 256, false, none, 1,
      none, f.off⟩)).launch f.peer op (leOct 8 f.opA)).answered []).settle⟩)
    ∧ (code = 6 → exec (.issueSwap f tm) ⟨q, d0⟩ = .next ⟨q, (((e.setOpSlot f.slot (some ⟨op, leOct 8 f.opA, none, 256, false, none, 1,
      none, f.off⟩)).launch f.peer op (leOct 8 f.opA)).answered []).settle⟩)
    ∧ (code = 7 → exec (.issueCas f tm) ⟨q, d0⟩ = .next ⟨q, (((e.setOpSlot f.slot (some ⟨op, leOct 8 f.opA ++ leOct 8 f.opB, none, 256,
      false, none, 1, none, f.off⟩)).launch f.peer op (leOct 8 f.opA ++ leOct 8 f.opB)).answered []).settle⟩))
  ∧ (∀ (q : List Instr) (d0 d e b : Dev) (f : IssueFields) (tm : Timing) (op : Oct), d = d0.hostStart → f.ok = true → f.peer = 0xFF →
    d.hostTakes 0x606001 (leNat (issueOctets 1 f)) tm = true → d.towReady = true → d.tow.todo = [] →
    e = d.wr (opSlotKey f.slot) (1 + 256 + 65536 * 0xFF) →
    b = (e.requestLock f.barge (e.issueOwner (issueOctets 1 f)) 256).awaitLocks [f.barge] →
    op = opRecord 1 f.slot (f.win % 8 + 16 * f.scope + 64 * b2n f.release) f.off f.len 0 0 0 →
    exec (.issueRead f tm) ⟨q, d0⟩ = .next ⟨q, (((b.setOpSlot f.slot
      (some ⟨op, [], some f.barge, f.len, false, none, 1, none, f.off⟩)).setLane 4 (fun l =>
        { l with ops := l.ops ++ [⟨0xFF, 0, op, [], [], (b.win (opWin op)).closing, false, none⟩] })).answered []).settle⟩)
  ∧ (∀ (q : List Instr) (d0 d e b : Dev) (f : IssueFields) (tm : Timing) (op data : Oct) (bad : List Nat), d = d0.hostStart → f.ok = true →
    f.peer = 0xFF → d.hostTakes 0x606001 (leNat (issueOctets 3 f)) tm = true → d.towReady = true → d.tow.todo = [] →
    e = d.wr (opSlotKey f.slot) (1 + 256 * 3 + 65536 * 0xFF) →
    ((e.requestLock f.barge (e.issueOwner (issueOctets 3 f)) 256).awaitLocks [f.barge]).readMem (256 * f.barge) f.len [] = (data, bad, b) →
    (b.barge f.barge).poison = false →
    op = opRecord 3 f.slot (f.win % 8 + 16 * f.scope + 64 * b2n f.release) f.off f.len 0 0 0 →
    exec (.issueWrite f tm) ⟨q, d0⟩ = .next ⟨q, ((((b.cacheTouch 0xFF (f.win % 8) f.off f.len).setOpSlot f.slot
      (some ⟨op, data, some f.barge, 256, f.freeAfter, none, 1, none, f.off⟩)).setLane 4 (fun l =>
        { l with ops := l.ops ++ [⟨0xFF, 0, op, data, [], (b.win (opWin op)).closing, false, none⟩] })).answered []).settle⟩)
  ∧ (∀ (q : List Instr) (d0 d y e : Dev) (f : IssueFields) (tm : Timing) (code : Nat), d = d0.hostStart → f.ok = true → f.peer < 16 →
    d.peerOpen f.peer = true → d.hostTakes 0x606001 (leNat (issueOctets code f)) tm = true → d.towReady = false →
    y = d.towMacOff.wr (opSlotKey f.slot) (1 + 256 * code + 65536 * f.peer) →
    e = ((if code = 4 then y.rsvTake (f.rsvWin % 8) 0xFE f.peer else y).setTow (fun x =>
           { x with todo := x.todo ++ [leOct 32 (leNat (issueOctets code f))] })) →
    (code = 1 → exec (.issueRead f tm) ⟨q, d0⟩ = .next ⟨q, (e.answered []).settle⟩)
    ∧ (code = 3 → exec (.issueWrite f tm) ⟨q, d0⟩ = .next ⟨q, (e.answered []).settle⟩)
    ∧ (code = 4 → exec (.issueWriteReserve f tm) ⟨q, d0⟩ = .next ⟨q, (e.answered []).settle⟩)
    ∧ (code = 5 → exec (.issueFetchAdd f tm) ⟨q, d0⟩ = .next ⟨q, (e.answered []).settle⟩))

/-- Slots, reservations, windows and forwarding (15 R539, R540, R548, R551-R553, R558, R561). DONE slots are released; a refused
reserving write is sent again after its back-off; a local reservation is released, one held too long too; a window opens,
its barges going to its rest owner, and closes at once or when its lane operations are done; a frame for another node is
forwarded. That a window open to the host heeds its host rights for other owners only, and how waiting frames that fail are counted, are
the model's choices (log entries 58, 59). -/
def Obligations.WindowCommandsComplete : Prop :=
  (∀ (q : List Instr) (d0 d : Dev) (v : Nat) (tm : Timing), d = d0.hostStart → v < 2 ^ 16 → d.hostTakes 0x606004 v tm = true →
    exec (.towSlotRelease v tm) ⟨q, d0⟩ = .next ⟨q, ((forEach (List.range 16) d (fun s e =>
      if v.testBit s && e.osState s = 2 then e.wr (opSlotKey s) 0 else e)).answered []).settle⟩)
  ∧ (∀ (q : List Instr) (d e : Dev) (n tag : Nat) (y : OpSlot) (t : Nat × Nat), n < 16 → tag < 16 → d.towOn = true → d.towReady = true →
    d.opSlot tag = some y → y.backoff = some t → d.rd (opSlotKey tag) / 65536 % 256 = n → e = d.advanceTo (t.1 + t.2) →
    exec (.reservationBackoffExpiry n tag) ⟨q, d⟩ = .next ⟨q, ((e.setOpSlot tag (some { y with backoff := none, tries := y.tries + 1 })).launch n
      y.op y.data).settle⟩)
  ∧ (∀ (q : List Instr) (d0 d : Dev) (w : Nat) (tm : Timing), d = d0.hostStart → w < 8 → d.hostTakes 0x606005 w tm = true → d.rsv w = 0xFE →
    exec (.towRsvRelease w tm) ⟨q, d0⟩ = .next ⟨q, (((d.wr (winKey w 7) 0xFF).setWin w (fun x => { x with rsvAt := none })).answered []).settle⟩)
  ∧ (∀ (q : List Instr) (d e : Dev) (w t : Nat), w < 8 → (d.win w).rsvAt = some t → d.on dTOW = true →
    e = d.advanceTo (t + d.rd 0x60000E * 100000) →
    exec (.rsvHoldExpiry w) ⟨q, d⟩ = .next ⟨q, ((e.wr (winKey w 7) 0xFF).setWin w (fun x => { x with rsvAt := none })).settle⟩)
  ∧ (∀ (q : List Instr) (d0 d : Dev) (w : Nat) (tm : Timing), d = d0.hostStart → w < 8 → d.hostTakes (winKey w 1) 1 tm = true → d.rd (winKey w 1) = 0 →
    d.rd (winKey w 4) = 1 →
    exec (.winEnable w tm) ⟨q, d0⟩ = .next ⟨q, ((d.wr (winKey w 1) 1).answered []).settle⟩)
  ∧ (∀ (q : List Instr) (d0 d : Dev) (w m : Nat) (tm : Timing), d = d0.hostStart → w < 8 → d.hostTakes (winKey w 1) 1 tm = true → d.rd (winKey w 1) = 0 → m < 16 →
    d.rd (winKey w 4) = 16 + m →
    exec (.winEnable w tm) ⟨q, d0⟩ = .next ⟨q, ((forEach (d.winBarges w) (d.wr (winKey w 1) 1) (fun b e =>
      e.requestLock b (.tow m) 256)).answered []).settle⟩)
  ∧ (∀ (q : List Instr) (d0 d : Dev) (w : Nat) (tm : Timing), d = d0.hostStart → w < d.tow.wins.length → w < 8 → d.hostTakes (winKey w 1) 0 tm = true →
    d.rd (winKey w 1) = 1 → d.winInLane w = false → d.rd (winKey w 4) = 1 →
    exec (.winDisable w tm) ⟨q, d0⟩ = .next ⟨q, (((((d.setWin w (fun x => { x with closing := true })).wr (winKey w 1) 0).rsvFree w).setWin w
      (fun x => { x with closing := false })).answered []).settle⟩)
  ∧ (∀ (q : List Instr) (d0 d : Dev) (w m : Nat) (tm : Timing), d = d0.hostStart → w < d.tow.wins.length → w < 8 → m < 16 →
    d.hostTakes (winKey w 1) 0 tm = true → d.rd (winKey w 1) = 1 → d.winInLane w = false → d.rd (winKey w 4) = 16 + m →
    exec (.winDisable w tm) ⟨q, d0⟩ = .next ⟨q, (((((forEach (d.winBarges w) (d.setWin w (fun x => { x with closing := true }))
      (fun b e => e.requestLock b .host 256)).wr (winKey w 1) 0).rsvFree w).setWin w (fun x => { x with closing := false })).answered
        []).settle⟩)
  ∧ (∀ (q : List Instr) (d0 d : Dev) (w : Nat) (tm : Timing), d = d0.hostStart → w < 8 → d.hostTakes (winKey w 1) 0 tm = true → d.rd (winKey w 1) = 1 →
    d.winInLane w = true →
    exec (.winDisable w tm) ⟨q, d0⟩ = .next ⟨q, ((d.setWin w (fun x => { x with closing := true })).answered []).settle⟩)
  ∧ (∀ (q : List Instr) (d d' : Dev) (p n : Nat) (l : Oct) (t : List (Nat × Oct)) (bs : List Nat), d.tow.inbox = (p, l) :: t →
    d.towOn = true → d.towKind l = 4 → d.peerOfNode (octAt l (towAt l + 3)) = some n → d.rd 0x600007 = 1 → (octAt l (towAt l + 4)).testBit 0 = false →
    d.rd (peerKey n 5) = 0xFF →
    ∀ (e : Dev) (f : Oct), e = d.setTow (fun x => { x with inbox := t }) →
      f = leOct 6 (d.rd (peerKey n 3)) ++ leOct 6 (d.rd 0x600006) ++ beOct 2 (d.rd 0x600003)
        ++ patch (sub l (towAt l) (16 + leAt l (towAt l + 14) 2)) 4 [1] →
      e.towAlloc n f.length = (some bs, d') →
      exec .towForwardFrame ⟨q, d⟩ = .next ⟨q, (let g := d'.fillBarges bs f
        (g.queueTow (g.rd (peerKey n 4)) f.length bs true 0xFF).towStat 6).settle⟩)

/-! ### The sluice (16) -/

/-- Writes of the sluice by the host (16 R568, R570, R573, R574). Enabling a DISABLED output takes it to SAFE at its safe level; disabling a
SAFE one makes it DISABLED; an arm, a stop and a heartbeat act on each output their state rules admit, as events of their ranks (R582). That
an enable and a disable leave SLU_CAUSE is the model's choice (log entry 65). -/
def Obligations.SluiceWritesComplete : Prop :=
  (∀ (q : List Instr) (d0 d e : Dev) (k : Nat) (tm : Timing), d = d0.hostStart → k < 4 → d.hostTakes (sluKey k 1) 1 tm = true →
    e = d.sluTurn (sluKey k 1) → e.sluState k = 0 →
    exec (.sluOutEnable k 1 tm) ⟨q, d0⟩ = .next ⟨q, (((((e.wr (sluKey k 1) 1).setLevel k (e.rd (sluKey k 5))).sluGo k 4 none).setSluOut k (fun x =>
      { x with safeLv := e.rd (sluKey k 5) })).answered
      []).settle⟩)
  ∧ (∀ (q : List Instr) (d0 d e : Dev) (k : Nat) (tm : Timing), d = d0.hostStart → k < 4 → d.hostTakes (sluKey k 1) 0 tm = true →
    e = d.sluTurn (sluKey k 1) → e.sluState k = 4 →
    exec (.sluOutEnable k 0 tm) ⟨q, d0⟩ = .next ⟨q, (((e.wr (sluKey k 1) 0).sluGo k 0 none).answered []).settle⟩)
  ∧ (∀ (q : List Instr) (d0 d : Dev) (v : Nat) (tm : Timing), d = d0.hostStart → v < 2 ^ 8 → d.hostTakes 0x680003 v tm = true →
    exec (.sluArm v tm) ⟨q, d0⟩ = .next ⟨q, ((forEach (List.range 4) (d.sluTurn 0x680003) (fun k e =>
      e.sluEvent k 4 (fun st => v.testBit k && 2 ≤ st && st ≤ 4) (fun e => e.sluGo k 1 (some 0)))).answered []).settle⟩)
  ∧ (∀ (q : List Instr) (d0 d : Dev) (v : Nat) (tm : Timing), d = d0.hostStart → v < 2 ^ 8 → d.hostTakes 0x680004 v tm = true →
    exec (.sluStop v tm) ⟨q, d0⟩ = .next ⟨q, ((forEach (List.range 4) (d.sluTurn 0x680004) (fun k e =>
      e.sluEvent k 5 (fun st => v.testBit k && (st == 1 || st == 2)) (fun e => e.sluCoast k 6))).answered []).settle⟩)
  ∧ (∀ (q : List Instr) (d0 d : Dev) (v : Nat) (tm : Timing), d = d0.hostStart → v < 2 ^ 8 → d.hostTakes 0x680002 v tm = true →
    exec (.sluHeartbeat v tm) ⟨q, d0⟩ = .next ⟨q, ((forEach (List.range 4) (d.sluTurn 0x680002) (fun k e =>
      e.sluEvent k 6 (fun st => st == 1 && !e.byBridge k) (fun e => e.setSluOut k (fun x => { x with hbAt := e.sluNow })))).answered []).settle⟩)
  ∧ (∀ (d : Dev) (k rank : Nat) (admits : Nat → Bool) (act : Dev → Dev), (d.sluOut k).ev.all (fun x => x.ckx != d.sluCkx) = true →
    (admits (d.sluState k) = false → d.sluEvent k rank admits act = d)
    ∧ (admits (d.sluState k) = true → d.sluEvent k rank admits act = (act d).setSluOut k (fun x => { x with
      ev := some ⟨d.sluCkx, rank, d.sluState k, d.rd (sluKey k 13), (d.sluOut k).since, (d.sluOut k).hbAt, (d.sluOut k).coast⟩ })))
  ∧ (∀ (d : Dev) (k rank : Nat) (admits : Nat → Bool) (act : Dev → Dev) (x : SluEv), (d.sluOut k).ev = some x → x.ckx = d.sluCkx →
    (x.rank < rank → d.sluEvent k rank admits act = d)
    ∧ (rank < x.rank → admits x.state = false → d.sluEvent k rank admits act = d)
    ∧ (rank < x.rank → admits x.state = true → d.sluEvent k rank admits act
      = (act (((d.wr (sluKey k 11) x.state).wr (sluKey k 13) x.cause).setSluOut k (fun y =>
          { y with since := x.since, hbAt := x.hbAt, coast := x.coast }))).setSluOut k (fun y =>
          { y with ev := some { x with rank := rank } })))

/-- What the sluice does by itself (16 R563, R565, R569, R570, R578, R580, R583-R585). A tick moves each level; a PWM period takes its
length and its on-time; a heartbeat that stops leads to HOLD, its end to the coast curve, the curve's end to SAFE. SAFE_n forces
the outputs that heed it and its release lets them go SAFE; a tacho edge is counted, a window without a stall limit gives
its speed, to the bridge too where BRG is ON; the window that makes the run long enough raises the alarm. An expiry ranks last: it acts
when no other event of its CKX has, and that CKX passes with it, the model's choice (log entry 65). -/
def Obligations.SluiceEventsComplete : Prop :=
  (∀ (q : List Instr) (d e : Dev), d.sluRuns = true → e = d.advanceTo (d.slu.tickAt + 100000 + d.slu.lost) →
    exec .sluTick ⟨q, d⟩ = .next ⟨q, (forEach (List.range 4) (e.setSlu (fun s => { s with tickAt := d.slu.tickAt + 100000 })) (fun k e =>
      (e.setLevel k (e.tickLevel k)).setSluOut k (fun x => { x with
        hbMs := e.rd 0x680001, holdMs := e.rd (sluKey k 7), safeLv := e.rd (sluKey k 5) }))).settle⟩)
  ∧ (∀ (q : List Instr) (d e : Dev) (k s p on : Nat), k < 4 → d.sluRuns = true → (d.sluOut k).per = some (s, p, on) →
    e = d.advanceTo (s + p * 4 + d.slu.lost) →
    exec (.pwmPeriodStart k) ⟨q, d⟩ = .next ⟨q, (e.setSluOut k (fun x =>
      { x with acc := ((d.sluOut k).acc + e.sluLevel k * e.rd (sluKey k 2)) % 65535,
               per := some (s + p * 4, e.rd (sluKey k 2), ((d.sluOut k).acc + e.sluLevel k * e.rd (sluKey k 2)) / 65535) })).settle⟩)
  ∧ (∀ (q : List Instr) (d e : Dev) (k : Nat), k < 4 → d.sluRuns = true → d.sluState k = 1 →
    e = d.advanceTo ((d.sluOut k).hbAt + (d.sluOut k).hbMs * 100000 + d.slu.lost) →
    (e.sluOut k).ev.all (fun x => x.ckx != e.sluCkx) = true →
    exec (.sluHbTimeout k) ⟨q, d⟩ = .next ⟨q, ((((e.inc 0x680008).sluGo k 2 (some 1)).setSluOut k (fun x =>
      { x with ev := some ⟨e.sluCkx, 8, 1, e.rd (sluKey k 13), (e.sluOut k).since, (e.sluOut k).hbAt, (e.sluOut k).coast⟩ })).tick 4).settle⟩)
  ∧ (∀ (q : List Instr) (d e : Dev) (k : Nat) (r : Oct), k < 4 → d.sluRuns = true → d.sluState k = 2 →
    e = d.advanceTo ((d.sluOut k).since + (d.sluOut k).holdMs * 100000 + d.slu.lost) → e.sluCurve k = some r →
    (e.sluOut k).ev.all (fun x => x.ckx != e.sluCkx) = true →
    exec (.sluHoldElapsed k) ⟨q, d⟩ = .next ⟨q, (((e.sluGo k 3 (some 5)).setSluOut k (fun x =>
      { x with coast := some (r, e.sluLevel k), ev := some ⟨e.sluCkx, 9, 2, e.rd (sluKey k 13), (e.sluOut k).since, (e.sluOut k).hbAt, (e.sluOut k).coast⟩ })).tick 4).settle⟩)
  ∧ (∀ (q : List Instr) (d e : Dev) (k : Nat), k < 4 → d.sluRuns = true → d.sluState k = 2 →
    e = d.advanceTo ((d.sluOut k).since + (d.sluOut k).holdMs * 100000 + d.slu.lost) → e.sluCurve k = none →
    (e.sluOut k).ev.all (fun x => x.ckx != e.sluCkx) = true →
    exec (.sluHoldElapsed k) ⟨q, d⟩ = .next ⟨q, (((e.sluGo k 4 (some 0x0B)).setSluOut k (fun x =>
      { x with ev := some ⟨e.sluCkx, 9, 2, e.rd (sluKey k 13), (e.sluOut k).since, (e.sluOut k).hbAt, (e.sluOut k).coast⟩ })).tick 4).settle⟩)
  ∧ (∀ (q : List Instr) (d e : Dev) (k l0 : Nat) (r : Oct), k < 4 → (d.sluOut k).coast = some (r, l0) → d.sluRuns = true → d.sluState k = 3 →
    e = d.advanceTo ((d.sluOut k).since + coastEnd r * 100000 + d.slu.lost) →
    (e.sluOut k).ev.all (fun x => x.ckx != e.sluCkx) = true →
    exec (.sluCoastEnd k) ⟨q, d⟩ = .next ⟨q, (((e.sluGo k 4 (some 7)).setSluOut k (fun x =>
      { x with ev := some ⟨e.sluCkx, 9, 3, e.rd (sluKey k 13), (e.sluOut k).since, (e.sluOut k).hbAt, (e.sluOut k).coast⟩ })).tick 4).settle⟩)
  ∧ (∀ (q : List Instr) (d : Dev) (us : Nat), d.sluRuns = true → d.slu.safeN = false → d.rd 0x680005 ≤ us →
    exec (.safeNAssert us) ⟨q, d⟩ = .next ⟨q, (forEach (List.range 4) ((d.setSlu (fun s => { s with safeN := true })).fire 82) (fun k e =>
      e.sluEvent k 1 (fun st => e.sluFlag k 4 && 1 ≤ st && st ≤ 4) (fun e => e.sluGo k 5 (some 9)))).settle⟩)
  ∧ (∀ (q : List Instr) (d : Dev) (us : Nat), d.sluRuns = true → d.slu.safeN = true → d.rd 0x680005 ≤ us →
    exec (.safeNRelease us) ⟨q, d⟩ = .next ⟨q, (forEach (List.range 4) ((d.setSlu (fun s => { s with safeN := false })).fire 82) (fun k e =>
      e.sluEvent k 1 (fun st => st == 5) (fun e => e.sluGo k 4 (some 10)))).settle⟩)
  ∧ (∀ (q : List Instr) (d : Dev) (us : Nat), us < d.rd 0x680005 →
    exec (.safeNAssert us) ⟨q, d⟩ = .next ⟨q, d.settle⟩ ∧ exec (.safeNRelease us) ⟨q, d⟩ = .next ⟨q, d.settle⟩)
  ∧ (∀ (q : List Instr) (d e : Dev) (t dt : Nat), t < 4 → e = d.tick dt → e.sluRuns = true →
    (∀ p, (e.tacho t).prev = some p → e.rd (tachoKey t 3) * 100 ≤ e.sluNow - p) →
    exec (.tachoEdge t dt) ⟨q, d⟩ = .next ⟨q, ((e.wr (tachoKey t 9) ((e.rd (tachoKey t 9) + 1) % 2 ^ 32)).setTacho t (fun x =>
      { x with edges := x.edges + 1, first := if x.edges = 0 then e.sluNow else x.first, last := e.sluNow,
               prev := some e.sluNow })).settle⟩)
  ∧ (∀ (q : List Instr) (d e : Dev) (t : Nat), t < 4 → d.sluRuns = true →
    e = d.advanceTo ((d.tacho t).winAt + (d.tacho t).winMs * 100000 + d.slu.lost) → e.rd (tachoKey t 5) = 0 →
    (e.on dBRG = false → exec (.tachoWindow t) ⟨q, d⟩ = .next ⟨q, (((e.wr (tachoKey t 8) (e.rpmOf t)).wr (tachoKey t 10) 0).winStart t
      ((d.tacho t).winAt + (d.tacho t).winMs * 100000) 0).settle⟩)
    ∧ (e.on dBRG = true → exec (.tachoWindow t) ⟨q, d⟩ = .next ⟨q, ((((e.wr (tachoKey t 8) (e.rpmOf t)).brgEnter (.tacho t
      (e.rpmOf t))).wr (tachoKey t 10) 0).winStart t ((d.tacho t).winAt + (d.tacho t).winMs * 100000) 0).settle⟩))
  ∧ (∀ (q : List Instr) (d e : Dev) (t k : Nat), t < 4 → d.sluRuns = true →
    e = d.advanceTo ((d.tacho t).winAt + (d.tacho t).winMs * 100000 + d.slu.lost) → e.on dBRG = false → k < 4 → (e.tacho t).out = k →
    (e.tacho t).high = true → e.rpmOf t < e.rd (tachoKey t 5) → e.rd (tachoKey t 7) ≤ (e.tacho t).run + 1 → (e.tacho t).alarmed = false →
    exec (.tachoWindow t) ⟨q, d⟩ = .next ⟨q, ((((((((e.wr (tachoKey t 8) (e.rpmOf t)).wr (tachoKey t 10) 1).inc (tachoKey t 11)).fire
      81).latch 9).sluEvent k 2 (fun st => e.sluFlag k 5 && 1 ≤ st && st ≤ 3) (fun e => e.sluGo k 4 (some 8))).setTacho t (fun x =>
        { x with alarmed := true })).winStart t ((d.tacho t).winAt + (d.tacho t).winMs * 100000) ((e.tacho t).run + 1)).settle⟩)

/-! ### Time and tallies (17) -/

/-- The clock and the channels (17 R595, R604-R609). TIME_SET and TIME_ADJUST step the clock, which is VALID, count the step, fire
source 91, set the next tally boundary or make the one that is due, and let the channels whose targets it passed fire; a channel
fires when the clock reaches its target: PENDING, counted, source 84 + k, its pin, in the one-shot mode disarmed, in the periodic
one the target moved on; a pulse ends with the pin inactive; the seconds pulse counts, fires 87 and drives its pin; a wanted edge is
captured with its timestamp less 20 ns, OVERRUN where one was pending; CH_ACK clears the status bits written as 1; a write of CH_MODE
or CH_CTRL ends the pulse and clears the status bits. That a channel in mode 04h needs PIN_EN for its pulse, and which firing after a
write is LATE, is the model's choice (log entry 86), and so is what a write of CH_MODE or CH_CTRL arms (log entry 72). -/
def Obligations.TimeCommandsComplete : Prop :=
  (∀ (q : List Instr) (d0 d e x y r : Dev) (c v : Nat) (tm : Timing), d = d0.hostStart → v < 2 ^ 80 → d.hostTakes 0x700002 v tm = true →
    c = (v / 2 ^ 32 * 1000000000 + v % 2 ^ 32) * 4194304 → e = d.noteClock d.clkRate → x = (((({ e with tm := { e.tm with clock := c, stepped := true } } : Dev).wr 0x700005 1).inc 0x700006).fire 91) →
    y = (if x.tallyDue then x.boundary true false else x.wr 0x740005 x.nextTally) →
    r = forEach (List.range 4) y (fun k z => z.chLateCheck k 0) →
    exec (.timeSet v tm) ⟨q, d0⟩ = .next ⟨q, (r.answered []).settle⟩)
  ∧ (∀ (q : List Instr) (d0 d e x y r : Dev) (c : Nat) (ns : Int) (tm : Timing), d = d0.hostStart → -2 ^ 63 ≤ ns → ns < 2 ^ 63 →
    d.hostTakes 0x700003 (ofSigned 64 ns) tm = true → c = ((d.tm.clock : Int) + ns * 4194304).toNat → e = d.noteClock d.clkRate →
    x = (((({ e with tm := { e.tm with clock := c, stepped := true } } : Dev).wr 0x700005 1).inc 0x700006).fire 91) →
    y = (if x.tallyDue then x.boundary true false else x.wr 0x740005 x.nextTally) →
    r = forEach (List.range 4) y (fun k z => z.chLateCheck k 0) →
    exec (.timeAdjust ns tm) ⟨q, d0⟩ = .next ⟨q, (r.answered []).settle⟩)
  ∧ (∀ (q : List Instr) (d e : Dev) (k gap : Nat), k < 4 → d.chArmed k = true →
    gap = (d.chTarget k - d.clkLow) * 4194304 - d.tm.clock % 4194304 →
    e = (if d.chTarget k ≤ d.clkLow then d else d.tick ((gap + d.clkRate - 1) / d.clkRate)) →
    exec (.chCompareFire k) ⟨q, d⟩ = .next ⟨q,
      (let x := e.wr (chKey k 7) (setBit (e.rd (chKey k 7)) 0 true)
       let x := (((x.inc (chKey k 9)).fire (84 + k)).latch (11 + k)).chPin k
       if x.rd (chKey k 1) = 1 then x.setChan k (fun c => { c with armed := false }) else x.chAdvance k).settle⟩)
  ∧ (∀ (q : List Instr) (d e : Dev) (k t : Nat), k < 4 → (d.chan k).pulse = some t → e = d.advanceTo (t + (d.rd (chKey k 5) + 9) / 10) →
    exec (.chPulseEnd k) ⟨q, d⟩ = .next ⟨q, (e.setChan k (fun c => { c with pulse := none, active := false })).settle⟩)
  ∧ (∀ (q : List Instr) (d e : Dev), d.on dTIME = true → d.rd (chKey 3 1) = 4 → d.govHolds = false →
    e = (((d.tick ((1000000000 * 4194304 - d.tm.clock % (1000000000 * 4194304) + d.clkRate - 1) / d.clkRate)).inc (chKey 3 9)).fire
      87).latch 14 →
    exec .ppsPulse ⟨q, d⟩ = .next ⟨q,
      (if e.flag (chKey 3 2) 3 then e.setChan 3 (fun c => { c with active := true, pulse := some e.ck }) else e).settle⟩)
  ∧ (∀ (q : List Instr) (d e : Dev) (k dt s n st : Nat) (pin rising : Bool), k < 4 → e = d.tick dt → e.on dTIME = true →
    e.rd (chKey k 1) = 3 → (e.rd (chKey k 2)).testBit 2 = pin → (e.rd (chKey k 2)).testBit (if rising then 0 else 1) = true →
    (k = 3 → e.govHolds = false) → (k = 1 → pin = false → e.sluEvt1 = false) → e.stampAt 0 20 = (s, n) → st = e.rd (chKey k 7) →
    exec (.chCapture k pin rising dt) ⟨q, d⟩ = .next ⟨q,
      (let x := e.wr (chKey k 6) (n + 2 ^ 32 * (s % 2 ^ 32))
       (((x.wr (chKey k 7) (setBit (if st.testBit 0 then setBit st 1 true else st) 0 true)).inc (chKey k 9)).fire (84 + k)).latch
         (11 + k)).settle⟩)
  ∧ (∀ (q : List Instr) (d0 d : Dev) (k v : Nat) (tm : Timing), d = d0.hostStart → k < 4 → v < 8 → d.hostTakes (chKey k 8) v tm = true →
    exec (.chAck k v tm) ⟨q, d0⟩ = .next ⟨q, ((d.wr (chKey k 7) (d.rd (chKey k 7) - (d.rd (chKey k 7) &&& v))).answered []).settle⟩)
  ∧ (∀ (q : List Instr) (d0 d e : Dev) (k s v : Nat) (c : Bool) (tm : Timing), d = d0.hostStart → k < 4 → v < 2 ^ 8 →
    s = (if c then 2 else 1) → d.hostTakes (chKey k s) v tm = true →
    e = (d.wr (chKey k s) v).setChan k (fun x => ⟨!c || x.armed, none, false⟩) →
    exec (.chConfigWrite k c v tm) ⟨q, d0⟩ = .next ⟨q,
      (((e.wr (chKey k 7) (e.rd (chKey k 7) / 8 * 8)).chLateCheck k e.clkRate).answered []).settle⟩)

/-- Tallies (17 R613, R616). In the periodic mode the boundary comes when the clock's seconds reach TALLY_NEXT_S; a trigger makes one in
the next CK; a mode or a period sets the next one, after a boundary that the old values make in its own CK. What is counted in the boundary's CK
belongs to the new period (R614). -/
def Obligations.TallyCommandsComplete : Prop :=
  (∀ (q : List Instr) (d : Dev) (n : Nat), d.on dTIME = true → d.rd 0x740001 = 1 →
    n = (d.rd 0x740005 * 1000000000 * 4194304 - d.tm.clock + d.clkRate - 1) / d.clkRate →
    (d.rd 0x740005 * 1000000000 * 4194304 ≤ d.tm.clock → exec .tallyBoundary ⟨q, d⟩ = .next ⟨q, (d.boundary true false).settle⟩)
    ∧ (d.tm.clock < d.rd 0x740005 * 1000000000 * 4194304 → 0 < d.clkRate →
      exec .tallyBoundary ⟨q, d⟩ = .next ⟨q, ((((d.tick (n - 1)).pass 1).boundary true false).tickPorts 1).settle⟩))
  ∧ (∀ (q : List Instr) (d0 d : Dev) (tm : Timing), d = d0.hostStart → d.hostTakes 0x740003 1 tm = true →
    exec (.tallyTrigger 1 tm) ⟨q, d0⟩ = .next ⟨q, (let e := (if d.tallyDue then d.boundary true false else d).pass 1
      (((e.boundary e.tallyDue true).tickPorts 1).answered []).settle)⟩)
  ∧ (∀ (q : List Instr) (d0 d : Dev) (per : Bool) (v k : Nat) (tm : Timing), d = d0.hostStart → k = (if per then 0x740002 else 0x740001) →
    v < (if per then 2 ^ 16 else 2 ^ 8) → d.hostTakes k v tm = true →
    exec (.tallyModeWrite per v tm) ⟨q, d0⟩ = .next ⟨q, (let b := (if d.tallyDue then d.boundary true false else d).wr k v
      let e := (b.wr 0x740005 b.nextTally).pass 1
      (((if e.tallyDue then e.boundary true false else e.wr 0x740005 e.nextTally).tickPorts 1).answered []).settle)⟩)

/-! ### Interrupts (18) and the fault log (19) -/

/-- The interrupt controller and the fault log (18 R624, R633, R636, R639; 19 R655, R660). A claim answers the offered source with its level
and puts it on the target's stack; writes set the pending bits and the counts; INT_FAULT_CLEAR ends the FAULTED mark, with
02h the stack too. The writer takes the fault at the head of its queue at the next CKX; FL_ACK_SEQ moves on; FL_CLEAR
empties the entries and acknowledges them. -/
def Obligations.InterruptAndFaultLogCommandsComplete : Prop :=
  (∀ (q : List Instr) (d0 d : Dev) (t s : Nat) (tm : Timing), d = d0.hostStart → t < 4 → d.linkTakes tm = true → d.readAbort 0 (0x7810 + t) 3 0 0 = none →
    d.offerTo t = some s →
    exec (.intClaim t tm) ⟨q, d0⟩ = .next ⟨q, (((d.wr (srcStateKey s) (setBit (d.rd (srcStateKey s)) 0 false)).setStack t ((s, d.srcLevel
      s) :: d.stack t)).answered (leOct 2 2 ++ leOct 2 (s + 256 * d.srcLevel s))).settle⟩)
  ∧ (∀ (q : List Instr) (d0 d : Dev) (t : Nat) (tm : Timing), d = d0.hostStart → t < 4 → d.linkTakes tm = true → d.readAbort 0 (0x7810 + t) 3 0 0 = none →
    d.offerTo t = none →
    exec (.intClaim t tm) ⟨q, d0⟩ = .next ⟨q, (d.answered (leOct 2 2 ++ leOct 2 0x00FF)).settle⟩)
  ∧ (∀ (q : List Instr) (d0 d : Dev) (s v : Nat) (tm : Timing), d = d0.hostStart → s < 96 → v < 2 ^ 8 → d.hostTakes (srcStateKey s) v tm = true →
    exec (.srcStateWrite s v tm) ⟨q, d0⟩ = .next ⟨q, ((d.wr (srcStateKey s) (setBit v 1 false)).answered []).settle⟩)
  ∧ (∀ (q : List Instr) (d0 d : Dev) (v : Nat) (tm : Timing), d = d0.hostStart → v < 2 ^ 96 → d.hostTakes 0x780003 v tm = true →
    exec (.intPendingWrite v tm) ⟨q, d0⟩ = .next ⟨q, ((forEach (List.range 96) d (fun s e =>
      e.wr (srcStateKey s) (setBit (e.rd (srcStateKey s)) 0 (v.testBit s)))).answered []).settle⟩)
  ∧ (∀ (q : List Instr) (d0 d : Dev) (t : Nat) (tm : Timing), d = d0.hostStart → t < 4 → d.hostTakes (tgtKey t 7) 1 tm = true →
    exec (.intFaultClear t 1 tm) ⟨q, d0⟩ = .next ⟨q, ((d.setIntc (fun c =>
      { c with faulted := updAt c.faulted t (fun _ => false) })).answered []).settle⟩)
  ∧ (∀ (q : List Instr) (d0 d : Dev) (t : Nat) (tm : Timing), d = d0.hostStart → t < 4 → d.hostTakes (tgtKey t 7) 2 tm = true →
    exec (.intFaultClear t 2 tm) ⟨q, d0⟩ = .next ⟨q, (((forEach (d.stack t) d (fun _ e => e.popTop t)).setIntc (fun c =>
      { c with faulted := updAt c.faulted t (fun _ => false) })).answered []).settle⟩)
  ∧ (∀ (q : List Instr) (d : Dev) (f : FaultRec) (t : List FaultRec), d.aon.osc = true → d.aon.xtalStopped = false → d.fl.queue = f :: t →
    ∀ (e : Dev), e = (d.advanceTo ((d.ck / 4 + 1) * 4)).setFl (fun l => { l with queue := t }) → e.flMerges f = false →
      exec .faultLogWrite ⟨q, d⟩ = .next ⟨q, (e.flNew f).settle⟩)
  ∧ (∀ (q : List Instr) (d : Dev) (f : FaultRec) (t : List FaultRec), d.aon.osc = true → d.aon.xtalStopped = false → d.fl.queue = f :: t →
    ∀ (e : Dev), e = (d.advanceTo ((d.ck / 4 + 1) * 4)).setFl (fun l => { l with queue := t }) → e.flMerges f = true →
      exec .faultLogWrite ⟨q, d⟩ = .next ⟨q, e.flRepeat.settle⟩)
  ∧ (∀ (q : List Instr) (d0 d : Dev) (v : Nat) (tm : Timing), d = d0.hostStart → v < 2 ^ 16 → d.hostTakes 0x7C0003 v tm = true →
    exec (.flAckSeq v tm) ⟨q, d0⟩ = .next ⟨q, ((d.wr 0x7C0003 v).answered []).settle⟩)
  ∧ (∀ (q : List Instr) (d0 d : Dev) (tm : Timing), d = d0.hostStart → d.hostTakes 0x7C0007 0xA5 tm = true →
    exec (.flClear 0xA5 tm) ⟨q, d0⟩ = .next ⟨q, (((d.flBlank.wr 0x7C0001 0).wr 0x7C0003 (d.rd 0x7C0002)).answered []).settle⟩)


/-! ### Rules of the spec in their own words -/

/-- The refusals of 02 R42, R43, R46 and R68, for every initiator: the code, and a device left as it was (R56). An index without a row
is one that Table 2.8 leaves unassigned or that its chapter does not list. A record has an object at subindex 01. -/
def Obligations.DictionaryRefusals : Prop :=
  (∀ (d : Dev) (ini idx sb ty off len : Nat) (data : Oct), (∀ s, rowAt idx s = none) →
    d.dictRead ini idx sb off len = .abort 0x0101 d ∧ d.dictWrite ini idx sb ty off data = .abort 0x0101 d)
  ∧ (∀ idx s : Nat, (idx < 0x1000 ∨ (0x1900 ≤ idx ∧ idx < 0x1E00) ∨ (0x2700 ≤ idx ∧ idx < 0x3000) ∨ (0x3400 ≤ idx ∧ idx < 0x3800)
      ∨ (0x3900 ≤ idx ∧ idx < 0x4000) ∨ (0x4800 ≤ idx ∧ idx < 0x5000) ∨ (0x5C00 ≤ idx ∧ idx < 0x6000)
      ∨ (0x6C00 ≤ idx ∧ idx < 0x7000) ∨ 0x8000 ≤ idx) → rowAt idx s = none)
  ∧ (∀ (d : Dev) (ini idx ty off : Nat) (data : Oct) (r r1 : ObjRow), rowAt idx 0 = some r → rowAt idx 1 = some r1 →
    d.dictWrite ini idx 0 ty off data = .abort 0x0201 d)
  ∧ (∀ (d : Dev) (ini idx sb ty off : Nat) (data : Oct) (r : ObjRow), rowAt idx sb = some r →
    d.writeAbort r ini (objKey idx sb) 0 (leNat data) = none → ty ≠ 0 → ty ≠ r.ty.code →
    d.dictWrite ini idx sb ty off data = .abort 0x0303 d)
  ∧ (∀ (d : Dev) (ini idx sb ty off : Nat) (data : Oct) (r : ObjRow), rowAt idx sb = some r → imgOf idx = none →
    d.writeAbort r ini (objKey idx sb) ty (leNat data) = none → data.length ≠ r.ty.size →
    d.dictWrite ini idx sb ty off data = .abort 0x0302 d)
  ∧ (∀ (q : List Instr) (d0 d : Dev) (idx sb ty off c : Nat) (data : Oct) (tm : Timing), d = d0.hostStart → idx < 2 ^ 16 → sb < 2 ^ 8 → ty < 2 ^ 8 →
    off < 2 ^ 32 → data.length < 2 ^ 16 → d.linkTakes tm = true → (∀ r, rowAt idx sb = some r → r.per ≠ .pw) →
    d.dictWrite 0 idx sb ty off data = .abort c d →
    exec (.dictWrite idx sb ty off data tm) ⟨q, d0⟩ = .next ⟨q, ((d.settleTxn 0 0x12 idx sb (some c)).sayAbort c 0).settle⟩)

/-- Values outside their range (02 R41; 18 R642; 19 R661; 20 R675): a BOOL8 takes 00h and 01h alone; the counters of the interrupt
controller, the fault log and the claims take zero alone, and stop at FFFF_FFFFh. -/
def Obligations.BooleansAndFaultCounters : Prop :=
  (∀ (d : Dev) (ini idx sb ty : Nat) (data : Oct) (r : ObjRow), rowAt idx sb = some r → r.ty = .bool8 →
    d.writeAbort r ini (objKey idx sb) ty (leNat data) = none → data.length = 1 → 1 < leNat data →
    d.dictWrite ini idx sb ty 0 data = .abort 0x0301 d)
  ∧ (∀ k ∈ [0x780001, 0x7C0005, 0x7C0006, 0x7F0001, 0x7F0003], ∀ (d : Dev) (ini ty : Nat) (data : Oct) (r : ObjRow), rowOf k = some r →
    d.writeAbort r ini k ty (leNat data) = none → data.length = 4 →
    d.dictWrite ini (k / 256) (k % 256) ty 0 data
      = (if leNat data = 0 then .ok [] (d.wr k 0) else .abort 0x0301 d))
  ∧ (∀ k ∈ [0x780001, 0x7C0005, 0x7C0006, 0x7F0001, 0x7F0003], ∀ (d : Dev),
    (d.inc k).rd k = min (d.rd k + 1) 0xFFFFFFFF ∧ ∀ x, x ≠ k → (d.inc k).rd x = d.rd x)

/-- The object query (02 R69-R71): each initiator has a QUERY_ADDR and a QUERY_RESULT of its own; what a write of QUERY_ADDR is refused
for, in order (a signal-cache entry beyond the signals, 14 Table 14.11, as an access to it); the result of a valid one, which no state of the device changes. -/
def Obligations.ObjectQuery : Prop :=
  (∀ (d : Dev) (ini ty : Nat) (data : Oct) (r : ObjRow), rowAt 0x1F00 1 = some r →
    d.writeAbort r ini 0x1F0001 ty (leNat data) = none → data.length = 4 →
    d.dictWrite ini 0x1F00 1 ty 0 data =
      (if 2 ^ 24 ≤ leNat data then .abort 0x0301 d
       else match d.findAt (leNat data / 256) (leNat data % 256) with
         | .inl c => .abort c d
         | .inr _ => .ok [] (d.wr (iniKey ini 0x1F0001) (leNat data))))
  ∧ (∀ idx sb c : Nat, findObj idx sb = .inl c → rowAt idx sb = none ∧
    ((c = 0x0101 ∧ ∀ s, rowAt idx s = none) ∨ (c = 0x0102 ∧ ∃ s r, rowAt idx s = some r)))
  ∧ (∀ (d : Dev) (ini v : Nat) (r : ObjRow), v < 2 ^ 24 → rowAt (v / 256) (v % 256) = some r →
    (d.wr (iniKey ini 0x1F0001) v).readObj ini 0x1F0001 = v
    ∧ (d.wr (iniKey ini 0x1F0001) v).readObj ini 0x1F0002 = queryResult v)
  ∧ (∀ (d : Dev) (ini j v : Nat), j ≠ ini →
    (d.wr (iniKey ini 0x1F0001) v).readObj j 0x1F0001 = d.readObj j 0x1F0001
    ∧ (d.wr (iniKey ini 0x1F0001) v).readObj j 0x1F0002 = d.readObj j 0x1F0002)

/-- Writes of SRC_STATE (18 R627): PENDING and COUNT become the written ones, IN_SERVICE is what it was, whatever the value says of it;
a level source takes no count. -/
def Obligations.SourceStateWrites : Prop :=
  (∀ (q : List Instr) (d0 d : Dev) (s v : Nat) (tm : Timing), d = d0.hostStart → s < 96 → v < 2 ^ 8 → d.hostTakes (srcStateKey s) v tm = true →
    ∃ e : Dev, exec (.srcStateWrite s v tm) ⟨q, d0⟩ = .next ⟨q, (e.answered []).settle⟩
      ∧ e.isPending s = v.testBit 0 ∧ e.rd (srcStateKey s) / 16 = v / 16 ∧ e.inService s = d.inService s
      ∧ (e.readObj 0 (srcStateKey s)).testBit 1 = d.inService s
      ∧ ∀ x, x ≠ srcStateKey s → e.rd x = d.rd x)
  ∧ (∀ (d : Dev) (ini s ty : Nat) (data : Oct) (r : ObjRow), s < 96 → levelSource s = true → rowOf (srcStateKey s) = some r →
    d.writeAbort r ini (srcStateKey s) ty (leNat data) = none → data.length = 1 → 16 ≤ leNat data →
    d.dictWrite ini 0x7850 (s + 1) ty 0 data = .abort 0x0301 d)

/-- Running priority and FAULTED targets (18 R629, R638, R639). That the abort of an INT_COMPLETE counts in no dictionary counter is the
model's choice (log entry 14). -/
def Obligations.FaultedTargets : Prop :=
  (∀ (d : Dev) (t : Nat), d.running t = (match d.stack t with
    | [] => d.rd (tgtKey t 2)
    | e :: _ => max (d.rd (tgtKey t 2)) e.2))
  ∧ (∀ (d : Dev) (t : Nat), d.faulted t = true → d.offerTo t = none)
  ∧ (∀ (q : List Instr) (d0 d : Dev) (t s : Nat), d = d0.hostStart → t < 4 → s < 96 → d.hostUp = true → d.faulted t = true →
    exec (.intComplete t s) ⟨q, d0⟩ = .next ⟨q, (d.sayAbort 0x0203 0).settle⟩)
  ∧ (∀ d : Dev, d.levelCond 92 = true ↔ ∃ t, d.faulted t = true)
  ∧ (∀ (d : Dev) (t : Nat), t < 4 → (d.pollOctets.getD 2 0).toNat.testBit (4 + t) = d.faulted t
      ∧ (d.pollOctets.getD 2 0).toNat.testBit t = (d.offerTo t).isSome)
  ∧ (∀ (d : Dev) (ini t ty : Nat) (data : Oct) (r : ObjRow), t < 4 → rowAt (0x7810 + t) 7 = some r → d.domAbort dCORE = none →
    d.faulted t = false → d.dictWrite ini (0x7810 + t) 7 ty 0 data = .abort 0x0203 d)
  ∧ (∀ (d : Dev) (ini t ty : Nat) (data : Oct) (r : ObjRow), t < 4 → rowAt (0x7810 + t) 7 = some r →
    d.writeAbort r ini (tgtKey t 7) ty (leNat data) = none → data.length = 1 → leNat data ≠ 1 → leNat data ≠ 2 →
    d.dictWrite ini (0x7810 + t) 7 ty 0 data = .abort 0x0301 d)
  ∧ (∀ (d : Dev) (ini t ty : Nat) (data : Oct) (r : ObjRow), t < 4 → rowAt (0x7810 + t) 7 = some r →
    d.writeAbort r ini (tgtKey t 7) ty (leNat data) = none → data.length = 1 → leNat data = 1 →
    ∃ e : Dev, d.dictWrite ini (0x7810 + t) 7 ty 0 data = .ok [] e ∧ e.faulted t = false ∧ e.intc.serving = d.intc.serving
      ∧ e.store = d.store)
  ∧ (∀ (d : Dev) (ini t ty : Nat) (data : Oct) (r : ObjRow), t < 4 → rowAt (0x7810 + t) 7 = some r →
    d.writeAbort r ini (tgtKey t 7) ty (leNat data) = none → data.length = 1 → leNat data = 2 →
    ∃ e : Dev, d.dictWrite ini (0x7810 + t) 7 ty 0 data = .ok [] e ∧ e.faulted t = false ∧ e.stack t = []
      ∧ e.store = (forEach (d.stack t) d (fun x f => f.srcCompleted x.1)).store)

/-- A new fault-log entry (19 R656): its number, its place, what it replaces, the count, source 93; when an entry is unread. -/
def Obligations.NewFaultLogEntry : Prop :=
  (∀ (d : Dev) (f : FaultRec), ∀ (n : Nat), n = (d.rd 0x7C0002 + 1) % 65536 →
    (d.flNew f).rd 0x7C0002 = n ∧ (d.flNew f).rd (0x7C1001 + n % 64) = flEntry f n ∧ flEntry f n % 65536 = n
    ∧ (∀ k, k < 64 → k ≠ n % 64 → (d.flNew f).rd (0x7C1001 + k) = d.rd (0x7C1001 + k))
    ∧ (d.flNew f).rd 0x7C0005 = min (d.rd 0x7C0005 + 1) 0xFFFFFFFF
    ∧ (d.on dCORE = true → (d.rd (srcCfgKey 93)).testBit 8 = false → (d.flNew f).isPending 93 = true)
    ∧ (d.on dCORE = true → (d.rd (srcCfgKey 93)).testBit 8 = true → (d.isPending 93 || d.inService 93) = true →
      (d.flNew f).rd (srcStateKey 93) = d.rd (srcStateKey 93) % 16 + 16 * min 15 (d.rd (srcStateKey 93) / 16 + 1)))
  ∧ (∀ (d : Dev) (n : Nat), n < 65536 → (d.flUnread n = true ↔
      1 ≤ (n + 65536 - d.rd 0x7C0003 % 65536) % 65536 ∧ (n + 65536 - d.rd 0x7C0003 % 65536) % 65536 ≤ 64))

/-- A transfer that 09 Table 9.3 does not hold, and a host's access to a barge it may not touch (09 R303, R304; 03 R109): the owner and the
octets stay, OWNER_REFUSALS counts, the fault is queued for the log. A transfer the table holds waits for its lock cycle, in its bank's
order (09 R308). The owner judged is the one the cycles requested before leave, and the aborts count in no dictionary counter: the model's choices
(log entries 38, 14). -/
def Obligations.OwnersAndRefusals : Prop :=
  (∀ (d : Dev) (b len : Nat) (dst : Owner), (dst = .zeroing → d.pooled b = true) → transferOk (d.ownerAfter b) dst = true →
    d.requestLock b dst len = { d with pm := { d.pm with
      lockq := updAt d.pm.lockq (bankOf b) (queueLock ⟨b, dst, len, lockPath (d.ownerAfter b) dst, d.ck⟩) } })
  ∧ (∀ (d : Dev) (b len : Nat) (dst : Owner), (dst = .zeroing → d.pooled b = true) → transferOk (d.ownerAfter b) dst = false →
    d.requestLock b dst len = d.ownerRefusedAs (d.ownerAfter b) b dst.code)
  ∧ (∀ (d : Dev) (o : Owner) (b req ini : Nat), (d.ownerRefusedAs o b req ini).pm = d.pm
    ∧ (d.ownerRefusedAs o b req ini).rd 0x250003 = min (d.rd 0x250003 + 1) (maxOf 0x250003)
    ∧ (d.fl.queue.length < 16 → (d.ownerRefusedAs o b req ini).fl.queue.length = d.fl.queue.length + 1)
    ∧ (d.on dCORE = true → (d.rd (srcCfgKey 21)).testBit 8 = false → (d.ownerRefusedAs o b req ini).isPending 21 = true))
  ∧ (∀ (q : List Instr) (d0 d : Dev) (a b : Nat) (data : Oct) (ss : List Strike), d = d0.hostStart → a < 2 ^ 24 → data.length < 2 ^ 16 →
    strikesOk ss = true → d.hostUp = true → (bargesOf a (min data.length 4096)).all (fun x => !d.lockClosed x) = true →
    d.memCheck a data.length true = some (0x0203, b) →
    exec (.memWrite a data ss) ⟨q, d0⟩ = .next ⟨q, ((d.ownerRefusedAs (d.barge b).owner b 0xFF 0).sayAbort 0x0203 0).settle⟩)
  ∧ (∀ (q : List Instr) (d0 d : Dev) (a n b : Nat) (ss : List Strike) (left : Option Nat) (tm : Timing), d = d0.hostStart → a < 2 ^ 24 →
    n < 2 ^ 16 → strikesOk ss = true → d.hostUp = true → d.late 72 tm = false →
    (bargesOf a (min n 4096)).all (fun x => !d.lockClosed x) = true → d.memCheck a n false = some (0x0203, b) →
    exec (.memRead a n ss left tm) ⟨q, d0⟩ = .next ⟨q, ((d.ownerRefusedAs (d.barge b).owner b 0xFF 0).sayAbort 0x0203 0).settle⟩)

/-- While CORE is not ON, or a request of the host or a peer for it to leave ON stands, the host link drives nothing; while READY is 0
every command but STATUS_POLL is answered BUSY (02 R48; 03 R125; 06 R224). -/
def Obligations.HostLinkWhileDownOrNotReady : Prop :=
  ∀ (q : List Instr) (d0 d : Dev), d = d0.hostStart → (d.linkAnswers = false ∨ d.link.ready = false) → ∀ c : Instr, c.wf = true →
    overLink c = true →
    exec c ⟨q, d0⟩ = .next ⟨q, (if d.linkAnswers then d.busy else d.silent).settle⟩

/-- The frame of MEM_WRITE in a quiet device: every octet of memory but those it stores reads as before, those read as sent; nothing else
changes but the link's own record and SRC_STATE of the level sources (03 R110; 18 R623). -/
def Obligations.MemWriteFrame : Prop :=
  ∀ (q : List Instr) (d0 d : Dev) (a : Nat) (data : Oct), d = d0.hostStart → a < 2 ^ 24 → data.length < 2 ^ 16 →
    d.hostUp = true → (bargesOf a (min data.length 4096)).all (fun b => !d.lockClosed b) = true → d.memCheck a data.length true = none →
    d.pm.bad = [] → d.pm.upsets = [] → d.quiet = true →
    ∃ t : Dev, exec (.memWrite a data []) ⟨q, d0⟩ = .next ⟨q, t⟩
      ∧ (∀ i, (h : i < data.length) → memGet t.pm.mem (a + i) = data[i])
      ∧ (∀ x, x < a ∨ a + data.length ≤ x → memGet t.pm.mem x = memGet d.pm.mem x)
      ∧ (memWf d.pm.mem = true → memWf t.pm.mem = true)
      ∧ t = { d with pm := { d.pm with mem := t.pm.mem }, link := t.link, store := t.store }
      ∧ t.link = { d.link with seq := t.link.seq, response := [0], ra := t.link.ra, wrote := some d.ck }
      ∧ (∀ k, k ≠ srcStateKey 3 → k ≠ srcStateKey 77 → k ≠ srcStateKey 92 → t.rd k = d.rd k)

/-- The frame of a host's transactions in a quiet device (02 R55, R80; 03 R119). A write whose effect is the value stored changes that object,
DICT_TRANSACTIONS, the link's record, SRC_STATE of the level sources and, of a receive setting, what the ports note of its earlier
value (11 R362), and nothing else; a read changes no object but those. -/
def Obligations.TransactionFrame : Prop :=
  (∀ (q : List Instr) (d0 d : Dev) (k v : Nat) (tm : Timing), d = d0.hostStart → k < 2 ^ 24 → k ≠ 0x180003 → d.hostTakes k v tm = true →
    (d.noteRx k).writeEffect 0 k v = .ok ((d.noteRx k).wr k v) → (((d.noteRx k).wr k v).answered []).quiet = true →
    ∃ t : Dev, exec (.dictWrite (k / 256) (k % 256) 0 0 (leOct (objSize k) v) tm) ⟨q, d0⟩ = .next ⟨q, t⟩
      ∧ t = { d with macs := (d.noteRx k).macs, link := t.link, store := t.store }
      ∧ t.link = { d.link with seq := (d.link.seq + 1) % 65536, response := [0] }
      ∧ ∀ x, x ≠ srcStateKey 3 → x ≠ srcStateKey 77 → x ≠ srcStateKey 92 →
        t.rd x = (if x = 0x1E1001 then min ((d.wr k v).rd x + 1) (maxOf x) else if x = k then v else d.rd x))
  ∧ (∀ (q : List Instr) (d0 d : Dev) (idx sb off len : Nat) (tm : Timing) (r : ObjRow), d = d0.hostStart →
    idx < 2 ^ 16 → sb < 2 ^ 8 → off < 2 ^ 32 → len < 2 ^ 16 → d.linkTakes tm = true → rowAt idx sb = some r →
    d.readAbort 0 idx sb off len = none → imgOf idx = none → (idx / 256 ≠ 0x5A ∨ sb = 0) → claimObj (objKey idx sb) = false →
    ∀ (body : Oct), body = leOct 2 r.ty.size ++ leOct r.ty.size (d.readObj 0 (objKey idx sb)) → (d.answered body).quiet = true →
    ∃ t : Dev, exec (.dictRead idx sb off len tm) ⟨q, d0⟩ = .next ⟨q, t⟩
      ∧ t = { d with link := t.link, store := t.store }
      ∧ t.link = { d.link with seq := (d.link.seq + 1) % 65536, response := 0 :: body }
      ∧ ∀ x, x ≠ srcStateKey 3 → x ≠ srcStateKey 77 → x ≠ srcStateKey 92 →
        t.rd x = (if x = 0x1E1001 then min (d.rd x + 1) (maxOf x) else d.rd x))

/-- Right after reset (05 R711; 07 R234, Table 7.2): POR holds the device, every domain is OFF and the selector at BACKUP, every other
object at its default, every barge the host's, packet memory zero, no slot, source, stack or claim held, no fault queued, no
answer, the queue empty. Memory read as zero, the objects without a printed default and the idle engine fields are the model's
choices (log entries 1, 9, 11, 70). -/
def Obligations.ResetState : Prop :=
  State.reset.pending = [] ∧ ∀ d, d = State.reset.dev →
    (∀ n, n < 16 → (d.dom n).st = .off ∧ (d.dom n).pend = none) ∧ d.aon.trans = none ∧ d.aon.inPor = true
    ∧ (∀ k, d.rd k = if k = 0x200001 then 2 else dflt k)
    ∧ (∀ a, memGet d.pm.mem a = 0) ∧ (∀ b, d.barge b = Barge.init) ∧ memWf d.pm.mem = true
    ∧ (∀ s, d.slot s = none) ∧ (∀ t, d.stack t = [] ∧ d.faulted t = false)
    ∧ (∀ s, s < 96 → d.isPending s = false) ∧ d.claims = [] ∧ d.fl.queue = [] ∧ d.link.response = []
end
end

