-- ==== Sys2Proof/Laws/Store.lean ====
section
/-!
SUPPORT. The dictionary store: what a read after a write of an object gives, and its canonical form.
-/
namespace Sys2Proof.Machine

/-- Keys strictly rising. -/
def Store.rising : Store → Bool
  | [] => true
  | (k, _) :: t => t.all (fun e => k < e.1) && Store.rising t

/-- The entry put is the one read. -/
@[simp] theorem Store.get?_put_same (s : Store) (k v : Nat) : (s.put k v).get? k = some v := by
  induction s with
  | nil => simp [Store.put, Store.get?]
  | cons e t ih =>
    obtain ⟨x, w⟩ := e
    simp only [Store.put]
    split
    · simp [Store.get?]
    · split
      · simp [Store.get?]
      · rw [Store.get?, if_neg ‹_›, ih]

/-- Another key reads as before. -/
theorem Store.get?_put_other (s : Store) {k x : Nat} (v : Nat) (h : x ≠ k) : (s.put k v).get? x = s.get? x := by
  induction s with
  | nil => simp [Store.put, Store.get?, h.symm]
  | cons e t ih =>
    obtain ⟨y, w⟩ := e
    simp only [Store.put]
    split
    · subst y
      simp [Store.get?, h.symm]
    · split
      · simp only [Store.get?, if_neg h.symm]
      · simp only [Store.get?, ih]

/-- A key after one was erased. -/
theorem Store.get?_erase (s : Store) (k x : Nat) : (s.erase k).get? x = if x = k then none else s.get? x := by
  unfold Store.erase
  induction s with
  | nil => simp [Store.get?]
  | cons e t ih =>
    obtain ⟨y, w⟩ := e
    rw [List.filter_cons]
    by_cases hy : y = k
    · subst hy
      simp only [bne_self_eq_false, Bool.false_eq_true, if_false, ih, Store.get?, eq_comm]
      split <;> rfl
    · simp only [bne_iff_ne, ne_eq, hy, not_false_eq_true, if_true, Store.get?, ih]
      by_cases hx : y = x
      · simp only [hx, if_true]
        rw [if_neg (by omega)]
      · simp only [if_neg hx]

/-- Rising keys, of a list that is not empty. -/
theorem Store.rising_cons (k v : Nat) (t : Store) :
    Store.rising ((k, v) :: t) = true ↔ (∀ e ∈ t, k < e.1) ∧ Store.rising t = true := by
  simp [Store.rising]

/-- What a put lists has the key or was listed. -/
theorem Store.put_mem {s : Store} {k v : Nat} {e : Nat × Nat} (h : e ∈ s.put k v) : e.1 = k ∨ e ∈ s := by
  induction s with
  | nil => exact .inl (by rw [List.mem_singleton.1 h])
  | cons a t ih =>
    obtain ⟨y, w⟩ := a
    simp only [Store.put] at h
    split at h
    · rcases List.mem_cons.1 h with rfl | h
      · exact .inl rfl
      · exact .inr (List.mem_cons_of_mem _ h)
    · split at h
      · rcases List.mem_cons.1 h with rfl | h
        · exact .inl rfl
        · exact .inr h
      · rcases List.mem_cons.1 h with rfl | h
        · exact .inr (List.mem_cons_self ..)
        · exact (ih h).imp id (List.mem_cons_of_mem _)

/-- A put keeps the keys rising. -/
theorem Store.put_rising {s : Store} (h : s.rising = true) (k v : Nat) : (s.put k v).rising = true := by
  induction s with
  | nil => rfl
  | cons a t ih =>
    obtain ⟨y, w⟩ := a
    have hc := (Store.rising_cons y w t).1 h
    simp only [Store.put]
    split
    · subst y
      exact (Store.rising_cons ..).2 hc
    · split
      · refine (Store.rising_cons ..).2 ⟨?_, h⟩
        intro e he
        rcases List.mem_cons.1 he with rfl | he
        · assumption
        · exact Nat.lt_trans ‹k < y› (hc.1 e he)
      · refine (Store.rising_cons ..).2 ⟨?_, ih hc.2⟩
        intro e he
        rcases Store.put_mem he with h' | h'
        · omega
        · exact hc.1 e h'

/-- An erase keeps the keys rising. -/
theorem Store.erase_rising {s : Store} (h : s.rising = true) (k : Nat) : (s.erase k).rising = true := by
  unfold Store.erase
  induction s with
  | nil => rfl
  | cons a t ih =>
    obtain ⟨y, w⟩ := a
    have hc := (Store.rising_cons y w t).1 h
    rw [List.filter_cons]
    split
    · exact (Store.rising_cons ..).2 ⟨fun e he => hc.1 e (List.mem_filter.1 he).1, ih hc.2⟩
    · exact ih hc.2

/-! ### Objects -/

/-- An object written reads as written. -/
@[simp] theorem Dev.rd_wr_same (d : Dev) (k v : Nat) : (d.wr k v).rd k = v := by
  by_cases hv : v = dflt k <;> simp [Dev.wr, Dev.rd, hv, Store.get?_erase]

/-- Another object reads as before. -/
theorem Dev.rd_wr_other (d : Dev) {k x : Nat} (v : Nat) (hx : x ≠ k) : (d.wr k v).rd x = d.rd x := by
  by_cases hv : v = dflt k <;> simp [Dev.wr, Dev.rd, hv, Store.get?_erase, Store.get?_put_other _ _ hx, hx]

/-- A write of an object keeps the keys rising. -/
theorem Dev.wr_rising {d : Dev} (h : d.store.rising = true) (k v : Nat) : (d.wr k v).store.rising = true := by
  simp only [Dev.wr]
  split
  · exact Store.erase_rising h k
  · exact Store.put_rising h k v

end Sys2Proof.Machine
end

