-- ==== Sys2Proof/Laws/Dict.lean ====
section
/-!
SUPPORT. The dictionary's shared operations: rows of the object tables, octets of values, keys held for each initiator, the
clock's advance to a moment that has passed, the command run.
-/
namespace Sys2Proof.Machine

/-- The row of an object that exists. -/
theorem findObj_of_row {idx sb : Nat} {r : ObjRow} (h : rowAt idx sb = some r) : findObj idx sb = .inr r := by
  simp [findObj, h]

/-- A row found stands in the table of its index's range and covers the object. -/
theorem row_mem {idx sb : Nat} {r : ObjRow} (h : rowAt idx sb = some r) :
    r ∈ objRowsOf (idx / 256) ∧ r.covers idx sb = true :=
  ⟨List.mem_of_find?_eq_some h, by
    unfold rowAt at h
    simpa using List.find?_some h⟩

/-- No row lies beyond FFFFh. -/
theorem objRowsOf_high {h : Nat} (hh : 256 ≤ h) : objRowsOf h = [] := by
  unfold objRowsOf
  split <;> first | omega | rfl

/-- A property of every row of the tables. -/
def allRows (p : ObjRow → Bool) : Bool := (List.range 256).all (fun h => (objRowsOf h).all p)

/-- A row found has what every row has. -/
theorem row_of_allRows {p : ObjRow → Bool} (h : allRows p = true) {idx sb : Nat} {r : ObjRow} (hr : rowAt idx sb = some r) :
    p r = true := by
  have hm := (row_mem hr).1
  by_cases hh : idx / 256 < 256
  · exact List.all_eq_true.1 (List.all_eq_true.1 h _ (List.mem_range.2 hh)) r hm
  · rw [objRowsOf_high (by omega)] at hm
    exact absurd hm List.not_mem_nil

/-- A value of `n` octets lies below 256 to the `n`. -/
theorem leNat_lt (l : Oct) : leNat l < 256 ^ l.length := by
  induction l with
  | nil => simp [leNat]
  | cons a l ih =>
    have := a.isLt
    simp only [leNat, List.length_cons, Nat.pow_succ]
    omega

/-- The octets of a value are as many as asked for. -/
@[simp] theorem leOct_length (n v : Nat) : (leOct n v).length = n := by
  induction n generalizing v with
  | zero => rfl
  | succ n ih => simp [leOct, ih]

/-- Objects held separately for each initiator lie under different keys. -/
theorem iniKey_ne {ini j : Nat} (k : Nat) (h : j ≠ ini) : iniKey j k ≠ iniKey ini k := by
  unfold iniKey
  intro e
  exact h (Nat.eq_of_mul_eq_mul_right (by decide) (Nat.add_right_cancel e))

/-- What follows a command that names parts the device has. -/
theorem State.run_eq {c : Instr} {q : List Instr} {d e : Dev} {f : Dev → Dev} (h : c.wf = true) (he : f d = e) :
    State.run c ⟨q, d⟩ f = .next ⟨q, e.settle⟩ := by
  subst he
  simp [State.run, h]

/-- The clock does not go back: a moment that has passed changes nothing. -/
theorem Dev.advanceTo_of_le {d : Dev} {t : Nat} (h : t ≤ d.ck) : d.advanceTo t = d := by
  unfold Dev.advanceTo Dev.tick
  simp [Nat.sub_eq_zero_of_le h]

end Sys2Proof.Machine
end

