-- ==== Sys2Proof/Laws/Exec.lean ====
section
/-!
SUPPORT. The meaning of every command is a run of its effect: one lemma per command, and what follows for all of them.
-/
namespace Sys2Proof.Machine

theorem exec_pllLockLoss (s : State) :
    exec .pllLockLoss s = State.run .pllLockLoss s (fun d => d.pllLoss) := rfl

theorem exec_crystalStop (s : State) :
    exec .crystalStop s = State.run .crystalStop s (fun d => d.crystalStop) := rfl

theorem exec_crystalRestart (s : State) :
    exec .crystalRestart s = State.run .crystalRestart s (fun d => d.crystalRestart) := rfl

theorem exec_dictRead (idx sub off len : Nat) (tm : Timing) (s : State) :
    exec (.dictRead idx sub off len tm) s = State.run (.dictRead idx sub off len tm) s (fun d => d.hostStart.hostRead idx sub off len tm) := rfl

theorem exec_dictWrite (idx sub ty off : Nat) (data : Oct) (tm : Timing) (s : State) :
    exec (.dictWrite idx sub ty off data tm) s = State.run (.dictWrite idx sub ty off data tm) s (fun d => d.hostStart.hostWrite idx sub ty off data tm) := rfl

theorem exec_domainSegment (img off : Nat) (data : Oct) (tm : Timing) (s : State) :
    exec (.domainSegment img off data tm) s = State.run (.domainSegment img off data tm) s (fun d => d.hostStart.hostWrite (imgIdx img) 0 0x0B off data tm) := rfl

theorem exec_imageCheckDone (img : Nat) (s : State) :
    exec (.imageCheckDone img) s = State.run (.imageCheckDone img) s (fun d => d.imgCheckDone img) := rfl

theorem exec_domainTransferTimeout (img : Nat) (s : State) :
    exec (.domainTransferTimeout img) s = State.run (.domainTransferTimeout img) s (fun d => d.imgTimeout img) := rfl

theorem exec_queryAddr (v : Nat) (tm : Timing) (s : State) :
    exec (.queryAddr v tm) s = State.run (.queryAddr v tm) s (fun d => d.hostStart.hostPut 0x1F0001 v tm) := rfl

theorem exec_memRead (addr len : Nat) (strikes : List Strike) (left : Option Nat) (tm : Timing) (s : State) :
    exec (.memRead addr len strikes left tm) s = State.run (.memRead addr len strikes left tm) s (fun d => d.hostStart.hostMemRead addr len strikes left tm) := rfl

theorem exec_memWrite (addr : Nat) (data : Oct) (strikes : List Strike) (s : State) :
    exec (.memWrite addr data strikes) s = State.run (.memWrite addr data strikes) s (fun d => d.hostStart.hostMemWrite addr data strikes) := rfl

theorem exec_memReadAcquire (addr len : Nat) (strikes : List Strike) (left : Option Nat) (tm : Timing) (s : State) :
    exec (.memReadAcquire addr len strikes left tm) s = State.run (.memReadAcquire addr len strikes left tm) s (fun d => d.hostStart.hostMemAcquire addr len strikes left tm) := rfl

theorem exec_statusPoll (s : State) :
    exec .statusPoll s = State.run .statusPoll s (fun d => d.hostStart.hostPoll) := rfl

theorem exec_doorbell (ring index : Nat) (s : State) :
    exec (.doorbell ring index) s = State.run (.doorbell ring index) s (fun d => d.hostStart.hostBell ring index) := rfl

theorem exec_intComplete (target source : Nat) (s : State) :
    exec (.intComplete target source) s = State.run (.intComplete target source) s (fun d => d.hostStart.hostComplete target source) := rfl

theorem exec_dictReadRemote (peer idx sub off len : Nat) (s : State) :
    exec (.dictReadRemote peer idx sub off len) s = State.run (.dictReadRemote peer idx sub off len) s (fun d => d.hostStart.hostRemote 0x61 peer idx sub 0 off len []) := rfl

theorem exec_dictWriteRemote (peer idx sub ty off : Nat) (data : Oct) (s : State) :
    exec (.dictWriteRemote peer idx sub ty off data) s = State.run (.dictWriteRemote peer idx sub ty off data) s (fun d => d.hostStart.hostRemote 0x62 peer idx sub ty off data.length data) := rfl

theorem exec_reissue (cmd tag : Nat) (s : State) :
    exec (.reissue cmd tag) s = State.run (.reissue cmd tag) s (fun d => d.hostStart.hostReissue cmd tag) := rfl

theorem exec_slotReadyExpiry (slot : Nat) (s : State) :
    exec (.slotReadyExpiry slot) s = State.run (.slotReadyExpiry slot) s (fun d => d.slotExpiry slot) := rfl

theorem exec_slotPendingTimeout (slot : Nat) (s : State) :
    exec (.slotPendingTimeout slot) s = State.run (.slotPendingTimeout slot) s (fun d => d.slotTimeout slot) := rfl

theorem exec_csEarlyRise (s : State) :
    exec .csEarlyRise s = State.run .csEarlyRise s (fun d => d.framing) := rfl

theorem exec_unknownCommand (code : Nat) (s : State) :
    exec (.unknownCommand code) s = State.run (.unknownCommand code) s (fun d => d.framing) := rfl

theorem exec_hostLinkReset (v : Nat) (tm : Timing) (s : State) :
    exec (.hostLinkReset v tm) s = State.run (.hostLinkReset v tm) s (fun d => d.hostStart.hostPut 0x180003 v tm) := rfl

theorem exec_jobStart (slot : Nat) (tm : Timing) (s : State) :
    exec (.jobStart slot tm) s = State.run (.jobStart slot tm) s (fun d => d.hostStart.hostPut (jobKey slot 2) 1 tm) := rfl

theorem exec_jobSuspend (slot : Nat) (tm : Timing) (s : State) :
    exec (.jobSuspend slot tm) s = State.run (.jobSuspend slot tm) s (fun d => d.hostStart.hostPut (jobKey slot 2) 2 tm) := rfl

theorem exec_jobResume (slot : Nat) (tm : Timing) (s : State) :
    exec (.jobResume slot tm) s = State.run (.jobResume slot tm) s (fun d => d.hostStart.hostPut (jobKey slot 2) 3 tm) := rfl

theorem exec_jobCancel (slot : Nat) (tm : Timing) (s : State) :
    exec (.jobCancel slot tm) s = State.run (.jobCancel slot tm) s (fun d => d.hostStart.hostPut (jobKey slot 2) 4 tm) := rfl

theorem exec_jobSuspendPoint (slot : Nat) (s : State) :
    exec (.jobSuspendPoint slot) s = State.run (.jobSuspendPoint slot) s (fun d => d.jobSuspendPoint slot) := rfl

theorem exec_jobCancelDone (slot : Nat) (s : State) :
    exec (.jobCancelDone slot) s = State.run (.jobCancelDone slot) s (fun d => d.jobCancelDone slot) := rfl

theorem exec_poundScrubBarge (slot : Nat) (strikes : List Strike) (s : State) :
    exec (.poundScrubBarge slot strikes) s = State.run (.poundScrubBarge slot strikes) s (fun d => d.scrubBarge slot strikes) := rfl

theorem exec_bankTestPass (slot : Nat) (bad : List Nat) (s : State) :
    exec (.bankTestPass slot bad) s = State.run (.bankTestPass slot bad) s (fun d => d.bankTestPass slot bad) := rfl

theorem exec_tableLoadDone (slot : Nat) (readOk : Bool) (s : State) :
    exec (.tableLoadDone slot readOk) s = State.run (.tableLoadDone slot readOk) s (fun d => d.tableLoadDone slot readOk) := rfl

theorem exec_cableDiagPhase (slot : Nat) (echo : Echo) (s : State) :
    exec (.cableDiagPhase slot echo) s = State.run (.cableDiagPhase slot echo) s (fun d => d.cablePhase slot echo) := rfl

theorem exec_powerOnReset (s : State) :
    exec .powerOnReset s = State.run .powerOnReset s (fun d => d.porReset) := rfl

theorem exec_porEnd (s : State) :
    exec .porEnd s = State.run .porEnd s (fun d => d.porEnd) := rfl

theorem exec_oscStable (s : State) :
    exec .oscStable s = State.run .oscStable s (fun d => d.oscStable) := rfl

theorem exec_aonTrimsDone (mainInRange vbakOk : Bool) (s : State) :
    exec (.aonTrimsDone mainInRange vbakOk) s = State.run (.aonTrimsDone mainInRange vbakOk) s (fun d => d.trimsDone mainInRange vbakOk) := rfl

theorem exec_supplyDown (vbakOk : Bool) (s : State) :
    exec (.supplyDown vbakOk) s = State.run (.supplyDown vbakOk) s (fun d => d.supplyDown vbakOk) := rfl

theorem exec_downToBackup (us : Nat) (mainInRange : Bool) (s : State) :
    exec (.downToBackup us mainInRange) s = State.run (.downToBackup us mainInRange) s (fun d => d.toBackup us mainInRange) := rfl

theorem exec_mainReturn (s : State) :
    exec .mainReturn s = State.run .mainReturn s (fun d => d.mainReturn) := rfl

theorem exec_qualifyExpiry (s : State) :
    exec .qualifyExpiry s = State.run .qualifyExpiry s (fun d => d.qualifyExpiry) := rfl

theorem exec_supplyBounce (dt : Nat) (s : State) :
    exec (.supplyBounce dt) s = State.run (.supplyBounce dt) s (fun d => d.bounce dt) := rfl

theorem exec_stretchEnd (s : State) :
    exec .stretchEnd s = State.run .stretchEnd s (fun d => d.stretchEnd) := rfl

theorem exec_brownOut (coreRail : Bool) (s : State) :
    exec (.brownOut coreRail) s = State.run (.brownOut coreRail) s (fun d => d.brownOut coreRail) := rfl

theorem exec_brownoutLowBackup (s : State) :
    exec .brownoutLowBackup s = State.run .brownoutLowBackup s (fun d => d.lowBackup) := rfl

theorem exec_lockoutEnd (s : State) :
    exec .lockoutEnd s = State.run .lockoutEnd s (fun d => d.lockoutEnd) := rfl

theorem exec_energySample (vinCode vbakCode : Nat) (vbakOk : Bool) (vio : Option Nat) (s : State) :
    exec (.energySample vinCode vbakCode vbakOk vio) s = State.run (.energySample vinCode vbakCode vbakOk vio) s (fun d => d.energyTick vinCode vbakCode vbakOk vio) := rfl

theorem exec_podlClassify (ohms : Option Nat) (asked : Bool) (s : State) :
    exec (.podlClassify ohms asked) s = State.run (.podlClassify ohms asked) s (fun d => d.podlClassify ohms asked) := rfl

theorem exec_podlPowerOn (s : State) :
    exec .podlPowerOn s = State.run .podlPowerOn s (fun d => d.podlPower) := rfl

theorem exec_podlTurnOff (s : State) :
    exec .podlTurnOff s = State.run .podlTurnOff s (fun d => d.podlOff) := rfl

theorem exec_podlInrushRampEnd (s : State) :
    exec .podlInrushRampEnd s = State.run .podlInrushRampEnd s (fun d => d.podlRamped) := rfl

theorem exec_monitorChangeOscStart (vbak : Option Bool) (s : State) :
    exec (.monitorChangeOscStart vbak) s = State.run (.monitorChangeOscStart vbak) s (fun d => d.monitorChange vbak) := rfl

theorem exec_domReq (dom v : Nat) (tm : Timing) (s : State) :
    exec (.domReq dom v tm) s = State.run (.domReq dom v tm) s (fun d => d.hostStart.hostPut (0x211001 + dom) v tm) := rfl

theorem exec_domainSelect (s : State) :
    exec .domainSelect s = State.run .domainSelect s (fun d => d.domSelect) := rfl

theorem exec_domainDrainDone (s : State) :
    exec .domainDrainDone s = State.run .domainDrainDone s (fun d => d.drainDone) := rfl

theorem exec_domainPowerFail (s : State) :
    exec .domainPowerFail s = State.run .domainPowerFail s (fun d => d.powerFail) := rfl

theorem exec_domainTransitionEnd (badImages : List Nat) (s : State) :
    exec (.domainTransitionEnd badImages) s = State.run (.domainTransitionEnd badImages) s (fun d => d.transEnds badImages) := rfl

theorem exec_ownerScanDone (bank : Nat) (s : State) :
    exec (.ownerScanDone bank) s = State.run (.ownerScanDone bank) s (fun d => d.scanDone bank) := rfl

theorem exec_wakeEdge (latch : Nat) (s : State) :
    exec (.wakeEdge latch) s = State.run (.wakeEdge latch) s (fun d => d.wakeEdge latch) := rfl

theorem exec_wakeClear (v : Nat) (tm : Timing) (s : State) :
    exec (.wakeClear v tm) s = State.run (.wakeClear v tm) s (fun d => d.hostStart.hostPut 0x214003 v tm) := rfl

theorem exec_tempSample (celsius : Int) (s : State) :
    exec (.tempSample celsius) s = State.run (.tempSample celsius) s (fun d => d.tempSample celsius) := rfl

theorem exec_retentionRefresh (bank : Nat) (s : State) :
    exec (.retentionRefresh bank) s = State.run (.retentionRefresh bank) s (fun d => d.refresh bank .retention) := rfl

theorem exec_bankRefresh (bank : Nat) (s : State) :
    exec (.bankRefresh bank) s = State.run (.bankRefresh bank) s (fun d => d.refresh bank .on) := rfl

theorem exec_pllLocked (s : State) :
    exec .pllLocked s = State.run .pllLocked s (fun d => d.pllLocked) := rfl

theorem exec_pllLockTimeout (s : State) :
    exec .pllLockTimeout s = State.run .pllLockTimeout s (fun d => d.pllTimeout) := rfl

theorem exec_nvLoadDone (found : LoadFound) (s : State) :
    exec (.nvLoadDone found) s = State.run (.nvLoadDone found) s (fun d => d.loadDone found) := rfl

theorem exec_resetNAssert (held : Nat) (s : State) :
    exec (.resetNAssert held) s = State.run (.resetNAssert held) s (fun d => d.resetNAssert held) := rfl

theorem exec_resetNRelease (s : State) :
    exec .resetNRelease s = State.run .resetNRelease s (fun d => d.resetNRelease) := rfl

theorem exec_softReset (v : Nat) (tm : Timing) (s : State) :
    exec (.softReset v tm) s = State.run (.softReset v tm) s (fun d => d.hostStart.hostPut 0x220004 v tm) := rfl

theorem exec_domReset (n : Nat) (tm : Timing) (s : State) :
    exec (.domReset n tm) s = State.run (.domReset n tm) s (fun d => d.hostStart.hostPut 0x220005 n tm) := rfl

theorem exec_journalChunkWritten (s : State) :
    exec .journalChunkWritten s = State.run .journalChunkWritten s (fun d => d.nvStepEnds [1] true) := rfl

theorem exec_journalCheckWritten (s : State) :
    exec .journalCheckWritten s = State.run .journalCheckWritten s (fun d => d.nvStepEnds [2] true) := rfl

theorem exec_journalCommitMark (pass : Bool) (s : State) :
    exec (.journalCommitMark pass) s = State.run (.journalCommitMark pass) s (fun d => d.nvStepEnds [3] pass) := rfl

theorem exec_homeChunkWritten (pass : Bool) (s : State) :
    exec (.homeChunkWritten pass) s = State.run (.homeChunkWritten pass) s (fun d => d.nvStepEnds [4] pass) := rfl

theorem exec_sectorErased (s : State) :
    exec .sectorErased s = State.run .sectorErased s (fun d => d.nvStepEnds [5] true) := rfl

theorem exec_commitWordVoid (s : State) :
    exec .commitWordVoid s = State.run .commitWordVoid s (fun d => d.nvStepEnds [0] true) := rfl

theorem exec_poundEnable (p : Nat) (tm : Timing) (s : State) :
    exec (.poundEnable p tm) s = State.run (.poundEnable p tm) s (fun d => d.hostStart.hostPut (0x252003 + 256 * p) 1 tm) := rfl

theorem exec_poundEnabled (p : Nat) (stuck : List Nat) (s : State) :
    exec (.poundEnabled p stuck) s = State.run (.poundEnabled p stuck) s (fun d => d.poundEnabled p stuck) := rfl

theorem exec_poundDisable (p : Nat) (tm : Timing) (s : State) :
    exec (.poundDisable p tm) s = State.run (.poundDisable p tm) s (fun d => d.hostStart.hostPut (0x252003 + 256 * p) 0 tm) := rfl

theorem exec_allocReq (v : Nat) (tm : Timing) (s : State) :
    exec (.allocReq v tm) s = State.run (.allocReq v tm) s (fun d => d.hostStart.hostPut 0x250801 v tm) := rfl

theorem exec_freeReq (v : Nat) (tm : Timing) (s : State) :
    exec (.freeReq v tm) s = State.run (.freeReq v tm) s (fun d => d.hostStart.hostPut 0x250803 v tm) := rfl

theorem exec_bargeQuery (v : Nat) (tm : Timing) (s : State) :
    exec (.bargeQuery v tm) s = State.run (.bargeQuery v tm) s (fun d => d.hostStart.hostPut 0x250901 v tm) := rfl

theorem exec_lockCycleClose (bank : Nat) (s : State) :
    exec (.lockCycleClose bank) s = State.run (.lockCycleClose bank) s (fun d => d.lockClose bank) := rfl

theorem exec_lockCycleOpen (bank : Nat) (strikes : List Strike) (s : State) :
    exec (.lockCycleOpen bank strikes) s = State.run (.lockCycleOpen bank strikes) s (fun d => d.lockOpen bank strikes) := rfl

theorem exec_zeroingDone (barge : Nat) (stuck : List Nat) (s : State) :
    exec (.zeroingDone barge stuck) s = State.run (.zeroingDone barge stuck) s (fun d => d.zeroingDone barge stuck) := rfl

theorem exec_ringStop (ring : Nat) (tm : Timing) (s : State) :
    exec (.ringStop ring tm) s = State.run (.ringStop ring tm) s (fun d => d.hostStart.hostPut (ringKey ring 3) 0 tm) := rfl

theorem exec_ringRun (ring : Nat) (tm : Timing) (s : State) :
    exec (.ringRun ring tm) s = State.run (.ringRun ring tm) s (fun d => d.hostStart.hostPut (ringKey ring 3) 1 tm) := rfl

theorem exec_ringReset (ring : Nat) (tm : Timing) (s : State) :
    exec (.ringReset ring tm) s = State.run (.ringReset ring tm) s (fun d => d.hostStart.hostPut (ringKey ring 3) 2 tm) := rfl

theorem exec_ringStopped (ring : Nat) (s : State) :
    exec (.ringStopped ring) s = State.run (.ringStopped ring) s (fun d => d.ringStopped ring) := rfl

theorem exec_chainFetch (ring : Nat) (strikes : List Strike) (s : State) :
    exec (.chainFetch ring strikes) s = State.run (.chainFetch ring strikes) s (fun d => d.chainFetch ring strikes) := rfl

theorem exec_chainComplete (ring : Nat) (s : State) :
    exec (.chainComplete ring) s = State.run (.chainComplete ring) s (fun d => d.chainComplete ring) := rfl

theorem exec_rxDescriptorWrite (ring : Nat) (s : State) :
    exec (.rxDescriptorWrite ring) s = State.run (.rxDescriptorWrite ring) s (fun d => d.rxWrite ring) := rfl

theorem exec_ringCoalTimeout (ring : Nat) (s : State) :
    exec (.ringCoalTimeout ring) s = State.run (.ringCoalTimeout ring) s (fun d => d.ringCoalTimeout ring) := rfl

theorem exec_frameReceived (port : Nat) (f : WireFrame) (s : State) :
    exec (.frameReceived port f) s = State.run (.frameReceived port f) s (fun d => d.rxFrame port f) := rfl

theorem exec_classifyFrame (s : State) :
    exec .classifyFrame s = State.run .classifyFrame s (fun d => d.clsAccept.classify (fun d f n => d.brgTake f n) (fun d f n => d.towPath f n)) := rfl

theorem exec_txSelect (port : Nat) (s : State) :
    exec (.txSelect port) s = State.run (.txSelect port) s (fun d => d.txSelect port) := rfl

theorem exec_frameTransmitted (port : Nat) (deferred : Bool) (strikes : List Strike) (sfdAgo : Nat) (s : State) :
    exec (.frameTransmitted port deferred strikes sfdAgo) s = State.run (.frameTransmitted port deferred strikes sfdAgo) s (fun d => d.txDone port deferred strikes sfdAgo) := rfl

theorem exec_pauseTimerExpiry (port : Nat) (s : State) :
    exec (.pauseTimerExpiry port) s = State.run (.pauseTimerExpiry port) s (fun d => d.pauseExpire port) := rfl

theorem exec_pauseRefresh (port : Nat) (s : State) :
    exec (.pauseRefresh port) s = State.run (.pauseRefresh port) s (fun d => d.pauseRefresh port) := rfl

theorem exec_pauseSend (port v : Nat) (tm : Timing) (s : State) :
    exec (.pauseSend port v tm) s = State.run (.pauseSend port v tm) s (fun d => d.hostStart.hostPut (macKey 0x3820 port 6) v tm) := rfl

theorem exec_pauseWdBreak (port : Nat) (s : State) :
    exec (.pauseWdBreak port) s = State.run (.pauseWdBreak port) s (fun d => d.pauseBreak port) := rfl

theorem exec_pauseStrikeReset (port : Nat) (s : State) :
    exec (.pauseStrikeReset port) s = State.run (.pauseStrikeReset port) s (fun d => d.strikeReset port) := rfl

theorem exec_pauseRearm (port v : Nat) (tm : Timing) (s : State) :
    exec (.pauseRearm port v tm) s = State.run (.pauseRearm port v tm) s (fun d => d.hostStart.hostPut (macKey 0x3820 port 0x0A) v tm) := rfl

theorem exec_tsoEnable (port : Nat) (tm : Timing) (s : State) :
    exec (.tsoEnable port tm) s = State.run (.tsoEnable port tm) s (fun d => d.hostStart.hostPut (macKey 0x3830 port 1) 1 tm) := rfl

theorem exec_tsoDisable (port : Nat) (tm : Timing) (s : State) :
    exec (.tsoDisable port tm) s = State.run (.tsoDisable port tm) s (fun d => d.hostStart.hostPut (macKey 0x3830 port 1) 0 tm) := rfl

theorem exec_wakeListen (port v : Nat) (tm : Timing) (s : State) :
    exec (.wakeListen port v tm) s = State.run (.wakeListen port v tm) s (fun d => d.hostStart.hostPut (macKey 0x3800 port 5) v tm) := rfl

theorem exec_pralineEnable (v : Nat) (tm : Timing) (s : State) :
    exec (.pralineEnable v tm) s = State.run (.pralineEnable v tm) s (fun d => d.hostStart.hostPut 0x385011 v tm) := rfl

theorem exec_portStop (port : Nat) (tm : Timing) (s : State) :
    exec (.portStop port tm) s = State.run (.portStop port tm) s (fun d => d.hostStart.hostPut (portRunKey port) 0 tm) := rfl

theorem exec_portStart (port : Nat) (tm : Timing) (s : State) :
    exec (.portStart port tm) s = State.run (.portStart port tm) s (fun d => d.hostStart.hostPut (portRunKey port) 1 tm) := rfl

theorem exec_mdioFrameDone (data : Nat) (s : State) :
    exec (.mdioFrameDone data) s = State.run (.mdioFrameDone data) s (fun d => d.mdioDone data) := rfl

theorem exec_mdioPoll (s : State) :
    exec .mdioPoll s = State.run .mdioPoll s (fun d => d.mdioPoll) := rfl

theorem exec_mdioC22Read (phy reg : Nat) (tm : Timing) (s : State) :
    exec (.mdioC22Read phy reg tm) s = State.run (.mdioC22Read phy reg tm) s (fun d => d.hostStart.hostPut 0x301005 (mdioWord 1 phy reg 0 0) tm) := rfl

theorem exec_mdioC22Write (phy reg data : Nat) (tm : Timing) (s : State) :
    exec (.mdioC22Write phy reg data tm) s = State.run (.mdioC22Write phy reg data tm) s (fun d => d.hostStart.hostPut 0x301005 (mdioWord 2 phy reg 0 data) tm) := rfl

theorem exec_mdioC45Read (phy dev reg : Nat) (tm : Timing) (s : State) :
    exec (.mdioC45Read phy dev reg tm) s = State.run (.mdioC45Read phy dev reg tm) s (fun d => d.hostStart.hostPut 0x301005 (mdioWord 3 phy dev reg 0) tm) := rfl

theorem exec_mdioC45Write (phy dev reg data : Nat) (tm : Timing) (s : State) :
    exec (.mdioC45Write phy dev reg data tm) s = State.run (.mdioC45Write phy dev reg data tm) s (fun d => d.hostStart.hostPut 0x301005 (mdioWord 4 phy dev reg data) tm) := rfl

theorem exec_govEnable (v : Nat) (tm : Timing) (s : State) :
    exec (.govEnable v tm) s = State.run (.govEnable v tm) s (fun d => d.hostStart.hostPut 0x302001 v tm) := rfl

theorem exec_govWindow (s : State) :
    exec .govWindow s = State.run .govWindow s (fun d => d.govWindow) := rfl

theorem exec_govStepDrained (s : State) :
    exec .govStepDrained s = State.run .govStepDrained s (fun d => d.govDrained) := rfl

theorem exec_govHoldLimitExpiry (s : State) :
    exec .govHoldLimitExpiry s = State.run .govHoldLimitExpiry s (fun d => d.govHoldLimit) := rfl

theorem exec_t1lLinkChange (up able24 req24 master : Bool) (far : Nat) (s : State) :
    exec (.t1lLinkChange up able24 req24 master far) s = State.run (.t1lLinkChange up able24 req24 master far) s (fun d => d.t1lLink up able24 req24 far master) := rfl

theorem exec_t1lSqiUpdate (sqi mse : Nat) (s : State) :
    exec (.t1lSqiUpdate sqi mse) s = State.run (.t1lSqiUpdate sqi mse) s (fun d => d.t1lSqi sqi mse) := rfl

theorem exec_plcaBeaconSend (port : Nat) (s : State) :
    exec (.plcaBeaconSend port) s = State.run (.plcaBeaconSend port) s (fun d => d.beaconSend port) := rfl

theorem exec_plcaBeaconReceived (port : Nat) (s : State) :
    exec (.plcaBeaconReceived port) s = State.run (.plcaBeaconReceived port) s (fun d => d.beaconRecv port) := rfl

theorem exec_plcaBeaconLoss (port : Nat) (s : State) :
    exec (.plcaBeaconLoss port) s = State.run (.plcaBeaconLoss port) s (fun d => d.beaconLoss port) := rfl

theorem exec_plcaIdConflict (port : Nat) (s : State) :
    exec (.plcaIdConflict port) s = State.run (.plcaIdConflict port) s (fun d => d.idConflict port) := rfl

theorem exec_plcaIdConflictClear (port : Nat) (s : State) :
    exec (.plcaIdConflictClear port) s = State.run (.plcaIdConflictClear port) s (fun d => d.idConflictClear port) := rfl

theorem exec_sgCarrierMeasure (port node : Nat) (o : Int) (s : State) :
    exec (.sgCarrierMeasure port node o) s = State.run (.sgCarrierMeasure port node o) s (fun d => d.sgMeasure port node o) := rfl

theorem exec_sgHoldExpiry (port : Nat) (s : State) :
    exec (.sgHoldExpiry port) s = State.run (.sgHoldExpiry port) s (fun d => d.sgHoldExpiry port) := rfl

theorem exec_sgYield (port : Nat) (into : Option Nat) (s : State) :
    exec (.sgYield port into) s = State.run (.sgYield port into) s (fun d => d.sgYield port into) := rfl

theorem exec_sgDriftExpiry (port node : Nat) (s : State) :
    exec (.sgDriftExpiry port node) s = State.run (.sgDriftExpiry port node) s (fun d => d.sgDriftExpiry port node) := rfl

theorem exec_segCollision (port : Nat) (late : Bool) (deferred : Bool) (s : State) :
    exec (.segCollision port late deferred) s = State.run (.segCollision port late deferred) s (fun d => d.collision port late deferred) := rfl

theorem exec_backoffExpiry (port : Nat) (s : State) :
    exec (.backoffExpiry port) s = State.run (.backoffExpiry port) s (fun d => d.backoffEnd port) := rfl

theorem exec_mergeRelease (grp : Nat) (strikes : List Strike) (s : State) :
    exec (.mergeRelease grp strikes) s = State.run (.mergeRelease grp strikes) s (fun d => d.mergeRelease grp strikes) := rfl

theorem exec_mergeWrite (grp : Nat) (s : State) :
    exec (.mergeWrite grp) s = State.run (.mergeWrite grp) s (fun d => d.mergeWrite grp) := rfl

theorem exec_mergeTimeout (grp : Nat) (s : State) :
    exec (.mergeTimeout grp) s = State.run (.mergeTimeout grp) s (fun d => d.mergeTimeout grp) := rfl

theorem exec_grpStart (grp : Nat) (tm : Timing) (s : State) :
    exec (.grpStart grp tm) s = State.run (.grpStart grp tm) s (fun d => d.hostStart.hostPut (grpKey grp 1) 1 tm) := rfl

theorem exec_grpStop (grp : Nat) (tm : Timing) (s : State) :
    exec (.grpStop grp tm) s = State.run (.grpStop grp tm) s (fun d => d.hostStart.hostPut (grpKey grp 1) 0 tm) := rfl

theorem exec_grpStopped (grp : Nat) (s : State) :
    exec (.grpStopped grp) s = State.run (.grpStopped grp) s (fun d => d.grpStopped grp) := rfl

theorem exec_clsCommit (tm : Timing) (s : State) :
    exec (.clsCommit tm) s = State.run (.clsCommit tm) s (fun d => d.hostStart.hostPut 0x400005 1 tm) := rfl

theorem exec_clsTransit (tm : Timing) (s : State) :
    exec (.clsTransit tm) s = State.run (.clsTransit tm) s (fun d => d.hostStart.hostPut 0x400005 2 tm) := rfl

theorem exec_clsTransitRelease (tm : Timing) (s : State) :
    exec (.clsTransitRelease tm) s = State.run (.clsTransitRelease tm) s (fun d => d.hostStart.hostPut 0x400005 3 tm) := rfl

theorem exec_clsEnd (tm : Timing) (s : State) :
    exec (.clsEnd tm) s = State.run (.clsEnd tm) s (fun d => d.hostStart.hostPut 0x400005 4 tm) := rfl

theorem exec_clsAbandon (tm : Timing) (s : State) :
    exec (.clsAbandon tm) s = State.run (.clsAbandon tm) s (fun d => d.hostStart.hostPut 0x400005 5 tm) := rfl

theorem exec_transitTimeout (s : State) :
    exec .transitTimeout s = State.run .transitTimeout s (fun d => d.transitTimeout) := rfl

theorem exec_generationCheckDone (n : Nat) (s : State) :
    exec (.generationCheckDone n) s = State.run (.generationCheckDone n) s (fun d => d.genCheckDone n) := rfl

theorem exec_canStart (ch : Nat) (tm : Timing) (s : State) :
    exec (.canStart ch tm) s = State.run (.canStart ch tm) s (fun d => d.hostStart.hostPut (canKey ch 1) 1 tm) := rfl

theorem exec_canStop (ch : Nat) (tm : Timing) (s : State) :
    exec (.canStop ch tm) s = State.run (.canStop ch tm) s (fun d => d.hostStart.hostPut (canKey ch 1) 0 tm) := rfl

theorem exec_canTxStart (ch : Nat) (strikes : List Strike) (s : State) :
    exec (.canTxStart ch strikes) s = State.run (.canTxStart ch strikes) s (fun d => d.canTxStart ch strikes (fun d k c => d.fetchFail k c)) := rfl

theorem exec_canTxEnd (ch : Nat) (e : CanEnd) (s : State) :
    exec (.canTxEnd ch e) s = State.run (.canTxEnd ch e) s (fun d => d.canTxEnd ch e (fun d k c => d.fetchFail k c)) := rfl

theorem exec_canRxFrame (ch : Nat) (f : CanFrame) (s : State) :
    exec (.canRxFrame ch f) s = State.run (.canRxFrame ch f) s (fun d => d.canRxFrame ch f) := rfl

theorem exec_canBusOff (ch : Nat) (s : State) :
    exec (.canBusOff ch) s = State.run (.canBusOff ch) s (fun d => d.canBusOff ch (fun d k c => d.fetchFail k c)) := rfl

theorem exec_canRecover (ch v : Nat) (tm : Timing) (s : State) :
    exec (.canRecover ch v tm) s = State.run (.canRecover ch v tm) s (fun d => d.hostStart.hostPut (canKey ch 14) v tm) := rfl

theorem exec_canBusOffRecovered (ch : Nat) (s : State) :
    exec (.canBusOffRecovered ch) s = State.run (.canBusOffRecovered ch) s (fun d => d.canRecovered ch) := rfl

theorem exec_canIntegrationEnd (ch : Nat) (s : State) :
    exec (.canIntegrationEnd ch) s = State.run (.canIntegrationEnd ch) s (fun d => d.canIntegrated ch) := rfl

theorem exec_canRxError (ch : Nat) (e : CanErr) (s : State) :
    exec (.canRxError ch e) s = State.run (.canRxError ch e) s (fun d => match e with | .mk kind plus8 => d.canRxError ch kind plus8) := rfl

theorem exec_bridgeInput (s : State) :
    exec .bridgeInput s = State.run .bridgeInput s (fun d => d.bridgeInput) := rfl

theorem exec_brgRun (v : Nat) (tm : Timing) (s : State) :
    exec (.brgRun v tm) s = State.run (.brgRun v tm) s (fun d => d.hostStart.hostPut 0x540001 v tm) := rfl

theorem exec_omPeriodExpiry (om : Nat) (s : State) :
    exec (.omPeriodExpiry om) s = State.run (.omPeriodExpiry om) s (fun d => d.omPeriod om) := rfl

theorem exec_omGapExpiry (om : Nat) (s : State) :
    exec (.omGapExpiry om) s = State.run (.omGapExpiry om) s (fun d => d.omGap om) := rfl

theorem exec_signalStale (sig : Nat) (s : State) :
    exec (.signalStale sig) s = State.run (.signalStale sig) s (fun d => d.sigStale sig) := rfl

theorem exec_brgCacheRead (sig : Nat) (tm : Timing) (s : State) :
    exec (.brgCacheRead sig tm) s = State.run (.brgCacheRead sig tm) s (fun d => d.hostStart.hostRead (cacheIdx sig) (cacheSub sig) 0 0 tm) := rfl

theorem exec_fetchTimeout (sig : Nat) (s : State) :
    exec (.fetchTimeout sig) s = State.run (.fetchTimeout sig) s (fun d => d.fetchTimeout sig) := rfl

theorem exec_reservationBackoffExpiry (n tag : Nat) (s : State) :
    exec (.reservationBackoffExpiry n tag) s = State.run (.reservationBackoffExpiry n tag) s (fun d => d.backoffExpiry n tag) := rfl

theorem exec_towStart (tm : Timing) (s : State) :
    exec (.towStart tm) s = State.run (.towStart tm) s (fun d => d.hostStart.hostPut 0x600001 1 tm) := rfl

theorem exec_towStop (tm : Timing) (s : State) :
    exec (.towStop tm) s = State.run (.towStop tm) s (fun d => d.hostStart.hostPut 0x600001 0 tm) := rfl

theorem exec_peerEnable (n v : Nat) (tm : Timing) (s : State) :
    exec (.peerEnable n v tm) s = State.run (.peerEnable n v tm) s (fun d => d.hostStart.hostPut (peerKey n 1) v tm) := rfl

theorem exec_helloTimer (n : Nat) (s : State) :
    exec (.helloTimer n) s = State.run (.helloTimer n) s (fun d => d.helloTimer n) := rfl

theorem exec_helloRx (s : State) :
    exec .helloRx s = State.run .helloRx s (fun d => d.helloRx) := rfl

theorem exec_towDataRx (s : State) :
    exec .towDataRx s = State.run .towDataRx s (fun d => d.dataRx) := rfl

theorem exec_towAckRx (s : State) :
    exec .towAckRx s = State.run .towAckRx s (fun d => d.ackRx) := rfl

theorem exec_towAckDelay (n : Nat) (s : State) :
    exec (.towAckDelay n) s = State.run (.towAckDelay n) s (fun d => d.ackDelay n) := rfl

theorem exec_towRetransmitTimeout (n : Nat) (s : State) :
    exec (.towRetransmitTimeout n) s = State.run (.towRetransmitTimeout n) s (fun d => d.rtoExpiry n) := rfl

theorem exec_towDeadTimeout (n : Nat) (s : State) :
    exec (.towDeadTimeout n) s = State.run (.towDeadTimeout n) s (fun d => d.deadTimeout n) := rfl

theorem exec_towKeepalive (n : Nat) (s : State) :
    exec (.towKeepalive n) s = State.run (.towKeepalive n) s (fun d => d.keepalive n) := rfl

theorem exec_towForwardFrame (s : State) :
    exec .towForwardFrame s = State.run .towForwardFrame s (fun d => d.forward) := rfl

theorem exec_opRead (lane : Nat) (strikes : List Strike) (s : State) :
    exec (.opRead lane strikes) s = State.run (.opRead lane strikes) s (fun d => d.laneRead lane 1 strikes) := rfl

theorem exec_opReadAcquire (lane : Nat) (strikes : List Strike) (s : State) :
    exec (.opReadAcquire lane strikes) s = State.run (.opReadAcquire lane strikes) s (fun d => d.laneRead lane 2 strikes) := rfl

theorem exec_opWrite (lane : Nat) (strikes : List Strike) (s : State) :
    exec (.opWrite lane strikes) s = State.run (.opWrite lane strikes) s (fun d => d.laneWrite lane strikes) := rfl

theorem exec_opWriteReserve (lane : Nat) (strikes : List Strike) (s : State) :
    exec (.opWriteReserve lane strikes) s = State.run (.opWriteReserve lane strikes) s (fun d => d.laneReserve lane strikes) := rfl

theorem exec_opFetchAdd (lane : Nat) (strikes : List Strike) (s : State) :
    exec (.opFetchAdd lane strikes) s = State.run (.opFetchAdd lane strikes) s (fun d => d.laneAtomic lane 5 strikes) := rfl

theorem exec_opSwap (lane : Nat) (strikes : List Strike) (s : State) :
    exec (.opSwap lane strikes) s = State.run (.opSwap lane strikes) s (fun d => d.laneAtomic lane 6 strikes) := rfl

theorem exec_opCas (lane : Nat) (strikes : List Strike) (s : State) :
    exec (.opCas lane strikes) s = State.run (.opCas lane strikes) s (fun d => d.laneAtomic lane 7 strikes) := rfl

theorem exec_opFrame (lane : Nat) (s : State) :
    exec (.opFrame lane) s = State.run (.opFrame lane) s (fun d => d.laneFrame lane) := rfl

theorem exec_opDictRead (lane : Nat) (s : State) :
    exec (.opDictRead lane) s = State.run (.opDictRead lane) s (fun d => d.laneDict lane 9) := rfl

theorem exec_opDictWrite (lane : Nat) (s : State) :
    exec (.opDictWrite lane) s = State.run (.opDictWrite lane) s (fun d => d.laneDict lane 10) := rfl

theorem exec_opResponse (lane : Nat) (s : State) :
    exec (.opResponse lane) s = State.run (.opResponse lane) s (fun d => d.laneResponse lane) := rfl

theorem exec_issueRead (f : IssueFields) (tm : Timing) (s : State) :
    exec (.issueRead f tm) s = State.run (.issueRead f tm) s (fun d => d.hostStart.hostIssue 1 f tm) := rfl

theorem exec_issueReadAcquire (f : IssueFields) (tm : Timing) (s : State) :
    exec (.issueReadAcquire f tm) s = State.run (.issueReadAcquire f tm) s (fun d => d.hostStart.hostIssue 2 f tm) := rfl

theorem exec_issueWrite (f : IssueFields) (tm : Timing) (s : State) :
    exec (.issueWrite f tm) s = State.run (.issueWrite f tm) s (fun d => d.hostStart.hostIssue 3 f tm) := rfl

theorem exec_issueWriteReserve (f : IssueFields) (tm : Timing) (s : State) :
    exec (.issueWriteReserve f tm) s = State.run (.issueWriteReserve f tm) s (fun d => d.hostStart.hostIssue 4 f tm) := rfl

theorem exec_issueFetchAdd (f : IssueFields) (tm : Timing) (s : State) :
    exec (.issueFetchAdd f tm) s = State.run (.issueFetchAdd f tm) s (fun d => d.hostStart.hostIssue 5 f tm) := rfl

theorem exec_issueSwap (f : IssueFields) (tm : Timing) (s : State) :
    exec (.issueSwap f tm) s = State.run (.issueSwap f tm) s (fun d => d.hostStart.hostIssue 6 f tm) := rfl

theorem exec_issueCas (f : IssueFields) (tm : Timing) (s : State) :
    exec (.issueCas f tm) s = State.run (.issueCas f tm) s (fun d => d.hostStart.hostIssue 7 f tm) := rfl

theorem exec_towSlotRelease (v : Nat) (tm : Timing) (s : State) :
    exec (.towSlotRelease v tm) s = State.run (.towSlotRelease v tm) s (fun d => d.hostStart.hostPut 0x606004 v tm) := rfl

theorem exec_towRsvRelease (v : Nat) (tm : Timing) (s : State) :
    exec (.towRsvRelease v tm) s = State.run (.towRsvRelease v tm) s (fun d => d.hostStart.hostPut 0x606005 v tm) := rfl

theorem exec_rsvHoldExpiry (win : Nat) (s : State) :
    exec (.rsvHoldExpiry win) s = State.run (.rsvHoldExpiry win) s (fun d => d.rsvExpiry win) := rfl

theorem exec_winEnable (win : Nat) (tm : Timing) (s : State) :
    exec (.winEnable win tm) s = State.run (.winEnable win tm) s (fun d => d.hostStart.hostPut (winKey win 1) 1 tm) := rfl

theorem exec_winDisable (win : Nat) (tm : Timing) (s : State) :
    exec (.winDisable win tm) s = State.run (.winDisable win tm) s (fun d => d.hostStart.hostPut (winKey win 1) 0 tm) := rfl

theorem exec_sluTick (s : State) :
    exec .sluTick s = State.run .sluTick s (fun d => d.sluTick) := rfl

theorem exec_pwmPeriodStart (out : Nat) (s : State) :
    exec (.pwmPeriodStart out) s = State.run (.pwmPeriodStart out) s (fun d => d.pwmPeriod out) := rfl

theorem exec_sluOutEnable (out v : Nat) (tm : Timing) (s : State) :
    exec (.sluOutEnable out v tm) s = State.run (.sluOutEnable out v tm) s (fun d => d.hostStart.hostPut (sluKey out 1) v tm) := rfl

theorem exec_sluArm (v : Nat) (tm : Timing) (s : State) :
    exec (.sluArm v tm) s = State.run (.sluArm v tm) s (fun d => d.hostStart.hostPut 0x680003 v tm) := rfl

theorem exec_sluStop (v : Nat) (tm : Timing) (s : State) :
    exec (.sluStop v tm) s = State.run (.sluStop v tm) s (fun d => d.hostStart.hostPut 0x680004 v tm) := rfl

theorem exec_sluHeartbeat (v : Nat) (tm : Timing) (s : State) :
    exec (.sluHeartbeat v tm) s = State.run (.sluHeartbeat v tm) s (fun d => d.hostStart.hostPut 0x680002 v tm) := rfl

theorem exec_sluHbTimeout (out : Nat) (s : State) :
    exec (.sluHbTimeout out) s = State.run (.sluHbTimeout out) s (fun d => d.sluHbTimeout out) := rfl

theorem exec_sluHoldElapsed (out : Nat) (s : State) :
    exec (.sluHoldElapsed out) s = State.run (.sluHoldElapsed out) s (fun d => d.sluHoldElapsed out) := rfl

theorem exec_sluCoastEnd (out : Nat) (s : State) :
    exec (.sluCoastEnd out) s = State.run (.sluCoastEnd out) s (fun d => d.sluCoastEnd out) := rfl

theorem exec_safeNAssert (us : Nat) (s : State) :
    exec (.safeNAssert us) s = State.run (.safeNAssert us) s (fun d => d.safeAssert us) := rfl

theorem exec_safeNRelease (us : Nat) (s : State) :
    exec (.safeNRelease us) s = State.run (.safeNRelease us) s (fun d => d.safeRelease us) := rfl

theorem exec_tachoEdge (t dt : Nat) (s : State) :
    exec (.tachoEdge t dt) s = State.run (.tachoEdge t dt) s (fun d => (d.tick dt).tachoEdge t) := rfl

theorem exec_tachoWindow (t : Nat) (s : State) :
    exec (.tachoWindow t) s = State.run (.tachoWindow t) s (fun d => d.tachoWindow t) := rfl

theorem exec_timeSet (v : Nat) (tm : Timing) (s : State) :
    exec (.timeSet v tm) s = State.run (.timeSet v tm) s (fun d => d.hostStart.hostPut 0x700002 v tm) := rfl

theorem exec_timeAdjust (ns : Int) (tm : Timing) (s : State) :
    exec (.timeAdjust ns tm) s = State.run (.timeAdjust ns tm) s (fun d => d.hostStart.hostPut 0x700003 (ofSigned 64 ns) tm) := rfl

theorem exec_chCompareFire (ch : Nat) (s : State) :
    exec (.chCompareFire ch) s = State.run (.chCompareFire ch) s (fun d => d.chCompare ch) := rfl

theorem exec_chPulseEnd (ch : Nat) (s : State) :
    exec (.chPulseEnd ch) s = State.run (.chPulseEnd ch) s (fun d => d.chPulseEnd ch) := rfl

theorem exec_ppsPulse (s : State) :
    exec .ppsPulse s = State.run .ppsPulse s (fun d => d.pps) := rfl

theorem exec_chCapture (ch : Nat) (ppsIn rising : Bool) (dt : Nat) (s : State) :
    exec (.chCapture ch ppsIn rising dt) s = State.run (.chCapture ch ppsIn rising dt) s (fun d => (d.tick dt).chCapture ch ppsIn rising) := rfl

theorem exec_chAck (ch v : Nat) (tm : Timing) (s : State) :
    exec (.chAck ch v tm) s = State.run (.chAck ch v tm) s (fun d => d.hostStart.hostPut (chKey ch 8) v tm) := rfl

theorem exec_chConfigWrite (ch : Nat) (ctrl : Bool) (v : Nat) (tm : Timing) (s : State) :
    exec (.chConfigWrite ch ctrl v tm) s = State.run (.chConfigWrite ch ctrl v tm) s (fun d => d.hostStart.hostPut (chKey ch (if ctrl then 2 else 1)) v tm) := rfl

theorem exec_tallyBoundary (s : State) :
    exec .tallyBoundary s = State.run .tallyBoundary s (fun d => d.tallyPeriod) := rfl

theorem exec_tallyTrigger (v : Nat) (tm : Timing) (s : State) :
    exec (.tallyTrigger v tm) s = State.run (.tallyTrigger v tm) s (fun d => d.hostStart.hostPut 0x740003 v tm) := rfl

theorem exec_tallyModeWrite (period : Bool) (v : Nat) (tm : Timing) (s : State) :
    exec (.tallyModeWrite period v tm) s = State.run (.tallyModeWrite period v tm) s (fun d => d.hostStart.hostPut (if period then 0x740002 else 0x740001) v tm) := rfl

theorem exec_intClaim (target : Nat) (tm : Timing) (s : State) :
    exec (.intClaim target tm) s = State.run (.intClaim target tm) s (fun d => d.hostStart.hostRead (0x7810 + target) 3 0 0 tm) := rfl

theorem exec_srcStateWrite (src v : Nat) (tm : Timing) (s : State) :
    exec (.srcStateWrite src v tm) s = State.run (.srcStateWrite src v tm) s (fun d => d.hostStart.hostPut (srcStateKey src) v tm) := rfl

theorem exec_intPendingWrite (v : Nat) (tm : Timing) (s : State) :
    exec (.intPendingWrite v tm) s = State.run (.intPendingWrite v tm) s (fun d => d.hostStart.hostPut 0x780003 v tm) := rfl

theorem exec_intFaultClear (target v : Nat) (tm : Timing) (s : State) :
    exec (.intFaultClear target v tm) s = State.run (.intFaultClear target v tm) s (fun d => d.hostStart.hostPut (tgtKey target 7) v tm) := rfl

theorem exec_faultLogWrite (s : State) :
    exec .faultLogWrite s = State.run .faultLogWrite s (fun d => d.flWrite) := rfl

theorem exec_flAckSeq (v : Nat) (tm : Timing) (s : State) :
    exec (.flAckSeq v tm) s = State.run (.flAckSeq v tm) s (fun d => d.hostStart.hostPut 0x7C0003 v tm) := rfl

theorem exec_flClear (v : Nat) (tm : Timing) (s : State) :
    exec (.flClear v tm) s = State.run (.flClear v tm) s (fun d => d.hostStart.hostPut 0x7C0007 v tm) := rfl

/-- Every command runs an effect on the device. -/
theorem exec_run (c : Instr) : ∃ f : Dev → Dev, ∀ s, exec c s = State.run c s f := by
  cases c
  case pllLockLoss => exact ⟨_, exec_pllLockLoss⟩
  case crystalStop => exact ⟨_, exec_crystalStop⟩
  case crystalRestart => exact ⟨_, exec_crystalRestart⟩
  case dictRead idx sub off len tm => exact ⟨_, exec_dictRead idx sub off len tm⟩
  case dictWrite idx sub ty off data tm => exact ⟨_, exec_dictWrite idx sub ty off data tm⟩
  case domainSegment img off data tm => exact ⟨_, exec_domainSegment img off data tm⟩
  case imageCheckDone img => exact ⟨_, exec_imageCheckDone img⟩
  case domainTransferTimeout img => exact ⟨_, exec_domainTransferTimeout img⟩
  case queryAddr v tm => exact ⟨_, exec_queryAddr v tm⟩
  case memRead addr len strikes left tm => exact ⟨_, exec_memRead addr len strikes left tm⟩
  case memWrite addr data strikes => exact ⟨_, exec_memWrite addr data strikes⟩
  case memReadAcquire addr len strikes left tm => exact ⟨_, exec_memReadAcquire addr len strikes left tm⟩
  case statusPoll => exact ⟨_, exec_statusPoll⟩
  case doorbell ring index => exact ⟨_, exec_doorbell ring index⟩
  case intComplete target source => exact ⟨_, exec_intComplete target source⟩
  case dictReadRemote peer idx sub off len => exact ⟨_, exec_dictReadRemote peer idx sub off len⟩
  case dictWriteRemote peer idx sub ty off data => exact ⟨_, exec_dictWriteRemote peer idx sub ty off data⟩
  case reissue cmd tag => exact ⟨_, exec_reissue cmd tag⟩
  case slotReadyExpiry slot => exact ⟨_, exec_slotReadyExpiry slot⟩
  case slotPendingTimeout slot => exact ⟨_, exec_slotPendingTimeout slot⟩
  case csEarlyRise => exact ⟨_, exec_csEarlyRise⟩
  case unknownCommand code => exact ⟨_, exec_unknownCommand code⟩
  case hostLinkReset v tm => exact ⟨_, exec_hostLinkReset v tm⟩
  case jobStart slot tm => exact ⟨_, exec_jobStart slot tm⟩
  case jobSuspend slot tm => exact ⟨_, exec_jobSuspend slot tm⟩
  case jobResume slot tm => exact ⟨_, exec_jobResume slot tm⟩
  case jobCancel slot tm => exact ⟨_, exec_jobCancel slot tm⟩
  case jobSuspendPoint slot => exact ⟨_, exec_jobSuspendPoint slot⟩
  case jobCancelDone slot => exact ⟨_, exec_jobCancelDone slot⟩
  case poundScrubBarge slot strikes => exact ⟨_, exec_poundScrubBarge slot strikes⟩
  case bankTestPass slot bad => exact ⟨_, exec_bankTestPass slot bad⟩
  case tableLoadDone slot readOk => exact ⟨_, exec_tableLoadDone slot readOk⟩
  case cableDiagPhase slot echo => exact ⟨_, exec_cableDiagPhase slot echo⟩
  case powerOnReset => exact ⟨_, exec_powerOnReset⟩
  case porEnd => exact ⟨_, exec_porEnd⟩
  case oscStable => exact ⟨_, exec_oscStable⟩
  case aonTrimsDone mainInRange vbakOk => exact ⟨_, exec_aonTrimsDone mainInRange vbakOk⟩
  case supplyDown vbakOk => exact ⟨_, exec_supplyDown vbakOk⟩
  case downToBackup us mainInRange => exact ⟨_, exec_downToBackup us mainInRange⟩
  case mainReturn => exact ⟨_, exec_mainReturn⟩
  case qualifyExpiry => exact ⟨_, exec_qualifyExpiry⟩
  case supplyBounce dt => exact ⟨_, exec_supplyBounce dt⟩
  case stretchEnd => exact ⟨_, exec_stretchEnd⟩
  case brownOut coreRail => exact ⟨_, exec_brownOut coreRail⟩
  case brownoutLowBackup => exact ⟨_, exec_brownoutLowBackup⟩
  case lockoutEnd => exact ⟨_, exec_lockoutEnd⟩
  case energySample vinCode vbakCode vbakOk vio => exact ⟨_, exec_energySample vinCode vbakCode vbakOk vio⟩
  case podlClassify ohms asked => exact ⟨_, exec_podlClassify ohms asked⟩
  case podlPowerOn => exact ⟨_, exec_podlPowerOn⟩
  case podlTurnOff => exact ⟨_, exec_podlTurnOff⟩
  case domReq dom v tm => exact ⟨_, exec_domReq dom v tm⟩
  case domainSelect => exact ⟨_, exec_domainSelect⟩
  case domainDrainDone => exact ⟨_, exec_domainDrainDone⟩
  case domainPowerFail => exact ⟨_, exec_domainPowerFail⟩
  case domainTransitionEnd badImages => exact ⟨_, exec_domainTransitionEnd badImages⟩
  case ownerScanDone bank => exact ⟨_, exec_ownerScanDone bank⟩
  case wakeEdge latch => exact ⟨_, exec_wakeEdge latch⟩
  case wakeClear v tm => exact ⟨_, exec_wakeClear v tm⟩
  case tempSample celsius => exact ⟨_, exec_tempSample celsius⟩
  case retentionRefresh bank => exact ⟨_, exec_retentionRefresh bank⟩
  case bankRefresh bank => exact ⟨_, exec_bankRefresh bank⟩
  case pllLocked => exact ⟨_, exec_pllLocked⟩
  case pllLockTimeout => exact ⟨_, exec_pllLockTimeout⟩
  case nvLoadDone found => exact ⟨_, exec_nvLoadDone found⟩
  case resetNAssert held => exact ⟨_, exec_resetNAssert held⟩
  case resetNRelease => exact ⟨_, exec_resetNRelease⟩
  case softReset v tm => exact ⟨_, exec_softReset v tm⟩
  case domReset n tm => exact ⟨_, exec_domReset n tm⟩
  case journalChunkWritten => exact ⟨_, exec_journalChunkWritten⟩
  case journalCheckWritten => exact ⟨_, exec_journalCheckWritten⟩
  case journalCommitMark pass => exact ⟨_, exec_journalCommitMark pass⟩
  case homeChunkWritten pass => exact ⟨_, exec_homeChunkWritten pass⟩
  case sectorErased => exact ⟨_, exec_sectorErased⟩
  case commitWordVoid => exact ⟨_, exec_commitWordVoid⟩
  case poundEnable p tm => exact ⟨_, exec_poundEnable p tm⟩
  case poundEnabled p stuck => exact ⟨_, exec_poundEnabled p stuck⟩
  case poundDisable p tm => exact ⟨_, exec_poundDisable p tm⟩
  case allocReq v tm => exact ⟨_, exec_allocReq v tm⟩
  case freeReq v tm => exact ⟨_, exec_freeReq v tm⟩
  case bargeQuery v tm => exact ⟨_, exec_bargeQuery v tm⟩
  case lockCycleClose bank => exact ⟨_, exec_lockCycleClose bank⟩
  case lockCycleOpen bank strikes => exact ⟨_, exec_lockCycleOpen bank strikes⟩
  case zeroingDone barge stuck => exact ⟨_, exec_zeroingDone barge stuck⟩
  case ringStop ring tm => exact ⟨_, exec_ringStop ring tm⟩
  case ringRun ring tm => exact ⟨_, exec_ringRun ring tm⟩
  case ringReset ring tm => exact ⟨_, exec_ringReset ring tm⟩
  case ringStopped ring => exact ⟨_, exec_ringStopped ring⟩
  case chainFetch ring strikes => exact ⟨_, exec_chainFetch ring strikes⟩
  case chainComplete ring => exact ⟨_, exec_chainComplete ring⟩
  case rxDescriptorWrite ring => exact ⟨_, exec_rxDescriptorWrite ring⟩
  case ringCoalTimeout ring => exact ⟨_, exec_ringCoalTimeout ring⟩
  case frameReceived port f => exact ⟨_, exec_frameReceived port f⟩
  case classifyFrame => exact ⟨_, exec_classifyFrame⟩
  case txSelect port => exact ⟨_, exec_txSelect port⟩
  case frameTransmitted port deferred strikes sfdAgo => exact ⟨_, exec_frameTransmitted port deferred strikes sfdAgo⟩
  case pauseTimerExpiry port => exact ⟨_, exec_pauseTimerExpiry port⟩
  case pauseRefresh port => exact ⟨_, exec_pauseRefresh port⟩
  case pauseSend port v tm => exact ⟨_, exec_pauseSend port v tm⟩
  case pauseWdBreak port => exact ⟨_, exec_pauseWdBreak port⟩
  case pauseStrikeReset port => exact ⟨_, exec_pauseStrikeReset port⟩
  case pauseRearm port v tm => exact ⟨_, exec_pauseRearm port v tm⟩
  case tsoEnable port tm => exact ⟨_, exec_tsoEnable port tm⟩
  case tsoDisable port tm => exact ⟨_, exec_tsoDisable port tm⟩
  case wakeListen port v tm => exact ⟨_, exec_wakeListen port v tm⟩
  case pralineEnable v tm => exact ⟨_, exec_pralineEnable v tm⟩
  case portStop port tm => exact ⟨_, exec_portStop port tm⟩
  case portStart port tm => exact ⟨_, exec_portStart port tm⟩
  case mdioFrameDone data => exact ⟨_, exec_mdioFrameDone data⟩
  case mdioPoll => exact ⟨_, exec_mdioPoll⟩
  case mdioC22Read phy reg tm => exact ⟨_, exec_mdioC22Read phy reg tm⟩
  case mdioC22Write phy reg data tm => exact ⟨_, exec_mdioC22Write phy reg data tm⟩
  case mdioC45Read phy dev reg tm => exact ⟨_, exec_mdioC45Read phy dev reg tm⟩
  case mdioC45Write phy dev reg data tm => exact ⟨_, exec_mdioC45Write phy dev reg data tm⟩
  case govEnable v tm => exact ⟨_, exec_govEnable v tm⟩
  case govWindow => exact ⟨_, exec_govWindow⟩
  case govStepDrained => exact ⟨_, exec_govStepDrained⟩
  case govHoldLimitExpiry => exact ⟨_, exec_govHoldLimitExpiry⟩
  case t1lLinkChange up able24 req24 master far => exact ⟨_, exec_t1lLinkChange up able24 req24 master far⟩
  case t1lSqiUpdate sqi mse => exact ⟨_, exec_t1lSqiUpdate sqi mse⟩
  case plcaBeaconSend port => exact ⟨_, exec_plcaBeaconSend port⟩
  case plcaBeaconReceived port => exact ⟨_, exec_plcaBeaconReceived port⟩
  case plcaBeaconLoss port => exact ⟨_, exec_plcaBeaconLoss port⟩
  case plcaIdConflict port => exact ⟨_, exec_plcaIdConflict port⟩
  case plcaIdConflictClear port => exact ⟨_, exec_plcaIdConflictClear port⟩
  case sgCarrierMeasure port node o => exact ⟨_, exec_sgCarrierMeasure port node o⟩
  case sgHoldExpiry port => exact ⟨_, exec_sgHoldExpiry port⟩
  case sgYield port into => exact ⟨_, exec_sgYield port into⟩
  case sgDriftExpiry port node => exact ⟨_, exec_sgDriftExpiry port node⟩
  case segCollision port late deferred => exact ⟨_, exec_segCollision port late deferred⟩
  case backoffExpiry port => exact ⟨_, exec_backoffExpiry port⟩
  case mergeRelease grp strikes => exact ⟨_, exec_mergeRelease grp strikes⟩
  case mergeWrite grp => exact ⟨_, exec_mergeWrite grp⟩
  case mergeTimeout grp => exact ⟨_, exec_mergeTimeout grp⟩
  case grpStart grp tm => exact ⟨_, exec_grpStart grp tm⟩
  case grpStop grp tm => exact ⟨_, exec_grpStop grp tm⟩
  case grpStopped grp => exact ⟨_, exec_grpStopped grp⟩
  case clsCommit tm => exact ⟨_, exec_clsCommit tm⟩
  case clsTransit tm => exact ⟨_, exec_clsTransit tm⟩
  case clsTransitRelease tm => exact ⟨_, exec_clsTransitRelease tm⟩
  case clsEnd tm => exact ⟨_, exec_clsEnd tm⟩
  case clsAbandon tm => exact ⟨_, exec_clsAbandon tm⟩
  case transitTimeout => exact ⟨_, exec_transitTimeout⟩
  case canStart ch tm => exact ⟨_, exec_canStart ch tm⟩
  case canStop ch tm => exact ⟨_, exec_canStop ch tm⟩
  case canTxStart ch strikes => exact ⟨_, exec_canTxStart ch strikes⟩
  case canTxEnd ch e => exact ⟨_, exec_canTxEnd ch e⟩
  case canRxFrame ch f => exact ⟨_, exec_canRxFrame ch f⟩
  case canBusOff ch => exact ⟨_, exec_canBusOff ch⟩
  case canRecover ch v tm => exact ⟨_, exec_canRecover ch v tm⟩
  case canBusOffRecovered ch => exact ⟨_, exec_canBusOffRecovered ch⟩
  case bridgeInput => exact ⟨_, exec_bridgeInput⟩
  case brgRun v tm => exact ⟨_, exec_brgRun v tm⟩
  case omPeriodExpiry om => exact ⟨_, exec_omPeriodExpiry om⟩
  case omGapExpiry om => exact ⟨_, exec_omGapExpiry om⟩
  case signalStale sig => exact ⟨_, exec_signalStale sig⟩
  case brgCacheRead sig tm => exact ⟨_, exec_brgCacheRead sig tm⟩
  case fetchTimeout sig => exact ⟨_, exec_fetchTimeout sig⟩
  case reservationBackoffExpiry n tag => exact ⟨_, exec_reservationBackoffExpiry n tag⟩
  case towStart tm => exact ⟨_, exec_towStart tm⟩
  case towStop tm => exact ⟨_, exec_towStop tm⟩
  case peerEnable n v tm => exact ⟨_, exec_peerEnable n v tm⟩
  case helloTimer n => exact ⟨_, exec_helloTimer n⟩
  case helloRx => exact ⟨_, exec_helloRx⟩
  case towDataRx => exact ⟨_, exec_towDataRx⟩
  case towAckRx => exact ⟨_, exec_towAckRx⟩
  case towAckDelay n => exact ⟨_, exec_towAckDelay n⟩
  case towRetransmitTimeout n => exact ⟨_, exec_towRetransmitTimeout n⟩
  case towDeadTimeout n => exact ⟨_, exec_towDeadTimeout n⟩
  case towKeepalive n => exact ⟨_, exec_towKeepalive n⟩
  case towForwardFrame => exact ⟨_, exec_towForwardFrame⟩
  case opRead lane strikes => exact ⟨_, exec_opRead lane strikes⟩
  case opReadAcquire lane strikes => exact ⟨_, exec_opReadAcquire lane strikes⟩
  case opWrite lane strikes => exact ⟨_, exec_opWrite lane strikes⟩
  case opWriteReserve lane strikes => exact ⟨_, exec_opWriteReserve lane strikes⟩
  case opFetchAdd lane strikes => exact ⟨_, exec_opFetchAdd lane strikes⟩
  case opSwap lane strikes => exact ⟨_, exec_opSwap lane strikes⟩
  case opCas lane strikes => exact ⟨_, exec_opCas lane strikes⟩
  case opFrame lane => exact ⟨_, exec_opFrame lane⟩
  case opDictRead lane => exact ⟨_, exec_opDictRead lane⟩
  case opDictWrite lane => exact ⟨_, exec_opDictWrite lane⟩
  case opResponse lane => exact ⟨_, exec_opResponse lane⟩
  case issueRead f tm => exact ⟨_, exec_issueRead f tm⟩
  case issueReadAcquire f tm => exact ⟨_, exec_issueReadAcquire f tm⟩
  case issueWrite f tm => exact ⟨_, exec_issueWrite f tm⟩
  case issueWriteReserve f tm => exact ⟨_, exec_issueWriteReserve f tm⟩
  case issueFetchAdd f tm => exact ⟨_, exec_issueFetchAdd f tm⟩
  case issueSwap f tm => exact ⟨_, exec_issueSwap f tm⟩
  case issueCas f tm => exact ⟨_, exec_issueCas f tm⟩
  case towSlotRelease v tm => exact ⟨_, exec_towSlotRelease v tm⟩
  case towRsvRelease v tm => exact ⟨_, exec_towRsvRelease v tm⟩
  case rsvHoldExpiry win => exact ⟨_, exec_rsvHoldExpiry win⟩
  case winEnable win tm => exact ⟨_, exec_winEnable win tm⟩
  case winDisable win tm => exact ⟨_, exec_winDisable win tm⟩
  case sluTick => exact ⟨_, exec_sluTick⟩
  case pwmPeriodStart out => exact ⟨_, exec_pwmPeriodStart out⟩
  case sluOutEnable out v tm => exact ⟨_, exec_sluOutEnable out v tm⟩
  case sluArm v tm => exact ⟨_, exec_sluArm v tm⟩
  case sluStop v tm => exact ⟨_, exec_sluStop v tm⟩
  case sluHeartbeat v tm => exact ⟨_, exec_sluHeartbeat v tm⟩
  case sluHbTimeout out => exact ⟨_, exec_sluHbTimeout out⟩
  case sluHoldElapsed out => exact ⟨_, exec_sluHoldElapsed out⟩
  case sluCoastEnd out => exact ⟨_, exec_sluCoastEnd out⟩
  case safeNAssert us => exact ⟨_, exec_safeNAssert us⟩
  case safeNRelease us => exact ⟨_, exec_safeNRelease us⟩
  case tachoEdge t dt => exact ⟨_, exec_tachoEdge t dt⟩
  case tachoWindow t => exact ⟨_, exec_tachoWindow t⟩
  case timeSet v tm => exact ⟨_, exec_timeSet v tm⟩
  case timeAdjust ns tm => exact ⟨_, exec_timeAdjust ns tm⟩
  case chCompareFire ch => exact ⟨_, exec_chCompareFire ch⟩
  case chPulseEnd ch => exact ⟨_, exec_chPulseEnd ch⟩
  case ppsPulse => exact ⟨_, exec_ppsPulse⟩
  case chCapture ch ppsIn rising dt => exact ⟨_, exec_chCapture ch ppsIn rising dt⟩
  case chAck ch v tm => exact ⟨_, exec_chAck ch v tm⟩
  case chConfigWrite ch ctrl v tm => exact ⟨_, exec_chConfigWrite ch ctrl v tm⟩
  case tallyBoundary => exact ⟨_, exec_tallyBoundary⟩
  case tallyTrigger v tm => exact ⟨_, exec_tallyTrigger v tm⟩
  case tallyModeWrite period v tm => exact ⟨_, exec_tallyModeWrite period v tm⟩
  case intClaim target tm => exact ⟨_, exec_intClaim target tm⟩
  case srcStateWrite src v tm => exact ⟨_, exec_srcStateWrite src v tm⟩
  case intPendingWrite v tm => exact ⟨_, exec_intPendingWrite v tm⟩
  case intFaultClear target v tm => exact ⟨_, exec_intFaultClear target v tm⟩
  case faultLogWrite => exact ⟨_, exec_faultLogWrite⟩
  case flAckSeq v tm => exact ⟨_, exec_flAckSeq v tm⟩
  case flClear v tm => exact ⟨_, exec_flClear v tm⟩
  case monitorChangeOscStart vbak => exact ⟨_, exec_monitorChangeOscStart vbak⟩
  case podlInrushRampEnd => exact ⟨_, exec_podlInrushRampEnd⟩
  case canIntegrationEnd ch => exact ⟨_, exec_canIntegrationEnd ch⟩
  case canRxError ch e => exact ⟨_, exec_canRxError ch e⟩
  case generationCheckDone n => exact ⟨_, exec_generationCheckDone n⟩

/-- A command of the device answers the device its effect leaves, after what follows. -/
theorem State.run_wf {c : Instr} (s : State) (f : Dev → Dev) (h : c.wf = true) : State.run c s f = .next (s.after (f s.dev)) := by
  simp [State.run, h, State.after]

/-- What a run that answers a next state answers. -/
theorem State.run_next {c : Instr} {s t : State} {f : Dev → Dev} (h : State.run c s f = .next t) :
    t.pending = s.pending ∧ t.dev = (f s.dev).settle := by
  unfold State.run at h
  split at h
  · injection h with h
    simp only [← h, and_self]
  · exact absurd h (by simp)

end Sys2Proof.Machine
end

