-- ==== Sys2Proof/Laws/State.lean ====
section
/-!
SUPPORT. What each update of the device leaves of each field: by rfl, so that no proof unfolds a record update.
-/
namespace Sys2Proof.Machine

/-! ### wr -/

@[simp] theorem Dev.wr_images (d : Dev) (k v : Nat) : (d.wr k v).images = d.images := rfl
@[simp] theorem Dev.wr_jobs (d : Dev) (k v : Nat) : (d.wr k v).jobs = d.jobs := rfl
@[simp] theorem Dev.wr_ck (d : Dev) (k v : Nat) : (d.wr k v).ck = d.ck := rfl
@[simp] theorem Dev.wr_rng (d : Dev) (k v : Nat) : (d.wr k v).rng = d.rng := rfl
@[simp] theorem Dev.wr_opens (d : Dev) (k v : Nat) : (d.wr k v).opens = d.opens := rfl
@[simp] theorem Dev.wr_aon (d : Dev) (k v : Nat) : (d.wr k v).aon = d.aon := rfl
@[simp] theorem Dev.wr_sup (d : Dev) (k v : Nat) : (d.wr k v).sup = d.sup := rfl
@[simp] theorem Dev.wr_intc (d : Dev) (k v : Nat) : (d.wr k v).intc = d.intc := rfl
@[simp] theorem Dev.wr_fl (d : Dev) (k v : Nat) : (d.wr k v).fl = d.fl := rfl
@[simp] theorem Dev.wr_claims (d : Dev) (k v : Nat) : (d.wr k v).claims = d.claims := rfl
@[simp] theorem Dev.wr_nv (d : Dev) (k v : Nat) : (d.wr k v).nv = d.nv := rfl
@[simp] theorem Dev.wr_pm (d : Dev) (k v : Nat) : (d.wr k v).pm = d.pm := rfl
@[simp] theorem Dev.wr_rings (d : Dev) (k v : Nat) : (d.wr k v).rings = d.rings := rfl
@[simp] theorem Dev.wr_tm (d : Dev) (k v : Nat) : (d.wr k v).tm = d.tm := rfl
@[simp] theorem Dev.wr_macs (d : Dev) (k v : Nat) : (d.wr k v).macs = d.macs := rfl
@[simp] theorem Dev.wr_mdio (d : Dev) (k v : Nat) : (d.wr k v).mdio = d.mdio := rfl
@[simp] theorem Dev.wr_gov (d : Dev) (k v : Nat) : (d.wr k v).gov = d.gov := rfl
@[simp] theorem Dev.wr_segs (d : Dev) (k v : Nat) : (d.wr k v).segs = d.segs := rfl
@[simp] theorem Dev.wr_cls (d : Dev) (k v : Nat) : (d.wr k v).cls = d.cls := rfl
@[simp] theorem Dev.wr_cans (d : Dev) (k v : Nat) : (d.wr k v).cans = d.cans := rfl
@[simp] theorem Dev.wr_brg (d : Dev) (k v : Nat) : (d.wr k v).brg = d.brg := rfl
@[simp] theorem Dev.wr_tow (d : Dev) (k v : Nat) : (d.wr k v).tow = d.tow := rfl
@[simp] theorem Dev.wr_slu (d : Dev) (k v : Nat) : (d.wr k v).slu = d.slu := rfl
@[simp] theorem Dev.wr_link (d : Dev) (k v : Nat) : (d.wr k v).link = d.link := rfl
@[simp] theorem Dev.wr_on (d : Dev) (k v : Nat) (x : Nat) : (d.wr k v).on x = d.on x := rfl

/-! ### setImg -/

@[simp] theorem Dev.setImg_images (d : Dev) (n : Nat) (f : Img → Img) : (d.setImg n f).images = updAt d.images n f := rfl
@[simp] theorem Dev.setImg_jobs (d : Dev) (n : Nat) (f : Img → Img) : (d.setImg n f).jobs = d.jobs := rfl
@[simp] theorem Dev.setImg_ck (d : Dev) (n : Nat) (f : Img → Img) : (d.setImg n f).ck = d.ck := rfl
@[simp] theorem Dev.setImg_rng (d : Dev) (n : Nat) (f : Img → Img) : (d.setImg n f).rng = d.rng := rfl
@[simp] theorem Dev.setImg_opens (d : Dev) (n : Nat) (f : Img → Img) : (d.setImg n f).opens = d.opens := rfl
@[simp] theorem Dev.setImg_store (d : Dev) (n : Nat) (f : Img → Img) : (d.setImg n f).store = d.store := rfl
@[simp] theorem Dev.setImg_aon (d : Dev) (n : Nat) (f : Img → Img) : (d.setImg n f).aon = d.aon := rfl
@[simp] theorem Dev.setImg_sup (d : Dev) (n : Nat) (f : Img → Img) : (d.setImg n f).sup = d.sup := rfl
@[simp] theorem Dev.setImg_intc (d : Dev) (n : Nat) (f : Img → Img) : (d.setImg n f).intc = d.intc := rfl
@[simp] theorem Dev.setImg_fl (d : Dev) (n : Nat) (f : Img → Img) : (d.setImg n f).fl = d.fl := rfl
@[simp] theorem Dev.setImg_claims (d : Dev) (n : Nat) (f : Img → Img) : (d.setImg n f).claims = d.claims := rfl
@[simp] theorem Dev.setImg_nv (d : Dev) (n : Nat) (f : Img → Img) : (d.setImg n f).nv = d.nv := rfl
@[simp] theorem Dev.setImg_pm (d : Dev) (n : Nat) (f : Img → Img) : (d.setImg n f).pm = d.pm := rfl
@[simp] theorem Dev.setImg_rings (d : Dev) (n : Nat) (f : Img → Img) : (d.setImg n f).rings = d.rings := rfl
@[simp] theorem Dev.setImg_tm (d : Dev) (n : Nat) (f : Img → Img) : (d.setImg n f).tm = d.tm := rfl
@[simp] theorem Dev.setImg_macs (d : Dev) (n : Nat) (f : Img → Img) : (d.setImg n f).macs = d.macs := rfl
@[simp] theorem Dev.setImg_mdio (d : Dev) (n : Nat) (f : Img → Img) : (d.setImg n f).mdio = d.mdio := rfl
@[simp] theorem Dev.setImg_gov (d : Dev) (n : Nat) (f : Img → Img) : (d.setImg n f).gov = d.gov := rfl
@[simp] theorem Dev.setImg_segs (d : Dev) (n : Nat) (f : Img → Img) : (d.setImg n f).segs = d.segs := rfl
@[simp] theorem Dev.setImg_cls (d : Dev) (n : Nat) (f : Img → Img) : (d.setImg n f).cls = d.cls := rfl
@[simp] theorem Dev.setImg_cans (d : Dev) (n : Nat) (f : Img → Img) : (d.setImg n f).cans = d.cans := rfl
@[simp] theorem Dev.setImg_brg (d : Dev) (n : Nat) (f : Img → Img) : (d.setImg n f).brg = d.brg := rfl
@[simp] theorem Dev.setImg_tow (d : Dev) (n : Nat) (f : Img → Img) : (d.setImg n f).tow = d.tow := rfl
@[simp] theorem Dev.setImg_slu (d : Dev) (n : Nat) (f : Img → Img) : (d.setImg n f).slu = d.slu := rfl
@[simp] theorem Dev.setImg_link (d : Dev) (n : Nat) (f : Img → Img) : (d.setImg n f).link = d.link := rfl
@[simp] theorem Dev.setImg_rd (d : Dev) (n : Nat) (f : Img → Img) (x : Nat) : (d.setImg n f).rd x = d.rd x := rfl
@[simp] theorem Dev.setImg_on (d : Dev) (n : Nat) (f : Img → Img) (x : Nat) : (d.setImg n f).on x = d.on x := rfl

/-! ### setJobU -/

@[simp] theorem Dev.setJobU_images (d : Dev) (n : Nat) (f : JobU → JobU) : (d.setJobU n f).images = d.images := rfl
@[simp] theorem Dev.setJobU_jobs (d : Dev) (n : Nat) (f : JobU → JobU) : (d.setJobU n f).jobs = updAt d.jobs n f := rfl
@[simp] theorem Dev.setJobU_ck (d : Dev) (n : Nat) (f : JobU → JobU) : (d.setJobU n f).ck = d.ck := rfl
@[simp] theorem Dev.setJobU_rng (d : Dev) (n : Nat) (f : JobU → JobU) : (d.setJobU n f).rng = d.rng := rfl
@[simp] theorem Dev.setJobU_opens (d : Dev) (n : Nat) (f : JobU → JobU) : (d.setJobU n f).opens = d.opens := rfl
@[simp] theorem Dev.setJobU_store (d : Dev) (n : Nat) (f : JobU → JobU) : (d.setJobU n f).store = d.store := rfl
@[simp] theorem Dev.setJobU_aon (d : Dev) (n : Nat) (f : JobU → JobU) : (d.setJobU n f).aon = d.aon := rfl
@[simp] theorem Dev.setJobU_sup (d : Dev) (n : Nat) (f : JobU → JobU) : (d.setJobU n f).sup = d.sup := rfl
@[simp] theorem Dev.setJobU_intc (d : Dev) (n : Nat) (f : JobU → JobU) : (d.setJobU n f).intc = d.intc := rfl
@[simp] theorem Dev.setJobU_fl (d : Dev) (n : Nat) (f : JobU → JobU) : (d.setJobU n f).fl = d.fl := rfl
@[simp] theorem Dev.setJobU_claims (d : Dev) (n : Nat) (f : JobU → JobU) : (d.setJobU n f).claims = d.claims := rfl
@[simp] theorem Dev.setJobU_nv (d : Dev) (n : Nat) (f : JobU → JobU) : (d.setJobU n f).nv = d.nv := rfl
@[simp] theorem Dev.setJobU_pm (d : Dev) (n : Nat) (f : JobU → JobU) : (d.setJobU n f).pm = d.pm := rfl
@[simp] theorem Dev.setJobU_rings (d : Dev) (n : Nat) (f : JobU → JobU) : (d.setJobU n f).rings = d.rings := rfl
@[simp] theorem Dev.setJobU_tm (d : Dev) (n : Nat) (f : JobU → JobU) : (d.setJobU n f).tm = d.tm := rfl
@[simp] theorem Dev.setJobU_macs (d : Dev) (n : Nat) (f : JobU → JobU) : (d.setJobU n f).macs = d.macs := rfl
@[simp] theorem Dev.setJobU_mdio (d : Dev) (n : Nat) (f : JobU → JobU) : (d.setJobU n f).mdio = d.mdio := rfl
@[simp] theorem Dev.setJobU_gov (d : Dev) (n : Nat) (f : JobU → JobU) : (d.setJobU n f).gov = d.gov := rfl
@[simp] theorem Dev.setJobU_segs (d : Dev) (n : Nat) (f : JobU → JobU) : (d.setJobU n f).segs = d.segs := rfl
@[simp] theorem Dev.setJobU_cls (d : Dev) (n : Nat) (f : JobU → JobU) : (d.setJobU n f).cls = d.cls := rfl
@[simp] theorem Dev.setJobU_cans (d : Dev) (n : Nat) (f : JobU → JobU) : (d.setJobU n f).cans = d.cans := rfl
@[simp] theorem Dev.setJobU_brg (d : Dev) (n : Nat) (f : JobU → JobU) : (d.setJobU n f).brg = d.brg := rfl
@[simp] theorem Dev.setJobU_tow (d : Dev) (n : Nat) (f : JobU → JobU) : (d.setJobU n f).tow = d.tow := rfl
@[simp] theorem Dev.setJobU_slu (d : Dev) (n : Nat) (f : JobU → JobU) : (d.setJobU n f).slu = d.slu := rfl
@[simp] theorem Dev.setJobU_link (d : Dev) (n : Nat) (f : JobU → JobU) : (d.setJobU n f).link = d.link := rfl
@[simp] theorem Dev.setJobU_rd (d : Dev) (n : Nat) (f : JobU → JobU) (x : Nat) : (d.setJobU n f).rd x = d.rd x := rfl
@[simp] theorem Dev.setJobU_on (d : Dev) (n : Nat) (f : JobU → JobU) (x : Nat) : (d.setJobU n f).on x = d.on x := rfl

/-! ### setAon -/

@[simp] theorem Dev.setAon_images (d : Dev) (f : Aon → Aon) : (d.setAon f).images = d.images := rfl
@[simp] theorem Dev.setAon_jobs (d : Dev) (f : Aon → Aon) : (d.setAon f).jobs = d.jobs := rfl
@[simp] theorem Dev.setAon_ck (d : Dev) (f : Aon → Aon) : (d.setAon f).ck = d.ck := rfl
@[simp] theorem Dev.setAon_rng (d : Dev) (f : Aon → Aon) : (d.setAon f).rng = d.rng := rfl
@[simp] theorem Dev.setAon_opens (d : Dev) (f : Aon → Aon) : (d.setAon f).opens = d.opens := rfl
@[simp] theorem Dev.setAon_store (d : Dev) (f : Aon → Aon) : (d.setAon f).store = d.store := rfl
@[simp] theorem Dev.setAon_aon (d : Dev) (f : Aon → Aon) : (d.setAon f).aon = f d.aon := rfl
@[simp] theorem Dev.setAon_sup (d : Dev) (f : Aon → Aon) : (d.setAon f).sup = d.sup := rfl
@[simp] theorem Dev.setAon_intc (d : Dev) (f : Aon → Aon) : (d.setAon f).intc = d.intc := rfl
@[simp] theorem Dev.setAon_fl (d : Dev) (f : Aon → Aon) : (d.setAon f).fl = d.fl := rfl
@[simp] theorem Dev.setAon_claims (d : Dev) (f : Aon → Aon) : (d.setAon f).claims = d.claims := rfl
@[simp] theorem Dev.setAon_nv (d : Dev) (f : Aon → Aon) : (d.setAon f).nv = d.nv := rfl
@[simp] theorem Dev.setAon_pm (d : Dev) (f : Aon → Aon) : (d.setAon f).pm = d.pm := rfl
@[simp] theorem Dev.setAon_rings (d : Dev) (f : Aon → Aon) : (d.setAon f).rings = d.rings := rfl
@[simp] theorem Dev.setAon_tm (d : Dev) (f : Aon → Aon) : (d.setAon f).tm = d.tm := rfl
@[simp] theorem Dev.setAon_macs (d : Dev) (f : Aon → Aon) : (d.setAon f).macs = d.macs := rfl
@[simp] theorem Dev.setAon_mdio (d : Dev) (f : Aon → Aon) : (d.setAon f).mdio = d.mdio := rfl
@[simp] theorem Dev.setAon_gov (d : Dev) (f : Aon → Aon) : (d.setAon f).gov = d.gov := rfl
@[simp] theorem Dev.setAon_segs (d : Dev) (f : Aon → Aon) : (d.setAon f).segs = d.segs := rfl
@[simp] theorem Dev.setAon_cls (d : Dev) (f : Aon → Aon) : (d.setAon f).cls = d.cls := rfl
@[simp] theorem Dev.setAon_cans (d : Dev) (f : Aon → Aon) : (d.setAon f).cans = d.cans := rfl
@[simp] theorem Dev.setAon_brg (d : Dev) (f : Aon → Aon) : (d.setAon f).brg = d.brg := rfl
@[simp] theorem Dev.setAon_tow (d : Dev) (f : Aon → Aon) : (d.setAon f).tow = d.tow := rfl
@[simp] theorem Dev.setAon_slu (d : Dev) (f : Aon → Aon) : (d.setAon f).slu = d.slu := rfl
@[simp] theorem Dev.setAon_link (d : Dev) (f : Aon → Aon) : (d.setAon f).link = d.link := rfl
@[simp] theorem Dev.setAon_rd (d : Dev) (f : Aon → Aon) (x : Nat) : (d.setAon f).rd x = d.rd x := rfl

/-! ### setDom -/

@[simp] theorem Dev.setDom_images (d : Dev) (n : Nat) (f : Dom → Dom) : (d.setDom n f).images = d.images := rfl
@[simp] theorem Dev.setDom_jobs (d : Dev) (n : Nat) (f : Dom → Dom) : (d.setDom n f).jobs = d.jobs := rfl
@[simp] theorem Dev.setDom_ck (d : Dev) (n : Nat) (f : Dom → Dom) : (d.setDom n f).ck = d.ck := rfl
@[simp] theorem Dev.setDom_rng (d : Dev) (n : Nat) (f : Dom → Dom) : (d.setDom n f).rng = d.rng := rfl
@[simp] theorem Dev.setDom_opens (d : Dev) (n : Nat) (f : Dom → Dom) : (d.setDom n f).opens = d.opens := rfl
@[simp] theorem Dev.setDom_store (d : Dev) (n : Nat) (f : Dom → Dom) : (d.setDom n f).store = d.store := rfl
@[simp] theorem Dev.setDom_aon (d : Dev) (n : Nat) (f : Dom → Dom) : (d.setDom n f).aon = { d.aon with doms := updAt d.aon.doms n f } := rfl
@[simp] theorem Dev.setDom_sup (d : Dev) (n : Nat) (f : Dom → Dom) : (d.setDom n f).sup = d.sup := rfl
@[simp] theorem Dev.setDom_intc (d : Dev) (n : Nat) (f : Dom → Dom) : (d.setDom n f).intc = d.intc := rfl
@[simp] theorem Dev.setDom_fl (d : Dev) (n : Nat) (f : Dom → Dom) : (d.setDom n f).fl = d.fl := rfl
@[simp] theorem Dev.setDom_claims (d : Dev) (n : Nat) (f : Dom → Dom) : (d.setDom n f).claims = d.claims := rfl
@[simp] theorem Dev.setDom_nv (d : Dev) (n : Nat) (f : Dom → Dom) : (d.setDom n f).nv = d.nv := rfl
@[simp] theorem Dev.setDom_pm (d : Dev) (n : Nat) (f : Dom → Dom) : (d.setDom n f).pm = d.pm := rfl
@[simp] theorem Dev.setDom_rings (d : Dev) (n : Nat) (f : Dom → Dom) : (d.setDom n f).rings = d.rings := rfl
@[simp] theorem Dev.setDom_tm (d : Dev) (n : Nat) (f : Dom → Dom) : (d.setDom n f).tm = d.tm := rfl
@[simp] theorem Dev.setDom_macs (d : Dev) (n : Nat) (f : Dom → Dom) : (d.setDom n f).macs = d.macs := rfl
@[simp] theorem Dev.setDom_mdio (d : Dev) (n : Nat) (f : Dom → Dom) : (d.setDom n f).mdio = d.mdio := rfl
@[simp] theorem Dev.setDom_gov (d : Dev) (n : Nat) (f : Dom → Dom) : (d.setDom n f).gov = d.gov := rfl
@[simp] theorem Dev.setDom_segs (d : Dev) (n : Nat) (f : Dom → Dom) : (d.setDom n f).segs = d.segs := rfl
@[simp] theorem Dev.setDom_cls (d : Dev) (n : Nat) (f : Dom → Dom) : (d.setDom n f).cls = d.cls := rfl
@[simp] theorem Dev.setDom_cans (d : Dev) (n : Nat) (f : Dom → Dom) : (d.setDom n f).cans = d.cans := rfl
@[simp] theorem Dev.setDom_brg (d : Dev) (n : Nat) (f : Dom → Dom) : (d.setDom n f).brg = d.brg := rfl
@[simp] theorem Dev.setDom_tow (d : Dev) (n : Nat) (f : Dom → Dom) : (d.setDom n f).tow = d.tow := rfl
@[simp] theorem Dev.setDom_slu (d : Dev) (n : Nat) (f : Dom → Dom) : (d.setDom n f).slu = d.slu := rfl
@[simp] theorem Dev.setDom_link (d : Dev) (n : Nat) (f : Dom → Dom) : (d.setDom n f).link = d.link := rfl
@[simp] theorem Dev.setDom_rd (d : Dev) (n : Nat) (f : Dom → Dom) (x : Nat) : (d.setDom n f).rd x = d.rd x := rfl

/-! ### setSup -/

@[simp] theorem Dev.setSup_images (d : Dev) (f : Supply → Supply) : (d.setSup f).images = d.images := rfl
@[simp] theorem Dev.setSup_jobs (d : Dev) (f : Supply → Supply) : (d.setSup f).jobs = d.jobs := rfl
@[simp] theorem Dev.setSup_ck (d : Dev) (f : Supply → Supply) : (d.setSup f).ck = d.ck := rfl
@[simp] theorem Dev.setSup_rng (d : Dev) (f : Supply → Supply) : (d.setSup f).rng = d.rng := rfl
@[simp] theorem Dev.setSup_opens (d : Dev) (f : Supply → Supply) : (d.setSup f).opens = d.opens := rfl
@[simp] theorem Dev.setSup_store (d : Dev) (f : Supply → Supply) : (d.setSup f).store = d.store := rfl
@[simp] theorem Dev.setSup_aon (d : Dev) (f : Supply → Supply) : (d.setSup f).aon = d.aon := rfl
@[simp] theorem Dev.setSup_sup (d : Dev) (f : Supply → Supply) : (d.setSup f).sup = f d.sup := rfl
@[simp] theorem Dev.setSup_intc (d : Dev) (f : Supply → Supply) : (d.setSup f).intc = d.intc := rfl
@[simp] theorem Dev.setSup_fl (d : Dev) (f : Supply → Supply) : (d.setSup f).fl = d.fl := rfl
@[simp] theorem Dev.setSup_claims (d : Dev) (f : Supply → Supply) : (d.setSup f).claims = d.claims := rfl
@[simp] theorem Dev.setSup_nv (d : Dev) (f : Supply → Supply) : (d.setSup f).nv = d.nv := rfl
@[simp] theorem Dev.setSup_pm (d : Dev) (f : Supply → Supply) : (d.setSup f).pm = d.pm := rfl
@[simp] theorem Dev.setSup_rings (d : Dev) (f : Supply → Supply) : (d.setSup f).rings = d.rings := rfl
@[simp] theorem Dev.setSup_tm (d : Dev) (f : Supply → Supply) : (d.setSup f).tm = d.tm := rfl
@[simp] theorem Dev.setSup_macs (d : Dev) (f : Supply → Supply) : (d.setSup f).macs = d.macs := rfl
@[simp] theorem Dev.setSup_mdio (d : Dev) (f : Supply → Supply) : (d.setSup f).mdio = d.mdio := rfl
@[simp] theorem Dev.setSup_gov (d : Dev) (f : Supply → Supply) : (d.setSup f).gov = d.gov := rfl
@[simp] theorem Dev.setSup_segs (d : Dev) (f : Supply → Supply) : (d.setSup f).segs = d.segs := rfl
@[simp] theorem Dev.setSup_cls (d : Dev) (f : Supply → Supply) : (d.setSup f).cls = d.cls := rfl
@[simp] theorem Dev.setSup_cans (d : Dev) (f : Supply → Supply) : (d.setSup f).cans = d.cans := rfl
@[simp] theorem Dev.setSup_brg (d : Dev) (f : Supply → Supply) : (d.setSup f).brg = d.brg := rfl
@[simp] theorem Dev.setSup_tow (d : Dev) (f : Supply → Supply) : (d.setSup f).tow = d.tow := rfl
@[simp] theorem Dev.setSup_slu (d : Dev) (f : Supply → Supply) : (d.setSup f).slu = d.slu := rfl
@[simp] theorem Dev.setSup_link (d : Dev) (f : Supply → Supply) : (d.setSup f).link = d.link := rfl
@[simp] theorem Dev.setSup_rd (d : Dev) (f : Supply → Supply) (x : Nat) : (d.setSup f).rd x = d.rd x := rfl
@[simp] theorem Dev.setSup_on (d : Dev) (f : Supply → Supply) (x : Nat) : (d.setSup f).on x = d.on x := rfl

/-! ### setIntc -/

@[simp] theorem Dev.setIntc_images (d : Dev) (f : Intc → Intc) : (d.setIntc f).images = d.images := rfl
@[simp] theorem Dev.setIntc_jobs (d : Dev) (f : Intc → Intc) : (d.setIntc f).jobs = d.jobs := rfl
@[simp] theorem Dev.setIntc_ck (d : Dev) (f : Intc → Intc) : (d.setIntc f).ck = d.ck := rfl
@[simp] theorem Dev.setIntc_rng (d : Dev) (f : Intc → Intc) : (d.setIntc f).rng = d.rng := rfl
@[simp] theorem Dev.setIntc_opens (d : Dev) (f : Intc → Intc) : (d.setIntc f).opens = d.opens := rfl
@[simp] theorem Dev.setIntc_store (d : Dev) (f : Intc → Intc) : (d.setIntc f).store = d.store := rfl
@[simp] theorem Dev.setIntc_aon (d : Dev) (f : Intc → Intc) : (d.setIntc f).aon = d.aon := rfl
@[simp] theorem Dev.setIntc_sup (d : Dev) (f : Intc → Intc) : (d.setIntc f).sup = d.sup := rfl
@[simp] theorem Dev.setIntc_intc (d : Dev) (f : Intc → Intc) : (d.setIntc f).intc = f d.intc := rfl
@[simp] theorem Dev.setIntc_fl (d : Dev) (f : Intc → Intc) : (d.setIntc f).fl = d.fl := rfl
@[simp] theorem Dev.setIntc_claims (d : Dev) (f : Intc → Intc) : (d.setIntc f).claims = d.claims := rfl
@[simp] theorem Dev.setIntc_nv (d : Dev) (f : Intc → Intc) : (d.setIntc f).nv = d.nv := rfl
@[simp] theorem Dev.setIntc_pm (d : Dev) (f : Intc → Intc) : (d.setIntc f).pm = d.pm := rfl
@[simp] theorem Dev.setIntc_rings (d : Dev) (f : Intc → Intc) : (d.setIntc f).rings = d.rings := rfl
@[simp] theorem Dev.setIntc_tm (d : Dev) (f : Intc → Intc) : (d.setIntc f).tm = d.tm := rfl
@[simp] theorem Dev.setIntc_macs (d : Dev) (f : Intc → Intc) : (d.setIntc f).macs = d.macs := rfl
@[simp] theorem Dev.setIntc_mdio (d : Dev) (f : Intc → Intc) : (d.setIntc f).mdio = d.mdio := rfl
@[simp] theorem Dev.setIntc_gov (d : Dev) (f : Intc → Intc) : (d.setIntc f).gov = d.gov := rfl
@[simp] theorem Dev.setIntc_segs (d : Dev) (f : Intc → Intc) : (d.setIntc f).segs = d.segs := rfl
@[simp] theorem Dev.setIntc_cls (d : Dev) (f : Intc → Intc) : (d.setIntc f).cls = d.cls := rfl
@[simp] theorem Dev.setIntc_cans (d : Dev) (f : Intc → Intc) : (d.setIntc f).cans = d.cans := rfl
@[simp] theorem Dev.setIntc_brg (d : Dev) (f : Intc → Intc) : (d.setIntc f).brg = d.brg := rfl
@[simp] theorem Dev.setIntc_tow (d : Dev) (f : Intc → Intc) : (d.setIntc f).tow = d.tow := rfl
@[simp] theorem Dev.setIntc_slu (d : Dev) (f : Intc → Intc) : (d.setIntc f).slu = d.slu := rfl
@[simp] theorem Dev.setIntc_link (d : Dev) (f : Intc → Intc) : (d.setIntc f).link = d.link := rfl
@[simp] theorem Dev.setIntc_rd (d : Dev) (f : Intc → Intc) (x : Nat) : (d.setIntc f).rd x = d.rd x := rfl
@[simp] theorem Dev.setIntc_on (d : Dev) (f : Intc → Intc) (x : Nat) : (d.setIntc f).on x = d.on x := rfl

/-! ### setFl -/

@[simp] theorem Dev.setFl_images (d : Dev) (f : FaultLog → FaultLog) : (d.setFl f).images = d.images := rfl
@[simp] theorem Dev.setFl_jobs (d : Dev) (f : FaultLog → FaultLog) : (d.setFl f).jobs = d.jobs := rfl
@[simp] theorem Dev.setFl_ck (d : Dev) (f : FaultLog → FaultLog) : (d.setFl f).ck = d.ck := rfl
@[simp] theorem Dev.setFl_rng (d : Dev) (f : FaultLog → FaultLog) : (d.setFl f).rng = d.rng := rfl
@[simp] theorem Dev.setFl_opens (d : Dev) (f : FaultLog → FaultLog) : (d.setFl f).opens = d.opens := rfl
@[simp] theorem Dev.setFl_store (d : Dev) (f : FaultLog → FaultLog) : (d.setFl f).store = d.store := rfl
@[simp] theorem Dev.setFl_aon (d : Dev) (f : FaultLog → FaultLog) : (d.setFl f).aon = d.aon := rfl
@[simp] theorem Dev.setFl_sup (d : Dev) (f : FaultLog → FaultLog) : (d.setFl f).sup = d.sup := rfl
@[simp] theorem Dev.setFl_intc (d : Dev) (f : FaultLog → FaultLog) : (d.setFl f).intc = d.intc := rfl
@[simp] theorem Dev.setFl_fl (d : Dev) (f : FaultLog → FaultLog) : (d.setFl f).fl = f d.fl := rfl
@[simp] theorem Dev.setFl_claims (d : Dev) (f : FaultLog → FaultLog) : (d.setFl f).claims = d.claims := rfl
@[simp] theorem Dev.setFl_nv (d : Dev) (f : FaultLog → FaultLog) : (d.setFl f).nv = d.nv := rfl
@[simp] theorem Dev.setFl_pm (d : Dev) (f : FaultLog → FaultLog) : (d.setFl f).pm = d.pm := rfl
@[simp] theorem Dev.setFl_rings (d : Dev) (f : FaultLog → FaultLog) : (d.setFl f).rings = d.rings := rfl
@[simp] theorem Dev.setFl_tm (d : Dev) (f : FaultLog → FaultLog) : (d.setFl f).tm = d.tm := rfl
@[simp] theorem Dev.setFl_macs (d : Dev) (f : FaultLog → FaultLog) : (d.setFl f).macs = d.macs := rfl
@[simp] theorem Dev.setFl_mdio (d : Dev) (f : FaultLog → FaultLog) : (d.setFl f).mdio = d.mdio := rfl
@[simp] theorem Dev.setFl_gov (d : Dev) (f : FaultLog → FaultLog) : (d.setFl f).gov = d.gov := rfl
@[simp] theorem Dev.setFl_segs (d : Dev) (f : FaultLog → FaultLog) : (d.setFl f).segs = d.segs := rfl
@[simp] theorem Dev.setFl_cls (d : Dev) (f : FaultLog → FaultLog) : (d.setFl f).cls = d.cls := rfl
@[simp] theorem Dev.setFl_cans (d : Dev) (f : FaultLog → FaultLog) : (d.setFl f).cans = d.cans := rfl
@[simp] theorem Dev.setFl_brg (d : Dev) (f : FaultLog → FaultLog) : (d.setFl f).brg = d.brg := rfl
@[simp] theorem Dev.setFl_tow (d : Dev) (f : FaultLog → FaultLog) : (d.setFl f).tow = d.tow := rfl
@[simp] theorem Dev.setFl_slu (d : Dev) (f : FaultLog → FaultLog) : (d.setFl f).slu = d.slu := rfl
@[simp] theorem Dev.setFl_link (d : Dev) (f : FaultLog → FaultLog) : (d.setFl f).link = d.link := rfl
@[simp] theorem Dev.setFl_rd (d : Dev) (f : FaultLog → FaultLog) (x : Nat) : (d.setFl f).rd x = d.rd x := rfl
@[simp] theorem Dev.setFl_on (d : Dev) (f : FaultLog → FaultLog) (x : Nat) : (d.setFl f).on x = d.on x := rfl

/-! ### takeClaim -/

@[simp] theorem Dev.takeClaim_images (d : Dev) (c : Claim) : (d.takeClaim c).images = d.images := rfl
@[simp] theorem Dev.takeClaim_jobs (d : Dev) (c : Claim) : (d.takeClaim c).jobs = d.jobs := rfl
@[simp] theorem Dev.takeClaim_ck (d : Dev) (c : Claim) : (d.takeClaim c).ck = d.ck := rfl
@[simp] theorem Dev.takeClaim_rng (d : Dev) (c : Claim) : (d.takeClaim c).rng = d.rng := rfl
@[simp] theorem Dev.takeClaim_opens (d : Dev) (c : Claim) : (d.takeClaim c).opens = d.opens := rfl
@[simp] theorem Dev.takeClaim_store (d : Dev) (c : Claim) : (d.takeClaim c).store = d.store := rfl
@[simp] theorem Dev.takeClaim_aon (d : Dev) (c : Claim) : (d.takeClaim c).aon = d.aon := rfl
@[simp] theorem Dev.takeClaim_sup (d : Dev) (c : Claim) : (d.takeClaim c).sup = d.sup := rfl
@[simp] theorem Dev.takeClaim_intc (d : Dev) (c : Claim) : (d.takeClaim c).intc = d.intc := rfl
@[simp] theorem Dev.takeClaim_fl (d : Dev) (c : Claim) : (d.takeClaim c).fl = d.fl := rfl
@[simp] theorem Dev.takeClaim_claims (d : Dev) (c : Claim) : (d.takeClaim c).claims = d.claims ++ [c] := rfl
@[simp] theorem Dev.takeClaim_nv (d : Dev) (c : Claim) : (d.takeClaim c).nv = d.nv := rfl
@[simp] theorem Dev.takeClaim_pm (d : Dev) (c : Claim) : (d.takeClaim c).pm = d.pm := rfl
@[simp] theorem Dev.takeClaim_rings (d : Dev) (c : Claim) : (d.takeClaim c).rings = d.rings := rfl
@[simp] theorem Dev.takeClaim_tm (d : Dev) (c : Claim) : (d.takeClaim c).tm = d.tm := rfl
@[simp] theorem Dev.takeClaim_macs (d : Dev) (c : Claim) : (d.takeClaim c).macs = d.macs := rfl
@[simp] theorem Dev.takeClaim_mdio (d : Dev) (c : Claim) : (d.takeClaim c).mdio = d.mdio := rfl
@[simp] theorem Dev.takeClaim_gov (d : Dev) (c : Claim) : (d.takeClaim c).gov = d.gov := rfl
@[simp] theorem Dev.takeClaim_segs (d : Dev) (c : Claim) : (d.takeClaim c).segs = d.segs := rfl
@[simp] theorem Dev.takeClaim_cls (d : Dev) (c : Claim) : (d.takeClaim c).cls = d.cls := rfl
@[simp] theorem Dev.takeClaim_cans (d : Dev) (c : Claim) : (d.takeClaim c).cans = d.cans := rfl
@[simp] theorem Dev.takeClaim_brg (d : Dev) (c : Claim) : (d.takeClaim c).brg = d.brg := rfl
@[simp] theorem Dev.takeClaim_tow (d : Dev) (c : Claim) : (d.takeClaim c).tow = d.tow := rfl
@[simp] theorem Dev.takeClaim_slu (d : Dev) (c : Claim) : (d.takeClaim c).slu = d.slu := rfl
@[simp] theorem Dev.takeClaim_link (d : Dev) (c : Claim) : (d.takeClaim c).link = d.link := rfl
@[simp] theorem Dev.takeClaim_rd (d : Dev) (c : Claim) (x : Nat) : (d.takeClaim c).rd x = d.rd x := rfl
@[simp] theorem Dev.takeClaim_on (d : Dev) (c : Claim) (x : Nat) : (d.takeClaim c).on x = d.on x := rfl

/-! ### setNv -/

@[simp] theorem Dev.setNv_images (d : Dev) (f : Nv → Nv) : (d.setNv f).images = d.images := rfl
@[simp] theorem Dev.setNv_jobs (d : Dev) (f : Nv → Nv) : (d.setNv f).jobs = d.jobs := rfl
@[simp] theorem Dev.setNv_ck (d : Dev) (f : Nv → Nv) : (d.setNv f).ck = d.ck := rfl
@[simp] theorem Dev.setNv_rng (d : Dev) (f : Nv → Nv) : (d.setNv f).rng = d.rng := rfl
@[simp] theorem Dev.setNv_opens (d : Dev) (f : Nv → Nv) : (d.setNv f).opens = d.opens := rfl
@[simp] theorem Dev.setNv_store (d : Dev) (f : Nv → Nv) : (d.setNv f).store = d.store := rfl
@[simp] theorem Dev.setNv_aon (d : Dev) (f : Nv → Nv) : (d.setNv f).aon = d.aon := rfl
@[simp] theorem Dev.setNv_sup (d : Dev) (f : Nv → Nv) : (d.setNv f).sup = d.sup := rfl
@[simp] theorem Dev.setNv_intc (d : Dev) (f : Nv → Nv) : (d.setNv f).intc = d.intc := rfl
@[simp] theorem Dev.setNv_fl (d : Dev) (f : Nv → Nv) : (d.setNv f).fl = d.fl := rfl
@[simp] theorem Dev.setNv_claims (d : Dev) (f : Nv → Nv) : (d.setNv f).claims = d.claims := rfl
@[simp] theorem Dev.setNv_nv (d : Dev) (f : Nv → Nv) : (d.setNv f).nv = f d.nv := rfl
@[simp] theorem Dev.setNv_pm (d : Dev) (f : Nv → Nv) : (d.setNv f).pm = d.pm := rfl
@[simp] theorem Dev.setNv_rings (d : Dev) (f : Nv → Nv) : (d.setNv f).rings = d.rings := rfl
@[simp] theorem Dev.setNv_tm (d : Dev) (f : Nv → Nv) : (d.setNv f).tm = d.tm := rfl
@[simp] theorem Dev.setNv_macs (d : Dev) (f : Nv → Nv) : (d.setNv f).macs = d.macs := rfl
@[simp] theorem Dev.setNv_mdio (d : Dev) (f : Nv → Nv) : (d.setNv f).mdio = d.mdio := rfl
@[simp] theorem Dev.setNv_gov (d : Dev) (f : Nv → Nv) : (d.setNv f).gov = d.gov := rfl
@[simp] theorem Dev.setNv_segs (d : Dev) (f : Nv → Nv) : (d.setNv f).segs = d.segs := rfl
@[simp] theorem Dev.setNv_cls (d : Dev) (f : Nv → Nv) : (d.setNv f).cls = d.cls := rfl
@[simp] theorem Dev.setNv_cans (d : Dev) (f : Nv → Nv) : (d.setNv f).cans = d.cans := rfl
@[simp] theorem Dev.setNv_brg (d : Dev) (f : Nv → Nv) : (d.setNv f).brg = d.brg := rfl
@[simp] theorem Dev.setNv_tow (d : Dev) (f : Nv → Nv) : (d.setNv f).tow = d.tow := rfl
@[simp] theorem Dev.setNv_slu (d : Dev) (f : Nv → Nv) : (d.setNv f).slu = d.slu := rfl
@[simp] theorem Dev.setNv_link (d : Dev) (f : Nv → Nv) : (d.setNv f).link = d.link := rfl
@[simp] theorem Dev.setNv_rd (d : Dev) (f : Nv → Nv) (x : Nat) : (d.setNv f).rd x = d.rd x := rfl
@[simp] theorem Dev.setNv_on (d : Dev) (f : Nv → Nv) (x : Nat) : (d.setNv f).on x = d.on x := rfl

/-! ### setPm -/

@[simp] theorem Dev.setPm_images (d : Dev) (f : Pmem → Pmem) : (d.setPm f).images = d.images := rfl
@[simp] theorem Dev.setPm_jobs (d : Dev) (f : Pmem → Pmem) : (d.setPm f).jobs = d.jobs := rfl
@[simp] theorem Dev.setPm_ck (d : Dev) (f : Pmem → Pmem) : (d.setPm f).ck = d.ck := rfl
@[simp] theorem Dev.setPm_rng (d : Dev) (f : Pmem → Pmem) : (d.setPm f).rng = d.rng := rfl
@[simp] theorem Dev.setPm_opens (d : Dev) (f : Pmem → Pmem) : (d.setPm f).opens = d.opens := rfl
@[simp] theorem Dev.setPm_store (d : Dev) (f : Pmem → Pmem) : (d.setPm f).store = d.store := rfl
@[simp] theorem Dev.setPm_aon (d : Dev) (f : Pmem → Pmem) : (d.setPm f).aon = d.aon := rfl
@[simp] theorem Dev.setPm_sup (d : Dev) (f : Pmem → Pmem) : (d.setPm f).sup = d.sup := rfl
@[simp] theorem Dev.setPm_intc (d : Dev) (f : Pmem → Pmem) : (d.setPm f).intc = d.intc := rfl
@[simp] theorem Dev.setPm_fl (d : Dev) (f : Pmem → Pmem) : (d.setPm f).fl = d.fl := rfl
@[simp] theorem Dev.setPm_claims (d : Dev) (f : Pmem → Pmem) : (d.setPm f).claims = d.claims := rfl
@[simp] theorem Dev.setPm_nv (d : Dev) (f : Pmem → Pmem) : (d.setPm f).nv = d.nv := rfl
@[simp] theorem Dev.setPm_pm (d : Dev) (f : Pmem → Pmem) : (d.setPm f).pm = f d.pm := rfl
@[simp] theorem Dev.setPm_rings (d : Dev) (f : Pmem → Pmem) : (d.setPm f).rings = d.rings := rfl
@[simp] theorem Dev.setPm_tm (d : Dev) (f : Pmem → Pmem) : (d.setPm f).tm = d.tm := rfl
@[simp] theorem Dev.setPm_macs (d : Dev) (f : Pmem → Pmem) : (d.setPm f).macs = d.macs := rfl
@[simp] theorem Dev.setPm_mdio (d : Dev) (f : Pmem → Pmem) : (d.setPm f).mdio = d.mdio := rfl
@[simp] theorem Dev.setPm_gov (d : Dev) (f : Pmem → Pmem) : (d.setPm f).gov = d.gov := rfl
@[simp] theorem Dev.setPm_segs (d : Dev) (f : Pmem → Pmem) : (d.setPm f).segs = d.segs := rfl
@[simp] theorem Dev.setPm_cls (d : Dev) (f : Pmem → Pmem) : (d.setPm f).cls = d.cls := rfl
@[simp] theorem Dev.setPm_cans (d : Dev) (f : Pmem → Pmem) : (d.setPm f).cans = d.cans := rfl
@[simp] theorem Dev.setPm_brg (d : Dev) (f : Pmem → Pmem) : (d.setPm f).brg = d.brg := rfl
@[simp] theorem Dev.setPm_tow (d : Dev) (f : Pmem → Pmem) : (d.setPm f).tow = d.tow := rfl
@[simp] theorem Dev.setPm_slu (d : Dev) (f : Pmem → Pmem) : (d.setPm f).slu = d.slu := rfl
@[simp] theorem Dev.setPm_link (d : Dev) (f : Pmem → Pmem) : (d.setPm f).link = d.link := rfl
@[simp] theorem Dev.setPm_rd (d : Dev) (f : Pmem → Pmem) (x : Nat) : (d.setPm f).rd x = d.rd x := rfl
@[simp] theorem Dev.setPm_on (d : Dev) (f : Pmem → Pmem) (x : Nat) : (d.setPm f).on x = d.on x := rfl

/-! ### setRing -/

@[simp] theorem Dev.setRing_images (d : Dev) (n : Nat) (f : Ring → Ring) : (d.setRing n f).images = d.images := rfl
@[simp] theorem Dev.setRing_jobs (d : Dev) (n : Nat) (f : Ring → Ring) : (d.setRing n f).jobs = d.jobs := rfl
@[simp] theorem Dev.setRing_ck (d : Dev) (n : Nat) (f : Ring → Ring) : (d.setRing n f).ck = d.ck := rfl
@[simp] theorem Dev.setRing_rng (d : Dev) (n : Nat) (f : Ring → Ring) : (d.setRing n f).rng = d.rng := rfl
@[simp] theorem Dev.setRing_opens (d : Dev) (n : Nat) (f : Ring → Ring) : (d.setRing n f).opens = d.opens := rfl
@[simp] theorem Dev.setRing_store (d : Dev) (n : Nat) (f : Ring → Ring) : (d.setRing n f).store = d.store := rfl
@[simp] theorem Dev.setRing_aon (d : Dev) (n : Nat) (f : Ring → Ring) : (d.setRing n f).aon = d.aon := rfl
@[simp] theorem Dev.setRing_sup (d : Dev) (n : Nat) (f : Ring → Ring) : (d.setRing n f).sup = d.sup := rfl
@[simp] theorem Dev.setRing_intc (d : Dev) (n : Nat) (f : Ring → Ring) : (d.setRing n f).intc = d.intc := rfl
@[simp] theorem Dev.setRing_fl (d : Dev) (n : Nat) (f : Ring → Ring) : (d.setRing n f).fl = d.fl := rfl
@[simp] theorem Dev.setRing_claims (d : Dev) (n : Nat) (f : Ring → Ring) : (d.setRing n f).claims = d.claims := rfl
@[simp] theorem Dev.setRing_nv (d : Dev) (n : Nat) (f : Ring → Ring) : (d.setRing n f).nv = d.nv := rfl
@[simp] theorem Dev.setRing_pm (d : Dev) (n : Nat) (f : Ring → Ring) : (d.setRing n f).pm = d.pm := rfl
@[simp] theorem Dev.setRing_rings (d : Dev) (n : Nat) (f : Ring → Ring) : (d.setRing n f).rings = updAt d.rings n f := rfl
@[simp] theorem Dev.setRing_tm (d : Dev) (n : Nat) (f : Ring → Ring) : (d.setRing n f).tm = d.tm := rfl
@[simp] theorem Dev.setRing_macs (d : Dev) (n : Nat) (f : Ring → Ring) : (d.setRing n f).macs = d.macs := rfl
@[simp] theorem Dev.setRing_mdio (d : Dev) (n : Nat) (f : Ring → Ring) : (d.setRing n f).mdio = d.mdio := rfl
@[simp] theorem Dev.setRing_gov (d : Dev) (n : Nat) (f : Ring → Ring) : (d.setRing n f).gov = d.gov := rfl
@[simp] theorem Dev.setRing_segs (d : Dev) (n : Nat) (f : Ring → Ring) : (d.setRing n f).segs = d.segs := rfl
@[simp] theorem Dev.setRing_cls (d : Dev) (n : Nat) (f : Ring → Ring) : (d.setRing n f).cls = d.cls := rfl
@[simp] theorem Dev.setRing_cans (d : Dev) (n : Nat) (f : Ring → Ring) : (d.setRing n f).cans = d.cans := rfl
@[simp] theorem Dev.setRing_brg (d : Dev) (n : Nat) (f : Ring → Ring) : (d.setRing n f).brg = d.brg := rfl
@[simp] theorem Dev.setRing_tow (d : Dev) (n : Nat) (f : Ring → Ring) : (d.setRing n f).tow = d.tow := rfl
@[simp] theorem Dev.setRing_slu (d : Dev) (n : Nat) (f : Ring → Ring) : (d.setRing n f).slu = d.slu := rfl
@[simp] theorem Dev.setRing_link (d : Dev) (n : Nat) (f : Ring → Ring) : (d.setRing n f).link = d.link := rfl
@[simp] theorem Dev.setRing_rd (d : Dev) (n : Nat) (f : Ring → Ring) (x : Nat) : (d.setRing n f).rd x = d.rd x := rfl
@[simp] theorem Dev.setRing_on (d : Dev) (n : Nat) (f : Ring → Ring) (x : Nat) : (d.setRing n f).on x = d.on x := rfl

/-! ### setChan -/

@[simp] theorem Dev.setChan_images (d : Dev) (n : Nat) (f : Chan → Chan) : (d.setChan n f).images = d.images := rfl
@[simp] theorem Dev.setChan_jobs (d : Dev) (n : Nat) (f : Chan → Chan) : (d.setChan n f).jobs = d.jobs := rfl
@[simp] theorem Dev.setChan_ck (d : Dev) (n : Nat) (f : Chan → Chan) : (d.setChan n f).ck = d.ck := rfl
@[simp] theorem Dev.setChan_rng (d : Dev) (n : Nat) (f : Chan → Chan) : (d.setChan n f).rng = d.rng := rfl
@[simp] theorem Dev.setChan_opens (d : Dev) (n : Nat) (f : Chan → Chan) : (d.setChan n f).opens = d.opens := rfl
@[simp] theorem Dev.setChan_store (d : Dev) (n : Nat) (f : Chan → Chan) : (d.setChan n f).store = d.store := rfl
@[simp] theorem Dev.setChan_aon (d : Dev) (n : Nat) (f : Chan → Chan) : (d.setChan n f).aon = d.aon := rfl
@[simp] theorem Dev.setChan_sup (d : Dev) (n : Nat) (f : Chan → Chan) : (d.setChan n f).sup = d.sup := rfl
@[simp] theorem Dev.setChan_intc (d : Dev) (n : Nat) (f : Chan → Chan) : (d.setChan n f).intc = d.intc := rfl
@[simp] theorem Dev.setChan_fl (d : Dev) (n : Nat) (f : Chan → Chan) : (d.setChan n f).fl = d.fl := rfl
@[simp] theorem Dev.setChan_claims (d : Dev) (n : Nat) (f : Chan → Chan) : (d.setChan n f).claims = d.claims := rfl
@[simp] theorem Dev.setChan_nv (d : Dev) (n : Nat) (f : Chan → Chan) : (d.setChan n f).nv = d.nv := rfl
@[simp] theorem Dev.setChan_pm (d : Dev) (n : Nat) (f : Chan → Chan) : (d.setChan n f).pm = d.pm := rfl
@[simp] theorem Dev.setChan_rings (d : Dev) (n : Nat) (f : Chan → Chan) : (d.setChan n f).rings = d.rings := rfl
@[simp] theorem Dev.setChan_tm (d : Dev) (n : Nat) (f : Chan → Chan) : (d.setChan n f).tm = { d.tm with chans := updAt d.tm.chans n f } := rfl
@[simp] theorem Dev.setChan_macs (d : Dev) (n : Nat) (f : Chan → Chan) : (d.setChan n f).macs = d.macs := rfl
@[simp] theorem Dev.setChan_mdio (d : Dev) (n : Nat) (f : Chan → Chan) : (d.setChan n f).mdio = d.mdio := rfl
@[simp] theorem Dev.setChan_gov (d : Dev) (n : Nat) (f : Chan → Chan) : (d.setChan n f).gov = d.gov := rfl
@[simp] theorem Dev.setChan_segs (d : Dev) (n : Nat) (f : Chan → Chan) : (d.setChan n f).segs = d.segs := rfl
@[simp] theorem Dev.setChan_cls (d : Dev) (n : Nat) (f : Chan → Chan) : (d.setChan n f).cls = d.cls := rfl
@[simp] theorem Dev.setChan_cans (d : Dev) (n : Nat) (f : Chan → Chan) : (d.setChan n f).cans = d.cans := rfl
@[simp] theorem Dev.setChan_brg (d : Dev) (n : Nat) (f : Chan → Chan) : (d.setChan n f).brg = d.brg := rfl
@[simp] theorem Dev.setChan_tow (d : Dev) (n : Nat) (f : Chan → Chan) : (d.setChan n f).tow = d.tow := rfl
@[simp] theorem Dev.setChan_slu (d : Dev) (n : Nat) (f : Chan → Chan) : (d.setChan n f).slu = d.slu := rfl
@[simp] theorem Dev.setChan_link (d : Dev) (n : Nat) (f : Chan → Chan) : (d.setChan n f).link = d.link := rfl
@[simp] theorem Dev.setChan_rd (d : Dev) (n : Nat) (f : Chan → Chan) (x : Nat) : (d.setChan n f).rd x = d.rd x := rfl
@[simp] theorem Dev.setChan_on (d : Dev) (n : Nat) (f : Chan → Chan) (x : Nat) : (d.setChan n f).on x = d.on x := rfl

/-! ### setMac -/

@[simp] theorem Dev.setMac_images (d : Dev) (n : Nat) (f : Mac → Mac) : (d.setMac n f).images = d.images := rfl
@[simp] theorem Dev.setMac_jobs (d : Dev) (n : Nat) (f : Mac → Mac) : (d.setMac n f).jobs = d.jobs := rfl
@[simp] theorem Dev.setMac_ck (d : Dev) (n : Nat) (f : Mac → Mac) : (d.setMac n f).ck = d.ck := rfl
@[simp] theorem Dev.setMac_rng (d : Dev) (n : Nat) (f : Mac → Mac) : (d.setMac n f).rng = d.rng := rfl
@[simp] theorem Dev.setMac_opens (d : Dev) (n : Nat) (f : Mac → Mac) : (d.setMac n f).opens = d.opens := rfl
@[simp] theorem Dev.setMac_store (d : Dev) (n : Nat) (f : Mac → Mac) : (d.setMac n f).store = d.store := rfl
@[simp] theorem Dev.setMac_aon (d : Dev) (n : Nat) (f : Mac → Mac) : (d.setMac n f).aon = d.aon := rfl
@[simp] theorem Dev.setMac_sup (d : Dev) (n : Nat) (f : Mac → Mac) : (d.setMac n f).sup = d.sup := rfl
@[simp] theorem Dev.setMac_intc (d : Dev) (n : Nat) (f : Mac → Mac) : (d.setMac n f).intc = d.intc := rfl
@[simp] theorem Dev.setMac_fl (d : Dev) (n : Nat) (f : Mac → Mac) : (d.setMac n f).fl = d.fl := rfl
@[simp] theorem Dev.setMac_claims (d : Dev) (n : Nat) (f : Mac → Mac) : (d.setMac n f).claims = d.claims := rfl
@[simp] theorem Dev.setMac_nv (d : Dev) (n : Nat) (f : Mac → Mac) : (d.setMac n f).nv = d.nv := rfl
@[simp] theorem Dev.setMac_pm (d : Dev) (n : Nat) (f : Mac → Mac) : (d.setMac n f).pm = d.pm := rfl
@[simp] theorem Dev.setMac_rings (d : Dev) (n : Nat) (f : Mac → Mac) : (d.setMac n f).rings = d.rings := rfl
@[simp] theorem Dev.setMac_tm (d : Dev) (n : Nat) (f : Mac → Mac) : (d.setMac n f).tm = d.tm := rfl
@[simp] theorem Dev.setMac_macs (d : Dev) (n : Nat) (f : Mac → Mac) : (d.setMac n f).macs = updAt d.macs n f := rfl
@[simp] theorem Dev.setMac_mdio (d : Dev) (n : Nat) (f : Mac → Mac) : (d.setMac n f).mdio = d.mdio := rfl
@[simp] theorem Dev.setMac_gov (d : Dev) (n : Nat) (f : Mac → Mac) : (d.setMac n f).gov = d.gov := rfl
@[simp] theorem Dev.setMac_segs (d : Dev) (n : Nat) (f : Mac → Mac) : (d.setMac n f).segs = d.segs := rfl
@[simp] theorem Dev.setMac_cls (d : Dev) (n : Nat) (f : Mac → Mac) : (d.setMac n f).cls = d.cls := rfl
@[simp] theorem Dev.setMac_cans (d : Dev) (n : Nat) (f : Mac → Mac) : (d.setMac n f).cans = d.cans := rfl
@[simp] theorem Dev.setMac_brg (d : Dev) (n : Nat) (f : Mac → Mac) : (d.setMac n f).brg = d.brg := rfl
@[simp] theorem Dev.setMac_tow (d : Dev) (n : Nat) (f : Mac → Mac) : (d.setMac n f).tow = d.tow := rfl
@[simp] theorem Dev.setMac_slu (d : Dev) (n : Nat) (f : Mac → Mac) : (d.setMac n f).slu = d.slu := rfl
@[simp] theorem Dev.setMac_link (d : Dev) (n : Nat) (f : Mac → Mac) : (d.setMac n f).link = d.link := rfl
@[simp] theorem Dev.setMac_rd (d : Dev) (n : Nat) (f : Mac → Mac) (x : Nat) : (d.setMac n f).rd x = d.rd x := rfl
@[simp] theorem Dev.setMac_on (d : Dev) (n : Nat) (f : Mac → Mac) (x : Nat) : (d.setMac n f).on x = d.on x := rfl

/-! ### setMdio -/

@[simp] theorem Dev.setMdio_images (d : Dev) (f : Mdio → Mdio) : (d.setMdio f).images = d.images := rfl
@[simp] theorem Dev.setMdio_jobs (d : Dev) (f : Mdio → Mdio) : (d.setMdio f).jobs = d.jobs := rfl
@[simp] theorem Dev.setMdio_ck (d : Dev) (f : Mdio → Mdio) : (d.setMdio f).ck = d.ck := rfl
@[simp] theorem Dev.setMdio_rng (d : Dev) (f : Mdio → Mdio) : (d.setMdio f).rng = d.rng := rfl
@[simp] theorem Dev.setMdio_opens (d : Dev) (f : Mdio → Mdio) : (d.setMdio f).opens = d.opens := rfl
@[simp] theorem Dev.setMdio_store (d : Dev) (f : Mdio → Mdio) : (d.setMdio f).store = d.store := rfl
@[simp] theorem Dev.setMdio_aon (d : Dev) (f : Mdio → Mdio) : (d.setMdio f).aon = d.aon := rfl
@[simp] theorem Dev.setMdio_sup (d : Dev) (f : Mdio → Mdio) : (d.setMdio f).sup = d.sup := rfl
@[simp] theorem Dev.setMdio_intc (d : Dev) (f : Mdio → Mdio) : (d.setMdio f).intc = d.intc := rfl
@[simp] theorem Dev.setMdio_fl (d : Dev) (f : Mdio → Mdio) : (d.setMdio f).fl = d.fl := rfl
@[simp] theorem Dev.setMdio_claims (d : Dev) (f : Mdio → Mdio) : (d.setMdio f).claims = d.claims := rfl
@[simp] theorem Dev.setMdio_nv (d : Dev) (f : Mdio → Mdio) : (d.setMdio f).nv = d.nv := rfl
@[simp] theorem Dev.setMdio_pm (d : Dev) (f : Mdio → Mdio) : (d.setMdio f).pm = d.pm := rfl
@[simp] theorem Dev.setMdio_rings (d : Dev) (f : Mdio → Mdio) : (d.setMdio f).rings = d.rings := rfl
@[simp] theorem Dev.setMdio_tm (d : Dev) (f : Mdio → Mdio) : (d.setMdio f).tm = d.tm := rfl
@[simp] theorem Dev.setMdio_macs (d : Dev) (f : Mdio → Mdio) : (d.setMdio f).macs = d.macs := rfl
@[simp] theorem Dev.setMdio_mdio (d : Dev) (f : Mdio → Mdio) : (d.setMdio f).mdio = f d.mdio := rfl
@[simp] theorem Dev.setMdio_gov (d : Dev) (f : Mdio → Mdio) : (d.setMdio f).gov = d.gov := rfl
@[simp] theorem Dev.setMdio_segs (d : Dev) (f : Mdio → Mdio) : (d.setMdio f).segs = d.segs := rfl
@[simp] theorem Dev.setMdio_cls (d : Dev) (f : Mdio → Mdio) : (d.setMdio f).cls = d.cls := rfl
@[simp] theorem Dev.setMdio_cans (d : Dev) (f : Mdio → Mdio) : (d.setMdio f).cans = d.cans := rfl
@[simp] theorem Dev.setMdio_brg (d : Dev) (f : Mdio → Mdio) : (d.setMdio f).brg = d.brg := rfl
@[simp] theorem Dev.setMdio_tow (d : Dev) (f : Mdio → Mdio) : (d.setMdio f).tow = d.tow := rfl
@[simp] theorem Dev.setMdio_slu (d : Dev) (f : Mdio → Mdio) : (d.setMdio f).slu = d.slu := rfl
@[simp] theorem Dev.setMdio_link (d : Dev) (f : Mdio → Mdio) : (d.setMdio f).link = d.link := rfl
@[simp] theorem Dev.setMdio_rd (d : Dev) (f : Mdio → Mdio) (x : Nat) : (d.setMdio f).rd x = d.rd x := rfl
@[simp] theorem Dev.setMdio_on (d : Dev) (f : Mdio → Mdio) (x : Nat) : (d.setMdio f).on x = d.on x := rfl

/-! ### setGov -/

@[simp] theorem Dev.setGov_images (d : Dev) (f : Gov → Gov) : (d.setGov f).images = d.images := rfl
@[simp] theorem Dev.setGov_jobs (d : Dev) (f : Gov → Gov) : (d.setGov f).jobs = d.jobs := rfl
@[simp] theorem Dev.setGov_ck (d : Dev) (f : Gov → Gov) : (d.setGov f).ck = d.ck := rfl
@[simp] theorem Dev.setGov_rng (d : Dev) (f : Gov → Gov) : (d.setGov f).rng = d.rng := rfl
@[simp] theorem Dev.setGov_opens (d : Dev) (f : Gov → Gov) : (d.setGov f).opens = d.opens := rfl
@[simp] theorem Dev.setGov_store (d : Dev) (f : Gov → Gov) : (d.setGov f).store = d.store := rfl
@[simp] theorem Dev.setGov_aon (d : Dev) (f : Gov → Gov) : (d.setGov f).aon = d.aon := rfl
@[simp] theorem Dev.setGov_sup (d : Dev) (f : Gov → Gov) : (d.setGov f).sup = d.sup := rfl
@[simp] theorem Dev.setGov_intc (d : Dev) (f : Gov → Gov) : (d.setGov f).intc = d.intc := rfl
@[simp] theorem Dev.setGov_fl (d : Dev) (f : Gov → Gov) : (d.setGov f).fl = d.fl := rfl
@[simp] theorem Dev.setGov_claims (d : Dev) (f : Gov → Gov) : (d.setGov f).claims = d.claims := rfl
@[simp] theorem Dev.setGov_nv (d : Dev) (f : Gov → Gov) : (d.setGov f).nv = d.nv := rfl
@[simp] theorem Dev.setGov_pm (d : Dev) (f : Gov → Gov) : (d.setGov f).pm = d.pm := rfl
@[simp] theorem Dev.setGov_rings (d : Dev) (f : Gov → Gov) : (d.setGov f).rings = d.rings := rfl
@[simp] theorem Dev.setGov_tm (d : Dev) (f : Gov → Gov) : (d.setGov f).tm = d.tm := rfl
@[simp] theorem Dev.setGov_macs (d : Dev) (f : Gov → Gov) : (d.setGov f).macs = d.macs := rfl
@[simp] theorem Dev.setGov_mdio (d : Dev) (f : Gov → Gov) : (d.setGov f).mdio = d.mdio := rfl
@[simp] theorem Dev.setGov_gov (d : Dev) (f : Gov → Gov) : (d.setGov f).gov = f d.gov := rfl
@[simp] theorem Dev.setGov_segs (d : Dev) (f : Gov → Gov) : (d.setGov f).segs = d.segs := rfl
@[simp] theorem Dev.setGov_cls (d : Dev) (f : Gov → Gov) : (d.setGov f).cls = d.cls := rfl
@[simp] theorem Dev.setGov_cans (d : Dev) (f : Gov → Gov) : (d.setGov f).cans = d.cans := rfl
@[simp] theorem Dev.setGov_brg (d : Dev) (f : Gov → Gov) : (d.setGov f).brg = d.brg := rfl
@[simp] theorem Dev.setGov_tow (d : Dev) (f : Gov → Gov) : (d.setGov f).tow = d.tow := rfl
@[simp] theorem Dev.setGov_slu (d : Dev) (f : Gov → Gov) : (d.setGov f).slu = d.slu := rfl
@[simp] theorem Dev.setGov_link (d : Dev) (f : Gov → Gov) : (d.setGov f).link = d.link := rfl
@[simp] theorem Dev.setGov_rd (d : Dev) (f : Gov → Gov) (x : Nat) : (d.setGov f).rd x = d.rd x := rfl
@[simp] theorem Dev.setGov_on (d : Dev) (f : Gov → Gov) (x : Nat) : (d.setGov f).on x = d.on x := rfl

/-! ### setSeg -/

@[simp] theorem Dev.setSeg_images (d : Dev) (n : Nat) (f : Seg → Seg) : (d.setSeg n f).images = d.images := rfl
@[simp] theorem Dev.setSeg_jobs (d : Dev) (n : Nat) (f : Seg → Seg) : (d.setSeg n f).jobs = d.jobs := rfl
@[simp] theorem Dev.setSeg_ck (d : Dev) (n : Nat) (f : Seg → Seg) : (d.setSeg n f).ck = d.ck := rfl
@[simp] theorem Dev.setSeg_rng (d : Dev) (n : Nat) (f : Seg → Seg) : (d.setSeg n f).rng = d.rng := rfl
@[simp] theorem Dev.setSeg_opens (d : Dev) (n : Nat) (f : Seg → Seg) : (d.setSeg n f).opens = d.opens := rfl
@[simp] theorem Dev.setSeg_store (d : Dev) (n : Nat) (f : Seg → Seg) : (d.setSeg n f).store = d.store := rfl
@[simp] theorem Dev.setSeg_aon (d : Dev) (n : Nat) (f : Seg → Seg) : (d.setSeg n f).aon = d.aon := rfl
@[simp] theorem Dev.setSeg_sup (d : Dev) (n : Nat) (f : Seg → Seg) : (d.setSeg n f).sup = d.sup := rfl
@[simp] theorem Dev.setSeg_intc (d : Dev) (n : Nat) (f : Seg → Seg) : (d.setSeg n f).intc = d.intc := rfl
@[simp] theorem Dev.setSeg_fl (d : Dev) (n : Nat) (f : Seg → Seg) : (d.setSeg n f).fl = d.fl := rfl
@[simp] theorem Dev.setSeg_claims (d : Dev) (n : Nat) (f : Seg → Seg) : (d.setSeg n f).claims = d.claims := rfl
@[simp] theorem Dev.setSeg_nv (d : Dev) (n : Nat) (f : Seg → Seg) : (d.setSeg n f).nv = d.nv := rfl
@[simp] theorem Dev.setSeg_pm (d : Dev) (n : Nat) (f : Seg → Seg) : (d.setSeg n f).pm = d.pm := rfl
@[simp] theorem Dev.setSeg_rings (d : Dev) (n : Nat) (f : Seg → Seg) : (d.setSeg n f).rings = d.rings := rfl
@[simp] theorem Dev.setSeg_tm (d : Dev) (n : Nat) (f : Seg → Seg) : (d.setSeg n f).tm = d.tm := rfl
@[simp] theorem Dev.setSeg_macs (d : Dev) (n : Nat) (f : Seg → Seg) : (d.setSeg n f).macs = d.macs := rfl
@[simp] theorem Dev.setSeg_mdio (d : Dev) (n : Nat) (f : Seg → Seg) : (d.setSeg n f).mdio = d.mdio := rfl
@[simp] theorem Dev.setSeg_gov (d : Dev) (n : Nat) (f : Seg → Seg) : (d.setSeg n f).gov = d.gov := rfl
@[simp] theorem Dev.setSeg_segs (d : Dev) (n : Nat) (f : Seg → Seg) : (d.setSeg n f).segs = updAt d.segs (n - 2) f := rfl
@[simp] theorem Dev.setSeg_cls (d : Dev) (n : Nat) (f : Seg → Seg) : (d.setSeg n f).cls = d.cls := rfl
@[simp] theorem Dev.setSeg_cans (d : Dev) (n : Nat) (f : Seg → Seg) : (d.setSeg n f).cans = d.cans := rfl
@[simp] theorem Dev.setSeg_brg (d : Dev) (n : Nat) (f : Seg → Seg) : (d.setSeg n f).brg = d.brg := rfl
@[simp] theorem Dev.setSeg_tow (d : Dev) (n : Nat) (f : Seg → Seg) : (d.setSeg n f).tow = d.tow := rfl
@[simp] theorem Dev.setSeg_slu (d : Dev) (n : Nat) (f : Seg → Seg) : (d.setSeg n f).slu = d.slu := rfl
@[simp] theorem Dev.setSeg_link (d : Dev) (n : Nat) (f : Seg → Seg) : (d.setSeg n f).link = d.link := rfl
@[simp] theorem Dev.setSeg_rd (d : Dev) (n : Nat) (f : Seg → Seg) (x : Nat) : (d.setSeg n f).rd x = d.rd x := rfl
@[simp] theorem Dev.setSeg_on (d : Dev) (n : Nat) (f : Seg → Seg) (x : Nat) : (d.setSeg n f).on x = d.on x := rfl

/-! ### setCls -/

@[simp] theorem Dev.setCls_images (d : Dev) (f : ClsU → ClsU) : (d.setCls f).images = d.images := rfl
@[simp] theorem Dev.setCls_jobs (d : Dev) (f : ClsU → ClsU) : (d.setCls f).jobs = d.jobs := rfl
@[simp] theorem Dev.setCls_ck (d : Dev) (f : ClsU → ClsU) : (d.setCls f).ck = d.ck := rfl
@[simp] theorem Dev.setCls_rng (d : Dev) (f : ClsU → ClsU) : (d.setCls f).rng = d.rng := rfl
@[simp] theorem Dev.setCls_opens (d : Dev) (f : ClsU → ClsU) : (d.setCls f).opens = d.opens := rfl
@[simp] theorem Dev.setCls_store (d : Dev) (f : ClsU → ClsU) : (d.setCls f).store = d.store := rfl
@[simp] theorem Dev.setCls_aon (d : Dev) (f : ClsU → ClsU) : (d.setCls f).aon = d.aon := rfl
@[simp] theorem Dev.setCls_sup (d : Dev) (f : ClsU → ClsU) : (d.setCls f).sup = d.sup := rfl
@[simp] theorem Dev.setCls_intc (d : Dev) (f : ClsU → ClsU) : (d.setCls f).intc = d.intc := rfl
@[simp] theorem Dev.setCls_fl (d : Dev) (f : ClsU → ClsU) : (d.setCls f).fl = d.fl := rfl
@[simp] theorem Dev.setCls_claims (d : Dev) (f : ClsU → ClsU) : (d.setCls f).claims = d.claims := rfl
@[simp] theorem Dev.setCls_nv (d : Dev) (f : ClsU → ClsU) : (d.setCls f).nv = d.nv := rfl
@[simp] theorem Dev.setCls_pm (d : Dev) (f : ClsU → ClsU) : (d.setCls f).pm = d.pm := rfl
@[simp] theorem Dev.setCls_rings (d : Dev) (f : ClsU → ClsU) : (d.setCls f).rings = d.rings := rfl
@[simp] theorem Dev.setCls_tm (d : Dev) (f : ClsU → ClsU) : (d.setCls f).tm = d.tm := rfl
@[simp] theorem Dev.setCls_macs (d : Dev) (f : ClsU → ClsU) : (d.setCls f).macs = d.macs := rfl
@[simp] theorem Dev.setCls_mdio (d : Dev) (f : ClsU → ClsU) : (d.setCls f).mdio = d.mdio := rfl
@[simp] theorem Dev.setCls_gov (d : Dev) (f : ClsU → ClsU) : (d.setCls f).gov = d.gov := rfl
@[simp] theorem Dev.setCls_segs (d : Dev) (f : ClsU → ClsU) : (d.setCls f).segs = d.segs := rfl
@[simp] theorem Dev.setCls_cls (d : Dev) (f : ClsU → ClsU) : (d.setCls f).cls = f d.cls := rfl
@[simp] theorem Dev.setCls_cans (d : Dev) (f : ClsU → ClsU) : (d.setCls f).cans = d.cans := rfl
@[simp] theorem Dev.setCls_brg (d : Dev) (f : ClsU → ClsU) : (d.setCls f).brg = d.brg := rfl
@[simp] theorem Dev.setCls_tow (d : Dev) (f : ClsU → ClsU) : (d.setCls f).tow = d.tow := rfl
@[simp] theorem Dev.setCls_slu (d : Dev) (f : ClsU → ClsU) : (d.setCls f).slu = d.slu := rfl
@[simp] theorem Dev.setCls_link (d : Dev) (f : ClsU → ClsU) : (d.setCls f).link = d.link := rfl
@[simp] theorem Dev.setCls_rd (d : Dev) (f : ClsU → ClsU) (x : Nat) : (d.setCls f).rd x = d.rd x := rfl
@[simp] theorem Dev.setCls_on (d : Dev) (f : ClsU → ClsU) (x : Nat) : (d.setCls f).on x = d.on x := rfl

/-! ### setCan -/

@[simp] theorem Dev.setCan_images (d : Dev) (n : Nat) (f : Can → Can) : (d.setCan n f).images = d.images := rfl
@[simp] theorem Dev.setCan_jobs (d : Dev) (n : Nat) (f : Can → Can) : (d.setCan n f).jobs = d.jobs := rfl
@[simp] theorem Dev.setCan_ck (d : Dev) (n : Nat) (f : Can → Can) : (d.setCan n f).ck = d.ck := rfl
@[simp] theorem Dev.setCan_rng (d : Dev) (n : Nat) (f : Can → Can) : (d.setCan n f).rng = d.rng := rfl
@[simp] theorem Dev.setCan_opens (d : Dev) (n : Nat) (f : Can → Can) : (d.setCan n f).opens = d.opens := rfl
@[simp] theorem Dev.setCan_store (d : Dev) (n : Nat) (f : Can → Can) : (d.setCan n f).store = d.store := rfl
@[simp] theorem Dev.setCan_aon (d : Dev) (n : Nat) (f : Can → Can) : (d.setCan n f).aon = d.aon := rfl
@[simp] theorem Dev.setCan_sup (d : Dev) (n : Nat) (f : Can → Can) : (d.setCan n f).sup = d.sup := rfl
@[simp] theorem Dev.setCan_intc (d : Dev) (n : Nat) (f : Can → Can) : (d.setCan n f).intc = d.intc := rfl
@[simp] theorem Dev.setCan_fl (d : Dev) (n : Nat) (f : Can → Can) : (d.setCan n f).fl = d.fl := rfl
@[simp] theorem Dev.setCan_claims (d : Dev) (n : Nat) (f : Can → Can) : (d.setCan n f).claims = d.claims := rfl
@[simp] theorem Dev.setCan_nv (d : Dev) (n : Nat) (f : Can → Can) : (d.setCan n f).nv = d.nv := rfl
@[simp] theorem Dev.setCan_pm (d : Dev) (n : Nat) (f : Can → Can) : (d.setCan n f).pm = d.pm := rfl
@[simp] theorem Dev.setCan_rings (d : Dev) (n : Nat) (f : Can → Can) : (d.setCan n f).rings = d.rings := rfl
@[simp] theorem Dev.setCan_tm (d : Dev) (n : Nat) (f : Can → Can) : (d.setCan n f).tm = d.tm := rfl
@[simp] theorem Dev.setCan_macs (d : Dev) (n : Nat) (f : Can → Can) : (d.setCan n f).macs = d.macs := rfl
@[simp] theorem Dev.setCan_mdio (d : Dev) (n : Nat) (f : Can → Can) : (d.setCan n f).mdio = d.mdio := rfl
@[simp] theorem Dev.setCan_gov (d : Dev) (n : Nat) (f : Can → Can) : (d.setCan n f).gov = d.gov := rfl
@[simp] theorem Dev.setCan_segs (d : Dev) (n : Nat) (f : Can → Can) : (d.setCan n f).segs = d.segs := rfl
@[simp] theorem Dev.setCan_cls (d : Dev) (n : Nat) (f : Can → Can) : (d.setCan n f).cls = d.cls := rfl
@[simp] theorem Dev.setCan_cans (d : Dev) (n : Nat) (f : Can → Can) : (d.setCan n f).cans = updAt d.cans n f := rfl
@[simp] theorem Dev.setCan_brg (d : Dev) (n : Nat) (f : Can → Can) : (d.setCan n f).brg = d.brg := rfl
@[simp] theorem Dev.setCan_tow (d : Dev) (n : Nat) (f : Can → Can) : (d.setCan n f).tow = d.tow := rfl
@[simp] theorem Dev.setCan_slu (d : Dev) (n : Nat) (f : Can → Can) : (d.setCan n f).slu = d.slu := rfl
@[simp] theorem Dev.setCan_link (d : Dev) (n : Nat) (f : Can → Can) : (d.setCan n f).link = d.link := rfl
@[simp] theorem Dev.setCan_rd (d : Dev) (n : Nat) (f : Can → Can) (x : Nat) : (d.setCan n f).rd x = d.rd x := rfl
@[simp] theorem Dev.setCan_on (d : Dev) (n : Nat) (f : Can → Can) (x : Nat) : (d.setCan n f).on x = d.on x := rfl

/-! ### setBrg -/

@[simp] theorem Dev.setBrg_images (d : Dev) (f : BrgU → BrgU) : (d.setBrg f).images = d.images := rfl
@[simp] theorem Dev.setBrg_jobs (d : Dev) (f : BrgU → BrgU) : (d.setBrg f).jobs = d.jobs := rfl
@[simp] theorem Dev.setBrg_ck (d : Dev) (f : BrgU → BrgU) : (d.setBrg f).ck = d.ck := rfl
@[simp] theorem Dev.setBrg_rng (d : Dev) (f : BrgU → BrgU) : (d.setBrg f).rng = d.rng := rfl
@[simp] theorem Dev.setBrg_opens (d : Dev) (f : BrgU → BrgU) : (d.setBrg f).opens = d.opens := rfl
@[simp] theorem Dev.setBrg_store (d : Dev) (f : BrgU → BrgU) : (d.setBrg f).store = d.store := rfl
@[simp] theorem Dev.setBrg_aon (d : Dev) (f : BrgU → BrgU) : (d.setBrg f).aon = d.aon := rfl
@[simp] theorem Dev.setBrg_sup (d : Dev) (f : BrgU → BrgU) : (d.setBrg f).sup = d.sup := rfl
@[simp] theorem Dev.setBrg_intc (d : Dev) (f : BrgU → BrgU) : (d.setBrg f).intc = d.intc := rfl
@[simp] theorem Dev.setBrg_fl (d : Dev) (f : BrgU → BrgU) : (d.setBrg f).fl = d.fl := rfl
@[simp] theorem Dev.setBrg_claims (d : Dev) (f : BrgU → BrgU) : (d.setBrg f).claims = d.claims := rfl
@[simp] theorem Dev.setBrg_nv (d : Dev) (f : BrgU → BrgU) : (d.setBrg f).nv = d.nv := rfl
@[simp] theorem Dev.setBrg_pm (d : Dev) (f : BrgU → BrgU) : (d.setBrg f).pm = d.pm := rfl
@[simp] theorem Dev.setBrg_rings (d : Dev) (f : BrgU → BrgU) : (d.setBrg f).rings = d.rings := rfl
@[simp] theorem Dev.setBrg_tm (d : Dev) (f : BrgU → BrgU) : (d.setBrg f).tm = d.tm := rfl
@[simp] theorem Dev.setBrg_macs (d : Dev) (f : BrgU → BrgU) : (d.setBrg f).macs = d.macs := rfl
@[simp] theorem Dev.setBrg_mdio (d : Dev) (f : BrgU → BrgU) : (d.setBrg f).mdio = d.mdio := rfl
@[simp] theorem Dev.setBrg_gov (d : Dev) (f : BrgU → BrgU) : (d.setBrg f).gov = d.gov := rfl
@[simp] theorem Dev.setBrg_segs (d : Dev) (f : BrgU → BrgU) : (d.setBrg f).segs = d.segs := rfl
@[simp] theorem Dev.setBrg_cls (d : Dev) (f : BrgU → BrgU) : (d.setBrg f).cls = d.cls := rfl
@[simp] theorem Dev.setBrg_cans (d : Dev) (f : BrgU → BrgU) : (d.setBrg f).cans = d.cans := rfl
@[simp] theorem Dev.setBrg_brg (d : Dev) (f : BrgU → BrgU) : (d.setBrg f).brg = f d.brg := rfl
@[simp] theorem Dev.setBrg_tow (d : Dev) (f : BrgU → BrgU) : (d.setBrg f).tow = d.tow := rfl
@[simp] theorem Dev.setBrg_slu (d : Dev) (f : BrgU → BrgU) : (d.setBrg f).slu = d.slu := rfl
@[simp] theorem Dev.setBrg_link (d : Dev) (f : BrgU → BrgU) : (d.setBrg f).link = d.link := rfl
@[simp] theorem Dev.setBrg_rd (d : Dev) (f : BrgU → BrgU) (x : Nat) : (d.setBrg f).rd x = d.rd x := rfl
@[simp] theorem Dev.setBrg_on (d : Dev) (f : BrgU → BrgU) (x : Nat) : (d.setBrg f).on x = d.on x := rfl

/-! ### setTow -/

@[simp] theorem Dev.setTow_images (d : Dev) (f : TowU → TowU) : (d.setTow f).images = d.images := rfl
@[simp] theorem Dev.setTow_jobs (d : Dev) (f : TowU → TowU) : (d.setTow f).jobs = d.jobs := rfl
@[simp] theorem Dev.setTow_ck (d : Dev) (f : TowU → TowU) : (d.setTow f).ck = d.ck := rfl
@[simp] theorem Dev.setTow_rng (d : Dev) (f : TowU → TowU) : (d.setTow f).rng = d.rng := rfl
@[simp] theorem Dev.setTow_opens (d : Dev) (f : TowU → TowU) : (d.setTow f).opens = d.opens := rfl
@[simp] theorem Dev.setTow_store (d : Dev) (f : TowU → TowU) : (d.setTow f).store = d.store := rfl
@[simp] theorem Dev.setTow_aon (d : Dev) (f : TowU → TowU) : (d.setTow f).aon = d.aon := rfl
@[simp] theorem Dev.setTow_sup (d : Dev) (f : TowU → TowU) : (d.setTow f).sup = d.sup := rfl
@[simp] theorem Dev.setTow_intc (d : Dev) (f : TowU → TowU) : (d.setTow f).intc = d.intc := rfl
@[simp] theorem Dev.setTow_fl (d : Dev) (f : TowU → TowU) : (d.setTow f).fl = d.fl := rfl
@[simp] theorem Dev.setTow_claims (d : Dev) (f : TowU → TowU) : (d.setTow f).claims = d.claims := rfl
@[simp] theorem Dev.setTow_nv (d : Dev) (f : TowU → TowU) : (d.setTow f).nv = d.nv := rfl
@[simp] theorem Dev.setTow_pm (d : Dev) (f : TowU → TowU) : (d.setTow f).pm = d.pm := rfl
@[simp] theorem Dev.setTow_rings (d : Dev) (f : TowU → TowU) : (d.setTow f).rings = d.rings := rfl
@[simp] theorem Dev.setTow_tm (d : Dev) (f : TowU → TowU) : (d.setTow f).tm = d.tm := rfl
@[simp] theorem Dev.setTow_macs (d : Dev) (f : TowU → TowU) : (d.setTow f).macs = d.macs := rfl
@[simp] theorem Dev.setTow_mdio (d : Dev) (f : TowU → TowU) : (d.setTow f).mdio = d.mdio := rfl
@[simp] theorem Dev.setTow_gov (d : Dev) (f : TowU → TowU) : (d.setTow f).gov = d.gov := rfl
@[simp] theorem Dev.setTow_segs (d : Dev) (f : TowU → TowU) : (d.setTow f).segs = d.segs := rfl
@[simp] theorem Dev.setTow_cls (d : Dev) (f : TowU → TowU) : (d.setTow f).cls = d.cls := rfl
@[simp] theorem Dev.setTow_cans (d : Dev) (f : TowU → TowU) : (d.setTow f).cans = d.cans := rfl
@[simp] theorem Dev.setTow_brg (d : Dev) (f : TowU → TowU) : (d.setTow f).brg = d.brg := rfl
@[simp] theorem Dev.setTow_tow (d : Dev) (f : TowU → TowU) : (d.setTow f).tow = f d.tow := rfl
@[simp] theorem Dev.setTow_slu (d : Dev) (f : TowU → TowU) : (d.setTow f).slu = d.slu := rfl
@[simp] theorem Dev.setTow_link (d : Dev) (f : TowU → TowU) : (d.setTow f).link = d.link := rfl
@[simp] theorem Dev.setTow_rd (d : Dev) (f : TowU → TowU) (x : Nat) : (d.setTow f).rd x = d.rd x := rfl
@[simp] theorem Dev.setTow_on (d : Dev) (f : TowU → TowU) (x : Nat) : (d.setTow f).on x = d.on x := rfl

/-! ### setSlu -/

@[simp] theorem Dev.setSlu_images (d : Dev) (f : Sluice → Sluice) : (d.setSlu f).images = d.images := rfl
@[simp] theorem Dev.setSlu_jobs (d : Dev) (f : Sluice → Sluice) : (d.setSlu f).jobs = d.jobs := rfl
@[simp] theorem Dev.setSlu_ck (d : Dev) (f : Sluice → Sluice) : (d.setSlu f).ck = d.ck := rfl
@[simp] theorem Dev.setSlu_rng (d : Dev) (f : Sluice → Sluice) : (d.setSlu f).rng = d.rng := rfl
@[simp] theorem Dev.setSlu_opens (d : Dev) (f : Sluice → Sluice) : (d.setSlu f).opens = d.opens := rfl
@[simp] theorem Dev.setSlu_store (d : Dev) (f : Sluice → Sluice) : (d.setSlu f).store = d.store := rfl
@[simp] theorem Dev.setSlu_aon (d : Dev) (f : Sluice → Sluice) : (d.setSlu f).aon = d.aon := rfl
@[simp] theorem Dev.setSlu_sup (d : Dev) (f : Sluice → Sluice) : (d.setSlu f).sup = d.sup := rfl
@[simp] theorem Dev.setSlu_intc (d : Dev) (f : Sluice → Sluice) : (d.setSlu f).intc = d.intc := rfl
@[simp] theorem Dev.setSlu_fl (d : Dev) (f : Sluice → Sluice) : (d.setSlu f).fl = d.fl := rfl
@[simp] theorem Dev.setSlu_claims (d : Dev) (f : Sluice → Sluice) : (d.setSlu f).claims = d.claims := rfl
@[simp] theorem Dev.setSlu_nv (d : Dev) (f : Sluice → Sluice) : (d.setSlu f).nv = d.nv := rfl
@[simp] theorem Dev.setSlu_pm (d : Dev) (f : Sluice → Sluice) : (d.setSlu f).pm = d.pm := rfl
@[simp] theorem Dev.setSlu_rings (d : Dev) (f : Sluice → Sluice) : (d.setSlu f).rings = d.rings := rfl
@[simp] theorem Dev.setSlu_tm (d : Dev) (f : Sluice → Sluice) : (d.setSlu f).tm = d.tm := rfl
@[simp] theorem Dev.setSlu_macs (d : Dev) (f : Sluice → Sluice) : (d.setSlu f).macs = d.macs := rfl
@[simp] theorem Dev.setSlu_mdio (d : Dev) (f : Sluice → Sluice) : (d.setSlu f).mdio = d.mdio := rfl
@[simp] theorem Dev.setSlu_gov (d : Dev) (f : Sluice → Sluice) : (d.setSlu f).gov = d.gov := rfl
@[simp] theorem Dev.setSlu_segs (d : Dev) (f : Sluice → Sluice) : (d.setSlu f).segs = d.segs := rfl
@[simp] theorem Dev.setSlu_cls (d : Dev) (f : Sluice → Sluice) : (d.setSlu f).cls = d.cls := rfl
@[simp] theorem Dev.setSlu_cans (d : Dev) (f : Sluice → Sluice) : (d.setSlu f).cans = d.cans := rfl
@[simp] theorem Dev.setSlu_brg (d : Dev) (f : Sluice → Sluice) : (d.setSlu f).brg = d.brg := rfl
@[simp] theorem Dev.setSlu_tow (d : Dev) (f : Sluice → Sluice) : (d.setSlu f).tow = d.tow := rfl
@[simp] theorem Dev.setSlu_slu (d : Dev) (f : Sluice → Sluice) : (d.setSlu f).slu = f d.slu := rfl
@[simp] theorem Dev.setSlu_link (d : Dev) (f : Sluice → Sluice) : (d.setSlu f).link = d.link := rfl
@[simp] theorem Dev.setSlu_rd (d : Dev) (f : Sluice → Sluice) (x : Nat) : (d.setSlu f).rd x = d.rd x := rfl
@[simp] theorem Dev.setSlu_on (d : Dev) (f : Sluice → Sluice) (x : Nat) : (d.setSlu f).on x = d.on x := rfl

/-! ### setLk -/

@[simp] theorem Dev.setLk_images (d : Dev) (f : Link → Link) : (d.setLk f).images = d.images := rfl
@[simp] theorem Dev.setLk_jobs (d : Dev) (f : Link → Link) : (d.setLk f).jobs = d.jobs := rfl
@[simp] theorem Dev.setLk_ck (d : Dev) (f : Link → Link) : (d.setLk f).ck = d.ck := rfl
@[simp] theorem Dev.setLk_rng (d : Dev) (f : Link → Link) : (d.setLk f).rng = d.rng := rfl
@[simp] theorem Dev.setLk_opens (d : Dev) (f : Link → Link) : (d.setLk f).opens = d.opens := rfl
@[simp] theorem Dev.setLk_store (d : Dev) (f : Link → Link) : (d.setLk f).store = d.store := rfl
@[simp] theorem Dev.setLk_aon (d : Dev) (f : Link → Link) : (d.setLk f).aon = d.aon := rfl
@[simp] theorem Dev.setLk_sup (d : Dev) (f : Link → Link) : (d.setLk f).sup = d.sup := rfl
@[simp] theorem Dev.setLk_intc (d : Dev) (f : Link → Link) : (d.setLk f).intc = d.intc := rfl
@[simp] theorem Dev.setLk_fl (d : Dev) (f : Link → Link) : (d.setLk f).fl = d.fl := rfl
@[simp] theorem Dev.setLk_claims (d : Dev) (f : Link → Link) : (d.setLk f).claims = d.claims := rfl
@[simp] theorem Dev.setLk_nv (d : Dev) (f : Link → Link) : (d.setLk f).nv = d.nv := rfl
@[simp] theorem Dev.setLk_pm (d : Dev) (f : Link → Link) : (d.setLk f).pm = d.pm := rfl
@[simp] theorem Dev.setLk_rings (d : Dev) (f : Link → Link) : (d.setLk f).rings = d.rings := rfl
@[simp] theorem Dev.setLk_tm (d : Dev) (f : Link → Link) : (d.setLk f).tm = d.tm := rfl
@[simp] theorem Dev.setLk_macs (d : Dev) (f : Link → Link) : (d.setLk f).macs = d.macs := rfl
@[simp] theorem Dev.setLk_mdio (d : Dev) (f : Link → Link) : (d.setLk f).mdio = d.mdio := rfl
@[simp] theorem Dev.setLk_gov (d : Dev) (f : Link → Link) : (d.setLk f).gov = d.gov := rfl
@[simp] theorem Dev.setLk_segs (d : Dev) (f : Link → Link) : (d.setLk f).segs = d.segs := rfl
@[simp] theorem Dev.setLk_cls (d : Dev) (f : Link → Link) : (d.setLk f).cls = d.cls := rfl
@[simp] theorem Dev.setLk_cans (d : Dev) (f : Link → Link) : (d.setLk f).cans = d.cans := rfl
@[simp] theorem Dev.setLk_brg (d : Dev) (f : Link → Link) : (d.setLk f).brg = d.brg := rfl
@[simp] theorem Dev.setLk_tow (d : Dev) (f : Link → Link) : (d.setLk f).tow = d.tow := rfl
@[simp] theorem Dev.setLk_slu (d : Dev) (f : Link → Link) : (d.setLk f).slu = d.slu := rfl
@[simp] theorem Dev.setLk_link (d : Dev) (f : Link → Link) : (d.setLk f).link = f d.link := rfl
@[simp] theorem Dev.setLk_rd (d : Dev) (f : Link → Link) (x : Nat) : (d.setLk f).rd x = d.rd x := rfl
@[simp] theorem Dev.setLk_on (d : Dev) (f : Link → Link) (x : Nat) : (d.setLk f).on x = d.on x := rfl

end Sys2Proof.Machine
end

