-- ==== Sys2Proof/Laws/HostLink.lean ====
section
/-!
SUPPORT. The host link's shared operations, each with what it does when nothing refuses the transaction: the lemmas to cite
in place of unfolding a dictionary transaction.
-/
namespace Sys2Proof.Machine

/-- A value that fits reads back from its octets. -/
theorem leNat_leOct (n : Nat) : ∀ v, v < 256 ^ n → leNat (leOct n v) = v := by
  induction n with
  | zero => intro v h; simp at h; simp [leOct, leNat, h]
  | succ n ih =>
    intro v h
    have : v / 256 < 256 ^ n := by rw [Nat.pow_succ] at h; omega
    simp only [leOct, leNat, ih _ this, oct, BitVec.toNat_ofNat]
    omega

/-- The key of an object from its index and subindex. -/
@[simp] theorem objKey_split (k : Nat) : objKey (k / 256) (k % 256) = k := by
  simp only [objKey]
  omega

/-- A command is looked at. -/
theorem Dev.hostCmd_of_up {d : Dev} (f : Dev → Dev) (h : d.hostUp = true) : d.hostCmd f = f d := by
  simp only [Dev.hostUp, Bool.and_eq_true] at h
  simp [Dev.hostCmd, h.1, h.2]

/-- A slot is free for a transaction that is not refused. -/
theorem Dev.freeSlot_of_taken {d : Dev} (h : d.dictRefused = false) : ∃ s, d.freeSlot = some s := by
  simp only [Dev.dictRefused, Bool.or_eq_false_iff] at h
  cases hf : d.freeSlot with
  | none => simp [hf] at h
  | some s => exact ⟨s, rfl⟩

/-- The outcome of a write that passes orders 1 to 9. -/
theorem Dev.dictWrite_passes {d : Dev} {k v : Nat} (h : d.passes k v = true) :
    d.dictWrite 0 (k / 256) (k % 256) 0 0 (leOct (objSize k) v) = ((d.noteRx k).writeEffect 0 k v).toDRes := by
  unfold Dev.passes at h
  split at h
  · exact absurd h (by simp)
  · rename_i r hr
    simp only [Bool.and_eq_true, Option.isNone_iff_eq_none, decide_eq_true_eq] at h
    obtain ⟨⟨⟨⟨hw, hi⟩, _⟩, hv⟩, hva⟩ := h
    simp only [Dev.dictWrite, hr, objKey_split, leNat_leOct _ _ hv, hw, hi, hva]

/-- A row that orders 1 and 2 find is the row of the tables. -/
theorem Dev.row_of_findAt {d : Dev} {idx sb : Nat} {r : ObjRow} (h : d.findAt idx sb = .inr r) : rowAt idx sb = some r := by
  unfold Dev.findAt at h
  split at h
  · rename_i r' hf
    split at h
    · cases h
    · cases h
      unfold findObj at hf
      split at hf
      · rename_i hr
        cases hf
        exact hr
      · split at hf <;> cases hf
  · cases h

/-- A write of an object that is no receive setting keeps no old value. -/
theorem Dev.noteRx_of_none {d : Dev} {k : Nat} (h : (List.range 4).all (fun p => !rxSetting p k) = true) : d.noteRx k = d := by
  have hp := List.all_eq_true.1 h
  have h0 := hp 0 (by decide)
  have h1 := hp 1 (by decide)
  have h2 := hp 2 (by decide)
  have h3 := hp 3 (by decide)
  simp only [Bool.not_eq_eq_eq_not, Bool.not_true] at h0 h1 h2 h3
  simp [Dev.noteRx, forEach, List.range, List.range.loop, h0, h1, h2, h3]

/-- The row of an object whose write passes is not of class PW. -/
theorem Dev.not_pw_of_passes {d : Dev} {k v : Nat} (h : d.passes k v = true) :
    (((rowAt (k / 256) (k % 256)).map (·.per)) == some Persist.pw) = false := by
  unfold Dev.passes at h
  split at h
  · exact absurd h (by simp)
  · rename_i r hr
    simp only [Bool.and_eq_true] at h
    have hr' := Dev.row_of_findAt hr
    rw [hr']
    simpa [bne] using h.1.1.2

/-- A host's write whose effect is applied at once. -/
theorem Dev.hostPut_ok {d d' : Dev} {k v : Nat} {tm : Timing} (h : d.hostTakes k v tm = true) (hk : k ≠ 0x180003)
    (he : (d.noteRx k).writeEffect 0 k v = .ok d') : d.hostPut k v tm = d'.answered [] := by
  simp only [Dev.hostTakes, Dev.linkTakes, Bool.and_eq_true, Bool.not_eq_eq_eq_not, Bool.not_true] at h
  obtain ⟨⟨⟨hu, hd⟩, hl⟩, hp⟩ := h
  obtain ⟨s, hs⟩ := Dev.freeSlot_of_taken hd
  simp [Dev.hostPut, Dev.hostWrite, Dev.hostCmd_of_up _ hu, hd, hl, hs, Dev.dictWrite_passes hp, Dev.not_pw_of_passes hp, he,
    WRes.toDRes, hk, Dev.hostDict, Dev.sayRes, Dev.settleTxn, Dev.answered]

/-- A host's write that waits for its result: the lowest free slot holds the transaction (03 R99, R100). -/
theorem Dev.hostPut_pend {d d' : Dev} {k v s : Nat} {tm : Timing} (h : d.hostTakes k v tm = true) (hs : d.freeSlot = some s)
    (he : (d.noteRx k).writeEffect 0 k v = .pend d') :
    d.hostPut k v tm = d'.retry s 0x12 0xFF (k / 256) (k % 256) none := by
  simp only [Dev.hostTakes, Dev.linkTakes, Bool.and_eq_true, Bool.not_eq_eq_eq_not, Bool.not_true] at h
  obtain ⟨⟨⟨hu, hd⟩, _⟩, hp⟩ := h
  simp [Dev.hostPut, Dev.hostWrite, Dev.hostCmd_of_up _ hu, hd, hs, Dev.dictWrite_passes hp, Dev.not_pw_of_passes hp, he,
    WRes.toDRes, Dev.hostDict]

end Sys2Proof.Machine
end

