-- ==== Sys2Proof/Laws/Memory.lean ====
section
/-!
SUPPORT. Packet memory: every operation keeps the canonical form, a read after a write gives what was written, and a write
leaves every other octet alone.
-/
namespace Sys2Proof.Machine

/-- The canonical form of a list that is not empty. -/
theorem memWf_cons (k : Nat) (v : BitVec 8) (t : List Host.Cell) :
    memWf ((k, v) :: t) = true ↔ v ≠ 0 ∧ (∀ c ∈ t, k < c.1) ∧ memWf t = true := by
  induction t generalizing k v with
  | nil => simp [memWf]
  | cons c t ih =>
    obtain ⟨k', v'⟩ := c
    simp only [memWf, Bool.and_eq_true, bne_iff_ne, ne_eq, decide_eq_true_eq, List.mem_cons, forall_eq_or_imp]
    constructor
    · rintro ⟨⟨hv, hk⟩, hw⟩
      have h := (ih k' v').1 hw
      exact ⟨hv, ⟨hk, fun c hc => Nat.lt_trans hk (h.2.1 c hc)⟩, hw⟩
    · rintro ⟨hv, ⟨hk, _⟩, hw⟩
      exact ⟨⟨hv, hk⟩, hw⟩

/-- Entries left out keep the canonical form. -/
theorem memFilter_wf {l : List Host.Cell} (h : memWf l = true) (p : Host.Cell → Bool) : memWf (l.filter p) = true := by
  induction l with
  | nil => rfl
  | cons e t ih =>
    obtain ⟨k, w⟩ := e
    have hc := (memWf_cons k w t).1 h
    rw [List.filter_cons]
    split
    · exact (memWf_cons ..).2 ⟨hc.1, fun c hm => hc.2.1 c (List.mem_filter.1 hm).1, ih hc.2.2⟩
    · exact ih hc.2.2

/-- What a listed octet adds lies at its address. -/
theorem memSet_mem {l : List Host.Cell} {a : Nat} {v : BitVec 8} {c : Host.Cell} (h : c ∈ memSet l a v) :
    c.1 = a ∨ c ∈ l := by
  induction l with
  | nil => exact .inl (by rw [List.mem_singleton.1 h])
  | cons e t ih =>
    obtain ⟨k, w⟩ := e
    simp only [memSet] at h
    split at h
    · rcases List.mem_cons.1 h with rfl | h
      · exact .inl rfl
      · exact .inr (List.mem_cons_of_mem _ h)
    · split at h
      · rcases List.mem_cons.1 h with rfl | h
        · exact .inl rfl
        · exact .inr h
      · rcases List.mem_cons.1 h with rfl | h
        · exact .inr (List.mem_cons_self ..)
        · exact (ih h).imp id (List.mem_cons_of_mem _)

/-- A listed octet that is not 00h keeps the canonical form. -/
theorem memSet_wf {l : List Host.Cell} (h : memWf l = true) (a : Nat) {v : BitVec 8} (hv : v ≠ 0) :
    memWf (memSet l a v) = true := by
  induction l with
  | nil => simpa [memSet, memWf] using hv
  | cons e t ih =>
    obtain ⟨k, w⟩ := e
    have hc := (memWf_cons k w t).1 h
    simp only [memSet]
    split
    · subst k
      exact (memWf_cons ..).2 ⟨hv, hc.2.1, hc.2.2⟩
    · split
      · refine (memWf_cons ..).2 ⟨hv, ?_, h⟩
        intro c hm
        rcases List.mem_cons.1 hm with rfl | hm
        · assumption
        · exact Nat.lt_trans ‹a < k› (hc.2.1 c hm)
      · refine (memWf_cons ..).2 ⟨hc.1, ?_, ih hc.2.2⟩
        intro c hm
        rcases memSet_mem hm with h' | h'
        · omega
        · exact hc.2.1 c h'

/-- A write of an octet keeps the canonical form. -/
theorem memPut_wf {l : List Host.Cell} (h : memWf l = true) (a : Nat) (v : BitVec 8) : memWf (memPut l a v) = true := by
  unfold memPut
  split
  · exact memFilter_wf h _
  · exact memSet_wf h a ‹_›

/-- A write of octets keeps the canonical form. -/
theorem memWrite_wf {l : List Host.Cell} (h : memWf l = true) (a : Nat) (v : Oct) : memWf (memWrite l a v) = true := by
  induction v generalizing l a with
  | nil => exact h
  | cons b t ih => exact ih (memPut_wf h a b) (a + 1)

/-- Zeroing keeps the canonical form. -/
theorem memZero_wf {l : List Host.Cell} (h : memWf l = true) (a n : Nat) : memWf (memZero l a n) = true :=
  memFilter_wf h _

/-- An octet read where some addresses have been left out. -/
theorem memGet_filter (l : List Host.Cell) (p : Nat → Bool) (x : Nat) :
    memGet (l.filter (fun c => p c.1)) x = if p x then memGet l x else 0 := by
  induction l with
  | nil => simp [memGet]
  | cons e t ih =>
    obtain ⟨k, w⟩ := e
    by_cases hk : k = x
    · subst hk
      cases hp : p k <;> simp [memGet, hp, ih]
    · cases hp : p k <;> simp [memGet, hp, ih, hk]

/-- An octet read after one was listed. -/
theorem memGet_memSet (l : List Host.Cell) (a : Nat) (v : BitVec 8) (x : Nat) :
    memGet (memSet l a v) x = if x = a then v else memGet l x := by
  induction l with
  | nil => simp only [memSet, memGet, eq_comm]
  | cons e t ih =>
    obtain ⟨k, w⟩ := e
    simp only [memSet]
    split
    · subst k
      simp only [memGet, eq_comm]
      split <;> rfl
    · split
      · simp only [memGet, eq_comm]
      · simp only [memGet, ih]
        split
        · rw [if_neg (by omega)]
        · rfl

/-- An octet read after a write of one octet. -/
theorem memGet_memPut (l : List Host.Cell) (a : Nat) (v : BitVec 8) (x : Nat) :
    memGet (memPut l a v) x = if x = a then v else memGet l x := by
  unfold memPut
  split
  · subst v
    rw [memGet_filter l (fun k => k != a) x]
    by_cases h : x = a <;> simp [h]
  · exact memGet_memSet ..

/-- An octet outside the octets written reads as before. -/
theorem memGet_memWrite_out (l : List Host.Cell) (a : Nat) (v : Oct) (x : Nat) (hx : x < a ∨ a + v.length ≤ x) :
    memGet (memWrite l a v) x = memGet l x := by
  induction v generalizing l a with
  | nil => rfl
  | cons b t ih =>
    simp only [List.length_cons] at hx
    rw [memWrite, ih _ (a + 1) (by omega), memGet_memPut, if_neg (by omega)]

/-- An octet written reads back. -/
theorem memGet_memWrite_in (l : List Host.Cell) (a : Nat) (v : Oct) (i : Nat) (hi : i < v.length) :
    memGet (memWrite l a v) (a + i) = v[i] := by
  induction v generalizing l a i with
  | nil => exact absurd hi (Nat.not_lt_zero _)
  | cons b t ih =>
    cases i with
    | zero =>
      rw [memWrite, memGet_memWrite_out _ _ _ _ (.inl (by omega)), memGet_memPut]
      simp
    | succ i =>
      rw [memWrite, show a + (i + 1) = a + 1 + i by omega, ih _ (a + 1) i (by simpa using hi)]
      rfl

/-- An octet after a zeroing. -/
theorem memGet_memZero (l : List Host.Cell) (a n x : Nat) :
    memGet (memZero l a n) x = if a ≤ x ∧ x < a + n then 0 else memGet l x := by
  unfold memZero
  rw [memGet_filter l (fun k => k < a || a + n ≤ k) x]
  by_cases h : a ≤ x ∧ x < a + n
  · rw [if_pos h, if_neg (by simp; omega)]
  · rw [if_neg h, if_pos (by simp; omega)]

/-- The octets read from where octets were written. -/
theorem memRead_memWrite (l : List Host.Cell) (a : Nat) (v : Oct) : memRead (memWrite l a v) a v.length = v := by
  induction v generalizing l a with
  | nil => rfl
  | cons b t ih =>
    simp only [List.length_cons, memRead, memWrite]
    rw [ih, memGet_memWrite_out _ _ _ _ (.inl (by omega)), memGet_memPut]
    simp

end Sys2Proof.Machine
end

