-- ==== Sys2Proof/Tests/Slice0.lean ====
section
/-!
SUPPORT. Tests: ill-formed terms, worked requests of the spec, and for every statement a concrete state and operands that meet the
hypotheses of each of its clauses.
-/
namespace Sys2Proof.Tests
open Sys2Proof Sys2Proof.Machine

-- The theorems below are elaborated one after the other: each asks the kernel, and many at a time would each hold a thread.
set_option Elab.async false

/-! ### WellFormed: a term for each check, which the check refuses -/

/-- The timing and the issue fields of the terms below. -/
def tm0 : Timing := ⟨320, 0⟩
def fields0 : IssueFields := ⟨0, 0, 0, 0, false, false, 0, 0, 0, 0, 0, 0⟩

/-- No commands: each breaks one check. -/
theorem test_wf_refuses_1 : (([
  .dictRead (2 ^ 16) 0 0 0 tm0, .dictRead 0 (2 ^ 8) 0 0 tm0, .dictRead 0 0 (2 ^ 32) 0 tm0, .dictRead 0 0 0 (2 ^ 16)
  tm0, .dictWrite (2 ^ 16) 0 0 0 [] tm0, .dictWrite 0 (2 ^ 8) 0 0 [] tm0, .dictWrite 0 0 (2 ^ 8) 0 [] tm0, .dictWrite
  0 0 0 (2 ^ 32) [] tm0, .domainSegment 14 0 [] tm0, .domainSegment 0 (2 ^ 32) [] tm0, .imageCheckDone 14,
  .domainTransferTimeout 14, .queryAddr (2 ^ 32) tm0, .memRead (2 ^ 24) 0 [] none tm0, .memRead 0 (2 ^ 16) [] none
  tm0, .memRead 0 0 [⟨2 ^ 21, false⟩] none tm0, .memWrite (2 ^ 24) [] [], .memWrite 0 [] [⟨2 ^ 21, false⟩],
  .memReadAcquire (2 ^ 24) 0 [] none tm0, .memReadAcquire 0 (2 ^ 16) [] none tm0, .memReadAcquire 0 0 [⟨2 ^ 21,
  false⟩] none tm0, .doorbell (2 ^ 8) 0, .doorbell 0 (2 ^ 16), .intComplete (2 ^ 8) 0, .intComplete 0 (2 ^ 8),
  .dictReadRemote (2 ^ 8) 0 0 0 0, .dictReadRemote 0 (2 ^ 16) 0 0 0, .dictReadRemote 0 0 (2 ^ 8) 0 0, .dictReadRemote
  0 0 0 (2 ^ 32) 0, .dictReadRemote 0 0 0 0 (2 ^ 16), .dictWriteRemote (2 ^ 8) 0 0 0 0 [], .dictWriteRemote 0 (2 ^ 16)
  0 0 0 [], .dictWriteRemote 0 0 (2 ^ 8) 0 0 [], .dictWriteRemote 0 0 0 (2 ^ 8) 0 [], .dictWriteRemote 0 0 0 0 (2 ^
  32) [], .reissue 0x21 1, .reissue 0x11 0, .reissue 0x11 (2 ^ 8), .slotReadyExpiry 8, .slotPendingTimeout 8,
  .unknownCommand (2 ^ 8), .unknownCommand 0x91, .hostLinkReset (2 ^ 8) tm0, .jobStart 4 tm0, .jobSuspend 4 tm0,
  .jobResume 4 tm0, .jobCancel 4 tm0, .jobSuspendPoint 4, .jobCancelDone 4, .poundScrubBarge 4 [], .poundScrubBarge 0
  [⟨2 ^ 21, false⟩], .bankTestPass 4 [], .bankTestPass 0 [2 ^ 21], .tableLoadDone 4 false, .cableDiagPhase 4 ⟨false,
  0, [], 0⟩, .cableDiagPhase 0 ⟨false, 2001, [], 0⟩, .cableDiagPhase 0 ⟨false, 0, [], 7⟩, .cableDiagPhase 0 ⟨false, 0,
  [(0, -32769)], 0⟩, .cableDiagPhase 0 ⟨false, 0, [(0, 32768)], 0⟩, .cableDiagPhase 0 ⟨false, 0, [(2, 0), (1, 0)], 0⟩,
  .downToBackup 41 false, .energySample 4096 0 false none, .energySample 0 4096 false none, .domReq 16 0 tm0, .domReq
  0 (2 ^ 8) tm0, .domainTransitionEnd [14], .ownerScanDone 4, .wakeEdge 16, .wakeClear (2 ^ 16) tm0, .tempSample
  (-129), .tempSample 128, .retentionRefresh 4, .bankRefresh 4, .softReset (2 ^ 16) tm0, .domReset (2 ^ 8) tm0,
  .poundEnable 16 tm0, .poundEnabled 16 [], .poundEnabled 0 [2 ^ 21], .poundDisable 16 tm0, .allocReq (2 ^ 16) tm0] : List Instr).all (fun c => !c.wf)) = true := by decide +kernel

/-- No commands: each breaks one check. -/
theorem test_wf_refuses_2 : (([
  .freeReq (2 ^ 16) tm0, .bargeQuery (2 ^ 16) tm0, .lockCycleClose 4, .lockCycleOpen 4 [], .lockCycleOpen 0 [⟨2 ^ 21,
  false⟩], .zeroingDone 8192 [], .zeroingDone 0 [2 ^ 21], .ringStop 56 tm0, .ringRun 56 tm0, .ringReset 56 tm0,
  .ringStopped 56, .chainFetch 56 [], .chainFetch 0 [⟨2 ^ 21, false⟩], .chainComplete 56, .rxDescriptorWrite 56,
  .ringCoalTimeout 56, .frameReceived 4 ⟨[], false, false, 0, false⟩, .txSelect 4, .frameTransmitted 4 false [] 0,
  .frameTransmitted 0 false [⟨2 ^ 21, false⟩] 0, .pauseTimerExpiry 2, .pauseRefresh 2, .pauseSend 2 0 tm0, .pauseSend
  0 (2 ^ 16) tm0, .pauseWdBreak 2, .pauseStrikeReset 2, .pauseRearm 2 0 tm0, .pauseRearm 0 (2 ^ 8) tm0, .tsoEnable 2
  tm0, .tsoDisable 2 tm0, .wakeListen 4 0 tm0, .wakeListen 0 (2 ^ 8) tm0, .pralineEnable (2 ^ 16) tm0, .portStop 4
  tm0, .portStart 4 tm0, .mdioFrameDone (2 ^ 16), .mdioC22Read 32 0 tm0, .mdioC22Read 0 32 tm0, .mdioC22Write 32 0 0
  tm0, .mdioC22Write 0 32 0 tm0, .mdioC22Write 0 0 (2 ^ 16) tm0, .mdioC45Read 32 0 0 tm0, .mdioC45Read 0 32 0 tm0,
  .mdioC45Read 0 0 (2 ^ 16) tm0, .mdioC45Write 32 0 0 0 tm0, .mdioC45Write 0 32 0 0 tm0, .mdioC45Write 0 0 (2 ^ 16) 0
  tm0, .mdioC45Write 0 0 0 (2 ^ 16) tm0, .govEnable (2 ^ 8) tm0, .t1lLinkChange false false false false 3,
  .t1lSqiUpdate 8 0, .t1lSqiUpdate 0 (2 ^ 16), .plcaBeaconSend 1, .plcaBeaconReceived 1, .plcaBeaconLoss 1,
  .plcaIdConflict 1, .plcaIdConflictClear 1, .sgCarrierMeasure 1 0 0, .sgCarrierMeasure 2 32 0, .sgHoldExpiry 1,
  .sgYield 1 none, .sgDriftExpiry 1 0, .sgDriftExpiry 2 32, .segCollision 1 false false, .backoffExpiry 1,
  .mergeRelease 4 [], .mergeRelease 0 [⟨2 ^ 21, false⟩], .mergeWrite 4, .mergeTimeout 4, .grpStart 4 tm0, .grpStop 4
  tm0, .grpStopped 4, .canStart 2 tm0, .canStop 2 tm0, .canTxStart 2 [], .canTxStart 0 [⟨2 ^ 21, false⟩], .canTxEnd 2
  .lost, .canTxEnd 0 (.error 7 false), .canRxFrame 2 ⟨0, false, false, false, false, false, 0, [], 0⟩, .canRxFrame 0
  ⟨2 ^ 11, false, false, false, false, false, 0, [], 0⟩] : List Instr).all (fun c => !c.wf)) = true := by decide +kernel

/-- No commands: each breaks one check. -/
theorem test_wf_refuses_3 : (([
  .canRxFrame 0 ⟨2 ^ 29, true, false, false, false, false, 0, [], 0⟩, .canRxFrame 0 ⟨0, false, false, false, false,
  false, 16, [], 0⟩, .canRxFrame 0 ⟨0, false, true, true, false, false, 0, [], 0⟩, .canRxFrame 0 ⟨0, false, false,
  false, true, false, 0, [], 0⟩, .canRxFrame 0 ⟨0, false, false, false, false, true, 0, [], 0⟩, .canRxFrame 0 ⟨0,
  false, false, false, false, false, 1, [], 0⟩, .canRxFrame 0 ⟨0, false, true, false, false, false, 1, [0], 0⟩,
  .canRxFrame 0 ⟨0, false, false, true, false, false, 9, [], 0⟩, .canBusOff 2, .canRecover 2 0 tm0, .canRecover 0 (2 ^
  8) tm0, .canBusOffRecovered 2, .brgRun (2 ^ 8) tm0, .omPeriodExpiry 64, .omGapExpiry 64, .signalStale 512,
  .brgCacheRead 512 tm0, .fetchTimeout 512, .reservationBackoffExpiry 16 1, .reservationBackoffExpiry 0 (2 ^ 8),
  .peerEnable 16 0 tm0, .peerEnable 0 (2 ^ 8) tm0, .helloTimer 16, .towAckDelay 16, .towRetransmitTimeout 16,
  .towDeadTimeout 16, .towKeepalive 16, .opRead 5 [], .opRead 0 [⟨2 ^ 21, false⟩], .opReadAcquire 5 [], .opReadAcquire
  0 [⟨2 ^ 21, false⟩], .opWrite 5 [], .opWrite 0 [⟨2 ^ 21, false⟩], .opWriteReserve 5 [], .opWriteReserve 0 [⟨2 ^ 21,
  false⟩], .opFetchAdd 5 [], .opFetchAdd 0 [⟨2 ^ 21, false⟩], .opSwap 5 [], .opSwap 0 [⟨2 ^ 21, false⟩], .opCas 5 [],
  .opCas 0 [⟨2 ^ 21, false⟩], .opFrame 5, .opDictRead 5, .opDictWrite 5, .opResponse 5, .issueRead { fields0 with slot
  := 256 } tm0, .issueRead { fields0 with peer := 256 } tm0, .issueRead { fields0 with win := 16 } tm0, .issueRead {
  fields0 with scope := 4 } tm0, .issueRead { fields0 with barge := 2 ^ 16 } tm0, .issueRead { fields0 with rsvWin :=
  256 } tm0, .issueRead { fields0 with off := 2 ^ 32 } tm0, .issueRead { fields0 with len := 2 ^ 16 } tm0, .issueRead
  { fields0 with opA := 2 ^ 64 } tm0, .issueRead { fields0 with opB := 2 ^ 64 } tm0, .issueReadAcquire { fields0 with
  slot := 256 } tm0, .issueWrite { fields0 with slot := 256 } tm0, .issueWriteReserve { fields0 with slot := 256 }
  tm0, .issueFetchAdd { fields0 with slot := 256 } tm0, .issueSwap { fields0 with slot := 256 } tm0, .issueCas {
  fields0 with slot := 256 } tm0, .towSlotRelease (2 ^ 16) tm0, .towRsvRelease (2 ^ 8) tm0, .rsvHoldExpiry 8,
  .winEnable 8 tm0, .winDisable 8 tm0, .pwmPeriodStart 4, .sluOutEnable 4 0 tm0, .sluOutEnable 0 (2 ^ 8) tm0, .sluArm
  (2 ^ 8) tm0, .sluStop (2 ^ 8) tm0, .sluHeartbeat (2 ^ 8) tm0, .sluHbTimeout 4, .sluHoldElapsed 4, .sluCoastEnd 4,
  .tachoEdge 4 0, .tachoWindow 4, .timeSet (2 ^ 80) tm0, .timeAdjust (-2 ^ 63 - 1) tm0, .timeAdjust (2 ^ 63) tm0] : List Instr).all (fun c => !c.wf)) = true := by decide +kernel

/-- No commands: each breaks one check. -/
theorem test_wf_refuses_4 : (([
  .chCompareFire 4, .chPulseEnd 4, .chCapture 4 false false 0, .chAck 4 0 tm0, .chAck 0 (2 ^ 8) tm0, .chConfigWrite 4
  false 0 tm0, .chConfigWrite 0 false (2 ^ 8) tm0, .tallyTrigger (2 ^ 8) tm0, .tallyModeWrite true (2 ^ 16) tm0,
  .tallyModeWrite false (2 ^ 8) tm0, .intClaim 4 tm0, .srcStateWrite 96 0 tm0, .srcStateWrite 0 (2 ^ 8) tm0,
  .intPendingWrite (2 ^ 96) tm0, .intFaultClear 4 0 tm0, .intFaultClear 0 (2 ^ 8) tm0, .flAckSeq (2 ^ 16) tm0,
  .flClear (2 ^ 8) tm0, .canIntegrationEnd 2, .canRxError 2 (.mk 1 false), .canRxError 0 (.mk 0 false),
  .generationCheckDone 1101] : List Instr).all (fun c => !c.wf)) = true := by decide +kernel

/-- Commands: one term of each constructor. -/
theorem test_wf_accepts_1 : (([
  .pllLockLoss, .crystalStop, .crystalRestart, .dictRead 0 0 0 0 tm0, .dictWrite 0 0 0 0 [] tm0, .domainSegment 0 0 []
  tm0, .imageCheckDone 0, .domainTransferTimeout 0, .queryAddr 0 tm0, .memRead 0 0 [] none tm0, .memWrite 0 [] [],
  .memReadAcquire 0 0 [] none tm0, .statusPoll, .doorbell 0 0, .intComplete 0 0, .dictReadRemote 0 0 0 0 0,
  .dictWriteRemote 0 0 0 0 0 [], .reissue 0x11 1, .slotReadyExpiry 0, .slotPendingTimeout 0, .csEarlyRise,
  .unknownCommand 0, .hostLinkReset 0 tm0, .jobStart 0 tm0, .jobSuspend 0 tm0, .jobResume 0 tm0, .jobCancel 0 tm0,
  .jobSuspendPoint 0, .jobCancelDone 0, .poundScrubBarge 0 [], .bankTestPass 0 [], .tableLoadDone 0 false,
  .cableDiagPhase 0 ⟨false, 0, [], 0⟩, .powerOnReset, .porEnd, .oscStable, .aonTrimsDone false false, .supplyDown
  false, .downToBackup 0 false, .mainReturn, .qualifyExpiry, .supplyBounce 0, .stretchEnd, .brownOut false,
  .brownoutLowBackup, .lockoutEnd, .energySample 0 0 false none, .podlClassify none false, .podlPowerOn, .podlTurnOff,
  .domReq 0 0 tm0, .domainSelect, .domainDrainDone, .domainPowerFail, .domainTransitionEnd [], .ownerScanDone 0,
  .wakeEdge 0, .wakeClear 0 tm0, .tempSample 0, .retentionRefresh 0, .bankRefresh 0, .pllLocked, .pllLockTimeout,
  .nvLoadDone ⟨0, true, [], [], true⟩, .resetNAssert 0, .resetNRelease, .softReset 0 tm0, .domReset 0 tm0,
  .journalChunkWritten, .journalCheckWritten, .journalCommitMark false, .homeChunkWritten false, .sectorErased,
  .commitWordVoid, .poundEnable 0 tm0, .poundEnabled 0 [], .poundDisable 0 tm0, .allocReq 0 tm0, .freeReq 0 tm0,
  .bargeQuery 0 tm0, .lockCycleClose 0, .lockCycleOpen 0 [], .zeroingDone 0 [], .ringStop 0 tm0, .ringRun 0 tm0,
  .ringReset 0 tm0, .ringStopped 0, .chainFetch 0 [], .chainComplete 0, .rxDescriptorWrite 0, .ringCoalTimeout 0,
  .frameReceived 0 ⟨[], false, false, 0, false⟩, .classifyFrame, .txSelect 0, .frameTransmitted 0 false [] 0,
  .pauseTimerExpiry 0, .pauseRefresh 0, .pauseSend 0 0 tm0, .pauseWdBreak 0, .pauseStrikeReset 0, .pauseRearm 0 0 tm0,
  .tsoEnable 0 tm0, .tsoDisable 0 tm0, .wakeListen 0 0 tm0, .pralineEnable 0 tm0, .portStop 0 tm0, .portStart 0 tm0,
  .mdioFrameDone 0, .mdioPoll, .mdioC22Read 0 0 tm0, .mdioC22Write 0 0 0 tm0, .mdioC45Read 0 0 0 tm0, .mdioC45Write 0
  0 0 0 tm0, .govEnable 0 tm0, .govWindow] : List Instr).all Instr.wf) = true := by decide +kernel

/-- Commands: one term of each constructor. -/
theorem test_wf_accepts_2 : (([
  .govStepDrained, .govHoldLimitExpiry, .t1lLinkChange false false false false 0, .t1lSqiUpdate 0 0, .plcaBeaconSend
  2, .plcaBeaconReceived 2, .plcaBeaconLoss 2, .plcaIdConflict 2, .plcaIdConflictClear 2, .sgCarrierMeasure 2 0 0,
  .sgHoldExpiry 2, .sgYield 2 none, .sgDriftExpiry 2 0, .segCollision 2 false false, .backoffExpiry 2, .mergeRelease 0
  [], .mergeWrite 0, .mergeTimeout 0, .grpStart 0 tm0, .grpStop 0 tm0, .grpStopped 0, .clsCommit tm0, .clsTransit tm0,
  .clsTransitRelease tm0, .clsEnd tm0, .clsAbandon tm0, .transitTimeout, .canStart 0 tm0, .canStop 0 tm0, .canTxStart
  0 [], .canTxEnd 0 .lost, .canRxFrame 0 ⟨0, false, false, false, false, false, 0, [], 0⟩, .canBusOff 0, .canRecover 0
  0 tm0, .canBusOffRecovered 0, .bridgeInput, .brgRun 0 tm0, .omPeriodExpiry 0, .omGapExpiry 0, .signalStale 0,
  .brgCacheRead 0 tm0, .fetchTimeout 0, .reservationBackoffExpiry 0 1, .towStart tm0, .towStop tm0, .peerEnable 0 0
  tm0, .helloTimer 0, .helloRx, .towDataRx, .towAckRx, .towAckDelay 0, .towRetransmitTimeout 0, .towDeadTimeout 0,
  .towKeepalive 0, .towForwardFrame, .opRead 0 [], .opReadAcquire 0 [], .opWrite 0 [], .opWriteReserve 0 [],
  .opFetchAdd 0 [], .opSwap 0 [], .opCas 0 [], .opFrame 0, .opDictRead 0, .opDictWrite 0, .opResponse 0, .issueRead
  fields0 tm0, .issueReadAcquire fields0 tm0, .issueWrite fields0 tm0, .issueWriteReserve fields0 tm0, .issueFetchAdd
  fields0 tm0, .issueSwap fields0 tm0, .issueCas fields0 tm0, .towSlotRelease 0 tm0, .towRsvRelease 0 tm0,
  .rsvHoldExpiry 0, .winEnable 0 tm0, .winDisable 0 tm0, .sluTick, .pwmPeriodStart 0, .sluOutEnable 0 0 tm0, .sluArm 0
  tm0, .sluStop 0 tm0, .sluHeartbeat 0 tm0, .sluHbTimeout 0, .sluHoldElapsed 0, .sluCoastEnd 0, .safeNAssert 0,
  .safeNRelease 0, .tachoEdge 0 0, .tachoWindow 0, .timeSet 0 tm0, .timeAdjust 0 tm0, .chCompareFire 0, .chPulseEnd 0,
  .ppsPulse, .chCapture 0 false false 0, .chAck 0 0 tm0, .chConfigWrite 0 false 0 tm0, .tallyBoundary, .tallyTrigger 0
  tm0, .tallyModeWrite false 0 tm0, .intClaim 0 tm0, .srcStateWrite 0 0 tm0, .intPendingWrite 0 tm0, .intFaultClear 0
  0 tm0, .faultLogWrite, .flAckSeq 0 tm0, .flClear 0 tm0, .monitorChangeOscStart none, .podlInrushRampEnd,
  .canIntegrationEnd 0, .canRxError 0 (.mk 1 false), .generationCheckDone 0] : List Instr).all Instr.wf) = true := by decide +kernel

/-- More octets than a length field can name. -/
theorem test_wf_refuses_lengths (data : List Octet) (h : data.length = 65536) :
    Instr.wf (.memWrite 0 data []) = false
    ∧ Instr.wf (.dictWrite 0 0 0 0 data tm0) = false
    ∧ Instr.wf (.domainSegment 0 0 data tm0) = false
    ∧ Instr.wf (.dictWriteRemote 0 0 0 0 0 data) = false
    ∧ Instr.wf (.frameReceived 0 ⟨data, false, false, 0, false⟩) = false := by
  simp [Instr.wf, h]
/-- There are octet strings of that length. -/
theorem test_wf_lengths_met : (List.replicate 65536 (0 : Octet)).length = 65536 := List.length_replicate

/-! ### A device to start from -/

/-- Every domain ON, clocks and supply in MAIN, start-up complete, everything else as after reset; the CK count leaves due moments behind. -/
def up : Dev := { Dev.initial with
  ck := 2 ^ 40
  store := []
  aon := { Dev.initial.aon with
    inPor := false, osc := true, pll := true, startup := .none, doms := List.replicate 16 ⟨.on, none, false, false, false⟩ }
  sup := { Dev.initial.sup with everMain := true, mainIn := true }
  link := { Dev.initial.link with ready := true } }

/-- A host transaction with 1,000 ns an octet whose result is ready at once. -/
def tmw : Timing := ⟨1000, 0⟩

/-- `up` with objects written. -/
def with_ (l : List (Nat × Nat)) : Dev := l.foldl (fun d e => d.wr e.1 e.2) up

/-- The row of an object, one of its own where there is none. -/
def row0 (idx sb : Nat) : ObjRow := (rowAt idx sb).getD ⟨0, 0, 0, 0, 0, .u8, .ro, 0, 0, .none, 0, 0, false⟩

/-- An image with a header and checksum of its body. -/
def imgOct (n : Nat) (body : Oct) : Oct :=
  let h := leOct 2 (imgFmt n) ++ leOct 2 1 ++ leOct 4 (16 + body.length)
  h ++ leOct 4 (crc32 (h ++ zeros 8 ++ body)) ++ zeros 4 ++ body

/-- The device a write's effect leaves, and a value of an option. -/
def devOf : WRes → Dev
  | .ok d | .abort _ d | .pend d => d

/-- A transition of a domain that has begun, to a state. -/
def trans0 (n : Nat) (t : DSt) : Trans := ⟨n, t, false, false, false, false, false, 0, false⟩

/-- A broadcast frame of 64 octets with its FCS. -/
def goodFrame : Oct := let b := List.replicate 6 0xFF ++ zeros 6 ++ [8, 0] ++ zeros 46; b ++ leOct 4 (crc32 b)

/-- An effective image with a body; a Towpath frame; an operation record of one access to window 0; a device with peer 2
(node 7, own node 1) open, and one whose window 0 of peer 2 is enabled over barges 16 to 19. -/
def imgEff (body : Oct) : Img := { Img.idle with eff := some (zeros 16 ++ body) }
def towF (st dst se de seq ack : Nat) (body : Oct) : Oct :=
  zeros 12 ++ beOct 2 0x88B5 ++ [oct (16 + st), 0, 7, oct dst, 0, 0] ++ leOct 2 se ++ leOct 2 de ++ leOct 2 seq ++ leOct 2 ack
    ++ leOct 2 body.length ++ body
def wop (code len win3 : Nat) : Oct := opRecord code 3 win3 0 len 0 0 0
def peerUp (l : List (Nat × Nat)) : Dev :=
  with_ ([(0x600001, 1), (0x600002, 1), (0x600004, 1), (peerKey 2 1, 1), (peerKey 2 2, 7), (peerKey 2 6, 2), (peerKey 2 7, 5 + 65536 * 6)] ++ l)
def winUp : Dev :=
  peerUp [(winKey 0 1, 1), (winKey 0 2, 16), (winKey 0 3, 4), (winKey 0 4, 1), (winKey 0 5, 2 ^ 64 - 1)]
    |>.writeMem 4096 [1, 2, 3, 4, 5, 6, 7, 8]
def lop (code len win3 : Nat) : LaneOp := ⟨2, 5, wop code len win3, zeros 16, [], false, false, none⟩

def rec1 : FaultRec := ⟨1, 2, 3, 4, 5, 6, 7, false, 8, 9, 10, 0⟩


/-- The record of a job that loads an image of one header. -/
def ju0 : JobU := ⟨7, 0, imgOct 10 [], [], [], 0, 0, []⟩

/-- What a dictionary transaction answers and leaves; dictionary operations of peer 2. -/
def bodyOf : DRes → Oct
  | .ok b _ => b
  | _ => []
def dOf : DRes → Dev
  | .ok _ d | .abort _ d | .pend d => d
def okRes : DRes → Bool
  | .ok _ _ => true
  | _ => false
theorem dres_ok (r : DRes) (h : okRes r = true) : r = .ok (bodyOf r) (dOf r) := by
  cases r with
  | ok b d => rfl
  | abort c d => cases h
  | pend d => cases h
def dop9 : LaneOp := ⟨2, 5, opRecord 9 3 0 0 0 0x1000 1 0, [], [], false, false, none⟩
def dop10 : LaneOp := ⟨2, 5, opRecord 10 3 0 0 4 0x1F00 1 0, [1, 0, 16, 0], [], false, false, none⟩

/-- A frame of port 0; an entry of the mask table with a MASK of zeros, its action and argument; a classifier with that one entry, a tree
of its own, and the frame waiting. -/
def fr0 : RxFrame := ⟨0, zeros 60, [5], 0, none, 7⟩
def maskEnt (act arg : Nat) : Oct := zeros 80 ++ [oct act, 0, oct arg, 0, 1] ++ zeros 11
def clsUp (act arg : Nat) (tree : Oct) (l : List (Nat × Nat)) : Dev :=
  (l.foldl (fun d e => d.wr e.1 e.2) ((up.setImg 2 (fun _ => imgEff (maskEnt act arg))).setImg 3 (fun _ => imgEff tree))).setCls
    (fun x => { x with queue := [fr0] })

/-- `winUp` with one operation in lane 1; a CAS of PLANT scope whose comparison holds. -/
def laneUp (x : LaneOp) : Dev := winUp.setLane 1 (fun l => { l with ops := [x] })
def lopC : LaneOp := { lop 7 16 32 with data := [1, 2, 3, 4, 5, 6, 7, 8] ++ zeros 8 }
/-! ### What the octets of a request spell (the worked requests of 03, after Table 3.7) -/

theorem test_decode_mem_read :
    hostRequest [0x21, 0x00, 0xB0, 0x04, 0x40, 0x00] [] none 40 0 = .memRead 0x4B000 64 [] none ⟨320, 0⟩ := by decide
theorem test_decode_dict_read_remote :
    hostRequest [0x61, 0x00, 0x00, 0x10, 0x1E, 0x01, 0, 0, 0, 0, 0, 0] [] none 40 0 = .dictReadRemote 0 0x1E10 1 0 0 := by decide
theorem test_decode_status_poll : hostRequest [0x31] [] none 40 0 = .statusPoll := by decide
theorem test_decode_reissue : hostRequest [0x61, 0x01] [] none 40 0 = .reissue 0x61 1 := by decide
theorem test_decode_quad : hostRequest [0xA1, 0x00, 0xB0, 0x04, 0x40, 0x00] [] none 40 0 = .memRead 0x4B000 64 [] none ⟨80, 0⟩ := by
  decide

/-! ### Witnesses: what each statement supposes holds of a concrete device -/

theorem witness_QueueIsFifoAndNeverStops :
    (∃ s t : State, step s = .next t) ∧ (∃ (c : Instr) (s t : State), exec c s = .next t) ∧ ∃ s : State, s.queueOk ∧ s.pending ≠ [] :=
  ⟨⟨⟨[], up⟩, _, rfl⟩, ⟨.statusPoll, ⟨[], up⟩, _, rfl⟩, ⟨⟨[.statusPoll], up⟩, by unfold State.queueOk; decide, by decide⟩⟩

theorem witness_SettleOfQuietDevice : ∃ (d : Dev), d.quiet = true :=
  ⟨(up.setDom 2 (fun o => { o with st := .off })), by decide +kernel⟩

theorem witness_LevelSourcesStayPending : ∃ s t : State, s.dev.levelsKept ∧ s.dev.levelCond 92 = true ∧ s.dev.on dCORE = true ∧
  step s = .next t := by
  refine ⟨⟨[.statusPoll], (with_ [(srcStateKey 3, 1), (srcStateKey 92, 1)]).setIntc (fun x => { x with faulted := [true] })⟩, _, ?_, by
    decide +kernel, by decide +kernel, rfl⟩
  intro _ s h _
  have hs : s = 3 ∨ s = 77 ∨ s = 92 := by simp only [levelSource, Bool.or_eq_true, beq_iff_eq] at h; omega
  rcases hs with rfl | rfl | rfl
  · exact Or.inl (by decide +kernel)
  · exact absurd ‹_ = true› (by decide +kernel)
  · exact Or.inl (by decide +kernel)

theorem witness_CanonicalFormsStay :
    ∃ s t : State, memWf s.dev.pm.mem = true ∧ s.dev.pm.mem ≠ [] ∧ storeWf s.dev.store = true ∧ s.dev.store ≠ [] ∧ step s = .next t :=
  ⟨⟨[.statusPoll], (with_ [(0x7C0008, 5)]).writeMem 9 [1, 2]⟩, _, by decide +kernel, by decide +kernel, by decide +kernel, by
    decide +kernel, rfl⟩

theorem witness_FreeListsStayFree : ∃ s t : State, s.dev.freesKept ∧ s.dev.pm.frees ≠ [] ∧ step s = .next t :=
  ⟨⟨[.statusPoll], up.setPm (fun m =>
    { m with frees := [(3, 0, [2, 1])], barges := [(1, ⟨.free, 0, true, false, none⟩), (2, ⟨.free, 0, true, false, none⟩)] })⟩, _,
    by unfold Dev.freesKept; decide +kernel, by decide +kernel, rfl⟩

theorem witness_ClockCommandsComplete :
    (∃ (d : Dev), d.aon.pll = true)
    ∧ (∃ (d : Dev), d.aon.osc = true ∧ d.aon.xtalStopped = false)
    ∧ (∃ (d : Dev), d.aon.xtalStopped = true) :=
  ⟨⟨up, by decide +kernel⟩,
   ⟨up, by decide +kernel⟩,
   ⟨(up.setAon (fun a => { a with xtalStopped := true, osc := false })), by decide +kernel⟩⟩

theorem witness_DictReadCompletes : ∃ (d0 : Dev) (d : Dev) (idx : Nat) (sb : Nat) (off : Nat) (len : Nat) (tm : Timing) (r : ObjRow), d =
  d0.hostStart ∧ idx < 2 ^ 16 ∧ sb < 2 ^ 8 ∧ off < 2 ^ 32 ∧ len < 2 ^ 16 ∧ d.linkTakes tm = true ∧ rowAt idx sb = some r ∧
    d.readAbort 0 idx sb off len = none ∧ imgOf idx = none ∧ ((idx / 256 ≠ 0x5A ∨ sb = 0)) ∧ claimObj (objKey idx sb) = false :=
  ⟨up, _, 0x1000, 1, 0, 0, tmw, (row0 0x1000 1), rfl, by decide +kernel⟩

theorem witness_DictWritesComplete :
    (∃ (d0 : Dev) (d : Dev) (d' : Dev) (k : Nat) (v : Nat) (tm : Timing), d = d0.hostStart ∧ k < 2 ^ 24 ∧ k ≠ 0x180003 ∧
      d.hostTakes k v tm = true ∧ (d.noteRx k).writeEffect 0 k v = .ok d')
    ∧ (∃ (d0 : Dev) (d : Dev) (k : Nat) (v : Nat) (tm : Timing), d = d0.hostStart ∧ k / 2 ^ 16 = 0x20 ∧ d.hostTakes k v tm = true)
    ∧ (∃ (d0 : Dev) (d : Dev) (v : Nat) (tm : Timing), d = d0.hostStart ∧ v < 2 ^ 32 ∧ d.hostTakes 0x1F0001 v tm = true)
    ∧ (∃ (d0 : Dev) (d : Dev) (e : Dev) (n : Nat) (data : Oct) (tm : Timing) (r : ObjRow), d = d0.hostStart ∧ e = d.imgCheckDone n ∧
      n < 14 ∧ d.linkTakes tm = true ∧ rowAt (imgIdx n) 0 = some r ∧ d.writeAbort r 0 (imgIdx n * 256) 0x0B (leNat data) = none ∧
        0 < data.length ∧ data.length < 16)
    ∧ (∃ (d0 : Dev) (d : Dev) (e : Dev) (n : Nat) (data : Oct) (tm : Timing) (r : ObjRow) (x : Xfer), d = d0.hostStart ∧
      e = d.imgCheckDone n ∧ n < 14 ∧ d.linkTakes tm = true ∧ rowAt (imgIdx n) 0 = some r ∧
        d.writeAbort r 0 (imgIdx n * 256) 0x0B (leNat data) = none ∧ (e.img n).xfer = some x ∧ 16 ≤ x.data.length ∧
          x.data.length < 2 ^ 32 ∧ 0 < data.length ∧ data.length ≤ 1024 ∧ (x.data ++ data).length < leAt (x.data ++ data) 4 4) :=
  ⟨⟨up, _, (devOf (Dev.writeEffect (up.hostStart.noteRx 0x1F0001) 0 0x1F0001 0x100001)), 0x1F0001, 0x100001, tmw, rfl, by decide, by
    decide, by decide +kernel, rfl⟩,
   ⟨up, _, 0x202001, 0, tmw, rfl, by decide +kernel⟩,
   ⟨up, _, 0x100001, tmw, rfl, by decide +kernel⟩,
   ⟨up, _, _, 10, [1], tmw, (row0 0x5430 0), rfl, rfl, by decide +kernel⟩,
   ⟨(up.setImg 10 (fun i => { i with xfer := some ⟨0, leOct 4 0x10201 ++ leOct 4 48 ++ zeros 8, 0⟩ })), _, _, 10, (zeros 16), tmw, (row0
     0x5430 0), (⟨0, leOct 4 0x10201 ++ leOct 4 48 ++ zeros 8, 0⟩), rfl, rfl, by decide +kernel⟩⟩

theorem witness_ImageEventsComplete :
    (∃ (d : Dev) (n : Nat) (x : Xfer), 10 ≤ n ∧ n < 14 ∧ (d.img n).check = some x ∧ imageOk n x.data = true)
    ∧ (∃ (d : Dev) (e : Dev) (n : Nat) (x : Xfer), e = (d.advanceTo (x.last + (x.data.length + 7) / 8)).setImg n (fun i =>
      { i with check := none }) ∧ n < 14 ∧ (d.img n).check = some x ∧ imageOk n x.data = false)
    ∧ (∃ (d : Dev) (e : Dev) (n : Nat) (x : Xfer), e = (d.advanceTo (x.last + (x.data.length + 7) / 8)).setImg n (fun i =>
      { i with check := none }) ∧ n < 14 ∧ (d.img n).check = some x ∧ imageOk n x.data = false)
    ∧ (∃ (d : Dev) (e : Dev) (n : Nat) (x : Xfer), e = (d.advanceTo (x.last + (x.data.length + 7) / 8)).setImg n (fun i =>
      { i with check := none }) ∧ n < 10 ∧ (d.img n).check = some x ∧ imageOk n x.data = true ∧ n / 5 = e.clsActive)
    ∧ (∃ (d : Dev) (e : Dev) (n : Nat) (x : Xfer), e = (d.advanceTo (x.last + (x.data.length + 7) / 8)).setImg n (fun i =>
      { i with check := none }) ∧ n < 10 ∧ (d.img n).check = some x ∧ imageOk n x.data = true ∧ n / 5 ≠ e.clsActive ∧
        e.genClash n x.data = none)
    ∧ (∃ (d : Dev) (e : Dev) (n : Nat) (c : Nat) (x : Xfer), e = (d.advanceTo (x.last + (x.data.length + 7) / 8)).setImg n (fun i =>
      { i with check := none }) ∧ n < 10 ∧ (d.img n).check = some x ∧ imageOk n x.data = true ∧ n / 5 ≠ e.clsActive ∧
        e.genClash n x.data = some c)
    ∧ (∃ (d : Dev) (n : Nat) (x : Xfer), n < 14 ∧ (d.img n).xfer = some x) :=
  ⟨⟨(up.setImg 10 (fun i => { i with check := some ⟨0, imgOct 10 [], 0⟩ })), 10, (⟨0, imgOct 10 [], 0⟩), by decide +kernel⟩,
   ⟨(up.setImg 10 (fun i => { i with check := some ⟨0, [1], 0⟩ })), _, 10, (⟨0, [1], 0⟩), rfl, by decide +kernel⟩,
   ⟨(up.setImg 2 (fun i => { i with check := some ⟨0, zeros 16, 0⟩ })), _, 2, (⟨0, zeros 16, 0⟩), rfl, by decide +kernel⟩,
   ⟨(up.setImg 2 (fun i => { i with check := some ⟨0, imgOct 2 [], 0⟩ })), _, 2, (⟨0, imgOct 2 [], 0⟩), rfl, by decide +kernel⟩,
   ⟨(up.setImg 7 (fun i => { i with check := some ⟨0, imgOct 7 [], 0⟩ })), _, 7, (⟨0, imgOct 7 [], 0⟩), rfl, by decide +kernel⟩,
   ⟨({ (up.setImg 6 (fun i =>
     { i with check := some ⟨0, imgOct 6 (leOct 4 1 ++ zeros 18 ++ [1] ++ zeros 121), 0⟩ })) with claims := [⟨1, 0, 1, 0⟩] }), _, 6,
       0x0501, (⟨0, imgOct 6 (leOct 4 1 ++ zeros 18 ++ [1] ++ zeros 121), 0⟩), rfl, by decide +kernel⟩,
   ⟨(up.setImg 10 (fun i => { i with xfer := some ⟨0, leOct 4 0x10201 ++ leOct 4 48 ++ zeros 8, 0⟩ })), 10, (⟨0, leOct 4 0x10201 ++ leOct
     4 48 ++ zeros 8, 0⟩), by decide +kernel⟩⟩

theorem witness_MemoryCommandsComplete :
    (∃ (d0 : Dev) (d : Dev) (e : Dev) (a : Nat) (n : Nat) (ss : List Strike) (tm : Timing), d = d0.hostStart ∧
      e = d.awaitOpen (bargesOf a (min n 4096)) ∧ a < 2 ^ 24 ∧ strikesOk ss = true ∧ d.hostUp = true ∧ d.late 72 tm = false ∧
        e.memCheck a n false = none)
    ∧ (∃ (d0 : Dev) (d : Dev) (a : Nat) (n : Nat) (tm : Timing), d = d0.hostStart ∧ a < 2 ^ 24 ∧ d.hostUp = true ∧
      d.late 72 tm = false ∧ (bargesOf a n).all (fun b => !d.lockClosed b) = true ∧ d.memCheck a n false = none ∧ d.link.ra = none ∧
        (wordsOf a n).all (fun w => !d.pm.bad.contains w && d.pm.upsets.all (fun s => strikeWord s != w)) = true)
    ∧ (∃ (d0 : Dev) (d : Dev) (e : Dev) (a : Nat) (data : Oct) (ss : List Strike), d = d0.hostStart ∧
      e = d.awaitOpen (bargesOf a (min data.length 4096)) ∧ a < 2 ^ 24 ∧ strikesOk ss = true ∧ d.hostUp = true ∧
        e.memCheck a data.length true = none ∧ data.length < 2 ^ 16)
    ∧ (∃ (d0 : Dev) (d : Dev) (a : Nat) (data : Oct), d = d0.hostStart ∧ a < 2 ^ 24 ∧ d.hostUp = true ∧
      (bargesOf a data.length).all (fun b => !d.lockClosed b) = true ∧ d.memCheck a data.length true = none ∧ d.pm.bad = [] ∧
        d.pm.upsets = [])
    ∧ (∃ (d0 : Dev) (d : Dev) (a : Nat) (n : Nat) (tm : Timing), d = d0.hostStart ∧ a < 2 ^ 24 ∧ d.hostUp = true ∧
      d.late 200 tm = false ∧ (bargesOf a n).all (fun b => !d.lockClosed b) = true ∧ d.memCheck a n false = none ∧
        (wordsOf a n).all (fun w => !d.pm.bad.contains w && d.pm.upsets.all (fun s => strikeWord s != w)) = true ∧
          (∀ i < 4, ∀ x ∈ (d.lane i).ops, opCode x.op ≠ 3 ∧ opCode x.op ≠ 4))
    ∧ (∃ (a : Nat) (n : Nat) (data : Oct), a < 2 ^ 24 ∧ n < 2 ^ 16 ∧ data.length < 2 ^ 16) :=
  ⟨⟨(up.setPm (fun m => { m with bad := [3], barges := [(4096, ⟨.host, 0, false, false, none⟩)] })), _, _, 0, 4096, [], tmw, rfl, rfl, by
    decide +kernel⟩,
   ⟨up, _, 0x1FFFFF, 1, tmw, rfl, by decide +kernel⟩,
   ⟨up, _, _, 0x1FFFF9, (zeros 7), [], rfl, rfl, by decide +kernel⟩,
   ⟨up, _, 0x1FFFF8, (zeros 8), rfl, by decide +kernel⟩,
   ⟨up, _, 0x1FFFFF, 1, tmw, rfl, by decide +kernel⟩,
   ⟨0x1FFFFF, 4096, (zeros 3), by decide +kernel⟩⟩

theorem witness_PollBellCompleteCommandsComplete :
    (∃ (d0 : Dev) (d : Dev), d = d0.hostStart ∧ d.linkAnswers = true)
    ∧ (∃ (d0 : Dev) (d : Dev) (r : Nat) (i : Nat), d = d0.hostStart ∧ r < 56 ∧ isTxRing r = true ∧ i < 2 ^ 16 ∧ d.hostUp = true ∧
      ((d.ringState r = 1 ∨ d.ringState r = 2)) ∧ d.brgRing r = false ∧ d.on dPM0 = true ∧
        sub16 (d.ringHost r) (d.ringDev r) ≤ sub16 i (d.ringDev r) ∧ sub16 i (d.ringDev r) ≤ d.ringN r)
    ∧ (∃ (d0 : Dev) (d : Dev) (r : Nat) (i : Nat), d = d0.hostStart ∧ r < 56 ∧ isTxRing r = false ∧ i < 2 ^ 16 ∧ d.hostUp = true ∧
      ((d.ringState r = 1 ∨ d.ringState r = 2)) ∧ d.brgRing r = false ∧ d.on dPM0 = true ∧
        sub16 (d.ringDev r) i ≤ sub16 (d.ringDev r) (d.ringHost r))
    ∧ (∃ (d0 : Dev) (d : Dev) (t : Nat) (s : Nat), d = d0.hostStart ∧ t < 4 ∧ s < 96 ∧ d.hostUp = true ∧ d.faulted t = false ∧
      (d.stack t).head?.map (·.1) = some s) :=
  ⟨⟨up, _, rfl, by decide +kernel⟩,
   ⟨(with_ [(ringKey 0 3, 1), (ringKey 0 2, 4)]), _, 0, 16, rfl, by decide +kernel⟩,
   ⟨(with_ [(ringKey 32 3, 1), (ringKey 32 2, 4), (ringKey 32 5, 5)]), _, 32, 5, rfl, by decide +kernel⟩,
   ⟨(up.setIntc (fun i => { i with serving := [[(5, 3)], [], [], []] })), _, 0, 5, rfl, by decide +kernel⟩⟩

theorem witness_RetryCommandsComplete :
    (∃ (d0 : Dev) (d : Dev) (peer : Nat) (idx : Nat) (sb : Nat) (off : Nat) (len : Nat) (s : Nat), d = d0.hostStart ∧ peer < 16 ∧
      idx < 2 ^ 16 ∧ sb < 2 ^ 8 ∧ off < 2 ^ 32 ∧ len < 2 ^ 16 ∧ d.hostUp = true ∧ d.freeSlot = some s ∧ d.towOn = true ∧
        d.peerState peer = 2)
    ∧ (∃ (d0 : Dev) (d : Dev) (peer : Nat) (idx : Nat) (sb : Nat) (ty : Nat) (off : Nat) (s : Nat) (data : Oct), d = d0.hostStart ∧
      peer < 16 ∧ idx < 2 ^ 16 ∧ sb < 2 ^ 8 ∧ ty < 2 ^ 8 ∧ off < 2 ^ 32 ∧ data.length < 2 ^ 16 ∧ d.hostUp = true ∧
        d.freeSlot = some s ∧ d.towOn = true ∧ d.peerState peer = 2)
    ∧ (∃ (d0 : Dev) (d : Dev) (cmd : Nat) (tag : Nat) (s : Nat) (x : Slot) (r : Res), d = d0.hostStart ∧
      cmd ∈ [0x11, 0x12, 0x61, 0x62] ∧ 1 ≤ tag ∧ tag < 2 ^ 8 ∧ d.hostUp = true ∧
        d.link.slots.findIdx? (fun o => o.any (fun x => x.tag == tag && x.cmd == cmd)) = some s ∧ d.slot s = some x ∧ x.res = some r) :=
  ⟨⟨(with_ [(0x600001, 1), (peerKey 2 1, 1), (peerKey 2 6, 2)]), _, 2, 0x1000, 1, 0, 0, 0, rfl, by decide +kernel⟩,
   ⟨(with_ [(0x600001, 1), (peerKey 2 1, 1), (peerKey 2 6, 2)]), _, 2, 0x1F00, 1, 0, 0, 0, ([1, 0, 0, 0]), rfl, by decide +kernel⟩,
   ⟨(up.setSlot 3 (some ⟨9, 0x11, 0xFF, 0x5A00, 1, 0, some (.ok [1])⟩)), _, 0x11, 9, 3, (⟨9, 0x11, 0xFF, 0x5A00, 1, 0, some (.ok [1])⟩),
     (.ok [1]), rfl, by decide +kernel⟩⟩

theorem witness_LinkEventsComplete :
    (∃ (d : Dev) (s : Nat) (x : Slot) (body : Oct), s < 8 ∧ d.slot s = some x ∧ x.res = some (.ok body))
    ∧ (∃ (d : Dev) (s : Nat) (x : Slot) (c : Nat) (p : Nat), s < 8 ∧ d.slot s = some x ∧ x.res = some (.abort c p))
    ∧ (∃ (d : Dev) (s : Nat) (x : Slot), s < 8 ∧ d.slot s = some x ∧ x.res = none ∧ x.peer = 0xFF)
    ∧ (∃ (d : Dev) (s : Nat) (x : Slot), s < 8 ∧ d.slot s = some x ∧ x.res = none ∧ x.peer ≠ 0xFF)
    ∧ (∃ (d : Dev), d.linkAnswers = true)
    ∧ (∃ (d : Dev) (code : Nat), code < 2 ^ 8 ∧ code % 128 ∉ [0x11, 0x12, 0x21, 0x22, 0x23, 0x31, 0x41, 0x51, 0x61, 0x62] ∧
      d.linkAnswers = true)
    ∧ (∃ (d0 : Dev) (d : Dev) (tm : Timing), d = d0.hostStart ∧ d.hostTakes 0x180003 0xA5 tm = true) :=
  ⟨⟨(up.setSlot 7 (some ⟨9, 0x11, 0xFF, 0x5A00, 1, 0, some (.ok [])⟩)), 7, (⟨9, 0x11, 0xFF, 0x5A00, 1, 0, some (.ok [])⟩), [], by
    decide +kernel⟩,
   ⟨(up.setSlot 7 (some ⟨9, 0x11, 0xFF, 0x5A00, 1, 0, some (.abort 0x602 0x601)⟩)), 7, (⟨9, 0x11, 0xFF, 0x5A00, 1, 0, some (.abort 0x602
     0x601)⟩), 0x602, 0x601, by decide +kernel⟩,
   ⟨(up.setSlot 7 (some ⟨9, 0x11, 0xFF, 0x5A00, 1, 0, none⟩)), 7, (⟨9, 0x11, 0xFF, 0x5A00, 1, 0, none⟩), by decide +kernel⟩,
   ⟨(up.setSlot 7 (some ⟨9, 0x11, 2, 0x5A00, 1, 0, none⟩)), 7, (⟨9, 0x11, 2, 0x5A00, 1, 0, none⟩), by decide +kernel⟩,
   ⟨up, by decide +kernel⟩,
   ⟨up, 0xFF, by decide +kernel⟩,
   ⟨up, _, tmw, rfl, by decide +kernel⟩⟩

theorem witness_JobCommandsComplete :
    (∃ (d0 : Dev) (d : Dev) (n : Nat) (tm : Timing), d = d0.hostStart ∧ n < 4 ∧ d.hostTakes (jobKey n 2) 1 tm = true ∧
      ((d.jobKind n ≤ 3 → d.nvStartFits (d.jobKind n) = true)) ∧ d.jobProbes n = none)
    ∧ (∃ (d0 : Dev) (d : Dev) (n : Nat) (tm : Timing), d = d0.hostStart ∧ n < 4 ∧ d.hostTakes (jobKey n 2) 1 tm = true ∧ d.jobKind n = 5)
    ∧ (∃ (d0 : Dev) (d : Dev) (n : Nat) (tm : Timing), d = d0.hostStart ∧ n < 4 ∧ d.hostTakes (jobKey n 2) 2 tm = true ∧ d.jobState n = 1)
    ∧ (∃ (d0 : Dev) (d : Dev) (n : Nat) (tm : Timing), d = d0.hostStart ∧ n < 4 ∧ d.hostTakes (jobKey n 2) 2 tm = true ∧ d.jobState n ≠ 1)
    ∧ (∃ (d0 : Dev) (d : Dev) (n : Nat) (tm : Timing), d = d0.hostStart ∧ n < 4 ∧ d.hostTakes (jobKey n 2) 3 tm = true)
    ∧ (∃ (d0 : Dev) (d : Dev) (n : Nat) (tm : Timing), d = d0.hostStart ∧ n < 4 ∧ d.hostTakes (jobKey n 2) 4 tm = true ∧
      d.jobState n ≠ 4) :=
  ⟨⟨(with_ [(jobKey 3 1, 8), (jobKey 3 6, 0x64), (0x300001, 1), (0x300002, 3), (0x300003, 10)]), _, 3, tmw, rfl, by decide +kernel⟩,
   ⟨(with_ [(jobKey 3 1, 5), (0x252001, 0), (0x252002, 4)]), _, 3, tmw, rfl, by decide +kernel⟩,
   ⟨(with_ [(jobKey 3 1, 5), (0x252001, 0), (0x252002, 4), (jobKey 3 3, 1)]), _, 3, tmw, rfl, by decide +kernel⟩,
   ⟨(with_ [(jobKey 3 1, 5), (0x252001, 0), (0x252002, 4), (jobKey 3 3, 2)]), _, 3, tmw, rfl, by decide +kernel⟩,
   ⟨(with_ [(jobKey 3 1, 5), (0x252001, 0), (0x252002, 4), (jobKey 3 3, 3)]), _, 3, tmw, rfl, by decide +kernel⟩,
   ⟨(with_ [(jobKey 3 1, 5), (0x252001, 0), (0x252002, 4), (jobKey 3 3, 1)]), _, 3, tmw, rfl, by decide +kernel⟩⟩

theorem witness_JobScrubEventsComplete :
    (∃ (d : Dev) (n : Nat) (c : Nat), n < 4 ∧ c = (d.jobU n).cause ∧ (d.jobState n = 2 ∨ (d.jobState n = 1 ∧ c ≠ 0)) ∧
      (d.jobKind n = 5 ∨ (d.jobKind n = 6 ∧ (d.jobU n).items ≠ []) ∨ ((d.jobKind n = 1 ∨ d.jobKind n = 3) ∧ d.nvAtPoint n = true)))
    ∧ (∃ (d : Dev) (n : Nat) (c : Nat), n < 4 ∧ c = (d.jobU n).cause ∧ (d.jobState n = 2 ∨ (d.jobState n = 1 ∧ c ≠ 0)) ∧
      (d.jobKind n = 5 ∨ (d.jobKind n = 6 ∧ (d.jobU n).items ≠ []) ∨ ((d.jobKind n = 1 ∨ d.jobKind n = 3) ∧ d.nvAtPoint n = true)))
    ∧ (∃ (d : Dev) (n : Nat), n < 4 ∧ ((d.jobKind n = 6 ∧ (d.jobU n).items = []) ∨ ((d.jobKind n = 1 ∨ d.jobKind n = 3) ∧
      d.nvAtPoint n = false)))
    ∧ (∃ (d : Dev) (n : Nat), n < 4 ∧ ((d.jobKind n = 6 ∧ (d.jobU n).items = []) ∨ ((d.jobKind n = 1 ∨ d.jobKind n = 3) ∧
      d.nvAtPoint n = false)))
    ∧ (∃ (d : Dev) (e : Dev) (n : Nat), e = (if d.jobKind n = 0 then d else d.nvRelease) ∧ n < 4 ∧ d.jobState n = 4 ∧ d.jobKind n < 4 ∧
      d.nvCancelled n = true)
    ∧ (∃ (d : Dev) (e : Dev) (n : Nat), e = (if d.jobKind n = 0 then d else d.nvRelease) ∧ n < 4 ∧ d.jobState n = 4 ∧ d.jobKind n < 4 ∧
      d.nvCancelled n = true)
    ∧ (∃ (d : Dev) (e : Dev) (n : Nat), n < 4 ∧ d.jobState n = 4 ∧ ((d.jobKind n = 4 ∧ e = d.jobUnclaim n) ∨ (d.jobKind n = 5 ∧
      e = d) ∨ (d.jobKind n = 7 ∧ e = d.setLink (d.jobParam n 0) 0) ∨ (d.jobKind n = 8 ∧ e = d.rateUndo)))
    ∧ (∃ (d : Dev) (e : Dev) (n : Nat), n < 4 ∧ d.jobState n = 4 ∧ ((d.jobKind n = 4 ∧ e = d.jobUnclaim n) ∨ (d.jobKind n = 5 ∧
      e = d) ∨ (d.jobKind n = 7 ∧ e = d.setLink (d.jobParam n 0) 0) ∨ (d.jobKind n = 8 ∧ e = d.rateUndo)))
    ∧ (∃ (d : Dev) (e : Dev) (n : Nat), n < 4 ∧ d.jobState n = 4 ∧ ((d.jobKind n = 4 ∧ e = d.jobUnclaim n) ∨ (d.jobKind n = 5 ∧
      e = d) ∨ (d.jobKind n = 7 ∧ e = d.setLink (d.jobParam n 0) 0) ∨ (d.jobKind n = 8 ∧ e = d.rateUndo)))
    ∧ (∃ (d : Dev) (e : Dev) (n : Nat), n < 4 ∧ d.jobState n = 4 ∧ ((d.jobKind n = 4 ∧ e = d.jobUnclaim n) ∨ (d.jobKind n = 5 ∧
      e = d) ∨ (d.jobKind n = 7 ∧ e = d.setLink (d.jobParam n 0) 0) ∨ (d.jobKind n = 8 ∧ e = d.rateUndo)))
    ∧ (∃ (d : Dev) (e : Dev) (n : Nat), e = d.advanceTo ((d.jobU n).askAt + 65536) ∧ n < 4 ∧ d.jobState n = 4 ∧ d.jobKind n = 6 ∧
      (e.dom (bankDom (e.jobParam n 0))).st ≠ .off)
    ∧ (∃ (d : Dev) (e : Dev) (n : Nat) (j : Nat) (p : Nat) (at_ : Nat) (ss : List Strike), p = d.jobParam n 1 ∧
      at_ = max d.ck (if p = 0 then 0 else (d.jobU n).since + 10000 / p) ∧ e = d.advanceTo at_ ∧ n < 4 ∧ strikesOk ss = true ∧
        d.jobUnit n 5 at_ (p == 0) = true ∧ d.scrubNext (d.jobParam n 0) (d.rd (jobKey n 4)) (d.rd (jobKey n 5) - d.rd (jobKey n 4)) =
          some j ∧ d.lockBusy (d.poundBase (d.jobParam n 0) + j) = false)
    ∧ (∃ (d : Dev) (e : Dev) (n : Nat) (j : Nat) (p : Nat) (at_ : Nat) (ss : List Strike), p = d.jobParam n 1 ∧
      at_ = max d.ck (if p = 0 then 0 else (d.jobU n).since + 10000 / p) ∧ e = d.advanceTo at_ ∧ n < 4 ∧ strikesOk ss = true ∧
        d.jobUnit n 5 at_ (p == 0) = true ∧ d.scrubNext (d.jobParam n 0) (d.rd (jobKey n 4)) (d.rd (jobKey n 5) - d.rd (jobKey n 4)) =
          some j ∧ d.lockBusy (d.poundBase (d.jobParam n 0) + j) = false) :=
  ⟨⟨(with_ [(jobKey 3 1, 5), (0x252001, 0), (0x252002, 4), (jobKey 3 3, 2)]), 3, 0, by decide +kernel⟩,
   ⟨((with_ [(jobKey 3 1, 6), (jobKey 3 3, 1)]).setJobU 3 (fun x => { x with items := [0], cause := 3 })), 3, 3, by decide +kernel⟩,
   ⟨((with_ [(jobKey 3 1, 6), (jobKey 3 3, 2)]).setJobU 3 (fun x => { x with items := [] })), 3, by decide +kernel⟩,
   ⟨(((with_ [(jobKey 3 1, 1), (jobKey 3 3, 2)]).setJobU 3 (fun x => { x with items := [] })).setNv (fun x =>
     { x with cur := some ⟨some 3, 0, 1, 9, 5, false⟩ })), 3, by decide +kernel⟩,
   ⟨((with_ [(jobKey 3 1, 0), (jobKey 3 3, 4)]).setJobU 3 (fun x => { x with items := [] })), _, 3, rfl, by decide +kernel⟩,
   ⟨((with_ [(jobKey 3 1, 1), (jobKey 3 3, 4)]).setJobU 3 (fun x => { x with items := [] })), _, 3, rfl, by decide +kernel⟩,
   ⟨((with_ [(jobKey 3 1, 4), (jobKey 3 3, 4)]).setJobU 3 (fun x => { x with items := [] })), (((with_ [(jobKey 3 1, 4), (jobKey 3 3,
     4)]).setJobU 3 (fun x => { x with items := [] })).jobUnclaim 3), 3, by decide +kernel⟩,
   ⟨((with_ [(jobKey 3 1, 5), (jobKey 3 3, 4)]).setJobU 3 (fun x => { x with items := [] })), (((with_ [(jobKey 3 1, 5), (jobKey 3 3,
     4)]).setJobU 3 (fun x => { x with items := [] }))), 3, by decide +kernel⟩,
   ⟨((with_ [(jobKey 3 1, 7), (jobKey 3 3, 4)]).setJobU 3 (fun x => { x with items := [] })), (((with_ [(jobKey 3 1, 7), (jobKey 3 3,
     4)]).setJobU 3 (fun x => { x with items := [] })).setLink (((with_ [(jobKey 3 1, 7), (jobKey 3 3, 4)]).setJobU 3 (fun x =>
       { x with items := [] })).jobParam 3 0) 0), 3, by decide +kernel⟩,
   ⟨((with_ [(jobKey 3 1, 8), (jobKey 3 3, 4)]).setJobU 3 (fun x => { x with items := [] })), (((with_ [(jobKey 3 1, 8), (jobKey 3 3,
     4)]).setJobU 3 (fun x => { x with items := [] })).rateUndo), 3, by decide +kernel⟩,
   ⟨((with_ [(jobKey 3 1, 6), (jobKey 3 3, 4)]).setJobU 3 (fun x => { x with items := [] })), _, 3, rfl, by decide +kernel⟩,
   ⟨(with_ [(jobKey 3 1, 5), (0x252001, 0), (0x252002, 4), (jobKey 3 3, 1), (jobKey 3 5, 4)]), _, 3, 0, _, _, [], rfl, rfl, rfl, by
     decide +kernel⟩,
   ⟨(with_ [(jobKey 3 1, 5), (0x252001, 0), (0x252002, 4), (jobKey 3 3, 1), (jobKey 3 5, 4), (jobKey 3 6, 256 * 7)]), _, 3, 0, _, _, [],
     rfl, rfl, rfl, by decide +kernel⟩⟩

theorem witness_JobUnitEventsComplete :
    (∃ (d : Dev) (e : Dev) (f : Dev) (n : Nat) (m : Nat) (bad : List Nat), m = d.rd (jobKey n 4) ∧
      e = d.advanceTo ((d.jobU n).since + 131072) ∧ f = forEach (if m = 0 then [] else (bad.map (fun a => a / 8 * 8)).filter (fun a =>
        bankOfAddr a == d.jobParam n 0)) e (fun a x => (if x.rd 0x255001 = 0xFFFFFFFF then (x.inc 0x255002).wr 0x255001 a else x.inc
          0x255002).setJobU n (fun u => { u with failed := if u.failed.contains (a / 256) then u.failed else u.failed ++ [a / 256] })) ∧
            n < 4 ∧ (∀ w ∈ bad, w < 2 ^ 21) ∧ d.jobKind n = 6 ∧ d.jobState n = 1 ∧ (d.jobU n).items = [] ∧ (d.jobU n).cause = 0 ∧
              m + 65536 < 262144)
    ∧ (∃ (d : Dev) (e : Dev) (f : Dev) (n : Nat) (m : Nat) (bad : List Nat), m = d.rd (jobKey n 4) ∧
      e = d.advanceTo ((d.jobU n).since + 131072) ∧ f = forEach (if m = 0 then [] else (bad.map (fun a => a / 8 * 8)).filter (fun a =>
        bankOfAddr a == d.jobParam n 0)) e (fun a x => (if x.rd 0x255001 = 0xFFFFFFFF then (x.inc 0x255002).wr 0x255001 a else x.inc
          0x255002).setJobU n (fun u => { u with failed := if u.failed.contains (a / 256) then u.failed else u.failed ++ [a / 256] })) ∧
            n < 4 ∧ (∀ w ∈ bad, w < 2 ^ 21) ∧ d.jobKind n = 6 ∧ d.jobState n = 1 ∧ (d.jobU n).items = [] ∧ (d.jobU n).cause = 0 ∧
              m + 65536 < 262144)
    ∧ (∃ (d : Dev) (e : Dev) (f : Dev) (n : Nat), e = d.advanceTo ((d.jobU n).since + 131072) ∧
      f = (((e.wr (jobKey n 4) 262144).setJobU n (fun u => { u with items := if e.jobAsked n then [0] else [], since := e.ck })).setPm
        (fun x =>
          { x with mem := memZero x.mem (0x80000 * d.jobParam n 0) 0x80000, filled := x.filled.filter (fun y => y.1 != d.jobParam n 0) })).bankTestEnd n true ∧ n < 4 ∧ d.jobKind n = 6 ∧ d.jobState n = 1 ∧ (d.jobU n).items = [] ∧ (d.jobU n).cause = 0 ∧ d.rd (jobKey n 4) = 196608)
    ∧ (∃ (d : Dev) (e : Dev) (f : Dev) (n : Nat), e = d.advanceTo ((d.jobU n).since + 131072) ∧
      f = (((e.wr (jobKey n 4) 262144).setJobU n (fun u => { u with items := if e.jobAsked n then [0] else [], since := e.ck })).setPm
        (fun x =>
          { x with mem := memZero x.mem (0x80000 * d.jobParam n 0) 0x80000, filled := x.filled.filter (fun y => y.1 != d.jobParam n 0) })).bankTestEnd n true ∧ n < 4 ∧ d.jobKind n = 6 ∧ d.jobState n = 1 ∧ (d.jobU n).items = [] ∧ (d.jobU n).cause = 0 ∧ d.rd (jobKey n 4) = 196608)
    ∧ (∃ (d : Dev) (e : Dev) (n : Nat) (i : Nat) (c : Nat) (l : Oct) (ok : Bool), c = d.loadCount n ∧ l = (d.jobU n).data ∧
      e = (d.advanceTo ((d.jobU n).since + c)).wr (jobKey n 4) c ∧ n < 4 ∧
        d.jobUnit n 4 (max d.ck ((d.jobU n).since + c)) false = true ∧ d.jobImage n = some i ∧ ((i < 10 → e.genClash i l = none)) ∧
          ((d.jobParam n 2 = 1 → 16 ≤ l.length ∧ headerOk i l = true ∧ leAt l 4 4 = l.length ∧ ok = true ∧ imageOk i l = true)))
    ∧ (∃ (d : Dev) (e : Dev) (n : Nat) (i : Nat) (c : Nat) (l : Oct) (ok : Bool), c = d.loadCount n ∧ l = (d.jobU n).data ∧
      e = (d.advanceTo ((d.jobU n).since + c)).wr (jobKey n 4) c ∧ n < 4 ∧
        d.jobUnit n 4 (max d.ck ((d.jobU n).since + c)) false = true ∧ d.jobImage n = some i ∧ ((i < 10 → e.genClash i l = none)) ∧
          ((d.jobParam n 2 = 1 → 16 ≤ l.length ∧ headerOk i l = true ∧ leAt l 4 4 = l.length ∧ ok = true ∧ imageOk i l = true)))
    ∧ (∃ (d : Dev) (e : Dev) (n : Nat) (i : Nat) (c : Nat) (l : Oct) (ok : Bool), c = d.loadCount n ∧ l = (d.jobU n).data ∧
      e = (d.advanceTo ((d.jobU n).since + c)).wr (jobKey n 4) c ∧ n < 4 ∧
        d.jobUnit n 4 (max d.ck ((d.jobU n).since + c)) false = true ∧ d.jobImage n = some i ∧ ((i < 10 → e.genClash i l = none)) ∧
          ((d.jobParam n 2 = 1 → 16 ≤ l.length ∧ headerOk i l = true ∧ leAt l 4 4 = l.length ∧ ok = true ∧ imageOk i l = true)))
    ∧ (∃ (d : Dev) (e : Dev) (n : Nat) (i : Nat) (c : Nat) (l : Oct) (ok : Bool), c = d.loadCount n ∧ l = (d.jobU n).data ∧
      e = (d.advanceTo ((d.jobU n).since + c)).wr (jobKey n 4) c ∧ n < 4 ∧
        d.jobUnit n 4 (max d.ck ((d.jobU n).since + c)) false = true ∧ d.jobImage n = some i ∧ d.jobState n ≠ 4 ∧ ((i < 10 ∧
          e.genClash i l ≠ none) ∨ (d.jobParam n 2 = 1 ∧ (ok = false ∨ imageOk i l = false))))
    ∧ (∃ (d : Dev) (e : Dev) (n : Nat) (i : Nat) (c : Nat) (l : Oct) (ok : Bool), c = d.loadCount n ∧ l = (d.jobU n).data ∧
      e = (d.advanceTo ((d.jobU n).since + c)).wr (jobKey n 4) c ∧ n < 4 ∧
        d.jobUnit n 4 (max d.ck ((d.jobU n).since + c)) false = true ∧ d.jobImage n = some i ∧ d.jobState n ≠ 4 ∧ ((i < 10 ∧
          e.genClash i l ≠ none) ∨ (d.jobParam n 2 = 1 ∧ (ok = false ∨ imageOk i l = false))))
    ∧ (∃ (d : Dev) (e : Dev) (n : Nat) (i : Nat) (c : Nat) (l : Oct) (ok : Bool), c = d.loadCount n ∧ l = (d.jobU n).data ∧
      e = (d.advanceTo ((d.jobU n).since + c)).wr (jobKey n 4) c ∧ n < 4 ∧
        d.jobUnit n 4 (max d.ck ((d.jobU n).since + c)) false = true ∧ d.jobImage n = some i ∧ d.jobState n ≠ 4 ∧ ((i < 10 ∧
          e.genClash i l ≠ none) ∨ (d.jobParam n 2 = 1 ∧ (ok = false ∨ imageOk i l = false))))
    ∧ (∃ (d : Dev) (f : Dev) (n : Nat) (e : Echo), f = d.advanceTo ((d.jobU n).since + 1000000) ∧ n < 4 ∧ echoOk e = true ∧
      d.jobUnit n 7 (max d.ck ((d.jobU n).since + 1000000)) false = true ∧ d.rd (jobKey n 4) = 0 ∧ (d.jobU n).code ≠ 4)
    ∧ (∃ (d : Dev) (f : Dev) (n : Nat) (e : Echo), f = d.advanceTo ((d.jobU n).since + 1000000) ∧ n < 4 ∧ echoOk e = true ∧
      d.jobUnit n 7 (max d.ck ((d.jobU n).since + 1000000)) false = true ∧ d.rd (jobKey n 4) = 0 ∧ (d.jobU n).code ≠ 4)
    ∧ (∃ (d : Dev) (f : Dev) (n : Nat) (e : Echo), f = d.advanceTo ((d.jobU n).since + e.us * 100) ∧ n < 4 ∧ echoOk e = true ∧
      d.jobUnit n 7 (max d.ck ((d.jobU n).since + e.us * 100)) false = true ∧ d.rd (jobKey n 4) = 1 ∧ (d.jobU n).code ≠ 4)
    ∧ (∃ (d : Dev) (f : Dev) (n : Nat) (e : Echo) (x : Option (Nat × Int)), f = d.advanceTo ((d.jobU n).since + min e.us 1000 * 100) ∧
      x = (d.jobU n).echoes.find? (fun y => 200 < y.2.natAbs) ∧ n < 4 ∧ echoOk e = true ∧
        d.jobUnit n 7 (max d.ck ((d.jobU n).since + min e.us 1000 * 100)) false = true ∧ d.rd (jobKey n 4) = 2 ∧ (d.jobU n).code ≠ 4)
    ∧ (∃ (d : Dev) (f : Dev) (n : Nat) (e : Echo) (x : Option (Nat × Int)), f = d.advanceTo ((d.jobU n).since + min e.us 1000 * 100) ∧
      x = (d.jobU n).echoes.find? (fun y => 200 < y.2.natAbs) ∧ n < 4 ∧ echoOk e = true ∧
        d.jobUnit n 7 (max d.ck ((d.jobU n).since + min e.us 1000 * 100)) false = true ∧ d.rd (jobKey n 4) = 2 ∧ (d.jobU n).code ≠ 4)
    ∧ (∃ (d : Dev) (f : Dev) (n : Nat) (e : Echo) (x : Option (Nat × Int)), f = d.advanceTo ((d.jobU n).since + min e.us 1000 * 100) ∧
      x = (d.jobU n).echoes.find? (fun y => 200 < y.2.natAbs) ∧ n < 4 ∧ echoOk e = true ∧
        d.jobUnit n 7 (max d.ck ((d.jobU n).since + min e.us 1000 * 100)) false = true ∧ d.rd (jobKey n 4) = 2 ∧ (d.jobU n).code ≠ 4)
    ∧ (∃ (d : Dev) (f : Dev) (n : Nat) (p : Nat) (e : Echo), p = d.jobParam n 0 ∧ f = d.advanceTo ((d.jobU n).since + 1) ∧ n < 4 ∧
      echoOk e = true ∧ d.jobUnit n 7 (max d.ck ((d.jobU n).since + 1)) false = true ∧ (3 ≤ d.rd (jobKey n 4) ∨ (d.jobU n).code = 4))
    ∧ (∃ (d : Dev) (f : Dev) (n : Nat) (p : Nat) (e : Echo), p = d.jobParam n 0 ∧ f = d.advanceTo ((d.jobU n).since + 1) ∧ n < 4 ∧
      echoOk e = true ∧ d.jobUnit n 7 (max d.ck ((d.jobU n).since + 1)) false = true ∧ (3 ≤ d.rd (jobKey n 4) ∨ (d.jobU n).code = 4)) :=
  ⟨⟨(with_ [(jobKey 0 1, 6), (jobKey 0 3, 1), (jobKey 0 4, 131072), (jobKey 0 6, 1)]), _, _, 0, _, ([524296, 7]), rfl, rfl, rfl, by
    decide +kernel⟩,
   ⟨(with_ [(jobKey 0 1, 6), (jobKey 0 3, 1), (jobKey 0 4, 0), (jobKey 0 6, 1)]), _, _, 0, _, [524296], rfl, rfl, rfl, by decide +kernel⟩,
   ⟨(with_ [(jobKey 0 1, 6), (jobKey 0 3, 1), (jobKey 0 4, 196608), (jobKey 0 6, 1)]), _, _, 0, rfl, rfl, by decide +kernel⟩,
   ⟨((with_ [(jobKey 0 1, 6), (jobKey 0 3, 1), (jobKey 0 4, 196608), (jobKey 0 6, 1)]).setJobU 0 (fun u => { u with failed := [2049] })),
     _, _, 0, rfl, rfl, by decide +kernel⟩,
   ⟨((with_ [(jobKey 0 1, 4), (jobKey 0 3, 1), (jobKey 0 6, imgIdx 10 + 0)]).setJobU 0 (fun u => { u with data := imgOct 10 [] })), _, 0,
     10, _, _, true, rfl, rfl, rfl, by decide +kernel⟩,
   ⟨((with_ [(jobKey 0 1, 4), (jobKey 0 3, 1), (jobKey 0 6, imgIdx 10 + 65536)]).setJobU 0 (fun u => { u with data := imgOct 10 [] })),
     _, 0, 10, _, _, true, rfl, rfl, rfl, by decide +kernel⟩,
   ⟨((with_ [(jobKey 0 1, 4), (jobKey 0 3, 1), (jobKey 0 6, imgIdx 7 + 0)]).setJobU 0 (fun u => { u with data := imgOct 7 [] })), _, 0,
     7, _, _, true, rfl, rfl, rfl, by decide +kernel⟩,
   ⟨((with_ [(jobKey 0 1, 4), (jobKey 0 3, 1), (jobKey 0 6, imgIdx 10 + 65536)]).setJobU 0 (fun u => { u with data := imgOct 10 [] })),
     _, 0, 10, _, _, false, rfl, rfl, rfl, by decide +kernel⟩,
   ⟨((with_ [(jobKey 0 1, 4), (jobKey 0 3, 1), (jobKey 0 6, imgIdx 13 + 65536)]).setJobU 0 (fun u => { u with data := zeros 20 })), _, 0,
     13, _, _, true, rfl, rfl, rfl, by decide +kernel⟩,
   ⟨({ ((with_ [(jobKey 0 1, 4), (jobKey 0 3, 1), (jobKey 0 6, imgIdx 6 + 0)]).setJobU 0 (fun u => { u with data := imgOct 6 (leOct 4 1 ++ zeros 18 ++ [1] ++ zeros 121) })) with claims := [⟨1, 0, 1, 0⟩] }), _, 0, 6, _, _, true, rfl, rfl, rfl, by decide +kernel⟩,
   ⟨((with_ [(jobKey 0 1, 7), (jobKey 0 3, 1), (jobKey 0 6, 1), (jobKey 0 4, 0)])), _, 0, (⟨true, 0, [], 2⟩), rfl, by decide +kernel⟩,
   ⟨((with_ [(jobKey 0 1, 7), (jobKey 0 3, 1), (jobKey 0 6, 1), (jobKey 0 4, 0)])), _, 0, (⟨false, 0, [], 2⟩), rfl, by decide +kernel⟩,
   ⟨((with_ [(jobKey 0 1, 7), (jobKey 0 3, 1), (jobKey 0 6, 1), (jobKey 0 4, 1)])), _, 0, (⟨false, 9, [(6, -300)], 2⟩), rfl, by
     decide +kernel⟩,
   ⟨((with_ [(jobKey 0 1, 7), (jobKey 0 3, 1), (jobKey 0 6, 1), (jobKey 0 4, 2)]).setJobU 0 (fun u =>
     { u with echoes := [(6, -200), (7, -300)] })), _, 0, (⟨false, 2000, [], 1⟩), _, rfl, rfl, by decide +kernel⟩,
   ⟨((with_ [(jobKey 0 1, 7), (jobKey 0 3, 1), (jobKey 0 6, 1), (jobKey 0 4, 2)]).setJobU 0 (fun u =>
     { u with echoes := [(6, -200), (7, -300)] })), _, 0, (⟨false, 2000, [], 2⟩), _, rfl, rfl, by decide +kernel⟩,
   ⟨((with_ [(jobKey 0 1, 7), (jobKey 0 3, 1), (jobKey 0 6, 1), (jobKey 0 4, 2)])), _, 0, (⟨false, 0, [], 2⟩), _, rfl, rfl, by
     decide +kernel⟩,
   ⟨((with_ [(jobKey 0 1, 7), (jobKey 0 3, 1), (jobKey 0 6, 1), (jobKey 0 4, 3)]).setJobU 0 (fun u => { u with echoes := [(7, -300)] })),
     _, 0, _, (⟨false, 0, [], 2⟩), rfl, rfl, by decide +kernel⟩,
   ⟨((with_ [(jobKey 0 1, 7), (jobKey 0 3, 1), (jobKey 0 6, 1), (jobKey 0 4, 1)]).setJobU 0 (fun u => { u with code := 4 })), _, 0, _,
     (⟨false, 0, [], 2⟩), rfl, rfl, by decide +kernel⟩⟩

theorem witness_SupplyStartCommandsComplete :
    (∃ (d : Dev), d.aon.inPor = true)
    ∧ (∃ (d : Dev), d.aon.osc = false ∧ d.aon.inPor = false ∧ d.aon.xtalStopped = false ∧ (d.aon.oscStarting || d.oscNeeded) = true)
    ∧ (∃ (d : Dev), d.supRuns = true ∧ d.aon.startup = .trims ∧ (d.advanceTo (d.aon.stepAt + 5000)).sup.everMain = true)
    ∧ (∃ (d : Dev), d.supRuns = true ∧ d.aon.startup = .trims ∧ (d.advanceTo (d.aon.stepAt + 5000)).sup.everMain = false)
    ∧ (∃ (d : Dev), d.supRuns = true ∧ d.aon.startup = .trims ∧ (d.advanceTo (d.aon.stepAt + 5000)).sup.everMain = false)
    ∧ (∃ (d : Dev), d.aon.osc = false ∧ d.aon.inPor = false ∧ d.aon.xtalStopped = false)
    ∧ (∃ (d : Dev), d.aon.osc = false ∧ d.aon.inPor = false ∧ d.aon.xtalStopped = false)
    ∧ (∃ (d : Dev) (e : Dev) (n : Nat), d.aon.osc = true ∧ d.aon.inPor = false ∧ d.aon.xtalStopped = false ∧ (n, e) = d.holdCk) :=
  ⟨⟨Dev.initial, by decide +kernel⟩,
   ⟨(up.setAon (fun x => { x with osc := false, oscStarting := true, startup := .oscStart })), by decide +kernel⟩,
   ⟨((up.setAon (fun x => { x with startup := .trims })).setSup (fun x => { x with everMain := true, mainIn := false })), by
     decide +kernel⟩,
   ⟨(((with_ [(0x200001, 2)]).setAon (fun x => { x with startup := .trims })).setSup (fun x => { x with everMain := false })), by
     decide +kernel⟩,
   ⟨(((with_ [(0x200001, 2)]).setAon (fun x => { x with startup := .trims })).setSup (fun x => { x with everMain := false })), by
     decide +kernel⟩,
   ⟨(up.setAon (fun x => { x with osc := false })), by decide +kernel⟩,
   ⟨(up.setAon (fun x => { x with osc := false })), by decide +kernel⟩,
   ⟨up, (up).holdCk.2, (up).holdCk.1, by decide, by decide, by decide, rfl⟩⟩

theorem witness_SupplySelectorCommandsComplete :
    (∃ (d : Dev) (e : Dev), e = d.monitorHold ∧ d.supRuns = true ∧ d.supState = 0)
    ∧ (∃ (d : Dev) (us : Nat), us ≤ 40 ∧ d.supRuns = true ∧ d.supState = 1 ∧ d.sup.lowBackup = false)
    ∧ (∃ (d : Dev) (e : Dev), e = d.monitorHold.mainEdge true ∧ d.supRuns = true ∧ d.supState = 2 ∧ d.supSettled = true)
    ∧ (∃ (d : Dev), d.supRuns = true ∧ d.supState = 3)
    ∧ (∃ (d : Dev) (e : Dev) (dt : Nat), e = ((((d.advanceTo (d.sup.qualAt + dt)).mainEdge false).inc 0x202002).selEnter 2) ∧
      d.supRuns = true ∧ d.supState = 3 ∧ dt < d.sup.qualMs * 100000)
    ∧ (∃ (d : Dev) (t : Nat), d.sup.bounces.getLast? = some t ∧ d.sup.stretch = true ∧ d.supRuns = true) :=
  ⟨⟨((with_ [(0x200001, 0)])), _, rfl, by decide +kernel⟩,
   ⟨((with_ [(0x200001, 1)])), 9, by decide +kernel⟩,
   ⟨((with_ [(0x200001, 2)])), _, rfl, by decide +kernel⟩,
   ⟨((with_ [(0x200001, 3)])), by decide +kernel⟩,
   ⟨((with_ [(0x200001, 3)]).setSup (fun x => { x with mainIn := false, qualMs := 100 })), _, 9, rfl, by decide +kernel⟩,
   ⟨(up.setSup (fun x => { x with bounces := [5], stretch := true })), 5, by decide +kernel⟩⟩

theorem witness_BrownOutCommandsComplete :
    (∃ (d : Dev) (e : Dev) (rail : Bool), e = d.monitorHold ∧ d.supRuns = true ∧ d.sup.everMain = true ∧ ((rail = true ∨ d.supState ≠ 0)))
    ∧ (∃ (d : Dev) (e : Dev) (rail : Bool), e = d.monitorHold ∧ d.supRuns = true ∧ d.sup.everMain = true ∧
      ((rail = true ∨ d.supState ≠ 0)))
    ∧ (∃ (d : Dev) (x : Dev), x = (if d.nv.step.isSome then d.nvFinish true else d) ∧ d.supRuns = true ∧ d.supState = 1 ∧
      d.sup.lowBackup = true)
    ∧ (∃ (d : Dev), d.supRuns = true ∧ d.sup.lockout = true ∧ d.sup.lockCause = 3) :=
  ⟨⟨((with_ [(0x200001, 0)])), _, true, rfl, by decide +kernel⟩,
   ⟨((with_ [(0x200001, 2)])), _, false, rfl, by decide +kernel⟩,
   ⟨((with_ [(0x200001, 1)]).setSup (fun x => { x with lowBackup := true })), _, rfl, by decide +kernel⟩,
   ⟨(up.setSup (fun x => { x with lockout := true, lockCause := 3 })), by decide +kernel⟩⟩

theorem witness_EnergyAndPodlCommandsComplete :
    (∃ (d : Dev) (e : Dev) (x : Dev) (vin : Nat) (vbak : Nat) (v : Option Nat), x = d.setSup (fun s =>
      { s with vioIn := v.getD s.vioIn }) ∧ e = x.advanceTo (x.sup.energyAt + 100000) ∧ vin < 4096 ∧ vbak < 4096 ∧ d.supRuns = true)
    ∧ (∃ (d : Dev), d.rd 0x204001 ≠ 3 ∧ d.rd 0x204001 ≠ 4)
    ∧ (∃ (d : Dev) (r : Nat) (c : Nat), d.rd 0x204001 ≠ 3 ∧ d.rd 0x204001 ≠ 4 ∧ podlClass r = some c)
    ∧ (∃ (d : Dev) (r : Nat), d.rd 0x204001 ≠ 3 ∧ d.rd 0x204001 ≠ 4 ∧ podlClass r = none)
    ∧ (∃ (d : Dev), d.rd 0x204001 = 2)
    ∧ (∃ (d : Dev), d.rd 0x204001 = 3)
    ∧ (∃ (d : Dev), ((d.rd 0x204001 = 2 ∨ d.rd 0x204001 = 3 ∨ d.rd 0x204001 = 4))) :=
  ⟨⟨up, _, _, 4095, 9, (some 3300), rfl, rfl, by decide +kernel⟩,
   ⟨up, by decide +kernel⟩,
   ⟨up, 10500, 10, by decide +kernel⟩,
   ⟨up, 0, by decide +kernel⟩,
   ⟨(with_ [(0x204001, 2)]), by decide +kernel⟩,
   ⟨(with_ [(0x204001, 3)]), by decide +kernel⟩,
   ⟨(with_ [(0x204001, 4)]), by decide +kernel⟩⟩

theorem witness_DomainRequestCommandsComplete :
    (∃ (d0 : Dev) (d : Dev) (n : Nat) (tm : Timing), d = d0.hostStart ∧ n < 16 ∧ d.hostTakes (0x211001 + n) 2 tm = true)
    ∧ (∃ (d0 : Dev) (d : Dev) (n : Nat) (v : Nat) (tm : Timing), d = d0.hostStart ∧ n < 16 ∧ n ≠ 1 ∧ v < 2 ∧
      d.hostTakes (0x211001 + n) v tm = true)
    ∧ (∃ (d0 : Dev) (d : Dev) (v : Nat) (tm : Timing), d = d0.hostStart ∧ v < 2 ∧ d.hostTakes 0x211002 v tm = true)
    ∧ (∃ (d : Dev) (e : Dev) (n : Nat) (t : DSt) (r : Bool), e = d.clearRequests ∧ d.aon.trans = none ∧ d.aon.osc = true ∧
      d.aon.xtalStopped = false ∧ e.nextTrans = some (n, t, r))
    ∧ (∃ (d : Dev) (t : Trans), d.aon.trans = some t ∧ t.waiting = false ∧ t.drained = false ∧ d.transDrains t = true ∧
      d.aon.xtalStopped = false) :=
  ⟨⟨up, _, 12, tmw, rfl, by decide +kernel⟩,
   ⟨up, _, 12, 0, tmw, rfl, by decide +kernel⟩,
   ⟨up, _, 1, tmw, rfl, by decide +kernel⟩,
   ⟨(up.setDom 12 (fun x => { x with pend := some .off })), _, 12, .off, false, rfl, by decide +kernel⟩,
   ⟨(up.setAon (fun x => { x with trans := some (trans0 12 .off) })), (trans0 12 .off), by decide +kernel⟩⟩

theorem witness_DomainTransitionCommandsComplete :
    (∃ (d : Dev) (e : Dev) (t : Trans) (bad : List Nat) (n : Nat), e = d.advanceTo (t.start + d.transCk t) ∧ (∀ i ∈ bad, i < 14) ∧
      d.aon.trans = some t ∧ n = t.dom ∧ n < 16 ∧ t.target = .on ∧ t.isReset = false ∧ t.waiting = false ∧ t.pllWait = false ∧
        t.lost = false ∧ d.aon.xtalStopped = false ∧ (d.dom n).st = .off)
    ∧ (∃ (d : Dev) (e : Dev) (t : Trans) (bad : List Nat) (n : Nat), e = d.advanceTo (t.start + d.transCk t) ∧ (∀ i ∈ bad, i < 14) ∧
      d.aon.trans = some t ∧ n = t.dom ∧ n < 16 ∧ t.target = .on ∧ t.isReset = false ∧ t.waiting = false ∧ t.pllWait = false ∧
        t.lost = false ∧ d.aon.xtalStopped = false ∧ (d.dom n).st = .off)
    ∧ (∃ (d : Dev) (e : Dev) (t : Trans) (bad : List Nat) (n : Nat), e = d.advanceTo (t.start + d.transCk t) ∧ (∀ i ∈ bad, i < 14) ∧
      d.aon.trans = some t ∧ n = t.dom ∧ n < 16 ∧ t.target = .on ∧ t.isReset = false ∧ t.waiting = false ∧ t.pllWait = false ∧
        t.lost = false ∧ d.aon.xtalStopped = false ∧ (d.dom n).st = .retention)
    ∧ (∃ (d : Dev) (e : Dev) (t : Trans) (bad : List Nat) (n : Nat), e = d.advanceTo (t.start + d.transCk t) ∧ (∀ i ∈ bad, i < 14) ∧
      d.aon.trans = some t ∧ n = t.dom ∧ n < 16 ∧ t.target = .on ∧ t.isReset = false ∧ t.waiting = false ∧ t.pllWait = false ∧
        t.lost = false ∧ d.aon.xtalStopped = false ∧ (d.dom n).st = .retention)
    ∧ (∃ (d : Dev) (e : Dev) (t : Trans) (n : Nat), e = d.advanceTo (t.start + d.transCk t) ∧ d.aon.trans = some t ∧ n = t.dom ∧
      n < 16 ∧ t.target = .retention ∧ t.isReset = false ∧ t.waiting = false ∧ t.pllWait = false ∧ t.lost = false ∧
        d.aon.xtalStopped = false ∧ (d.dom n).st = .on)
    ∧ (∃ (d : Dev) (e : Dev) (t : Trans) (n : Nat), e = d.advanceTo (t.start + d.transCk t) ∧ d.aon.trans = some t ∧ n = t.dom ∧
      n < 16 ∧ t.target = .retention ∧ t.isReset = false ∧ t.waiting = false ∧ t.pllWait = false ∧ t.lost = false ∧
        d.aon.xtalStopped = false ∧ (d.dom n).st = .on)
    ∧ (∃ (d : Dev) (e : Dev) (t : Trans) (n : Nat), e = d.advanceTo (t.start + d.transCk t) ∧ d.aon.trans = some t ∧ n = t.dom ∧
      n < 16 ∧ t.target = .off ∧ t.isReset = false ∧ t.waiting = false ∧ t.pllWait = false ∧ t.lost = false ∧
        d.aon.xtalStopped = false ∧ (d.dom n).st ≠ .off)
    ∧ (∃ (d : Dev) (e : Dev) (t : Trans) (n : Nat), e = d.advanceTo (t.start + d.transCk t) ∧ d.aon.trans = some t ∧ n = t.dom ∧
      n < 16 ∧ t.target = .off ∧ t.isReset = false ∧ t.waiting = false ∧ t.pllWait = false ∧ t.lost = false ∧
        d.aon.xtalStopped = false ∧ (d.dom n).st ≠ .off)
    ∧ (∃ (d : Dev) (e : Dev) (t : Trans) (bad : List Nat) (n : Nat), e = d.advanceTo (t.start + d.transCk t) ∧ (∀ i ∈ bad, i < 14) ∧
      d.aon.trans = some t ∧ n = t.dom ∧ n < 16 ∧ n ≠ 1 ∧ n ≠ 2 ∧ n ≠ 3 ∧ t.target = .on ∧ t.isReset = true ∧ t.waiting = false ∧
        t.pllWait = false ∧ t.lost = false ∧ d.aon.xtalStopped = false)
    ∧ (∃ (d : Dev) (e : Dev) (t : Trans) (bad : List Nat) (n : Nat), e = d.advanceTo (t.start + d.transCk t) ∧ (∀ i ∈ bad, i < 14) ∧
      d.aon.trans = some t ∧ n = t.dom ∧ n < 16 ∧ n ≠ 1 ∧ n ≠ 2 ∧ n ≠ 3 ∧ t.target = .on ∧ t.isReset = true ∧ t.waiting = false ∧
        t.pllWait = false ∧ t.lost = false ∧ d.aon.xtalStopped = false)
    ∧ (∃ (d : Dev) (e : Dev) (t : Trans) (n : Nat), e = d.advanceTo (t.start + rampCk n + 500) ∧ d.aon.trans = some t ∧ n = t.dom ∧
      n < 16 ∧ n ≠ 1 ∧ n ≠ 2 ∧ t.target = .on ∧ t.isReset = false ∧ t.waiting = false ∧ d.aon.xtalStopped = false ∧
        ((t.pllWait = true ∨ d.ck ≤ t.start + rampCk n + 1500)))
    ∧ (∃ (d : Dev) (e : Dev) (t : Trans) (n : Nat), e = d.advanceTo (t.start + rampCk n + 500) ∧ d.aon.trans = some t ∧ n = t.dom ∧
      n < 16 ∧ n ≠ 1 ∧ n ≠ 2 ∧ t.target = .on ∧ t.isReset = false ∧ t.waiting = false ∧ d.aon.xtalStopped = false ∧
        ((t.pllWait = true ∨ d.ck ≤ t.start + rampCk n + 1500)))
    ∧ (∃ (d : Dev) (e : Dev) (b : Nat) (since : Nat) (kept : Bool), e = d.advanceTo (since + 2048) ∧ b < 4 ∧
      d.pm.scan.find? (fun e => e.1 == b) = some (b, kept, since) ∧ d.bankOn b = true)
    ∧ (∃ (d : Dev) (e : Dev) (b : Nat) (since : Nat) (kept : Bool), e = d.advanceTo (since + 2048) ∧ b < 4 ∧
      d.pm.scan.find? (fun e => e.1 == b) = some (b, kept, since) ∧ d.bankOn b = true) :=
  ⟨⟨((up.setDom 12 (fun x => { x with st := .off })).setAon (fun x =>
    { x with trans := some { trans0 12 .on with  start := 2 ^ 40 - 3000 } })), _, ({ trans0 12 .on with  start := 2 ^ 40 - 3000 }), [13],
      12, rfl, by decide +kernel⟩,
   ⟨((up.setDom 3 (fun x => { x with st := .off })).setAon (fun x =>
     { x with trans := some { trans0 3 .on with  start := 2 ^ 40 - 3000 } })), _, ({ trans0 3 .on with  start := 2 ^ 40 - 3000 }), [], 3,
       rfl, by decide +kernel⟩,
   ⟨((up.setDom 12 (fun x => { x with st := .retention })).setAon (fun x =>
     { x with trans := some { trans0 12 .on with  start := 2 ^ 40 - 3000 } })), _, ({ trans0 12 .on with  start := 2 ^ 40 - 3000 }), [],
       12, rfl, by decide +kernel⟩,
   ⟨((up.setDom 4 (fun x => { x with st := .retention })).setAon (fun x =>
     { x with trans := some { trans0 4 .on with  start := 2 ^ 40 - 3000 } })), _, ({ trans0 4 .on with  start := 2 ^ 40 - 3000 }), [], 4,
       rfl, by decide +kernel⟩,
   ⟨((up.setDom 15 (fun x => { x with st := .on })).setAon (fun x =>
     { x with trans := some { trans0 15 .retention with  start := 2 ^ 40 - 3000 } })), _,
       ({ trans0 15 .retention with  start := 2 ^ 40 - 3000 }), 15, rfl, by decide +kernel⟩,
   ⟨((up.setDom 5 (fun x => { x with st := .on })).setAon (fun x =>
     { x with trans := some { trans0 5 .retention with  start := 2 ^ 40 - 3000 } })), _,
       ({ trans0 5 .retention with  start := 2 ^ 40 - 3000 }), 5, rfl, by decide +kernel⟩,
   ⟨((up.setDom 12 (fun x => { x with st := .on })).setAon (fun x =>
     { x with trans := some { trans0 12 .off with  start := 2 ^ 40 - 3000 } })), _, ({ trans0 12 .off with  start := 2 ^ 40 - 3000 }),
       12, rfl, by decide +kernel⟩,
   ⟨((up.setDom 4 (fun x => { x with st := .retention })).setAon (fun x =>
     { x with trans := some { trans0 4 .off with  start := 2 ^ 40 - 3000 } })), _, ({ trans0 4 .off with  start := 2 ^ 40 - 3000 }), 4,
       rfl, by decide +kernel⟩,
   ⟨((up.setDom 7 (fun x => { x with st := .on })).setAon (fun x =>
     { x with trans := some { trans0 7 .on with isReset := true, start := 2 ^ 40 - 3000 } })), _,
       ({ trans0 7 .on with isReset := true, start := 2 ^ 40 - 3000 }), [], 7, rfl, by decide +kernel⟩,
   ⟨((up.setDom 14 (fun x => { x with st := .on })).setAon (fun x =>
     { x with trans := some { trans0 14 .on with isReset := true, start := 2 ^ 40 - 3000 } })), _,
       ({ trans0 14 .on with isReset := true, start := 2 ^ 40 - 3000 }), [], 14, rfl, by decide +kernel⟩,
   ⟨((up.setDom 12 (fun x => { x with st := .off })).setAon (fun x =>
     { x with trans := some { trans0 12 .on with  start := 2 ^ 40 - 3000 } })), _, ({ trans0 12 .on with  start := 2 ^ 40 - 3000 }), 12,
       rfl, by decide +kernel⟩,
   ⟨((up.setDom 3 (fun x => { x with st := .off })).setAon (fun x =>
     { x with trans := some { trans0 3 .on with  start := 2 ^ 40 - 3000 } })), _, ({ trans0 3 .on with  start := 2 ^ 40 - 3000 }), 3,
       rfl, by decide +kernel⟩,
   ⟨(up.setPm (fun x => { x with scan := [(2, true, 7)] })), _, 2, 7, true, rfl, by decide +kernel⟩,
   ⟨(up.setPm (fun x =>
     { x with scan := [(1, true, 7)], barges := [(2050, ⟨.txdma, 0, false, false, none⟩), (2051, ⟨.free, 0, false, false, none⟩), (2052, ⟨.host, 0, false, false, none⟩)] })), _, 1, 7, true, rfl, by decide +kernel⟩⟩

theorem witness_WakeAndRefreshCommandsComplete :
    (∃ (d : Dev) (n : Nat), 0 < n ∧ n < 16 ∧ d.flag 0x214001 n = true ∧ d.flag 0x214002 n = false ∧ d.aon.inPor = false ∧
      d.aon.osc = true ∧ d.sup.lockout = false)
    ∧ (∃ (d0 : Dev) (d : Dev) (v : Nat) (tm : Timing), d = d0.hostStart ∧ v < 2 ^ 16 ∧ d.hostTakes 0x214003 v tm = true)
    ∧ (∃ (d : Dev) (e : Dev) (c : Int), e = d.advanceTo (d.aon.tempAt + 100000) ∧ 85 < c ∧ c < 128 ∧ d.aon.osc = true)
    ∧ (∃ (d : Dev) (e : Dev) (c : Int) (since : Nat), e = d.advanceTo (d.aon.tempAt + 100000) ∧ -128 ≤ c ∧ c ≤ 80 ∧ d.aon.osc = true ∧
      e.rd 0x214004 = 1 ∧ e.aon.coolSince = some since ∧ since + 100000000 ≤ e.ck)
    ∧ (∃ (d : Dev) (e : Dev) (b : Nat), e = d.advanceTo (d.aon.refAt.getD b 0 + (if d.rd 0x214004 = 1 then 388 else 780)) ∧ b < 4 ∧
      (d.dom (3 + b)).st = .retention ∧ d.aon.xtalStopped = false)
    ∧ (∃ (d : Dev) (e : Dev) (b : Nat), e = d.advanceTo (d.aon.refAt.getD b 0 + (if d.rd 0x214004 = 1 then 388 else 780)) ∧ b < 4 ∧
      (d.dom (3 + b)).st = .on ∧ d.aon.xtalStopped = false) :=
  ⟨⟨(with_ [(0x214001, 8)]), 3, by decide +kernel⟩,
   ⟨up, _, 65535, tmw, rfl, by decide +kernel⟩,
   ⟨up, _, 86, rfl, by decide +kernel⟩,
   ⟨((with_ [(0x214004, 1)]).setAon (fun x => { x with coolSince := some 5 })), _, 80, 5, rfl, by decide +kernel⟩,
   ⟨(up.setDom 6 (fun x => { x with st := .retention })), _, 3, rfl, by decide +kernel⟩,
   ⟨up, _, 3, rfl, by decide +kernel⟩⟩

theorem witness_ResetCommandsComplete :
    (∃ (d : Dev) (t : Nat), d.aon.pllStart = some t ∧ d.aon.startup = .pllLock ∧ d.aon.trans = none)
    ∧ (∃ (d : Dev) (t : Nat), d.aon.pllStart = some t ∧ d.aon.startup = .pllLock)
    ∧ (∃ (d : Dev) (n : Nat), n = d.nv.opened.length + d.nv.partly.length ∧ d.aon.startup = .nvLoad ∧ d.on dNVM = true)
    ∧ (∃ (d : Dev) (held : Nat), held < 50 ∧ d.aon.pll = true ∧ d.aon.rstLow = false)
    ∧ (∃ (d : Dev) (held : Nat), 50 ≤ held ∧ d.aon.pll = true ∧ d.aon.rstLow = false)
    ∧ (∃ (d : Dev), d.aon.rstLow = true ∧ d.aon.pll = true)
    ∧ (∃ (d0 : Dev) (d : Dev) (tm : Timing), d = d0.hostStart ∧ d.hostTakes 0x220004 0x7A5E tm = true ∧ (d.rd 0x220003).testBit 1 = true)
    ∧ (∃ (d0 : Dev) (d : Dev) (tm : Timing), d = d0.hostStart ∧ d.hostTakes 0x220004 0x7A5E tm = true ∧ (d.rd 0x220003).testBit 1 = false)
    ∧ (∃ (d0 : Dev) (d : Dev) (n : Nat) (tm : Timing), d = d0.hostStart ∧ n < 16 ∧ d.hostTakes 0x220005 n tm = true) :=
  ⟨⟨(up.setAon (fun x => { x with pllStart := some 5, startup := .pllLock })), 5, by decide +kernel⟩,
   ⟨(up.setAon (fun x => { x with pllStart := some 5, startup := .pllLock })), 5, by decide +kernel⟩,
   ⟨(up.setAon (fun x => { x with startup := .nvLoad })), _, rfl, by decide +kernel⟩,
   ⟨up, 49, by decide +kernel⟩,
   ⟨up, 50, by decide +kernel⟩,
   ⟨(up.setAon (fun x => { x with rstLow := true })), by decide +kernel⟩,
   ⟨(with_ [(0x220003, 2)]), _, tmw, rfl, by decide +kernel⟩,
   ⟨(with_ [(0x220003, 4)]), _, tmw, rfl, by decide +kernel⟩,
   ⟨up, _, 12, tmw, rfl, by decide +kernel⟩⟩

theorem witness_NvStepCommandsComplete :
    (∃ (d : Dev) (n : Nat) (at_ : Nat) (o : Bool) (w : NvWrite), d.nv.step = some ⟨.chunk n, o, at_⟩ ∧ d.nv.cur = some w)
    ∧ (∃ (d : Dev) (at_ : Nat) (o : Bool), d.nv.step = some ⟨.check, o, at_⟩)
    ∧ (∃ (d : Dev) (at_ : Nat) (o : Bool), d.nv.step = some ⟨.commit, o, at_⟩)
    ∧ (∃ (d : Dev) (at_ : Nat) (o : Bool), d.nv.step = some ⟨.commit, o, at_⟩)
    ∧ (∃ (d : Dev) (n : Nat) (at_ : Nat) (o : Bool), d.nv.step = some ⟨.home n, o, at_⟩)
    ∧ (∃ (d : Dev) (at_ : Nat) (o : Bool) (c : Compact), d.nv.step = some ⟨.mark, o, at_⟩ ∧ d.nv.comp = some c)
    ∧ (∃ (d : Dev) (at_ : Nat) (o : Bool), d.nv.step = some ⟨.mark, o, at_⟩)
    ∧ (∃ (d : Dev) (s : Nat) (at_ : Nat) (o : Bool), d.nv.step = some ⟨.erase s, o, at_⟩)
    ∧ (∃ (d : Dev) (at_ : Nat) (o : Bool), d.nv.step = some ⟨.void, o, at_⟩) :=
  ⟨⟨(up.setNv (fun x => { x with step := some ⟨.chunk 3, true, 5⟩, cur := some ⟨none, 0, 1, 9, 5, false⟩ })), 3, 5, true, (⟨none, 0, 1,
    9, 5, false⟩), by decide +kernel⟩,
   ⟨(up.setNv (fun x => { x with step := some ⟨.check, true, 5⟩ })), 5, true, by decide +kernel⟩,
   ⟨(up.setNv (fun x => { x with step := some ⟨.commit, true, 5⟩ })), 5, true, by decide +kernel⟩,
   ⟨(up.setNv (fun x => { x with step := some ⟨.commit, true, 5⟩ })), 5, true, by decide +kernel⟩,
   ⟨(up.setNv (fun x => { x with step := some ⟨.home 7, true, 5⟩ })), 7, 5, true, by decide +kernel⟩,
   ⟨(up.setNv (fun x => { x with step := some ⟨.mark, true, 5⟩, comp := some ⟨0, 4, 1, [], 2, 2, false⟩ })), 5, true, (⟨0, 4, 1, [], 2,
     2, false⟩), by decide +kernel⟩,
   ⟨(up.setNv (fun x => { x with step := some ⟨.mark, true, 5⟩ })), 5, true, by decide +kernel⟩,
   ⟨(up.setNv (fun x => { x with step := some ⟨.erase 63, true, 5⟩ })), 63, 5, true, by decide +kernel⟩,
   ⟨(up.setNv (fun x => { x with step := some ⟨.void, true, 5⟩ })), 5, true, by decide +kernel⟩⟩

theorem witness_PoundCommandsComplete :
    (∃ (d0 : Dev) (d : Dev) (p : Nat) (tm : Timing), d = d0.hostStart ∧ p < 16 ∧ d.hostTakes (0x252003 + 256 * p) 1 tm = true ∧
      d.poundState p = 0)
    ∧ (∃ (d : Dev) (p : Nat) (b : Nat), d.poundState p = 1 ∧ d.on dPM0 = true ∧ (d.poundOnBarges p).any d.moving = false ∧
      (d.poundOnBarges p).find? (fun b => (d.barge b).owner == .host && !d.lockBusy b) = some b)
    ∧ (∃ (d0 : Dev) (d : Dev) (p : Nat) (tm : Timing), d = d0.hostStart ∧ p < 16 ∧ d.hostTakes (0x252003 + 256 * p) 0 tm = true ∧
      d.poundState p ≠ 0)
    ∧ (∃ (d0 : Dev) (d : Dev) (p : Nat) (tm : Timing), d = d0.hostStart ∧ p < 16 ∧ d.hostTakes (0x252003 + 256 * p) 0 tm = true ∧
      d.poundState p = 0)
    ∧ (∃ (d : Dev) (e : Dev) (p : Nat) (since : Nat) (stuck : List Nat) (bs : List Nat) (left : List Nat), bs = d.poundOnBarges p ∧
      left = bs.filter (fun b => ((d.barge b).owner == .zeroing && !(d.barge b).retired) || ((d.barge b).owner == .host && !d.lockBusy
        b)) ∧ since = ((d.pm.zeroAt.find? (fun x => left.contains x.1)).map (·.2)).getD d.ck ∧
          e = d.advanceTo (since + (left.map (fun b => if (d.barge b).poison then 64 else 32)).sum) ∧ p < 16 ∧
            (∀ w ∈ stuck, w < 2 ^ 21) ∧ d.poundState p = 1 ∧ d.on dPM0 = true ∧
              bs.all (fun b => (d.barge b).owner == .free || (d.barge b).retired || left.contains b) = true)
    ∧ (∃ (d : Dev) (e : Dev) (p : Nat) (since : Nat) (stuck : List Nat) (bs : List Nat) (left : List Nat), bs = d.poundOnBarges p ∧
      left = bs.filter (fun b => ((d.barge b).owner == .zeroing && !(d.barge b).retired) || ((d.barge b).owner == .host && !d.lockBusy
        b)) ∧ since = ((d.pm.zeroAt.find? (fun x => left.contains x.1)).map (·.2)).getD d.ck ∧
          e = d.advanceTo (since + (left.map (fun b => if (d.barge b).poison then 64 else 32)).sum) ∧ p < 16 ∧
            (∀ w ∈ stuck, w < 2 ^ 21) ∧ d.poundState p = 1 ∧ d.on dPM0 = true ∧
              bs.all (fun b => (d.barge b).owner == .free || (d.barge b).retired || left.contains b) = true)
    ∧ (∃ (d0 : Dev) (d : Dev) (d' : Dev) (p : Nat) (b : Nat) (tm : Timing), d = d0.hostStart ∧ p < 16 ∧
      d.hostTakes 0x250801 (256 + p) tm = true ∧ d.on dPM0 = true ∧ 1 ≤ d.poundFree p ∧ d.allocOne p .host = some (b, d'))
    ∧ (∃ (d0 : Dev) (d : Dev) (b : Nat) (tm : Timing), d = d0.hostStart ∧ b < 8192 ∧ d.hostTakes 0x250803 b tm = true ∧
      d.pooled b = true ∧ d.locksOf b = [] ∧ (d.barge b).owner = .host)
    ∧ (∃ (d0 : Dev) (d : Dev) (b : Nat) (tm : Timing), d = d0.hostStart ∧ b < 8192 ∧ d.hostTakes 0x250803 b tm = true ∧
      d.pooled b = false)
    ∧ (∃ (d0 : Dev) (d : Dev) (b : Nat) (tm : Timing), d = d0.hostStart ∧ b < 8192 ∧ d.hostTakes 0x250901 b tm = true) :=
  ⟨⟨((with_ [(0x252302, 4), (0x252307, 0)])), _, 3, tmw, rfl, by decide +kernel⟩,
   ⟨((with_ [(0x252302, 4), (0x252307, 1)])), 3, ((((with_ [(0x252302, 4), (0x252307, 1)])).poundBase 3)), by decide +kernel⟩,
   ⟨(with_ [(0x252307, 2)]), _, 3, tmw, rfl, by decide +kernel⟩,
   ⟨up, _, 3, tmw, rfl, by decide +kernel⟩,
   ⟨((with_ [(0x252302, 4), (0x252307, 1)]).setPm (fun x => { x with barges := [(1, ⟨.host, 0, true, false, none⟩)] })), _, 3, _, [70],
     _, _, rfl, rfl, rfl, rfl, by decide +kernel⟩,
   ⟨((with_ [(0x252302, 4), (0x252307, 1)]).setPm (fun x =>
     { x with barges := [(1, ⟨.zeroing, 0, true, false, none⟩)], zeroAt := [(1, 7)] })), _, 3, _, [70], _, _, rfl, rfl, rfl, rfl, by
       decide +kernel⟩,
   ⟨((with_ [(0x252302, 4), (0x252307, 2)]).setPm (fun x => { x with frees := [(3, 0, [2, 1])] })), _, ((((((with_ [(0x252302, 4),
     (0x252307, 2)]).setPm (fun x => { x with frees := [(3, 0, [2, 1])] })).hostStart).allocOne 3 .host).getD (0, up)).2), 3, 2, tmw,
       rfl, by decide +kernel⟩,
   ⟨((with_ [(0x252302, 4), (0x252307, 2)])), _, 3, tmw, rfl, by decide +kernel⟩,
   ⟨up, _, 3, tmw, rfl, by decide +kernel⟩,
   ⟨up, _, 8191, tmw, rfl, by decide +kernel⟩⟩

theorem witness_LockCycleCommandsComplete :
    (∃ (d : Dev) (k : Nat) (r : LockReq) (t : List LockReq), k < 4 ∧ d.pm.cycle.getD k none = none ∧ d.pm.lockq.getD k [] = r :: t ∧
      d.bankOn k = true)
    ∧ (∃ (d : Dev) (e : Dev) (k : Nat) (r : LockReq) (ss : List Strike), e = d.advanceTo (r.at_ + 1 + (32 - (r.len + 7) / 8 + (if r.len %
      8 = 0 then 0 else 3))) ∧ k < 4 ∧ strikesOk ss = true ∧ d.pm.cycle.getD k none = some r ∧ r.dest ≠ .zeroing)
    ∧ (∃ (d : Dev) (e : Dev) (k : Nat) (r : LockReq) (ss : List Strike), e = d.advanceTo (r.at_ + 1 + (32 - (r.len + 7) / 8 + (if r.len %
      8 = 0 then 0 else 3))) ∧ k < 4 ∧ strikesOk ss = true ∧ d.pm.cycle.getD k none = some r ∧ r.dest ≠ .zeroing)
    ∧ (∃ (d : Dev) (e : Dev) (k : Nat) (r : LockReq) (ss : List Strike), e = d.advanceTo (r.at_ + 1) ∧ k < 4 ∧ strikesOk ss = true ∧
      d.pm.cycle.getD k none = some r ∧ r.dest = .zeroing)
    ∧ (∃ (d : Dev) (e : Dev) (b : Nat) (since : Nat), e = d.advanceTo (since + (if (d.barge b).poison then 64 else 32)) ∧ b < 8192 ∧
      (d.barge b).owner = .zeroing ∧ (d.barge b).next = none ∧ (d.barge b).retired = false ∧ d.bankOn (bankOf b) = true ∧
        d.pm.zeroAt.find? (fun x => x.1 == b) = some (b, since)) :=
  ⟨⟨(up.setPm (fun x => { x with lockq := [[], [⟨2050, .txdma, 5, 1, 7⟩]] })), 1, (⟨2050, .txdma, 5, 1, 7⟩), [], by decide +kernel⟩,
   ⟨(up.setPm (fun x => { x with cycle := [none, some ⟨2050, .txdma, 5, 1, 7⟩] })), _, 1, (⟨2050, .txdma, 5, 1, 7⟩), [], rfl, by
     decide +kernel⟩,
   ⟨(up.setPm (fun x => { x with cycle := [none, some ⟨2050, .txdma, 256, 1, 7⟩] })), _, 1, (⟨2050, .txdma, 256, 1, 7⟩), [], rfl, by
     decide +kernel⟩,
   ⟨(up.setPm (fun x => { x with cycle := [none, some ⟨2050, .zeroing, 0, 1, 7⟩] })), _, 1, (⟨2050, .zeroing, 0, 1, 7⟩), [], rfl, by
     decide +kernel⟩,
   ⟨(up.setPm (fun x => { x with barges := [(9, ⟨.zeroing, 0, true, false, none⟩)], zeroAt := [(9, 7)] })), _, 9, 7, rfl, by
     decide +kernel⟩⟩

theorem witness_RingCommandsComplete :
    (∃ (d0 : Dev) (d : Dev) (r : Nat) (tm : Timing), d = d0.hostStart ∧ r < 56 ∧ d.hostTakes (ringKey r 3) 0 tm = true ∧
      d.ringState r = 1)
    ∧ (∃ (d0 : Dev) (d : Dev) (r : Nat) (tm : Timing), d = d0.hostStart ∧ r < 56 ∧ d.hostTakes (ringKey r 3) 1 tm = true ∧
      d.ringState r = 0)
    ∧ (∃ (d0 : Dev) (d : Dev) (r : Nat) (tm : Timing), d = d0.hostStart ∧ r < 56 ∧ d.hostTakes (ringKey r 3) 2 tm = true ∧
      d.ringState r = 1)
    ∧ (∃ (d0 : Dev) (d : Dev) (r : Nat) (tm : Timing), d = d0.hostStart ∧ isTxRing r = true ∧ r < 56 ∧
      d.hostTakes (ringKey r 3) 2 tm = true ∧ d.ringState r = 0 ∧ d.ringQuiet r = true ∧ d.ringRetained r = false ∧ d.ringReach r = true)
    ∧ (∃ (d : Dev) (r : Nat), r < 56 ∧ d.ringState r = 2 ∧ d.ringQuiet r = true ∧ d.on dCORE = true ∧ d.ringRetained r = false ∧
      (d.ring r).resetAfter = false)
    ∧ (∃ (d : Dev) (d' : Dev) (e : Dev) (r : Nat) (n : Nat) (ds : List Oct) (ss : List Strike), r < 32 ∧ strikesOk ss = true ∧
      (d.mac (r / 8)).cur = .ring r ∧ d.ringState r = 1 ∧ d.ringReach r = true ∧ d.canSend (r / 8) = true ∧
        d.nextChain r = some (n, false) ∧ (d.strike ss).readDescs r (d.ringFetch r) n = (ds, false, d') ∧
          (d'.wr (ringKey r 6) ((d.ringFetch r + n) % 65536)).earlyCode (r / 8) ds = (none, e) ∧ r < e.rings.length ∧
            (e.ring r).chains = [] ∧ e.chainRefused (e.chainSource r) (chainBarges false ds) = none ∧
              (chainBarges false ds).any (fun b => (e.barge b.1).poison) = false)
    ∧ (∃ (d : Dev) (r : Nat) (c : Chain) (t : List Chain), r < 56 ∧ (d.ring r).chains = c :: t ∧ c.code = some 0 ∧ c.returned = true ∧
      d.locksClear (c.barges.map (·.1)) = true ∧ d.ringState r = 1 ∧ d.ringReach r = true)
    ∧ (∃ (d : Dev) (r : Nat) (w : RxWrite) (t : List RxWrite), r < 56 ∧ (d.ring r).rxq = w :: t ∧ d.locksClear w.barges = true ∧
      d.ringState r = 1 ∧ d.ringReach r = true ∧ w.barges.any (fun b => (d.barge b).poison) = false)
    ∧ (∃ (d : Dev) (e : Dev) (r : Nat) (t : Nat), e = d.advanceTo (t + d.rd (ringKey r 9) * 100) ∧ r < 56 ∧
      (d.ring r).coalSince = some t ∧ d.rd (ringKey r 9) ≠ 0) :=
  ⟨⟨((with_ [(ringKey 3 3, 1)])), _, 3, tmw, rfl, by decide +kernel⟩,
   ⟨up, _, 3, tmw, rfl, by decide +kernel⟩,
   ⟨((with_ [(ringKey 3 3, 1)])), _, 3, tmw, rfl, by decide +kernel⟩,
   ⟨up, _, 3, tmw, rfl, by decide +kernel⟩,
   ⟨((with_ [(ringKey 3 3, 2)])), 3, by decide +kernel⟩,
   ⟨(((with_ [(ringKey 3 3, 1), (ringKey 3 1, 16), (ringKey 3 4, 1), (0x300002, 3)]).writeMem 4096 (leOct 2 5 ++ zeros 22 ++ leOct 2 60
     ++ leOct 2 24576 ++ zeros 4)).setMac 0 (fun x => { x with cur := .ring 3 })), (((((with_ [(ringKey 3 3, 1), (ringKey 3 1, 16),
       (ringKey 3 4, 1), (0x300002, 3)]).writeMem 4096 (leOct 2 5 ++ zeros 22 ++ leOct 2 60 ++ leOct 2 24576 ++ zeros 4)).setMac 0 (fun x
         => { x with cur := .ring 3 })).readDescs 3 0 1).2.2), (((((((with_ [(ringKey 3 3, 1), (ringKey 3 1, 16), (ringKey 3 4, 1),
           (0x300002, 3)]).writeMem 4096 (leOct 2 5 ++ zeros 22 ++ leOct 2 60 ++ leOct 2 24576 ++ zeros 4)).setMac 0 (fun x =>
             { x with cur := .ring 3 })).readDescs 3 0 1).2.2).wr (ringKey 3 6) 1)), 3, 1, ([leOct 2 5 ++ zeros 22 ++ leOct 2 60 ++ leOct
               2 24576 ++ zeros 4]), [], by decide +kernel⟩,
   ⟨((with_ [(ringKey 3 3, 1)]).setRing 3 (fun x =>
     { x with chains := [⟨0, [leOct 2 5 ++ zeros 22 ++ leOct 2 8 ++ leOct 2 24576 ++ zeros 4], [(5, 8, false)], some 0, 1, none, 0, true⟩] })), 3, (⟨0, [leOct 2 5 ++ zeros 22 ++ leOct 2 8 ++ leOct 2 24576 ++ zeros 4], [(5, 8, false)], some 0, 1, none, 0, true⟩), [], by decide +kernel⟩,
   ⟨((with_ [(ringKey 33 3, 1)]).setRing 33 (fun x => { x with rxq := [⟨zeros 32, [5], none⟩] })), 33, (⟨zeros 32, [5], none⟩), [], by
     decide +kernel⟩,
   ⟨((with_ [(ringKey 3 9, 5)]).setRing 3 (fun x => { x with coalSince := some 7 })), _, 3, 7, rfl, by decide +kernel⟩⟩

theorem witness_FrameCommandsComplete :
    (∃ (d : Dev) (c : Dev) (y : Dev) (b : Dev) (x : Dev) (e : Dev) (d' : Dev) (p : Nat) (f : WireFrame) (l : Oct) (data : Oct) (c3 : Nat)
      (c4 : Nat) (bs : List Nat), c = d.atSfd p f.sfdAgo ∧ l = f.octets.take (f.octets.length - 4) ∧ data = l.take 2048 ∧
        y = (d.carrierEnd p).setMac p (fun m => { m with was := [] }) ∧
          b = (if p = 0 then y.setGov (fun g => { g with rxOct := g.rxOct + f.octets.length + 20 }) else y) ∧
            c3 = (if c.flag (macKey 0x3800 p 1) 4 then l3Csum data else 0) ∧
              c4 = (if c.flag (macKey 0x3800 p 1) 4 then l4Csum data else 0) ∧
                x = (if c3 = 2 then (b.countOk p data f.octets.length).cnt p 23 else b.countOk p data f.octets.length) ∧
                  e = (if c4 = 2 then x.cnt p 24 else x) ∧ p < 4 ∧ f.octets.length < 2 ^ 16 ∧ 18 ≤ f.octets.length ∧ f.cut = false ∧
                    d.on (macDom p) = true ∧ d.rd (portRunKey p) ≠ 0 ∧ d.linkUp p = true ∧ (d.mac p).cutAt = none ∧
                      c.rxErrors p f = 0 ∧ c.acceptAddr p l = true ∧ etherType l ≠ 0x8808 ∧ c.wakeListen p = false ∧
                        b.isTowFrame l = false ∧ e.on dCLS = true ∧ e.allOn [dCORE, dPM0] = true ∧
                          e.storeFrame p (c.rd (0x268001 + p)) data = (some bs, d'))
    ∧ (∃ (d : Dev) (e : Dev) (p : Nat) (v : Nat) (a : Bool), e = d.oppWatch p ∧ p < 4 ∧ (e.mac p).cur = .idle ∧ e.canSend p = true ∧
      ((p = 0 → e.gov.step = none)) ∧ (e.mac p).pendPause = some (v, a))
    ∧ (∃ (d : Dev) (e : Dev) (p : Nat) (s : TxSel) (t : List TxSel), e = d.oppWatch p ∧ p < 4 ∧ (e.mac p).cur = .idle ∧
      e.canSend p = true ∧ ((p = 0 → e.gov.step = none)) ∧ (e.mac p).pendPause = none ∧ (e.mac p).pauseEnd = none ∧ e.txOrder p = s :: t)
    ∧ (∃ (d : Dev) (e : Dev) (p : Nat), e = d.oppWatch p ∧ p < 4 ∧ (e.mac p).cur ≠ .idle ∧ (e.mac p).nxt = .idle ∧
      (e.mac p).backoff = none ∧ e.sending p = true)
    ∧ (∃ (d : Dev) (p : Nat) (v : Nat) (a : Bool) (ss : List Strike) (l : Oct), l = d.pauseFrame p v ∧ p < 4 ∧ strikesOk ss = true ∧
      d.on (macDom p) = true ∧ (d.mac p).backoff = none ∧ d.mayStart p = true ∧ (d.mac p).hold = false ∧ (d.mac p).cur = .pause v a)
    ∧ (∃ (d : Dev) (b : Dev) (e : Dev) (p : Nat) (r : Nat) (s : Nat) (df : Bool) (ss : List Strike) (c : Chain) (l : Oct) (l' : Oct) (bad
      : Bool), b = (if df && 2 ≤ p && (d.mac p).attempts = 0 && d.sending p then d.cnt p 36 else d).strike ss ∧ p < 4 ∧
        strikesOk ss = true ∧ d.on (macDom p) = true ∧ (d.mac p).backoff = none ∧ d.mayStart p = true ∧ (d.mac p).hold = false ∧
          (d.mac p).cur = .chain r s ∧ b.chainOf r s = some c ∧ c.code = none ∧ b.locksClear (c.barges.map (·.1)) = true ∧
            b.allOn (chainNeeds c) = true ∧ dIsTso (c.descs.headD []) = false ∧ b.readPlaces (chainPlaces c.barges) = (l, [], e) ∧
              insertCsums (c.descs.getLastD []) l = (l', bad) ∧ e.flag (0x701003 + 256 * p) (r % 8) = false)
    ∧ (∃ (d : Dev) (b : Dev) (e : Dev) (p : Nat) (r : Nat) (s : Nat) (df : Bool) (ss : List Strike) (c : Chain) (l : Oct) (o : Oct) (w :
      Nat) (bad : List Nat), b = (if df && 2 ≤ p && (d.mac p).attempts = 0 && d.sending p then d.cnt p 36 else d).strike ss ∧
        o = (insertCsums (c.descs.getLastD []) l).1.take (readBefore (chainPlaces c.barges) (w :: bad)) ∧ p < 4 ∧ strikesOk ss = true ∧
          d.on (macDom p) = true ∧ (d.mac p).backoff = none ∧ d.mayStart p = true ∧ (d.mac p).hold = false ∧
            (d.mac p).cur = .chain r s ∧ b.chainOf r s = some c ∧ c.code = none ∧ b.locksClear (c.barges.map (·.1)) = true ∧
              b.allOn (chainNeeds c) = true ∧ dIsTso (c.descs.headD []) = false ∧ b.readPlaces (chainPlaces c.barges) = (l, w :: bad, e))
    ∧ (∃ (d : Dev) (b : Dev) (e : Dev) (p : Nat) (df : Bool) (ss : List Strike) (f : TowTx) (t : List TowTx) (l : Oct), b = (if df && 2 ≤
      p && (d.mac p).attempts = 0 && d.sending p then d.cnt p 36 else d).strike ss ∧ p < 4 ∧ strikesOk ss = true ∧
        d.on (macDom p) = true ∧ (d.mac p).backoff = none ∧ d.mayStart p = true ∧ (d.mac p).hold = false ∧ (d.mac p).cur = .tow ∧
          (b.mac p).towq = f :: t ∧ b.locksClear f.barges = true ∧
            b.allOn (dPM0 :: (f.barges.map (fun b => bankDom (bankOf b))).eraseDups) = true ∧
              f.barges.any (fun x => (b.barge x).poison) = false ∧ b.readPlaces (framePlaces f.barges f.len) = (l, [], e))
    ∧ (∃ (d : Dev) (b : Dev) (e : Dev) (p : Nat) (df : Bool) (ss : List Strike) (f : TowTx) (t : List TowTx) (l : Oct), b = (if df && 2 ≤
      p && (d.mac p).attempts = 0 && d.sending p then d.cnt p 36 else d).strike ss ∧ p < 4 ∧ strikesOk ss = true ∧
        d.on (macDom p) = true ∧ (d.mac p).backoff = none ∧ d.mayStart p = true ∧ (d.mac p).hold = false ∧ (d.mac p).cur = .tow ∧
          (b.mac p).towq = f :: t ∧ b.locksClear f.barges = true ∧
            b.allOn (dPM0 :: (f.barges.map (fun b => bankDom (bankOf b))).eraseDups) = true ∧
              f.barges.any (fun x => (b.barge x).poison) = false ∧ b.readPlaces (framePlaces f.barges f.len) = (l, [], e)) :=
  ⟨⟨((with_ [(0x310001, 1), (0x310002, 3), (macKey 0x3800 1 1, 1), (0x252007, 2), (0x252002, 64)]).setPm (fun x =>
    { x with frees := [(0, 0, [5])] })), _, _, _, _, _, ((((if ((if (((with_ [(0x310001, 1), (0x310002, 3), (macKey 0x3800 1 1, 1),
      (0x252007, 2), (0x252002, 64)]).setPm (fun x => { x with frees := [(0, 0, [5])] })).atSfd (1) (⟨goodFrame, false, false, 9, false⟩
        : WireFrame).sfdAgo : Dev).flag (macKey 0x3800 (1) 1) 4 then l4Csum (((⟨goodFrame, false, false, 9, false⟩ :
          WireFrame).octets.take ((⟨goodFrame, false, false, 9, false⟩ : WireFrame).octets.length - 4)).take 2048 : Oct) else 0) : Nat) =
            2 then ((if ((if (((with_ [(0x310001, 1), (0x310002, 3), (macKey 0x3800 1 1, 1), (0x252007, 2), (0x252002, 64)]).setPm (fun x
              => { x with frees := [(0, 0, [5])] })).atSfd (1) (⟨goodFrame, false, false, 9, false⟩ : WireFrame).sfdAgo : Dev).flag
                (macKey 0x3800 (1) 1) 4 then l3Csum (((⟨goodFrame, false, false, 9, false⟩ : WireFrame).octets.take ((⟨goodFrame, false,
                  false, 9, false⟩ : WireFrame).octets.length - 4)).take 2048 : Oct) else 0) : Nat) = 2 then (((if (1) = 0 then ((((with_
                    [(0x310001, 1), (0x310002, 3), (macKey 0x3800 1 1, 1), (0x252007, 2), (0x252002, 64)]).setPm (fun x =>
                      { x with frees := [(0, 0, [5])] })).carrierEnd (1)).setMac (1) (fun m => { m with was := [] })).setGov (fun g =>
                        { g with rxOct := g.rxOct + (⟨goodFrame, false, false, 9, false⟩ : WireFrame).octets.length + 20 }) else
                          ((((with_ [(0x310001, 1), (0x310002, 3), (macKey 0x3800 1 1, 1), (0x252007, 2), (0x252002, 64)]).setPm (fun x
                            => { x with frees := [(0, 0, [5])] })).carrierEnd (1)).setMac (1) (fun m => { m with was := [] }))) :
                              Dev).countOk (1) (((⟨goodFrame, false, false, 9, false⟩ : WireFrame).octets.take ((⟨goodFrame, false,
                                false, 9, false⟩ : WireFrame).octets.length - 4)).take 2048 : Oct) (⟨goodFrame, false, false, 9, false⟩ :
                                  WireFrame).octets.length).cnt (1) 23 else ((if (1) = 0 then ((((with_ [(0x310001, 1), (0x310002, 3),
                                    (macKey 0x3800 1 1, 1), (0x252007, 2), (0x252002, 64)]).setPm (fun x =>
                                      { x with frees := [(0, 0, [5])] })).carrierEnd (1)).setMac (1) (fun m =>
                                        { m with was := [] })).setGov (fun g =>
                                          { g with rxOct := g.rxOct + (⟨goodFrame, false, false, 9, false⟩ : WireFrame).octets.length + 20 }) else ((((with_ [(0x310001, 1), (0x310002, 3), (macKey 0x3800 1 1, 1), (0x252007, 2), (0x252002, 64)]).setPm (fun x => { x with frees := [(0, 0, [5])] })).carrierEnd (1)).setMac (1) (fun m => { m with was := [] }))) : Dev).countOk (1) (((⟨goodFrame, false, false, 9, false⟩ : WireFrame).octets.take ((⟨goodFrame, false, false, 9, false⟩ : WireFrame).octets.length - 4)).take 2048 : Oct) (⟨goodFrame, false, false, 9, false⟩ : WireFrame).octets.length) : Dev).cnt (1) 24 else ((if ((if (((with_ [(0x310001, 1), (0x310002, 3), (macKey 0x3800 1 1, 1), (0x252007, 2), (0x252002, 64)]).setPm (fun x => { x with frees := [(0, 0, [5])] })).atSfd (1) (⟨goodFrame, false, false, 9, false⟩ : WireFrame).sfdAgo : Dev).flag (macKey 0x3800 (1) 1) 4 then l3Csum (((⟨goodFrame, false, false, 9, false⟩ : WireFrame).octets.take ((⟨goodFrame, false, false, 9, false⟩ : WireFrame).octets.length - 4)).take 2048 : Oct) else 0) : Nat) = 2 then (((if (1) = 0 then ((((with_ [(0x310001, 1), (0x310002, 3), (macKey 0x3800 1 1, 1), (0x252007, 2), (0x252002, 64)]).setPm (fun x => { x with frees := [(0, 0, [5])] })).carrierEnd (1)).setMac (1) (fun m => { m with was := [] })).setGov (fun g => { g with rxOct := g.rxOct + (⟨goodFrame, false, false, 9, false⟩ : WireFrame).octets.length + 20 }) else ((((with_ [(0x310001, 1), (0x310002, 3), (macKey 0x3800 1 1, 1), (0x252007, 2), (0x252002, 64)]).setPm (fun x => { x with frees := [(0, 0, [5])] })).carrierEnd (1)).setMac (1) (fun m => { m with was := [] }))) : Dev).countOk (1) (((⟨goodFrame, false, false, 9, false⟩ : WireFrame).octets.take ((⟨goodFrame, false, false, 9, false⟩ : WireFrame).octets.length - 4)).take 2048 : Oct) (⟨goodFrame, false, false, 9, false⟩ : WireFrame).octets.length).cnt (1) 23 else ((if (1) = 0 then ((((with_ [(0x310001, 1), (0x310002, 3), (macKey 0x3800 1 1, 1), (0x252007, 2), (0x252002, 64)]).setPm (fun x => { x with frees := [(0, 0, [5])] })).carrierEnd (1)).setMac (1) (fun m => { m with was := [] })).setGov (fun g => { g with rxOct := g.rxOct + (⟨goodFrame, false, false, 9, false⟩ : WireFrame).octets.length + 20 }) else ((((with_ [(0x310001, 1), (0x310002, 3), (macKey 0x3800 1 1, 1), (0x252007, 2), (0x252002, 64)]).setPm (fun x => { x with frees := [(0, 0, [5])] })).carrierEnd (1)).setMac (1) (fun m => { m with was := [] }))) : Dev).countOk (1) (((⟨goodFrame, false, false, 9, false⟩ : WireFrame).octets.take ((⟨goodFrame, false, false, 9, false⟩ : WireFrame).octets.length - 4)).take 2048 : Oct) (⟨goodFrame, false, false, 9, false⟩ : WireFrame).octets.length) : Dev)) : Dev).storeFrame 1 ((((with_ [(0x310001, 1), (0x310002, 3), (macKey 0x3800 1 1, 1), (0x252007, 2), (0x252002, 64)]).setPm (fun x => { x with frees := [(0, 0, [5])] })).atSfd (1) (⟨goodFrame, false, false, 9, false⟩ : WireFrame).sfdAgo : Dev).rd 0x268002) (((⟨goodFrame, false, false, 9, false⟩ : WireFrame).octets.take ((⟨goodFrame, false, false, 9, false⟩ : WireFrame).octets.length - 4)).take 2048 : Oct)).2), 1, (⟨goodFrame, false, false, 9, false⟩), _, _, _, _, [5], rfl, rfl, rfl, rfl, rfl, rfl, rfl, rfl, rfl, by decide +kernel⟩,
   ⟨((with_ [(0x300002, 3)]).setMac 0 (fun x => { x with pendPause := some (9, true) })), _, 0, 9, true, rfl, by decide +kernel⟩,
   ⟨((with_ [(0x300002, 3)]).setMac 0 (fun x => { x with towq := [⟨60, [17], true, 0xFF⟩] })), _, 0, .tow, [], rfl, by decide +kernel⟩,
   ⟨((with_ [(0x300002, 3)]).setMac 0 (fun x => { x with cur := .tow })), _, 0, rfl, by decide +kernel⟩,
   ⟨(up.setMac 0 (fun x => { x with cur := .pause 9 true })), 0, 9, true, [], _, rfl, by decide +kernel⟩,
   ⟨((up.setMac 0 (fun x => { x with cur := .chain 3 0 })|>.writeMem 1280 [1, 2, 3, 4, 5, 6, 7, 8]).setRing 3 (fun x =>
     { x with chains := [⟨0, [leOct 2 5 ++ zeros 22 ++ leOct 2 8 ++ leOct 2 24576 ++ zeros 4], [(5, 8, false)], none, 1, none, 0, false⟩] })), _, (((((if (true) && 2 ≤ (0) && (((up.setMac 0 (fun x => { x with cur := .chain 3 0 })|>.writeMem 1280 [1, 2, 3, 4, 5, 6, 7, 8]).setRing 3 (fun x => { x with chains := [⟨0, [leOct 2 5 ++ zeros 22 ++ leOct 2 8 ++ leOct 2 24576 ++ zeros 4], [(5, 8, false)], none, 1, none, 0, false⟩] }) : Dev).mac (0)).attempts = 0 && ((up.setMac 0 (fun x => { x with cur := .chain 3 0 })|>.writeMem 1280 [1, 2, 3, 4, 5, 6, 7, 8]).setRing 3 (fun x => { x with chains := [⟨0, [leOct 2 5 ++ zeros 22 ++ leOct 2 8 ++ leOct 2 24576 ++ zeros 4], [(5, 8, false)], none, 1, none, 0, false⟩] }) : Dev).sending (0) then ((up.setMac 0 (fun x => { x with cur := .chain 3 0 })|>.writeMem 1280 [1, 2, 3, 4, 5, 6, 7, 8]).setRing 3 (fun x => { x with chains := [⟨0, [leOct 2 5 ++ zeros 22 ++ leOct 2 8 ++ leOct 2 24576 ++ zeros 4], [(5, 8, false)], none, 1, none, 0, false⟩] }) : Dev).cnt (0) 36 else ((up.setMac 0 (fun x => { x with cur := .chain 3 0 })|>.writeMem 1280 [1, 2, 3, 4, 5, 6, 7, 8]).setRing 3 (fun x => { x with chains := [⟨0, [leOct 2 5 ++ zeros 22 ++ leOct 2 8 ++ leOct 2 24576 ++ zeros 4], [(5, 8, false)], none, 1, none, 0, false⟩] }) : Dev)).strike ([]) : Dev).readPlaces (chainPlaces ((⟨0, [leOct 2 5 ++ zeros 22 ++ leOct 2 8 ++ leOct 2 24576 ++ zeros 4], [(5, 8, false)], none, 1, none, 0, false⟩ : Chain).barges))).2.2)), 0, 3, 0, true, [], (⟨0, [leOct 2 5 ++ zeros 22 ++ leOct 2 8 ++ leOct 2 24576 ++ zeros 4], [(5, 8, false)], none, 1, none, 0, false⟩), ([1, 2, 3, 4, 5, 6, 7, 8]), ([1, 2, 3, 4, 5, 6, 7, 8]), false, rfl, by decide +kernel⟩,
   ⟨(((up.setMac 0 (fun x => { x with cur := .chain 3 0 })|>.writeMem 1280 [1, 2, 3, 4, 5, 6, 7, 8]).setRing 3 (fun x =>
     { x with chains := [⟨0, [leOct 2 5 ++ zeros 22 ++ leOct 2 8 ++ leOct 2 24576 ++ zeros 4], [(5, 8, false)], none, 1, none, 0, false⟩] })).setPm (fun x => { x with bad := [1280] })), _, (((((if (true) && 2 ≤ (0) && ((((up.setMac 0 (fun x => { x with cur := .chain 3 0 })|>.writeMem 1280 [1, 2, 3, 4, 5, 6, 7, 8]).setRing 3 (fun x => { x with chains := [⟨0, [leOct 2 5 ++ zeros 22 ++ leOct 2 8 ++ leOct 2 24576 ++ zeros 4], [(5, 8, false)], none, 1, none, 0, false⟩] })).setPm (fun x => { x with bad := [1280] }) : Dev).mac (0)).attempts = 0 && (((up.setMac 0 (fun x => { x with cur := .chain 3 0 })|>.writeMem 1280 [1, 2, 3, 4, 5, 6, 7, 8]).setRing 3 (fun x => { x with chains := [⟨0, [leOct 2 5 ++ zeros 22 ++ leOct 2 8 ++ leOct 2 24576 ++ zeros 4], [(5, 8, false)], none, 1, none, 0, false⟩] })).setPm (fun x => { x with bad := [1280] }) : Dev).sending (0) then (((up.setMac 0 (fun x => { x with cur := .chain 3 0 })|>.writeMem 1280 [1, 2, 3, 4, 5, 6, 7, 8]).setRing 3 (fun x => { x with chains := [⟨0, [leOct 2 5 ++ zeros 22 ++ leOct 2 8 ++ leOct 2 24576 ++ zeros 4], [(5, 8, false)], none, 1, none, 0, false⟩] })).setPm (fun x => { x with bad := [1280] }) : Dev).cnt (0) 36 else (((up.setMac 0 (fun x => { x with cur := .chain 3 0 })|>.writeMem 1280 [1, 2, 3, 4, 5, 6, 7, 8]).setRing 3 (fun x => { x with chains := [⟨0, [leOct 2 5 ++ zeros 22 ++ leOct 2 8 ++ leOct 2 24576 ++ zeros 4], [(5, 8, false)], none, 1, none, 0, false⟩] })).setPm (fun x => { x with bad := [1280] }) : Dev)).strike ([]) : Dev).readPlaces (chainPlaces ((⟨0, [leOct 2 5 ++ zeros 22 ++ leOct 2 8 ++ leOct 2 24576 ++ zeros 4], [(5, 8, false)], none, 1, none, 0, false⟩ : Chain).barges))).2.2)), 0, 3, 0, true, [], (⟨0, [leOct 2 5 ++ zeros 22 ++ leOct 2 8 ++ leOct 2 24576 ++ zeros 4], [(5, 8, false)], none, 1, none, 0, false⟩), ((((if (true) && 2 ≤ (0) && ((((up.setMac 0 (fun x => { x with cur := .chain 3 0 })|>.writeMem 1280 [1, 2, 3, 4, 5, 6, 7, 8]).setRing 3 (fun x => { x with chains := [⟨0, [leOct 2 5 ++ zeros 22 ++ leOct 2 8 ++ leOct 2 24576 ++ zeros 4], [(5, 8, false)], none, 1, none, 0, false⟩] })).setPm (fun x => { x with bad := [1280] }) : Dev).mac (0)).attempts = 0 && (((up.setMac 0 (fun x => { x with cur := .chain 3 0 })|>.writeMem 1280 [1, 2, 3, 4, 5, 6, 7, 8]).setRing 3 (fun x => { x with chains := [⟨0, [leOct 2 5 ++ zeros 22 ++ leOct 2 8 ++ leOct 2 24576 ++ zeros 4], [(5, 8, false)], none, 1, none, 0, false⟩] })).setPm (fun x => { x with bad := [1280] }) : Dev).sending (0) then (((up.setMac 0 (fun x => { x with cur := .chain 3 0 })|>.writeMem 1280 [1, 2, 3, 4, 5, 6, 7, 8]).setRing 3 (fun x => { x with chains := [⟨0, [leOct 2 5 ++ zeros 22 ++ leOct 2 8 ++ leOct 2 24576 ++ zeros 4], [(5, 8, false)], none, 1, none, 0, false⟩] })).setPm (fun x => { x with bad := [1280] }) : Dev).cnt (0) 36 else (((up.setMac 0 (fun x => { x with cur := .chain 3 0 })|>.writeMem 1280 [1, 2, 3, 4, 5, 6, 7, 8]).setRing 3 (fun x => { x with chains := [⟨0, [leOct 2 5 ++ zeros 22 ++ leOct 2 8 ++ leOct 2 24576 ++ zeros 4], [(5, 8, false)], none, 1, none, 0, false⟩] })).setPm (fun x => { x with bad := [1280] }) : Dev)).strike ([]) : Dev).readPlaces (chainPlaces ((⟨0, [leOct 2 5 ++ zeros 22 ++ leOct 2 8 ++ leOct 2 24576 ++ zeros 4], [(5, 8, false)], none, 1, none, 0, false⟩ : Chain).barges))).1), _, 1280, [], rfl, rfl, by decide +kernel⟩,
   ⟨(up.setMac 0 (fun x => { x with cur := .tow, towq := [⟨60, [17], true, 2⟩] })), _, ((((if (true) && 2 ≤ (0) && ((up.setMac 0 (fun x
     => { x with cur := .tow, towq := [⟨60, [17], true, 2⟩] }) : Dev).mac (0)).attempts = 0 && (up.setMac 0 (fun x =>
       { x with cur := .tow, towq := [⟨60, [17], true, 2⟩] }) : Dev).sending (0) then (up.setMac 0 (fun x =>
         { x with cur := .tow, towq := [⟨60, [17], true, 2⟩] }) : Dev).cnt (0) 36 else (up.setMac 0 (fun x =>
           { x with cur := .tow, towq := [⟨60, [17], true, 2⟩] }) : Dev)).strike ([]) : Dev).readPlaces (framePlaces ((⟨60, [17], true,
             2⟩ : TowTx).barges) 60)).2.2), 0, true, [], (⟨60, [17], true, 2⟩), [], ((((if (true) && 2 ≤ (0) && ((up.setMac 0 (fun x =>
               { x with cur := .tow, towq := [⟨60, [17], true, 2⟩] }) : Dev).mac (0)).attempts = 0 && (up.setMac 0 (fun x =>
                 { x with cur := .tow, towq := [⟨60, [17], true, 2⟩] }) : Dev).sending (0) then (up.setMac 0 (fun x =>
                   { x with cur := .tow, towq := [⟨60, [17], true, 2⟩] }) : Dev).cnt (0) 36 else (up.setMac 0 (fun x =>
                     { x with cur := .tow, towq := [⟨60, [17], true, 2⟩] }) : Dev)).strike ([]) : Dev).readPlaces (framePlaces ((⟨60,
                       [17], true, 2⟩ : TowTx).barges) 60)).1), rfl, by decide +kernel⟩,
   ⟨(up.setMac 3 (fun x => { x with cur := .tow, towq := [⟨60, [17], false, 2⟩] })), _, ((((if (true) && 2 ≤ (3) && ((up.setMac 3 (fun x
     => { x with cur := .tow, towq := [⟨60, [17], false, 2⟩] }) : Dev).mac (3)).attempts = 0 && (up.setMac 3 (fun x =>
       { x with cur := .tow, towq := [⟨60, [17], false, 2⟩] }) : Dev).sending (3) then (up.setMac 3 (fun x =>
         { x with cur := .tow, towq := [⟨60, [17], false, 2⟩] }) : Dev).cnt (3) 36 else (up.setMac 3 (fun x =>
           { x with cur := .tow, towq := [⟨60, [17], false, 2⟩] }) : Dev)).strike ([]) : Dev).readPlaces (framePlaces ((⟨60, [17], false,
             2⟩ : TowTx).barges) 60)).2.2), 3, true, [], (⟨60, [17], false, 2⟩), [], ((((if (true) && 2 ≤ (3) && ((up.setMac 3 (fun x =>
               { x with cur := .tow, towq := [⟨60, [17], false, 2⟩] }) : Dev).mac (3)).attempts = 0 && (up.setMac 3 (fun x =>
                 { x with cur := .tow, towq := [⟨60, [17], false, 2⟩] }) : Dev).sending (3) then (up.setMac 3 (fun x =>
                   { x with cur := .tow, towq := [⟨60, [17], false, 2⟩] }) : Dev).cnt (3) 36 else (up.setMac 3 (fun x =>
                     { x with cur := .tow, towq := [⟨60, [17], false, 2⟩] }) : Dev)).strike ([]) : Dev).readPlaces (framePlaces ((⟨60,
                       [17], false, 2⟩ : TowTx).barges) 60)).1), rfl, by decide +kernel⟩⟩

theorem witness_PauseAndTsoCommandsComplete :
    (∃ (d : Dev) (e : Dev) (p : Nat) (t : Nat), e = d.advanceTo t ∧ p < 2 ∧ (d.mac p).pauseEnd = some t)
    ∧ (∃ (d : Dev) (e : Dev) (p : Nat) (t : Nat), e = d.advanceTo (t + d.rd (macKey 0x3820 p 5) * 100) ∧ p < 2 ∧
      (d.mac p).lastAuto = some t ∧ d.on (macDom p) = true ∧ d.flag (macKey 0x3820 p 1) 1 = true ∧
        d.poundState (d.rd (0x268001 + p)) = 2 ∧ d.poundFree (d.rd (0x268001 + p)) < d.rd (macKey 0x3820 p 4))
    ∧ (∃ (d0 : Dev) (d : Dev) (p : Nat) (v : Nat) (tm : Timing), d = d0.hostStart ∧ p < 2 ∧ v < 2 ^ 16 ∧
      d.hostTakes (macKey 0x3820 p 6) v tm = true)
    ∧ (∃ (d : Dev) (e : Dev) (p : Nat) (t : Nat) (x : Nat), e = d.advanceTo (t + d.rd (macKey 0x3820 p 7) * 100) ∧ p < 2 ∧
      (d.mac p).wdSince = some t ∧ d.on (macDom p) = true ∧ (d.mac p).pauseEnd = some x ∧ t + d.rd (macKey 0x3820 p 7) * 100 < x)
    ∧ (∃ (d : Dev) (e : Dev) (p : Nat) (t : Nat), e = d.advanceTo (t + d.rd (macKey 0x3820 p 7) * 100) ∧ p < 2 ∧
      (d.mac p).quietSince = some t ∧ d.on (macDom p) = true ∧ (d.mac p).pauseEnd = none)
    ∧ (∃ (d0 : Dev) (d : Dev) (p : Nat) (tm : Timing), d = d0.hostStart ∧ p < 2 ∧ d.hostTakes (macKey 0x3820 p 0xA) 1 tm = true)
    ∧ (∃ (d0 : Dev) (d : Dev) (p : Nat) (b : Nat) (tm : Timing), d = d0.hostStart ∧ p < 2 ∧
      d.hostTakes (macKey 0x3830 p 1) 1 tm = true ∧ d.rd (macKey 0x3830 p 1) = 0 ∧ d.rd (macKey 0x3830 p 2) = b ∧
        d.claimBlock [⟨4, b, 7, p⟩] = none)
    ∧ (∃ (d0 : Dev) (d : Dev) (p : Nat) (tm : Timing), d = d0.hostStart ∧ p < 2 ∧ d.hostTakes (macKey 0x3830 p 1) 0 tm = true ∧
      d.rd (macKey 0x3830 p 1) = 1)
    ∧ (∃ (d0 : Dev) (d : Dev) (p : Nat) (v : Nat) (tm : Timing), d = d0.hostStart ∧ p < 4 ∧ v < 2 ^ 8 ∧
      d.hostTakes (macKey 0x3800 p 5) v tm = true)
    ∧ (∃ (d0 : Dev) (d : Dev) (e : Dev) (v : Nat) (tm : Timing), d = d0.hostStart ∧ e = d.noteRx 0x385011 ∧ v < 2 ^ 16 ∧
      d.hostTakes 0x385011 v tm = true ∧ e.claimBlock (pralineClaims v) = none) :=
  ⟨⟨(up.setMac 1 (fun x => { x with pauseEnd := some 7 })), _, 1, 7, rfl, by decide +kernel⟩,
   ⟨((with_ [(macKey 0x3820 1 1, 2), (macKey 0x3820 1 4, 1), (0x252007, 2)]).setMac 1 (fun x => { x with lastAuto := some 7 })), _, 1, 7,
     rfl, by decide +kernel⟩,
   ⟨up, _, 1, 0xFFFF, tmw, rfl, by decide +kernel⟩,
   ⟨((with_ [(macKey 0x3820 1 8, 0)]).setMac 1 (fun x => { x with wdSince := some 7, pauseEnd := some (2 ^ 41) })), _, 1, 7, (2 ^ 41),
     rfl, by decide +kernel⟩,
   ⟨(up.setMac 1 (fun x => { x with quietSince := some 7 })), _, 1, 7, rfl, by decide +kernel⟩,
   ⟨up, _, 1, tmw, rfl, by decide +kernel⟩,
   ⟨up, _, 1, (((up).hostStart).rd (macKey 0x3830 1 2)), tmw, rfl, by decide +kernel⟩,
   ⟨(with_ [(macKey 0x3830 1 1, 1)]), _, 1, tmw, rfl, by decide +kernel⟩,
   ⟨up, _, 3, 1, tmw, rfl, by decide +kernel⟩,
   ⟨(with_ [(0x385010, crc16 [] * 256 ^ 144)]), _, _, 0x8000, tmw, rfl, rfl, by decide +kernel⟩⟩

theorem witness_PortRunAndMdioCommandsComplete :
    (∃ (d0 : Dev) (d : Dev) (p : Nat) (tm : Timing), d = d0.hostStart ∧ p < 4 ∧ d.hostTakes (portRunKey p) 0 tm = true ∧
      d.rd (portRunKey p) = 1)
    ∧ (∃ (d0 : Dev) (d : Dev) (tm : Timing), d = d0.hostStart ∧ d.hostTakes (portRunKey 0) 1 tm = true ∧ d.rd (portRunKey 0) = 0)
    ∧ (∃ (d0 : Dev) (d : Dev) (tm : Timing), d = d0.hostStart ∧ d.hostTakes (portRunKey 1) 1 tm = true ∧ d.rd (portRunKey 1) = 0)
    ∧ (∃ (d0 : Dev) (d : Dev) (p : Nat) (tm : Timing), d = d0.hostStart ∧ 2 ≤ p ∧ p < 4 ∧ d.hostTakes (portRunKey p) 1 tm = true ∧
      d.rd (portRunKey p) = 0 ∧ d.rd (segKey 0x3210 p 1) = 1)
    ∧ (∃ (d0 : Dev) (d : Dev) (p : Nat) (tm : Timing), d = d0.hostStart ∧ 2 ≤ p ∧ p < 4 ∧ d.hostTakes (portRunKey p) 1 tm = true ∧
      d.rd (portRunKey p) = 0 ∧ d.rd (segKey 0x3210 p 1) = 0)
    ∧ (∃ (d : Dev) (e : Dev) (data : Nat) (f : MdioFrame), e = d.advanceTo (d.mdio.curAt + 64 * d.rd 0x301002) ∧ data < 2 ^ 16 ∧
      d.mdio.cur = some f ∧ f.kind = .host true ∧ f.write = false)
    ∧ (∃ (d : Dev) (e : Dev), e = d.advanceTo (d.mdio.lastPoll + d.rd 0x301003 * 100000) ∧ d.on dMACT = true ∧ d.rd (portRunKey 0) = 1)
    ∧ (∃ (d0 : Dev) (d : Dev) (phy : Nat) (reg : Nat) (tm : Timing), d = d0.hostStart ∧ phy < 32 ∧ reg < 32 ∧
      d.hostTakes 0x301005 (mdioWord 1 phy reg 0 0) tm = true)
    ∧ (∃ (d0 : Dev) (d : Dev) (phy : Nat) (reg : Nat) (data : Nat) (tm : Timing), d = d0.hostStart ∧ phy < 32 ∧ reg < 32 ∧
      data < 2 ^ 16 ∧ d.hostTakes 0x301005 (mdioWord 2 phy reg 0 data) tm = true)
    ∧ (∃ (d0 : Dev) (d : Dev) (phy : Nat) (dev : Nat) (reg : Nat) (tm : Timing), d = d0.hostStart ∧ phy < 32 ∧ dev < 32 ∧
      reg < 2 ^ 16 ∧ d.hostTakes 0x301005 (mdioWord 3 phy dev reg 0) tm = true)
    ∧ (∃ (d0 : Dev) (d : Dev) (phy : Nat) (dev : Nat) (reg : Nat) (data : Nat) (tm : Timing), d = d0.hostStart ∧ phy < 32 ∧ dev < 32 ∧
      reg < 2 ^ 16 ∧ data < 2 ^ 16 ∧ d.hostTakes 0x301005 (mdioWord 4 phy dev reg data) tm = true) :=
  ⟨⟨(with_ [(0x330001, 1)]), _, 3, tmw, rfl, by decide +kernel⟩,
   ⟨up, _, tmw, rfl, by decide +kernel⟩,
   ⟨up, _, tmw, rfl, by decide +kernel⟩,
   ⟨(with_ [(segKey 0x3210 3 1, 1)]), _, 3, tmw, rfl, by decide +kernel⟩,
   ⟨(with_ [(segKey 0x3210 3 1, 0)]), _, 3, tmw, rfl, by decide +kernel⟩,
   ⟨(up.setMdio (fun x => { x with cur := some ⟨.host true, false, 3, 1, 0⟩ })), _, 0xFFFF, (⟨.host true, false, 3, 1, 0⟩), rfl, by
     decide +kernel⟩,
   ⟨(with_ [(0x300001, 1)]), _, rfl, by decide +kernel⟩,
   ⟨up, _, 31, 31, tmw, rfl, by decide +kernel⟩,
   ⟨up, _, 31, 31, 0xFFFF, tmw, rfl, by decide +kernel⟩,
   ⟨up, _, 31, 31, 0xFFFF, tmw, rfl, by decide +kernel⟩,
   ⟨up, _, 31, 31, 0xFFFF, 0xFFFF, tmw, rfl, by decide +kernel⟩⟩

theorem witness_GovernorAndT1lCommandsComplete :
    (∃ (d0 : Dev) (d : Dev) (tm : Timing), d = d0.hostStart ∧ d.hostTakes 0x302001 1 tm = true ∧ d.domEff dTIME ≠ .off ∧
      d.claimBlock [govClaim] = none ∧ d.rd 0x302001 = 0)
    ∧ (∃ (d0 : Dev) (d : Dev) (tm : Timing), d = d0.hostStart ∧ d.hostTakes 0x302001 1 tm = true ∧ d.domEff dTIME = .off ∧
      d.rd 0x302001 = 1)
    ∧ (∃ (d0 : Dev) (d : Dev) (tm : Timing), d = d0.hostStart ∧ d.hostTakes 0x302001 0 tm = true)
    ∧ (∃ (d : Dev) (e : Dev) (u : Nat) (dn : Nat) (up : Nat) (span : Nat) (hi : Bool) (run : Bool), span = d.rd 0x302006 * 1000000 *
      4194304 ∧ e = d.clockReach (d.gov.winStart + span) ∧ u = max e.gov.txOct e.gov.rxOct * 8 / (100 * e.rd 0x302006) ∧
        hi = decide (e.rd 0x300003 = 100) ∧ run = e.gov.step.isSome ∧ dn = (if hi && u < e.rd 0x302002 then e.gov.downRun + 1 else 0) ∧
          up = (if !hi && e.rd 0x302003 < u then e.gov.upRun + 1 else 0) ∧ d.allOn [dMACT, dTIME] = true ∧ d.rd 0x302001 = 1 ∧
            d.govHolds = true ∧ d.linkState 0 = 3 ∧ d.rateJob = none)
    ∧ (∃ (d : Dev), d.on dMACT = true ∧ d.on dTIME = false ∧ d.rd 0x302001 = 1)
    ∧ (∃ (d : Dev) (g : GovStep), d.gov.step = some g ∧ g.drained = false ∧ g.bmcrAt = none ∧ (d.mac 0).cur = .idle ∧
      d.on dMACT = true ∧ d.rd (portRunKey 0) ≠ 0)
    ∧ (∃ (d : Dev) (e : Dev) (g : GovStep) (t : Nat), e = d.advanceTo (t + d.rd 0x302007 * 100000) ∧ d.gov.step = some g ∧
      g.bmcrAt = some t)
    ∧ (∃ (d : Dev) (able : Bool) (req : Bool) (draw : Bool) (an : Bool) (hi : Bool) (ms : Bool) (far : Nat), an = decide (d.rd 0x311002 =
      1) ∧ hi = (if an then d.flag 0x311001 0 && able && (d.flag 0x311001 1 || req) else d.flag 0x311003 0) ∧
        ms = (if an then t1lRole (d.rd 0x311004) far draw else d.flag 0x311003 1) ∧ far ≤ 2 ∧ d.on dMACL = true ∧
          d.rd (portRunKey 1) ≠ 0 ∧ d.linkState 1 ≠ 6)
    ∧ (∃ (d : Dev) (able : Bool) (req : Bool) (draw : Bool) (an : Bool) (hi : Bool) (ms : Bool) (far : Nat), an = decide (d.rd 0x311002 =
      1) ∧ hi = (if an then d.flag 0x311001 0 && able && (d.flag 0x311001 1 || req) else d.flag 0x311003 0) ∧
        ms = (if an then t1lRole (d.rd 0x311004) far draw else d.flag 0x311003 1) ∧ far ≤ 2 ∧ d.on dMACL = true ∧
          d.rd (portRunKey 1) ≠ 0 ∧ d.linkState 1 ≠ 6)
    ∧ (∃ (d : Dev) (far : Nat), far ≤ 2 ∧ d.on dMACL = true ∧ d.rd (portRunKey 1) ≠ 0 ∧ d.linkState 1 = 3)
    ∧ (∃ (d : Dev) (e : Dev) (sqi : Nat) (mse : Nat), e = d.advanceTo ((d.mac 1).sqiAt + 100000) ∧ sqi < 8 ∧ mse < 2 ^ 16 ∧
      d.on dMACL = true ∧ d.linkState 1 = 3) :=
  ⟨⟨up, _, tmw, rfl, by decide +kernel⟩,
   ⟨((with_ [(0x302001, 1)])|>.setDom 15 (fun o => { o with st := .off })), _, tmw, rfl, by decide +kernel⟩,
   ⟨up, _, tmw, rfl, by decide +kernel⟩,
   ⟨({ (with_ [(0x302001, 1), (0x300002, 3), (0x300003, 100), (0x302002, 5)]).setGov (fun x => { x with downRun := 2 ^ 20 }) with claims := [govClaim] }), _, _, _, _, _, _, _, rfl, rfl, rfl, rfl, rfl, rfl, rfl, by decide +kernel⟩,
   ⟨((with_ [(0x302001, 1)])|>.setDom 15 (fun o => { o with st := .off })), by decide +kernel⟩,
   ⟨((up.setGov (fun x => { x with step := some ⟨10, none, false, none, false, 0⟩ })).wr (portRunKey 0) 1), (⟨10, none, false, none,
     false, 0⟩), by decide +kernel⟩,
   ⟨(up.setGov (fun x => { x with step := some ⟨10, none, true, some 7, false, 0⟩ })), _, (⟨10, none, true, some 7, false, 0⟩), 7, rfl,
     by decide +kernel⟩,
   ⟨(with_ [(0x310001, 1), (0x311002, 0)]), true, true, true, _, _, _, 2, rfl, rfl, rfl, by decide +kernel⟩,
   ⟨(with_ [(0x310001, 1), (0x311002, 1)]), true, true, true, _, _, _, 2, rfl, rfl, rfl, by decide +kernel⟩,
   ⟨(with_ [(0x310001, 1), (0x310002, 3)]), 0, by decide +kernel⟩,
   ⟨(with_ [(0x310002, 3)]), _, 7, 0xFFFF, rfl, by decide +kernel⟩⟩

theorem witness_SegmentCommandsComplete :
    (∃ (d : Dev) (e : Dev) (p : Nat), e = (((d.yieldClear p).plcaBit p 0 true).plcaBit p 1 true).setLink p 3 ∧ (p = 2 ∨ p = 3) ∧
      d.plcaOn p = true ∧ d.plcaId p = 0 ∧ (d.seg p).coordOff = false ∧ (d.seg p).yielded = false ∧ (d.seg p).count = none)
    ∧ (∃ (d : Dev) (b : Dev) (e : Dev) (p : Nat) (c : Nat) (s : Nat) (t : Nat), t = (d.seg p).countAt + (d.rd (segKey 0x3210 p 3) - c) *
      (10 * d.rd (segKey 0x3210 p 4)) ∧ s = (((d.seg p).held).getD (d.sgHold p)).toNat ∧
        b = (d.wr (segKey 0x3220 p 7) s).advanceTo (t + s) ∧ e = (((b.yieldClear p).plcaBit p 0 true).plcaBit p 1 true).setLink p 3 ∧
          (p = 2 ∨ p = 3) ∧ d.plcaOn p = true ∧ d.plcaId p = 0 ∧ (d.seg p).coordOff = false ∧ (d.seg p).yielded = false ∧
            (d.seg p).count = some c)
    ∧ (∃ (d : Dev) (e : Dev) (p : Nat), e = (((d.setSeg p (fun s => { s with yielded := false })).plcaBit p 0 true).plcaBit p 1
      true).setLink p 3 ∧ (p = 2 ∨ p = 3) ∧ d.plcaOn p = true ∧ d.plcaId p = 0 ∧ (d.seg p).coordOff = false ∧ (d.seg p).yielded = true)
    ∧ (∃ (d : Dev) (p : Nat), (p = 2 ∨ p = 3) ∧ d.plcaOn p = true ∧ d.plcaId p ≠ 0)
    ∧ (∃ (d : Dev) (p : Nat), (p = 2 ∨ p = 3) ∧ d.plcaOn p = true ∧ d.plcaId p = 0 ∧ (d.seg p).coordOff = false)
    ∧ (∃ (d : Dev) (e : Dev) (p : Nat) (t : Nat), e = d.advanceTo (t + 40000) ∧ (p = 2 ∨ p = 3) ∧ (d.seg p).beaconAt = some t ∧
      d.plcaOn p = true ∧ d.linkState p = 3 ∧ d.plcaId p ≠ 0)
    ∧ (∃ (d : Dev) (p : Nat), (p = 2 ∨ p = 3) ∧ d.plcaSends p = true ∧ d.plcaId p ≠ 0 ∧ (d.seg p).opp ≠ none ∧ d.sending p = true)
    ∧ (∃ (d : Dev) (p : Nat), (p = 2 ∨ p = 3) ∧ ((d.seg p).opp = none ∨ d.sending p = false))
    ∧ (∃ (d : Dev) (p : Nat), (p = 2 ∨ p = 3) ∧ ((d.seg p).opp = none ∨ d.sending p = false))
    ∧ (∃ (d : Dev) (e : Dev) (p : Nat) (t : Nat), e = d.advanceTo (t + 100000000) ∧ (p = 2 ∨ p = 3) ∧ (d.seg p).conflictAt = some t)
    ∧ (∃ (d : Dev) (b : Dev) (p : Nat) (j : Nat) (v : Nat) (c : Nat) (o : Int) (x : Int) (n : Int) (late : Bool), late = decide (j =
      d.predecessor p ∧ d.sgT p ≤ o) ∧ b = (if late then d.setSeg p (fun s =>
        { s with held := some (((d.seg p).held).getD (d.sgHold p)) }) else d) ∧ x = clampInt (-32767) 32767 o ∧
          v = d.rd (segKey 0x3240 p (1 + j)) ∧ n = (if v = 0x8000 then x else toSigned 16 v + (x - toSigned 16 v).tdiv 8) ∧
            (p = 2 ∨ p = 3) ∧ j < d.rd (segKey 0x3210 p 3) ∧ j < 32 ∧ d.plcaOn p = true ∧ j ≠ d.plcaId p ∧ (d.seg p).count = some c ∧
              (c ≤ j ∨ j = d.predecessor p))
    ∧ (∃ (d : Dev) (b : Dev) (p : Nat) (j : Nat) (v : Nat) (c : Nat) (o : Int) (x : Int) (n : Int) (late : Bool), late = decide (j =
      d.predecessor p ∧ d.sgT p ≤ o) ∧ b = (if late then d.setSeg p (fun s =>
        { s with held := some (((d.seg p).held).getD (d.sgHold p)) }) else d) ∧ x = clampInt (-32767) 32767 o ∧
          v = d.rd (segKey 0x3240 p (1 + j)) ∧ n = (if v = 0x8000 then x else toSigned 16 v + (x - toSigned 16 v).tdiv 8) ∧
            (p = 2 ∨ p = 3) ∧ j < d.rd (segKey 0x3210 p 3) ∧ j < 32 ∧ d.plcaOn p = true ∧ j ≠ d.plcaId p ∧ (d.seg p).count = some c ∧
              (c ≤ j ∨ j = d.predecessor p))
    ∧ (∃ (d : Dev) (b : Dev) (p : Nat) (j : Nat) (v : Nat) (c : Nat) (o : Int) (x : Int) (n : Int) (late : Bool), late = decide (j =
      d.predecessor p ∧ d.sgT p ≤ o) ∧ b = (if late then d.setSeg p (fun s =>
        { s with held := some (((d.seg p).held).getD (d.sgHold p)) }) else d) ∧ x = clampInt (-32767) 32767 o ∧
          v = d.rd (segKey 0x3240 p (1 + j)) ∧ n = (if v = 0x8000 then x else toSigned 16 v + (x - toSigned 16 v).tdiv 8) ∧
            (p = 2 ∨ p = 3) ∧ j < d.rd (segKey 0x3210 p 3) ∧ j < 32 ∧ d.plcaOn p = true ∧ j ≠ d.plcaId p ∧ (d.seg p).count = some c ∧
              (c ≤ j ∨ j = d.predecessor p))
    ∧ (∃ (d : Dev) (b : Dev) (p : Nat) (j : Nat) (v : Nat) (c : Nat) (o : Int) (x : Int) (n : Int) (late : Bool), late = decide (j =
      d.predecessor p ∧ d.sgT p ≤ o) ∧ b = (if late then d.setSeg p (fun s =>
        { s with held := some (((d.seg p).held).getD (d.sgHold p)) }) else d) ∧ x = clampInt (-32767) 32767 o ∧
          v = d.rd (segKey 0x3240 p (1 + j)) ∧ n = (if v = 0x8000 then x else toSigned 16 v + (x - toSigned 16 v).tdiv 8) ∧
            (p = 2 ∨ p = 3) ∧ j < d.rd (segKey 0x3210 p 3) ∧ j < 32 ∧ d.plcaOn p = true ∧ j ≠ d.plcaId p ∧ (d.seg p).count = some c ∧
              (c ≤ j ∨ j = d.predecessor p))
    ∧ (∃ (d : Dev) (e : Dev) (p : Nat) (c : Nat) (s : Nat) (t : Nat), t = (d.seg p).countAt + (d.plcaId p - c) * (10 * d.rd (segKey
      0x3210 p 4)) ∧ s = (((d.seg p).held).getD (d.sgHold p)).toNat ∧
        e = ((d.wr (segKey 0x3220 p 7) s).advanceTo (t + s)).yieldClear p ∧ (p = 2 ∨ p = 3) ∧ d.plcaSends p = true ∧ d.plcaId p ≠ 0 ∧
          (d.seg p).count = some c ∧ c ≤ d.plcaId p)
    ∧ (∃ (d : Dev) (b : Dev) (e : Dev) (f : Dev) (p : Nat) (s : Nat) (into : Option Nat), s = (((d.seg p).held).getD (d.sgHold p)).toNat
      ∧ b = (d.inc (segKey 0x3220 p 5)).wr (segKey 0x3220 p 7) s ∧
        e = (match into with | some i => b.sgEstimate p (b.predecessor p) (b.sgT p + i) | none => b) ∧
          f = e.setSeg p (fun x =>
            { x with yieldRun := (d.seg p).yieldRun + 1, yielded := e.plcaId p == 0, opp := none, held := none, count := some (if e.plcaId p = 0 then e.rd (segKey 0x3210 p 3) else e.plcaId p + 1), countAt := e.ck }) ∧ (p = 2 ∨ p = 3) ∧ d.sgHolds p = true ∧ 0 < s ∧ ((∀ i, into = some i → i < s)))
    ∧ (∃ (d : Dev) (b : Dev) (e : Dev) (f : Dev) (p : Nat) (s : Nat) (into : Option Nat), s = (((d.seg p).held).getD (d.sgHold p)).toNat
      ∧ b = (d.inc (segKey 0x3220 p 5)).wr (segKey 0x3220 p 7) s ∧
        e = (match into with | some i => b.sgEstimate p (b.predecessor p) (b.sgT p + i) | none => b) ∧
          f = e.setSeg p (fun x =>
            { x with yieldRun := (d.seg p).yieldRun + 1, yielded := e.plcaId p == 0, opp := none, held := none, count := some (if e.plcaId p = 0 then e.rd (segKey 0x3210 p 3) else e.plcaId p + 1), countAt := e.ck }) ∧ (p = 2 ∨ p = 3) ∧ d.sgHolds p = true ∧ 0 < s ∧ ((∀ i, into = some i → i < s)))
    ∧ (∃ (d : Dev) (p : Nat), (p = 2 ∨ p = 3) ∧ ((d.plcaId p = 0 ∧ (d.seg p).coordOff = true) ∨ (d.plcaId p ≠ 0 ∧ d.plcaSends p = false)))
    ∧ (∃ (d : Dev) (p : Nat), (p = 2 ∨ p = 3) ∧ ((d.plcaId p = 0 ∧ (d.seg p).coordOff = true) ∨ (d.plcaId p ≠ 0 ∧ d.plcaSends p = false)))
    ∧ (∃ (d : Dev) (e : Dev) (p : Nat) (j : Nat) (t : Nat), e = d.advanceTo (t + 100000000) ∧ (p = 2 ∨ p = 3) ∧ j < 32 ∧
      (d.seg p).measured.getD j none = some t)
    ∧ (∃ (d : Dev) (e : Dev) (p : Nat) (r : Nat) (s : Nat) (n : Nat) (df : Bool), n = (d.mac p).attempts + 1 ∧
      e = ((if df && n = 1 then d.cnt p 36 else d).oppEnd p).cnt p 33 ∧ (p = 2 ∨ p = 3) ∧ d.on (macDom p) = true ∧
        (d.mac p).backoff = none ∧ (d.mac p).hold = false ∧ ((d.mac p).cur = .chain r s ∨ (d.mac p).cur = .tow) ∧ n < 16)
    ∧ (∃ (d : Dev) (e : Dev) (p : Nat) (r : Nat) (s : Nat) (n : Nat) (df : Bool), n = (d.mac p).attempts + 1 ∧
      e = ((if df && n = 1 then d.cnt p 36 else d).oppEnd p).cnt p 33 ∧ (p = 2 ∨ p = 3) ∧ d.on (macDom p) = true ∧
        (d.mac p).backoff = none ∧ (d.mac p).hold = false ∧ ((d.mac p).cur = .chain r s ∨ (d.mac p).cur = .tow) ∧ n < 16)
    ∧ (∃ (d : Dev) (e : Dev) (p : Nat) (t : Nat) (n : Nat), e = d.advanceTo (t + n * 5120) ∧ (p = 2 ∨ p = 3) ∧
      (d.mac p).backoff = some (t, n)) :=
  ⟨⟨((with_ [(0x320001, 1), (0x321001, 1), (0x321002, 0)])), _, 2, rfl, by decide +kernel⟩,
   ⟨(((with_ [(0x320001, 1), (0x321001, 1), (0x321002, 0), (0x321003, 4), (0x321004, 32), (0x320002, 3)]).setSeg 2 (fun x =>
     { x with count := some 2, countAt := 7 }))), _, _, 2, 2, _, _, rfl, rfl, rfl, rfl, by decide +kernel⟩,
   ⟨(((with_ [(0x320001, 1), (0x321001, 1), (0x321002, 0), (0x321003, 4), (0x321004, 32), (0x320002, 3)]).setSeg 2 (fun x =>
     { x with yielded := true }))), _, 2, rfl, by decide +kernel⟩,
   ⟨((with_ [(0x320001, 1), (0x321001, 1), (0x321002, 2), (0x321003, 4), (0x321004, 32), (0x320002, 3), (0x322001, 1), (0x322006, 5),
     (0x322002, 10)])), 2, by decide +kernel⟩,
   ⟨((with_ [(0x320001, 1), (0x321001, 1), (0x321002, 0), (0x321003, 4), (0x321004, 32), (0x320002, 3)])), 2, by decide +kernel⟩,
   ⟨(((with_ [(0x320001, 1), (0x321001, 1), (0x321002, 2), (0x321003, 4), (0x321004, 32), (0x320002, 3), (0x322001, 1), (0x322006, 5),
     (0x322002, 10)]).setSeg 2 (fun x => { x with beaconAt := some 7 }))), _, 2, 7, rfl, by decide +kernel⟩,
   ⟨((((with_ [(0x320001, 1), (0x321001, 1), (0x321002, 2), (0x321003, 4), (0x321004, 32), (0x320002, 3), (0x322001, 1), (0x322006, 5),
     (0x322002, 10)]).setSeg 2 (fun x => { x with opp := some (0, 7) })).setMac 2 (fun x =>
       { x with cur := .tow, towq := [⟨60, [17], true, 2⟩] }))), 2, by decide +kernel⟩,
   ⟨((with_ [(0x320001, 1), (0x321001, 1), (0x321002, 2), (0x321003, 4), (0x321004, 32), (0x320002, 3), (0x322001, 1), (0x322006, 5),
     (0x322002, 10)])), 2, by decide +kernel⟩,
   ⟨(((with_ [(0x320001, 1), (0x321001, 1), (0x321002, 2), (0x321003, 4), (0x321004, 32), (0x320002, 3), (0x322001, 1), (0x322006, 5),
     (0x322002, 10)]).setSeg 2 (fun x => { x with opp := some (0, 7) }))), 2, by decide +kernel⟩,
   ⟨(up.setSeg 2 (fun x => { x with conflictAt := some 7 })), _, 2, 7, rfl, by decide +kernel⟩,
   ⟨((((with_ [(0x320001, 1), (0x321001, 1), (0x321002, 2), (0x321003, 4), (0x321004, 32), (0x320002, 3), (0x322001, 1), (0x322006, 5),
     (0x322002, 10)]).wr 0x324001 0x8000).setSeg 2 (fun x => { x with count := some 0 }))), _, 2, 0, _, 0, 40000, _, _, _, rfl, rfl, rfl,
       rfl, rfl, by decide +kernel⟩,
   ⟨((((with_ [(0x320001, 1), (0x321001, 1), (0x321002, 2), (0x321003, 4), (0x321004, 32), (0x320002, 3), (0x322001, 1), (0x322006, 5),
     (0x322002, 10)]).wr 0x324001 0x8001).setSeg 2 (fun x => { x with count := some 0 }))), _, 2, 0, _, 0, -5, _, _, _, rfl, rfl, rfl,
       rfl, rfl, by decide +kernel⟩,
   ⟨(((with_ [(0x320001, 1), (0x321001, 1), (0x321002, 2), (0x321003, 4), (0x321004, 32), (0x320002, 3), (0x322001, 1), (0x322006, 5),
     (0x322002, 10)]).setSeg 2 (fun x => { x with count := some 1 }))), _, 2, 1, _, 1, 400, _, _, _, rfl, rfl, rfl, rfl, rfl, by
       decide +kernel⟩,
   ⟨((((with_ [(0x320001, 1), (0x321001, 1), (0x321002, 2), (0x321003, 4), (0x321004, 32), (0x320002, 3), (0x322001, 1), (0x322006, 5),
     (0x322002, 10)]).setSeg 2 (fun x => { x with count := some 1 })).setMac 2 (fun x =>
       { x with cur := .tow, towq := [⟨60, [17], true, 2⟩] }))), _, 2, 1, _, 1, 40, _, _, _, rfl, rfl, rfl, rfl, rfl, by decide +kernel⟩,
   ⟨(((with_ [(0x320001, 1), (0x321001, 1), (0x321002, 2), (0x321003, 4), (0x321004, 32), (0x320002, 3), (0x322001, 1), (0x322006, 5),
     (0x322002, 10)]).setSeg 2 (fun x => { x with count := some 1, countAt := 7 }))), _, 2, 1, _, _, rfl, rfl, rfl, by decide +kernel⟩,
   ⟨((((with_ [(0x320001, 1), (0x321001, 1), (0x321002, 2), (0x321003, 4), (0x321004, 32), (0x320002, 3), (0x322001, 1), (0x322006, 5),
     (0x322002, 10)]).setSeg 2 (fun x => { x with count := some 2, countAt := 7 })).setMac 2 (fun x =>
       { x with cur := .tow, towq := [⟨60, [17], true, 2⟩] }))), _, _, _, 2, _, none, rfl, rfl, rfl, rfl, by decide, by decide +kernel,
         by decide +kernel, fun i h => (nomatch h)⟩,
   ⟨((((with_ [(0x320001, 1), (0x321001, 1), (0x321002, 2), (0x321003, 4), (0x321004, 32), (0x320002, 3), (0x322001, 1), (0x322006, 5),
     (0x322002, 10)]).setSeg 2 (fun x => { x with count := some 2, countAt := 7 })).setMac 2 (fun x =>
       { x with cur := .tow, towq := [⟨60, [17], true, 2⟩] }))), _, _, _, 2, _, (some 0), rfl, rfl, rfl, rfl, by decide, by
         decide +kernel, by decide +kernel, fun i h => (Option.some.inj h) ▸ (by decide +kernel)⟩,
   ⟨(((with_ [(0x320001, 1), (0x321001, 1), (0x321002, 0), (0x321003, 4), (0x321004, 32), (0x320002, 3)]).setSeg 2 (fun x =>
     { x with coordOff := true }))), 2, by decide +kernel⟩,
   ⟨((with_ [(0x320001, 1), (0x321001, 1), (0x321002, 1)])), 2, by decide +kernel⟩,
   ⟨(up.setSeg 2 (fun x => { x with measured := [none, some 7] })), _, 2, 1, 7, rfl, by decide +kernel⟩,
   ⟨(up.setMac 2 (fun x => { x with cur := .chain 19 0 })), _, 2, 19, 0, _, true, rfl, rfl, by decide +kernel⟩,
   ⟨(up.setMac 2 (fun x => { x with cur := .tow })), _, 2, 19, 0, _, false, rfl, rfl, by decide +kernel⟩,
   ⟨(up.setMac 2 (fun x => { x with backoff := some (7, 3) })), _, 2, 7, 3, rfl, by decide +kernel⟩⟩

theorem witness_ClassifierCommandsComplete :
    (∃ (d : Dev) (e : Dev) (b : Dev) (f : RxFrame) (t : List RxFrame) (n : Nat) (a : Nat) (x : Oct) (key : Oct), e = (d.advanceTo
      d.cls.ready).setCls (fun c => { c with ready := (d.advanceTo d.cls.ready).ck + 64 }) ∧
        b = e.setCls (fun c => { c with queue := t }) ∧ key = b.clsKey b.clsActive f ∧ a = octAt x 80 ∧ d.cls.queue = f :: t ∧
          d.on dCLS = true ∧ b.allOn [dCLS, dCORE, dPM0] = true ∧ b.rd 0x400001 = 1 ∧ b.framePoisoned f = false ∧
            b.firstMatch b.clsActive key = some (n, x) ∧ a ≠ 5 ∧ a ≠ 6 ∧ (b.clsState ≤ 1 ∨ b.flag 0x400008 n = false))
    ∧ (∃ (d : Dev) (e : Dev) (b : Dev) (f : RxFrame) (t : List RxFrame) (n : Nat) (a : Nat) (x : Oct) (key : Oct), e = (d.advanceTo
      d.cls.ready).setCls (fun c => { c with ready := (d.advanceTo d.cls.ready).ck + 64 }) ∧
        b = e.setCls (fun c => { c with queue := t }) ∧ key = b.clsKey b.clsActive f ∧ a = octAt x 80 ∧ d.cls.queue = f :: t ∧
          d.on dCLS = true ∧ b.allOn [dCLS, dCORE, dPM0] = true ∧ b.rd 0x400001 = 1 ∧ b.framePoisoned f = false ∧
            b.firstMatch b.clsActive key = some (n, x) ∧ a ≠ 5 ∧ a ≠ 6 ∧ (b.clsState ≤ 1 ∨ b.flag 0x400008 n = false))
    ∧ (∃ (d : Dev) (g : Nat), d.rd (grpKey g 1) ≠ 1)
    ∧ (∃ (d : Dev) (e : Dev) (key : Oct) (g : Nat) (h : Nat), d.rd (grpKey g 1) = 1 ∧ d.rd (grpKey g 2) = 1 ∧ (h, e) = d.hash key)
    ∧ (∃ (d : Dev) (e : Dev) (g : Nat) (s : Nat) (w : Nat), s = d.rd (grpKey g 6) ∧
      w = (d.workers g).getD ((d.grp g).rot % (d.workers g).length) 0 ∧
        e = (d.wr (grpKey g 6) ((s + 1) % 65536)).setGrp g (fun x =>
          { x with nums := x.nums ++ [⟨s, w, .out none⟩], rot := (x.rot + 1) % (d.workers g).length, headAt := if x.nums.isEmpty then d.ck else x.headAt }) ∧ d.rd (grpKey g 1) = 1 ∧ d.rd (grpKey g 2) ≠ 1 ∧ (d.grp g).barrier = none ∧ d.cls.held.any (fun e => e.1 == g) = false ∧ d.workers g ≠ [] ∧ sub16 s (d.rd (grpKey g 7)) < 256)
    ∧ (∃ (d : Dev) (e : Dev) (b : Dev) (f : RxFrame) (t : List RxFrame) (v : Nat) (key : Oct), e = (d.advanceTo d.cls.ready).setCls (fun
      c => { c with ready := (d.advanceTo d.cls.ready).ck + 64 }) ∧ b = e.setCls (fun c => { c with queue := t }) ∧
        key = b.clsKey b.clsActive f ∧ v = b.rd (0x401002 + 256 * f.port) ∧ d.cls.queue = f :: t ∧ d.on dCLS = true ∧
          b.allOn [dCLS, dCORE, dPM0] = true ∧ b.rd 0x400001 = 1 ∧ b.framePoisoned f = false ∧ b.firstMatch b.clsActive key = none)
    ∧ (∃ (d : Dev) (e : Dev) (b : Dev) (f : RxFrame) (t : List RxFrame) (v : Nat) (key : Oct), e = (d.advanceTo d.cls.ready).setCls (fun
      c => { c with ready := (d.advanceTo d.cls.ready).ck + 64 }) ∧ b = e.setCls (fun c => { c with queue := t }) ∧
        key = b.clsKey b.clsActive f ∧ v = b.rd (0x401002 + 256 * f.port) ∧ d.cls.queue = f :: t ∧ d.on dCLS = true ∧
          b.allOn [dCLS, dCORE, dPM0] = true ∧ b.rd 0x400001 = 1 ∧ b.framePoisoned f = false ∧ b.firstMatch b.clsActive key = none)
    ∧ (∃ (d : Dev) (e : Dev) (b : Dev) (f : RxFrame) (t : List RxFrame) (n : Nat) (v : Nat) (x : Oct) (key : Oct), e = (d.advanceTo
      d.cls.ready).setCls (fun c => { c with ready := (d.advanceTo d.cls.ready).ck + 64 }) ∧
        b = e.setCls (fun c => { c with queue := t }) ∧ key = b.clsKey b.clsActive f ∧ v = b.rd (0x401002 + 256 * f.port) ∧
          d.cls.queue = f :: t ∧ d.on dCLS = true ∧ b.allOn [dCLS, dCORE, dPM0] = true ∧ b.rd 0x400001 = 1 ∧
            b.framePoisoned f = false ∧ b.firstMatch b.clsActive key = some (n, x) ∧ octAt x 80 = 5 ∧
              (b.clsState ≤ 1 ∨ b.flag 0x400008 n = false))
    ∧ (∃ (d : Dev) (e : Dev) (b : Dev) (f : RxFrame) (t : List RxFrame) (n : Nat) (v : Nat) (x : Oct) (key : Oct), e = (d.advanceTo
      d.cls.ready).setCls (fun c => { c with ready := (d.advanceTo d.cls.ready).ck + 64 }) ∧
        b = e.setCls (fun c => { c with queue := t }) ∧ key = b.clsKey b.clsActive f ∧ v = b.rd (0x401002 + 256 * f.port) ∧
          d.cls.queue = f :: t ∧ d.on dCLS = true ∧ b.allOn [dCLS, dCORE, dPM0] = true ∧ b.rd 0x400001 = 1 ∧
            b.framePoisoned f = false ∧ b.firstMatch b.clsActive key = some (n, x) ∧ octAt x 80 = 5 ∧
              (b.clsState ≤ 1 ∨ b.flag 0x400008 n = false))
    ∧ (∃ (d : Dev) (e : Dev) (b : Dev) (u : Dev) (f : RxFrame) (t : List RxFrame) (n : Nat) (o : Nat) (v : Nat) (x : Oct) (key : Oct), e
      = (d.advanceTo d.cls.ready).setCls (fun c => { c with ready := (d.advanceTo d.cls.ready).ck + 64 }) ∧
        b = e.setCls (fun c => { c with queue := t }) ∧ key = b.clsKey b.clsActive f ∧ v = b.rd (0x401002 + 256 * f.port) ∧
          d.cls.queue = f :: t ∧ d.on dCLS = true ∧ b.allOn [dCLS, dCORE, dPM0] = true ∧ b.rd 0x400001 = 1 ∧
            b.framePoisoned f = false ∧ b.firstMatch b.clsActive key = some (n, x) ∧ octAt x 80 = 6 ∧
              (b.clsState ≤ 1 ∨ (b.clsState = 2 ∧ b.flag 0x400008 n = false)) ∧
                (o, u) = (if opensTest (b.clsBody b.clsActive 3) then b.free else (0, b)))
    ∧ (∃ (d : Dev) (e : Dev) (b : Dev) (u : Dev) (f : RxFrame) (t : List RxFrame) (n : Nat) (o : Nat) (v : Nat) (x : Oct) (key : Oct), e
      = (d.advanceTo d.cls.ready).setCls (fun c => { c with ready := (d.advanceTo d.cls.ready).ck + 64 }) ∧
        b = e.setCls (fun c => { c with queue := t }) ∧ key = b.clsKey b.clsActive f ∧ v = b.rd (0x401002 + 256 * f.port) ∧
          d.cls.queue = f :: t ∧ d.on dCLS = true ∧ b.allOn [dCLS, dCORE, dPM0] = true ∧ b.rd 0x400001 = 1 ∧
            b.framePoisoned f = false ∧ b.firstMatch b.clsActive key = some (n, x) ∧ octAt x 80 = 6 ∧
              (b.clsState ≤ 1 ∨ (b.clsState = 2 ∧ b.flag 0x400008 n = false)) ∧
                (o, u) = (if opensTest (b.clsBody b.clsActive 3) then b.free else (0, b)))
    ∧ (∃ (d : Dev) (e : Dev) (b : Dev) (f : RxFrame) (t : List RxFrame) (n : Nat) (x : Oct), e = (d.advanceTo d.cls.ready).setCls (fun c
      => { c with ready := (d.advanceTo d.cls.ready).ck + 64 }) ∧ b = e.setCls (fun c => { c with queue := t }) ∧
        d.cls.queue = f :: t ∧ d.on dCLS = true ∧ b.allOn [dCLS, dCORE, dPM0] = true ∧ b.rd 0x400001 = 1 ∧ b.framePoisoned f = false ∧
          b.firstMatch b.clsActive (b.clsKey b.clsActive f) = some (n, x) ∧ 2 ≤ b.clsState ∧
            (b.flag 0x400008 n = true ∨ (3 ≤ b.clsState ∧ octAt x 80 = 6)))
    ∧ (∃ (d : Dev) (e : Dev) (b : Dev) (f : RxFrame) (t : List RxFrame) (n : Nat) (x : Oct), e = (d.advanceTo d.cls.ready).setCls (fun c
      => { c with ready := (d.advanceTo d.cls.ready).ck + 64 }) ∧ b = e.setCls (fun c => { c with queue := t }) ∧
        d.cls.queue = f :: t ∧ d.on dCLS = true ∧ b.allOn [dCLS, dCORE, dPM0] = true ∧ b.rd 0x400001 = 1 ∧ b.framePoisoned f = false ∧
          b.firstMatch b.clsActive (b.clsKey b.clsActive f) = some (n, x) ∧ 2 ≤ b.clsState ∧
            (b.flag 0x400008 n = true ∨ (3 ≤ b.clsState ∧ octAt x 80 = 6)))
    ∧ (∃ (d : Dev) (e : Dev) (b : Dev) (f : RxFrame) (t : List RxFrame) (v : Nat), e = (d.advanceTo d.cls.ready).setCls (fun c =>
      { c with ready := (d.advanceTo d.cls.ready).ck + 64 }) ∧ b = e.setCls (fun c => { c with queue := t }) ∧
        v = b.rd (0x401002 + 256 * f.port) ∧ d.cls.queue = f :: t ∧ d.on dCLS = true ∧ b.allOn [dCLS, dCORE, dPM0] = true ∧
          (b.rd 0x400001 = 0 ∨ b.framePoisoned f = true))
    ∧ (∃ (d : Dev) (e : Dev) (b : Dev) (f : RxFrame) (t : List RxFrame) (v : Nat), e = (d.advanceTo d.cls.ready).setCls (fun c =>
      { c with ready := (d.advanceTo d.cls.ready).ck + 64 }) ∧ b = e.setCls (fun c => { c with queue := t }) ∧
        v = b.rd (0x401002 + 256 * f.port) ∧ d.cls.queue = f :: t ∧ d.on dCLS = true ∧ b.allOn [dCLS, dCORE, dPM0] = true ∧
          (b.rd 0x400001 = 0 ∨ b.framePoisoned f = true))
    ∧ (∃ (d0 : Dev) (d : Dev) (s : Nat) (tm : Timing), d = d0.hostStart ∧ d.hostTakes 0x400005 1 tm = true ∧ d.clsState ≤ 1 ∧
      d.freeSlot = some s)
    ∧ (∃ (d0 : Dev) (d : Dev) (s : Nat) (tm : Timing), d = d0.hostStart ∧ d.hostTakes 0x400005 4 tm = true ∧ 2 ≤ d.clsState ∧
      d.freeSlot = some s)
    ∧ (∃ (d0 : Dev) (d : Dev) (tm : Timing), d = d0.hostStart ∧ d.hostTakes 0x400005 2 tm = true ∧ d.clsState = 1)
    ∧ (∃ (d0 : Dev) (d : Dev) (tm : Timing), d = d0.hostStart ∧ d.hostTakes 0x400005 3 tm = true ∧ d.clsState = 1)
    ∧ (∃ (d0 : Dev) (d : Dev) (tm : Timing), d = d0.hostStart ∧ d.hostTakes 0x400005 5 tm = true ∧ d.clsState = 2)
    ∧ (∃ (d : Dev) (e : Dev) (t : Nat), e = d.advanceTo (t + d.rd 0x400007 * 100000) ∧ d.cls.transitAt = some t ∧ d.on dCLS = true ∧
      d.clsState = 2 ∧ e.genOk (1 - e.clsActive) = false ∧ e.clsState = 2)
    ∧ (∃ (d : Dev) (e : Dev) (t : Nat), e = d.advanceTo (t + d.rd 0x400007 * 100000) ∧ d.cls.transitAt = some t ∧ d.on dCLS = true ∧
      d.clsState = 3 ∧ e.genOk (1 - e.clsActive) = false ∧ e.clsState = 3)
    ∧ (∃ (d : Dev) (e : Dev) (t : Nat), e = d.advanceTo (t + d.rd 0x400007 * 100000) ∧ d.cls.transitAt = some t ∧ d.on dCLS = true ∧
      (d.clsState = 2 ∨ d.clsState = 3) ∧ e.genOk (1 - e.clsActive) = true)
    ∧ (∃ (d : Dev) (e : Dev) (t : Nat), e = d.advanceTo (t + d.rd 0x400007 * 100000) ∧ d.cls.transitAt = some t ∧ d.on dCLS = true ∧
      (d.clsState = 2 ∨ d.clsState = 3) ∧ e.genOk (1 - e.clsActive) = true)
    ∧ (∃ (d : Dev) (e : Dev) (cmd : Nat) (ini : Nat) (t : Nat) (n : Nat), e = (d.advanceTo (t + n)).setCls (fun c =>
      { c with commit := none }) ∧ n ≤ 1100 ∧ d.cls.commit = some (cmd, ini, t) ∧ switches e.clsState cmd = true)
    ∧ (∃ (d : Dev) (e : Dev) (cmd : Nat) (ini : Nat) (t : Nat) (n : Nat), e = (d.advanceTo (t + n)).setCls (fun c =>
      { c with commit := none }) ∧ n ≤ 1100 ∧ d.cls.commit = some (cmd, ini, t) ∧ switches e.clsState cmd = true) :=
  ⟨⟨(clsUp 1 3 ([]) [(0x400001, 1), (0x400002, 1)]), _, _, fr0, [], 0, _, (maskEnt 1 3), _, rfl, rfl, rfl, rfl, by decide +kernel⟩,
   ⟨(clsUp 0 3 ([]) [(0x400001, 1), (0x400002, 2)]), _, _, fr0, [], 0, _, (maskEnt 0 3), _, rfl, rfl, rfl, rfl, by decide +kernel⟩,
   ⟨up, 1, by decide +kernel⟩,
   ⟨((with_ [(grpKey 1 1, 1), (grpKey 1 2, 1)])), ((((with_ [(grpKey 1 1, 1), (grpKey 1 2, 1)])).hash (zeros 96)).2), (zeros 96), 1,
     ((((with_ [(grpKey 1 1, 1), (grpKey 1 2, 1)])).hash (zeros 96)).1), by decide +kernel, by decide +kernel, rfl⟩,
   ⟨((with_ [(grpKey 1 1, 1), (grpKey 1 3, 5)])), _, 1, _, _, rfl, rfl, rfl, by decide +kernel⟩,
   ⟨((with_ [(0x400001, 1)]).setCls (fun x => { x with queue := [fr0] })), _, _, fr0, [], _, _, rfl, rfl, rfl, rfl, by decide +kernel⟩,
   ⟨((with_ [(0x400001, 1), (0x401002, 65537)]).setCls (fun x => { x with queue := [fr0] })), _, _, fr0, [], _, _, rfl, rfl, rfl, rfl, by
     decide +kernel⟩,
   ⟨(clsUp 5 3 ([]) [(0x400001, 1), (0x400002, 1)]), _, _, fr0, [], 0, _, (maskEnt 5 3), _, rfl, rfl, rfl, rfl, by decide +kernel⟩,
   ⟨(clsUp 5 3 ([]) [(0x400001, 1), (0x400002, 3), (0x401002, 513)]), _, _, fr0, [], 0, _, (maskEnt 5 3), _, rfl, rfl, rfl, rfl, by
     decide +kernel⟩,
   ⟨(clsUp 6 0 ([1, 1, 2, 0, 4, 0] ++ zeros 10) [(0x400001, 1), (0x400002, 1)]), _, _, (((((clsUp 6 0 ([1, 1, 2, 0, 4, 0] ++ zeros 10)
     [(0x400001, 1), (0x400002, 1)]).advanceTo (clsUp 6 0 ([1, 1, 2, 0, 4, 0] ++ zeros 10) [(0x400001, 1), (0x400002,
       1)]).cls.ready).setCls (fun c =>
         { c with ready := ((clsUp 6 0 ([1, 1, 2, 0, 4, 0] ++ zeros 10) [(0x400001, 1), (0x400002, 1)]).advanceTo (clsUp 6 0 ([1, 1, 2, 0, 4, 0] ++ zeros 10) [(0x400001, 1), (0x400002, 1)]).cls.ready).ck + 64 })).setCls (fun c => { c with queue := ([]) }))), fr0, [], 0, 0, _, (maskEnt 6 0), _, rfl, rfl, rfl, rfl, by decide +kernel⟩,
   ⟨(clsUp 6 0 ([0, 0, 0, 0] ++ zeros 12) [(0x400001, 1), (0x400002, 2)]), _, _, (((((clsUp 6 0 ([0, 0, 0, 0] ++ zeros 12) [(0x400001,
     1), (0x400002, 2)]).advanceTo (clsUp 6 0 ([0, 0, 0, 0] ++ zeros 12) [(0x400001, 1), (0x400002, 2)]).cls.ready).setCls (fun c =>
       { c with ready := ((clsUp 6 0 ([0, 0, 0, 0] ++ zeros 12) [(0x400001, 1), (0x400002, 2)]).advanceTo (clsUp 6 0 ([0, 0, 0, 0] ++ zeros 12) [(0x400001, 1), (0x400002, 2)]).cls.ready).ck + 64 })).setCls (fun c => { c with queue := ([]) }))), fr0, [], 0, 0, _, (maskEnt 6 0), _, rfl, rfl, rfl, rfl, by decide +kernel⟩,
   ⟨(clsUp 1 3 ([]) [(0x400001, 1), (0x400002, 2), (0x400008, 1)]), _, _, fr0, [], 0, (maskEnt 1 3), rfl, rfl, by decide +kernel⟩,
   ⟨(clsUp 6 0 ([]) [(0x400001, 1), (0x400002, 4)]), _, _, fr0, [], 0, (maskEnt 6 0), rfl, rfl, by decide +kernel⟩,
   ⟨((with_ [(0x400001, 0)]).setCls (fun x => { x with queue := [fr0] })), _, _, fr0, [], _, rfl, rfl, rfl, by decide +kernel⟩,
   ⟨(((with_ [(0x400001, 1), (0x401002, 1)]).setBarge 5 (fun b => { b with poison := true })).setCls (fun x =>
     { x with queue := [fr0] })), _, _, fr0, [], _, rfl, rfl, rfl, by decide +kernel⟩,
   ⟨up, _, 0, tmw, rfl, by decide +kernel⟩,
   ⟨((with_ [(0x400002, 2)])), _, 0, tmw, rfl, by decide +kernel⟩,
   ⟨((with_ [(0x400002, 1), (ringKey 47 3, 1)])), _, tmw, rfl, by decide +kernel⟩,
   ⟨((with_ [(0x400002, 1), (ringKey 47 3, 1)])), _, tmw, rfl, by decide +kernel⟩,
   ⟨((with_ [(0x400002, 2)])), _, tmw, rfl, by decide +kernel⟩,
   ⟨((with_ [(0x400002, 2), (0x401002, 3)]).setCls (fun x => { x with transitAt := some 7 })), _, 7, rfl, by decide +kernel⟩,
   ⟨((with_ [(0x400002, 3), (0x401002, 3)]).setCls (fun x => { x with transitAt := some 7 })), _, 7, rfl, by decide +kernel⟩,
   ⟨((with_ [(0x400002, 2)]).setCls (fun x => { x with transitAt := some 7 })), _, 7, rfl, by decide +kernel⟩,
   ⟨((with_ [(0x400002, 3)]).setCls (fun x => { x with transitAt := some 7 })), _, 7, rfl, by decide +kernel⟩,
   ⟨((with_ [(0x400002, 1)]).setCls (fun x => { x with commit := some (1, 0, 7) })), _, 1, 0, 7, 1100, rfl, by decide +kernel⟩,
   ⟨((with_ [(0x400002, 3)]).setCls (fun x => { x with commit := some (4, 0, 7) })), _, 4, 0, 7, 1100, rfl, by decide +kernel⟩⟩

theorem witness_MergeCommandsComplete :
    (∃ (d : Dev) (e : Dev) (e' : Dev) (g : Nat) (slot : Nat) (t : Nat) (n : SeqNum) (ss : List Strike) (x : Oct), e = d.setGrp g (fun y
      => { y with late := y.late.filter (fun z => !d.slotReleased z.1 z.2) }) ∧ g < 4 ∧ strikesOk ss = true ∧ d.on dCLS = true ∧
        (d.grp g).late = [] ∧ (d.grp g).nums = [n] ∧ n.st = .out (some (slot, t)) ∧ (e.grp g).nums = [n] ∧
          e.slotReleased n.ring slot = true ∧ e.ringReach (rxRing n.ring) = true ∧
            e.readMem (e.slotAddr (rxRing n.ring) slot) 32 ss = (x, [], e'))
    ∧ (∃ (d : Dev) (g : Nat) (n : SeqNum) (t : List SeqNum) (desc : Oct), g < 4 ∧ (d.grp g).nums = n :: t ∧ n.st = .released desc ∧
      d.on dCLS = true ∧ d.rd (grpKey g 4) < 16 ∧ d.rxAccepts (rxRing (d.rd (grpKey g 4))) = true ∧
        d.ringReach (rxRing (d.rd (grpKey g 4))) = true)
    ∧ (∃ (d : Dev) (e : Dev) (g : Nat) (slot : Nat) (t : Nat) (n : SeqNum) (l : List SeqNum), e = d.advanceTo (max t (d.grp g).headAt +
      d.rd (grpKey g 5) * 100) ∧ g < 4 ∧ (d.grp g).nums = n :: l ∧ n.st = .out (some (slot, t)) ∧ d.on dCLS = true ∧
        d.slotReleased n.ring slot = false)
    ∧ (∃ (d0 : Dev) (d : Dev) (g : Nat) (tm : Timing), d = d0.hostStart ∧ g < 4 ∧ d.hostTakes (grpKey g 1) 1 tm = true)
    ∧ (∃ (d0 : Dev) (d : Dev) (g : Nat) (tm : Timing), d = d0.hostStart ∧ g < 4 ∧ d.hostTakes (grpKey g 1) 0 tm = true ∧
      d.rd (grpKey g 1) = 1 ∧ (d.grp g).nums ≠ [])
    ∧ (∃ (d : Dev) (g : Nat), g < 4 ∧ d.rd (grpKey g 1) = 2 ∧ (d.grp g).nums = []) :=
  ⟨⟨((((with_ [(ringKey 32 1, 16)])).setGrp 1 (fun x => { x with nums := [⟨5, 0, .out (some (0, 7))⟩] })).writeMem 4096 (zeros 31 ++
    [128])), _, (((((((with_ [(ringKey 32 1, 16)])).setGrp 1 (fun x => { x with nums := [⟨5, 0, .out (some (0, 7))⟩] })).writeMem 4096
      (zeros 31 ++ [128]) : Dev).setGrp (1) (fun y =>
        { y with late := y.late.filter (fun z => !((((with_ [(ringKey 32 1, 16)])).setGrp 1 (fun x => { x with nums := [⟨5, 0, .out (some (0, 7))⟩] })).writeMem 4096 (zeros 31 ++ [128]) : Dev).slotReleased z.1 z.2) }) : Dev).readMem ((((((with_ [(ringKey 32 1, 16)])).setGrp 1 (fun x => { x with nums := [⟨5, 0, .out (some (0, 7))⟩] })).writeMem 4096 (zeros 31 ++ [128]) : Dev).setGrp (1) (fun y => { y with late := y.late.filter (fun z => !((((with_ [(ringKey 32 1, 16)])).setGrp 1 (fun x => { x with nums := [⟨5, 0, .out (some (0, 7))⟩] })).writeMem 4096 (zeros 31 ++ [128]) : Dev).slotReleased z.1 z.2) }) : Dev).slotAddr (rxRing 0) 0) 32 []).2.2), 1, 0, 7, (⟨5, 0, .out (some (0, 7))⟩), [], (zeros 31 ++ [128]), rfl, by decide +kernel⟩,
   ⟨((with_ [(ringKey 32 3, 1), (grpKey 1 4, 0)]).setGrp 1 (fun x => { x with nums := [⟨5, 0, .released (zeros 32)⟩] })), 1, (⟨5, 0,
     .released (zeros 32)⟩), [], (zeros 32), by decide +kernel⟩,
   ⟨((with_ [(ringKey 32 5, 1)]).setGrp 1 (fun x => { x with nums := [⟨5, 0, .out (some (0, 7))⟩] })), _, 1, 0, 7, (⟨5, 0, .out (some (0,
     7))⟩), [], rfl, by decide +kernel⟩,
   ⟨((with_ [(ringKey 32 3, 1), (ringKey 33 3, 1), (grpKey 1 4, 0), (grpKey 1 3, 0xFFFFFF01)])), _, 1, tmw, rfl, by decide +kernel⟩,
   ⟨((with_ [(grpKey 1 1, 1)]).setGrp 1 (fun x => { x with nums := [⟨5, 0, .out (some (0, 7))⟩] })), _, 1, tmw, rfl, by decide +kernel⟩,
   ⟨((with_ [(grpKey 1 1, 2)])), 1, by decide +kernel⟩⟩

theorem witness_CanCommandsComplete :
    (∃ (d0 : Dev) (d : Dev) (c : Nat) (tm : Timing), d = d0.hostStart ∧ c < 2 ∧ d.hostTakes (canKey c 1) 1 tm = true ∧
      d.rd (canKey c 1) = 0)
    ∧ (∃ (d0 : Dev) (d : Dev) (c : Nat) (tm : Timing), d = d0.hostStart ∧ c < 2 ∧ d.hostTakes (canKey c 1) 0 tm = true ∧
      d.rd (canKey c 1) = 1)
    ∧ (∃ (d : Dev) (b : Dev) (e : Dev) (c : Nat) (v : Nat) (t : CanTx) (ss : List Strike) (x : Chain) (data : Oct), b = (d.candOff (48 +
      4 * c)).candOff (49 + 4 * c) ∧ c < 2 ∧ strikesOk ss = true ∧ d.canCanSend c = true ∧ (d.can c).tx = none ∧
        bestCand (b.canCands c) = some (v, t) ∧ ((t.msg.fdf = false ∨ b.rd (canKey c 6) ≠ 0)) ∧ t.fromBridge = false ∧
          b.chainOf t.ring t.start = some x ∧ (b.strike ss).readPlaces (bargePlaces x.barges) = (data, [], e))
    ∧ (∃ (d : Dev) (b : Dev) (c : Nat) (v : Nat) (t : CanTx) (ss : List Strike), b = (d.candOff (48 + 4 * c)).candOff (49 + 4 * c) ∧
      c < 2 ∧ strikesOk ss = true ∧ d.canCanSend c = true ∧ (d.can c).tx = none ∧ bestCand (b.canCands c) = some (v, t) ∧
        ((t.msg.fdf = false ∨ b.rd (canKey c 6) ≠ 0)) ∧ t.fromBridge = true)
    ∧ (∃ (d : Dev) (c : Nat) (t : CanTx), c < 2 ∧ (d.can c).tx = some t ∧ t.fromBridge = true ∧ t.msg.fdf = false)
    ∧ (∃ (d : Dev) (b : Dev) (x : Dev) (y : Dev) (e : Dev) (c : Nat) (f : CanFrame) (m : CanMsg), b = d.canRxGood c ∧
      m = ⟨f.id, f.ide, f.rtr, f.fdf, f.brs, f.esi, f.dlc, f.data, if b.on dTIME then some (b.stampAt f.sofAgo 20) else none⟩ ∧
        x = (b.canCnt c 0).canCnt c 2 f.data.length ∧ y = (if f.fdf then x.canCnt c 1 else x) ∧
          e = (if f.rtr then y.canCnt c 3 else y) ∧ c < 2 ∧ f.ok = true ∧ d.canHears c f.sofAgo = true ∧
            ((f.fdf = false ∨ d.rd (canKey c 6) ≠ 0)) ∧ e.brgRuns = true ∧ e.canWaiting c < 4)
    ∧ (∃ (d : Dev) (b : Dev) (x : Dev) (y : Dev) (e : Dev) (c : Nat) (f : CanFrame) (m : CanMsg), b = d.canRxGood c ∧
      m = ⟨f.id, f.ide, f.rtr, f.fdf, f.brs, f.esi, f.dlc, f.data, if b.on dTIME then some (b.stampAt f.sofAgo 20) else none⟩ ∧
        x = (b.canCnt c 0).canCnt c 2 f.data.length ∧ y = (if f.fdf then x.canCnt c 1 else x) ∧
          e = (if f.rtr then y.canCnt c 3 else y) ∧ c < 2 ∧ f.ok = true ∧ d.canHears c f.sofAgo = true ∧
            ((f.fdf = false ∨ d.rd (canKey c 6) ≠ 0)) ∧ e.brgRuns = true ∧ e.canWaiting c < 4)
    ∧ (∃ (d : Dev) (b : Dev) (x : Dev) (y : Dev) (e : Dev) (c : Nat) (f : CanFrame) (m : CanMsg), b = d.canRxGood c ∧
      m = ⟨f.id, f.ide, f.rtr, f.fdf, f.brs, f.esi, f.dlc, f.data, if b.on dTIME then some (b.stampAt f.sofAgo 20) else none⟩ ∧
        x = (b.canCnt c 0).canCnt c 2 f.data.length ∧ y = (if f.fdf then x.canCnt c 1 else x) ∧
          e = (if f.rtr then y.canCnt c 3 else y) ∧ c < 2 ∧ f.ok = true ∧ d.canHears c f.sofAgo = true ∧
            ((f.fdf = false ∨ d.rd (canKey c 6) ≠ 0)) ∧ e.brgRuns = true ∧ e.canWaiting c < 4)
    ∧ (∃ (d : Dev) (b : Dev) (x : Dev) (y : Dev) (e : Dev) (c : Nat) (f : CanFrame) (m : CanMsg), b = d.canRxGood c ∧
      m = ⟨f.id, f.ide, f.rtr, f.fdf, f.brs, f.esi, f.dlc, f.data, if b.on dTIME then some (b.stampAt f.sofAgo 20) else none⟩ ∧
        x = (b.canCnt c 0).canCnt c 2 f.data.length ∧ y = (if f.fdf then x.canCnt c 1 else x) ∧
          e = (if f.rtr then y.canCnt c 3 else y) ∧ c < 2 ∧ f.ok = true ∧ d.canHears c f.sofAgo = true ∧
            ((f.fdf = false ∨ d.rd (canKey c 6) ≠ 0)) ∧ e.brgRuns = true ∧ e.canWaiting c < 4)
    ∧ (∃ (d : Dev) (b : Dev) (x : Dev) (y : Dev) (e : Dev) (c : Nat) (f : CanFrame) (m : CanMsg), b = d.canRxGood c ∧
      m = ⟨f.id, f.ide, f.rtr, f.fdf, f.brs, f.esi, f.dlc, f.data, if b.on dTIME then some (b.stampAt f.sofAgo 20) else none⟩ ∧
        x = (b.canCnt c 0).canCnt c 2 f.data.length ∧ y = (if f.fdf then x.canCnt c 1 else x) ∧
          e = (if f.rtr then y.canCnt c 3 else y) ∧ c < 2 ∧ f.ok = true ∧ d.canHears c f.sofAgo = true ∧
            ((f.fdf = false ∨ d.rd (canKey c 6) ≠ 0)) ∧ e.brgRuns = true ∧ e.canWaiting c < 4)
    ∧ (∃ (d : Dev) (b : Dev) (x : Dev) (y : Dev) (e : Dev) (c : Nat) (f : CanFrame) (m : CanMsg), b = d.canRxGood c ∧
      m = ⟨f.id, f.ide, f.rtr, f.fdf, f.brs, f.esi, f.dlc, f.data, if b.on dTIME then some (b.stampAt f.sofAgo 20) else none⟩ ∧
        x = (b.canCnt c 0).canCnt c 2 f.data.length ∧ y = (if f.fdf then x.canCnt c 1 else x) ∧
          e = (if f.rtr then y.canCnt c 3 else y) ∧ c < 2 ∧ f.ok = true ∧ d.canHears c f.sofAgo = true ∧
            ((f.fdf = false ∨ d.rd (canKey c 6) ≠ 0)) ∧ e.brgRuns = true ∧ e.canWaiting c < 4)
    ∧ (∃ (d : Dev) (c : Nat), c < 2 ∧ (d.can c).pastLimit = true ∧ d.on dCAN = true ∧ (d.ring (48 + 4 * c)).chains = [] ∧
      (d.ring (49 + 4 * c)).chains = [] ∧ d.brg.outq.getD c [] = [] ∧ d.rd (canKey c 8) ≠ 1)
    ∧ (∃ (d0 : Dev) (d : Dev) (c : Nat) (tm : Timing), d = d0.hostStart ∧ c < 2 ∧ d.hostTakes (canKey c 14) 1 tm = true)
    ∧ (∃ (d : Dev) (c : Nat), c < 2 ∧ d.on dCAN = true ∧ d.canRun c = true ∧ d.canState c = 5)
    ∧ (∃ (d : Dev) (c : Nat), c < 2 ∧ d.on dCAN = true ∧ d.canRun c = true ∧ d.canState c = 1)
    ∧ (∃ (d : Dev) (c : Nat) (k : Nat) (p8 : Bool), c < 2 ∧ canErrOk (.mk k p8) = true ∧ d.on dCAN = true ∧
      (d.canState c = 2 ∨ d.canState c = 3)) :=
  ⟨⟨up, _, 1, tmw, rfl, by decide +kernel⟩,
   ⟨((with_ [(canKey 1 1, 1), (canKey 1 10, 2), (0x540001, 1)]).setCan 1 (fun x =>
     { x with tx := some ⟨true, 0, 0, ⟨5, false, false, false, false, false, 0, [], none⟩, none⟩ })), _, 1, tmw, rfl, by decide +kernel⟩,
   ⟨((with_ [(canKey 1 1, 1), (canKey 1 10, 2), (0x540001, 1)]).setRing 52 (fun x =>
     { x with chains := [(⟨0, [zeros 32], [], none, 1, none, 0, false⟩ : Chain)] })), _, ((((((with_ [(canKey 1 1, 1), (canKey 1 10, 2),
       (0x540001, 1)]).setRing 52 (fun x => { x with chains := [(⟨0, [zeros 32], [], none, 1, none, 0, false⟩ : Chain)] }) : Dev).candOff
         (48 + 4 * (1))).candOff (49 + 4 * (1)) : Dev).readPlaces (bargePlaces [])).2.2), 1, (((((((with_ [(canKey 1 1, 1), (canKey 1 10,
           2), (0x540001, 1)]).setRing 52 (fun x => { x with chains := [(⟨0, [zeros 32], [], none, 1, none, 0, false⟩ : Chain)] }) :
             Dev).candOff (48 + 4 * 1)).candOff (49 + 4 * 1)).canCands 1).getD 0 (0, ⟨true, 0, 0, ⟨5, false, false, false, false, false,
               0, [], none⟩, none⟩)).1), (((((((with_ [(canKey 1 1, 1), (canKey 1 10, 2), (0x540001, 1)]).setRing 52 (fun x =>
                 { x with chains := [(⟨0, [zeros 32], [], none, 1, none, 0, false⟩ : Chain)] }) : Dev).candOff (48 + 4 * 1)).candOff (49
                   + 4 * 1)).canCands 1).getD 0 (0, ⟨true, 0, 0, ⟨5, false, false, false, false, false, 0, [], none⟩, none⟩)).2), [],
                     ((⟨0, [zeros 32], [], none, 1, none, 0, false⟩ : Chain)), [], rfl, by decide +kernel⟩,
   ⟨((with_ [(canKey 1 1, 1), (canKey 1 10, 2), (0x540001, 1)]).setBrg (fun x =>
     { x with outq := [[], [⟨⟨5, false, false, false, false, false, 0, [], none⟩, 0, []⟩]] })), _, 1, (((((((with_ [(canKey 1 1, 1),
       (canKey 1 10, 2), (0x540001, 1)]).setBrg (fun x =>
         { x with outq := [[], [⟨⟨5, false, false, false, false, false, 0, [], none⟩, 0, []⟩]] }) : Dev).candOff (48 + 4 * 1)).candOff
           (49 + 4 * 1)).canCands 1).getD 0 (0, ⟨true, 0, 0, ⟨5, false, false, false, false, false, 0, [], none⟩, none⟩)).1),
             (((((((with_ [(canKey 1 1, 1), (canKey 1 10, 2), (0x540001, 1)]).setBrg (fun x =>
               { x with outq := [[], [⟨⟨5, false, false, false, false, false, 0, [], none⟩, 0, []⟩]] }) : Dev).candOff (48 + 4 *
                 1)).candOff (49 + 4 * 1)).canCands 1).getD 0 (0, ⟨true, 0, 0, ⟨5, false, false, false, false, false, 0, [], none⟩,
                   none⟩)).2), [], rfl, by decide +kernel⟩,
   ⟨(up.setCan 1 (fun x => { x with tx := some ⟨true, 0, 0, ⟨5, false, false, false, false, false, 0, [], none⟩, none⟩ })), 1, (⟨true, 0,
     0, ⟨5, false, false, false, false, false, 0, [], none⟩, none⟩), by decide +kernel⟩,
   ⟨((with_ [(canKey 1 1, 1), (canKey 1 10, 2), (0x540001, 1)]).wr (canKey 1 6) 1), _, _, _, _, 1, (⟨5, false, false, false, false,
     false, 2, [1, 2], 9⟩), _, rfl, rfl, rfl, rfl, rfl, by decide +kernel⟩,
   ⟨((with_ [(canKey 1 1, 1), (canKey 1 10, 2), (0x540001, 1)]).wr (canKey 1 6) 1), _, _, _, _, 1, (⟨5, false, true, false, false, false,
     2, [], 9⟩), _, rfl, rfl, rfl, rfl, rfl, by decide +kernel⟩,
   ⟨((with_ [(canKey 1 1, 1), (canKey 1 10, 2), (0x540001, 1)]).wr (canKey 1 6) 1), _, _, _, _, 1, (⟨5, false, false, true, false, false,
     2, [1, 2], 9⟩), _, rfl, rfl, rfl, rfl, rfl, by decide +kernel⟩,
   ⟨((with_ [(canKey 1 1, 1), (canKey 1 10, 3), (0x540001, 1)]).wr (canKey 1 6) 1), _, _, _, _, 1, (⟨5, false, false, false, false,
     false, 2, [1, 2], 9⟩), _, rfl, rfl, rfl, rfl, rfl, by decide +kernel⟩,
   ⟨((with_ [(canKey 1 1, 1), (canKey 1 10, 3), (0x540001, 1)]).wr (canKey 1 6) 1), _, _, _, _, 1, (⟨5, false, true, false, false, false,
     2, [], 9⟩), _, rfl, rfl, rfl, rfl, rfl, by decide +kernel⟩,
   ⟨((with_ [(canKey 1 1, 1), (canKey 1 10, 3), (0x540001, 1)]).wr (canKey 1 6) 1), _, _, _, _, 1, (⟨5, false, false, true, false, false,
     2, [1, 2], 9⟩), _, rfl, rfl, rfl, rfl, rfl, by decide +kernel⟩,
   ⟨((with_ [(canKey 1 8, 0)]).setCan 1 (fun x => { x with pastLimit := true })), 1, by decide +kernel⟩,
   ⟨((with_ [(canKey 1 1, 1), (canKey 1 10, 4), (0x540001, 1)])), _, 1, tmw, rfl, by decide +kernel⟩,
   ⟨((with_ [(canKey 1 1, 1), (canKey 1 10, 5), (0x540001, 1)])), 1, by decide +kernel⟩,
   ⟨((with_ [(canKey 1 1, 1), (canKey 1 10, 1), (0x540001, 1)])), 1, by decide +kernel⟩,
   ⟨((with_ [(canKey 1 1, 1), (canKey 1 10, 3), (0x540001, 1)])), 1, 6, true, by decide +kernel⟩⟩

theorem witness_BridgeCommandsComplete :
    (∃ (d : Dev) (e : Dev) (c : Nat) (at_ : Nat) (m : CanMsg) (t : List (Nat × BrgIn)), e = ((d.advanceTo d.brg.ready).setBrg (fun b =>
      { b with inq := t })).brgSpend 8 ∧ d.brgRuns = true ∧ d.brg.inq = (at_, .can c m) :: t)
    ∧ (∃ (d0 : Dev) (d : Dev) (tm : Timing), d = d0.hostStart ∧ d.hostTakes 0x540001 1 tm = true ∧ d.rd 0x540001 = 0)
    ∧ (∃ (d0 : Dev) (d : Dev) (tm : Timing), d = d0.hostStart ∧ d.hostTakes 0x540001 0 tm = true ∧ d.rd 0x540001 = 1)
    ∧ (∃ (d : Dev) (e : Dev) (o : Nat) (per : Nat), e = d.advanceTo ((d.om o).period + per * 100000) ∧ o < 64 ∧ d.brgRuns = true ∧
      leAt (d.outMsgs.getD o []) 8 2 = per ∧ per ≠ 0)
    ∧ (∃ (d : Dev) (e : Dev) (o : Nat) (t : Nat), e = d.advanceTo (t + leAt (d.outMsgs.getD o []) 10 2 * 100000) ∧ o < 64 ∧
      d.brgRuns = true ∧ (d.om o).deferred = true ∧ (d.om o).last = some t)
    ∧ (∃ (d : Dev) (e : Dev) (k : Nat) (s : SigC), e = d.advanceTo (s.since + 10 * octAt (d.signals.getD k []) 13 * 100000) ∧ k < 512 ∧
      d.sigC k = some s ∧ octAt (d.signals.getD k []) 13 ≠ 0 ∧ s.stale = false ∧ d.on dBRG = true)
    ∧ (∃ (d0 : Dev) (d : Dev) (k : Nat) (s : Nat) (tm : Timing) (e : Dev), d = d0.hostStart ∧
      e = d.retry s 0x11 0xFF (cacheIdx k) (cacheSub k) none ∧ k < 512 ∧ d.linkTakes tm = true ∧ d.freeSlot = some s ∧
        d.readAbort 0 (cacheIdx k) (cacheSub k) 0 0 = none ∧ (leAt (e.signals.getD k []) 14 2).testBit 15 = false)
    ∧ (∃ (d : Dev) (e : Dev) (k : Nat) (f : Fetch), e = d.advanceTo (f.since + d.rd 0x540006 * 100000) ∧ k < 512 ∧
      d.brg.fetches.find? (fun f => f.sig == k) = some f) :=
  ⟨⟨((with_ [(0x540001, 1)]).setBrg (fun x => { x with inq := [(7, .can 1 ⟨5, false, false, false, false, false, 0, [], none⟩)] })), _,
    1, 7, (⟨5, false, false, false, false, false, 0, [], none⟩), [], rfl, by decide +kernel⟩,
   ⟨((with_ [(0x252007, 2)])), _, tmw, rfl, by decide +kernel⟩,
   ⟨((with_ [(0x540001, 1)])), _, tmw, rfl, by decide +kernel⟩,
   ⟨(((up.setImg 11 (fun _ => imgEff (leOct 2 1 ++ leOct 2 1 ++ zeros 20 ++ [5, 0, 5, 0] ++ zeros 4 ++ zeros 13 ++ [5, 0, 0]))).wr
     0x540001 1)), _, 0, 5, rfl, by decide +kernel⟩,
   ⟨(((up.setImg 11 (fun _ => imgEff (leOct 2 1 ++ leOct 2 1 ++ zeros 20 ++ [5, 0, 5, 0] ++ zeros 4 ++ zeros 13 ++ [5, 0, 0]))).wr
     0x540001 1).setBrg (fun x => { x with oms := [⟨[], some 7, true, 0⟩] })), _, 0, 7, rfl, by decide +kernel⟩,
   ⟨(((up.setImg 11 (fun _ => imgEff (leOct 2 1 ++ leOct 2 1 ++ zeros 20 ++ [5, 0, 5, 0] ++ zeros 4 ++ zeros 13 ++ [5, 0, 0]))).wr
     0x540001 1).setBrg (fun x => { x with sigs := [⟨0, 5, 5, false, false, 7⟩] })), _, 0, (⟨0, 5, 5, false, false, 7⟩), rfl, by
       decide +kernel⟩,
   ⟨(((up.setImg 11 (fun _ => imgEff (leOct 2 1 ++ leOct 2 1 ++ zeros 20 ++ [5, 0, 5, 0] ++ zeros 4 ++ zeros 13 ++ [5, 0, 0]))).wr
     0x540001 1)), _, 0, 0, tmw, _, rfl, rfl, by decide +kernel⟩,
   ⟨(up.setBrg (fun x => { x with fetches := [⟨0, 7, [], true⟩] })), _, 0, (⟨0, 7, [], true⟩), rfl, by decide +kernel⟩⟩

theorem witness_SessionCommandsComplete :
    (∃ (d0 : Dev) (d : Dev) (tm : Timing), d = d0.hostStart ∧ d.hostTakes 0x600001 1 tm = true ∧ d.rd 0x600001 = 0 ∧
      d.claimBlock d.scratchClaims = none)
    ∧ (∃ (d0 : Dev) (d : Dev) (tm : Timing), d = d0.hostStart ∧ d.hostTakes 0x600001 0 tm = true ∧ d.rd 0x600001 = 1)
    ∧ (∃ (d0 : Dev) (d : Dev) (n : Nat) (tm : Timing), d = d0.hostStart ∧ n < 16 ∧ d.hostTakes (peerKey n 1) 1 tm = true ∧
      d.rd (peerKey n 1) = 0 ∧ d.rd 0x600001 = 1)
    ∧ (∃ (d0 : Dev) (d : Dev) (n : Nat) (tm : Timing), d = d0.hostStart ∧ n < 16 ∧ d.hostTakes (peerKey n 1) 0 tm = true ∧
      d.rd (peerKey n 1) = 1)
    ∧ (∃ (d : Dev) (e : Dev) (n : Nat), e = d.advanceTo ((d.sess n).helloAt + d.rd 0x60000B * 100000) ∧ n < 16 ∧ d.towOn = true ∧
      d.peerState n = 1)
    ∧ (∃ (d : Dev) (p : Nat) (n : Nat) (l : Oct) (t : List (Nat × Oct)), d.tow.inbox = (p, l) :: t ∧ d.towOn = true ∧ d.towKind l = 3 ∧
      d.peerOfNode (octAt l (towAt l + 2)) = some n ∧ d.peerState n = 1 ∧ leAt l (towAt l + 8) 2 = d.ownEpoch n)
    ∧ (∃ (d : Dev) (c : Dev) (e : Dev) (d' : Dev) (p : Nat) (n : Nat) (l : Oct) (b : Oct) (t : List (Nat × Oct)) (bs : List Nat), c =
      (d.setTow (fun x => { x with inbox := t })).heard n ∧ e = c.ackTaken n (leAt l (towAt l + 12) 2) ∧
        b = sub l (towAt l + 16) (leAt l (towAt l + 14) 2) ∧ d.tow.inbox = (p, l) :: t ∧ d.towOn = true ∧ d.towKind l = 1 ∧
          d.peerOfNode (octAt l (towAt l + 2)) = some n ∧ c.peerState n = 2 ∧ c.epochsOk n l = true ∧
            sub16 (leAt l (towAt l + 10) 2) (e.nextExp n) = 0 ∧ e.on dPM0 = true ∧ (e.lane p).ops.length < 8 ∧
              e.towAlloc n (b.drop 16).length = (some bs, d'))
    ∧ (∃ (d : Dev) (p : Nat) (n : Nat) (l : Oct) (t : List (Nat × Oct)) (e : Dev), e = (d.setTow (fun x => { x with inbox := t })).heard
      n ∧ d.tow.inbox = (p, l) :: t ∧ d.towOn = true ∧ d.towKind l = 2 ∧ d.peerOfNode (octAt l (towAt l + 2)) = some n ∧
        e.peerState n = 2 ∧ e.epochsOk n l = true)
    ∧ (∃ (d : Dev) (e : Dev) (n : Nat) (t : Nat), e = d.advanceTo (t + d.rd 0x60000C * 100) ∧ n < 16 ∧ (d.sess n).ackDue = some t ∧
      d.towOn = true ∧ d.peerState n = 2)
    ∧ (∃ (d : Dev) (b : Dev) (n : Nat) (r : Nat) (f : TowFrame) (fs : List TowFrame), b = (d.advanceTo (f.sentAt + d.rd 0x600008 *
      100)).towStat 1 ∧ r = (b.sess n).run + 1 ∧ n < 16 ∧ (d.sess n).unacked = f :: fs ∧ d.towOn = true ∧ d.peerState n = 2)
    ∧ (∃ (d : Dev) (e : Dev) (n : Nat), e = d.advanceTo ((d.sess n).lastRx + d.rd 0x60000A * 100000) ∧ n < 16 ∧ d.towOn = true ∧
      d.peerState n = 2)
    ∧ (∃ (d : Dev) (e : Dev) (n : Nat), e = d.advanceTo ((d.sess n).lastTx + d.rd 0x60000A * 100000 / 4) ∧ n < 16 ∧ d.towOn = true ∧
      d.peerState n = 2) :=
  ⟨⟨((with_ [(0x252007, 2)])), _, tmw, rfl, by decide +kernel⟩,
   ⟨((with_ [(0x600001, 1)])), _, tmw, rfl, by decide +kernel⟩,
   ⟨((peerUp [(0x600001, 1), (0x600004, 1), (peerKey 2 1, 0), (peerKey 2 6, 0)])), _, 2, tmw, rfl, by decide +kernel⟩,
   ⟨((peerUp [])), _, 2, tmw, rfl, by decide +kernel⟩,
   ⟨((peerUp [(peerKey 2 6, 1)])), _, 2, rfl, by decide +kernel⟩,
   ⟨((peerUp [(peerKey 2 6, 1)]).setTow (fun x => { x with inbox := [(0, towF 3 1 6 5 0 0 [])] })), 0, 2, (towF 3 1 6 5 0 0 []), [], by
     decide +kernel⟩,
   ⟨(((peerUp [(0x252002, 64), (0x252007, 2)]).setPm (fun x => { x with frees := [(0, 0, [2, 1])] })).setTow (fun x =>
     { x with inbox := [(0, towF 1 1 6 5 0 0 (wop 3 8 0 ++ zeros 9))] })), _, _, ((((((((peerUp [(0x252002, 64), (0x252007, 2)]).setPm
       (fun x => { x with frees := [(0, 0, [2, 1])] })).setTow (fun x =>
         { x with inbox := [(0, towF 1 1 6 5 0 0 (wop 3 8 0 ++ zeros 9))] })).setTow (fun x => { x with inbox := ([]) })).heard
           (2)).ackTaken (2) (leAt (towF 1 1 6 5 0 0 (wop 3 8 0 ++ zeros 9)) (towAt (towF 1 1 6 5 0 0 (wop 3 8 0 ++ zeros 9)) + 12)
             2)).towAlloc 2 9).2), 0, 2, (towF 1 1 6 5 0 0 (wop 3 8 0 ++ zeros 9)), _, [], [2], rfl, rfl, rfl, by decide +kernel⟩,
   ⟨((peerUp []).setTow (fun x => { x with inbox := [(0, towF 2 1 6 5 0 0 [])] })), 0, 2, (towF 2 1 6 5 0 0 []), [], _, rfl, by
     decide +kernel⟩,
   ⟨((peerUp []).setSess 2 (fun x => { x with ackDue := some 7 })), _, 2, 7, rfl, by decide +kernel⟩,
   ⟨((peerUp []).setSess 2 (fun x => { x with unacked := [⟨0, [], [], 7⟩] })), _, 2, _, (⟨0, [], [], 7⟩), [], rfl, rfl, by
     decide +kernel⟩,
   ⟨((peerUp [])), _, 2, rfl, by decide +kernel⟩,
   ⟨((peerUp [])), _, 2, rfl, by decide +kernel⟩⟩

theorem witness_LaneCommandsComplete :
    (∃ (d : Dev) (e : Dev) (b : Dev) (i : Nat) (x : LaneOp) (t : List LaneOp) (ss : List Strike) (v : Oct), e = d.awaitLocks (d.opBarges
      x) ∧ i < 5 ∧ strikesOk ss = true ∧ d.on dTOW = true ∧ d.towMac = true ∧ (d.lane i).ops = x :: t ∧ e.opCheck x = none ∧
        e.opPoison x = false ∧ (e.winHand x (opOwner x)).readMem (e.opAddr x) (opLen x.op) ss = (v, [], b))
    ∧ (∃ (d : Dev) (e : Dev) (b : Dev) (i : Nat) (x : LaneOp) (t : List LaneOp) (ss : List Strike) (v : Oct), e = d.awaitLocks
      (d.opBarges x) ∧ i < 5 ∧ strikesOk ss = true ∧ d.on dTOW = true ∧ d.towMac = true ∧ (d.lane i).ops = x :: t ∧
        e.opCheck x = none ∧ e.opPoison x = false ∧ (e.winHand x (opOwner x)).readMem (e.opAddr x) (opLen x.op) ss = (v, [], b))
    ∧ (∃ (d : Dev) (e : Dev) (f : Dev) (b : Dev) (i : Nat) (x : LaneOp) (t : List LaneOp) (ss : List Strike) (v : Oct), e = d.awaitLocks
      (d.opBarges x) ∧ i < 5 ∧ strikesOk ss = true ∧ d.on dTOW = true ∧ d.towMac = true ∧ (d.lane i).ops = x :: t ∧
        e.opCheck x = none ∧ (e.strike ss).laneData x = (v, false, f) ∧
          (f.winHand x (opOwner x)).eccScan (partWords (e.opAddr x) (opLen x.op)) [] = ([], b) ∧ opCode x.op = 3)
    ∧ (∃ (d : Dev) (e : Dev) (i : Nat) (x : LaneOp) (t : List LaneOp) (ss : List Strike), e = d.awaitLocks (d.opBarges x) ∧ i < 5 ∧
      strikesOk ss = true ∧ d.on dTOW = true ∧ d.towMac = true ∧ (d.lane i).ops = x :: t ∧ e.opCheck x = none ∧ opCode x.op = 4)
    ∧ (∃ (d : Dev) (e : Dev) (i : Nat) (x : LaneOp) (t : List LaneOp) (ss : List Strike), e = d.awaitLocks (d.opBarges x) ∧ i < 5 ∧
      strikesOk ss = true ∧ d.on dTOW = true ∧ d.towMac = true ∧ (d.lane i).ops = x :: t ∧ e.opCheck x = none ∧ opCode x.op = 4)
    ∧ (∃ (d : Dev) (e : Dev) (f : Dev) (b : Dev) (i : Nat) (x : LaneOp) (t : List LaneOp) (ss : List Strike) (v : Oct) (o : Oct), e =
      d.awaitLocks (d.opBarges x) ∧ i < 5 ∧ strikesOk ss = true ∧ d.on dTOW = true ∧ d.towMac = true ∧ (d.lane i).ops = x :: t ∧
        e.opCheck x = none ∧ e.opPoison x = false ∧ x.old = none ∧ (e.strike ss).laneData x = (v, false, f) ∧
          (f.winHand x (opOwner x)).readMem (e.opAddr x) 8 [] = (o, [], b) ∧ opScope x.op = 2)
    ∧ (∃ (d : Dev) (e : Dev) (f : Dev) (b : Dev) (i : Nat) (x : LaneOp) (t : List LaneOp) (ss : List Strike) (v : Oct) (o : Oct), e =
      d.awaitLocks (d.opBarges x) ∧ i < 5 ∧ strikesOk ss = true ∧ d.on dTOW = true ∧ d.towMac = true ∧ (d.lane i).ops = x :: t ∧
        e.opCheck x = none ∧ e.opPoison x = false ∧ x.old = none ∧ (e.strike ss).laneData x = (v, false, f) ∧
          (f.winHand x (opOwner x)).readMem (e.opAddr x) 8 [] = (o, [], b) ∧ opScope x.op = 2)
    ∧ (∃ (d : Dev) (e : Dev) (f : Dev) (b : Dev) (i : Nat) (x : LaneOp) (t : List LaneOp) (ss : List Strike) (v : Oct) (o : Oct), e =
      d.awaitLocks (d.opBarges x) ∧ i < 5 ∧ strikesOk ss = true ∧ d.on dTOW = true ∧ d.towMac = true ∧ (d.lane i).ops = x :: t ∧
        e.opCheck x = none ∧ e.opPoison x = false ∧ x.old = none ∧ (e.strike ss).laneData x = (v, false, f) ∧
          (f.winHand x (opOwner x)).readMem (e.opAddr x) 8 [] = (o, [], b) ∧ opScope x.op = 2)
    ∧ (∃ (d : Dev) (e : Dev) (f : Dev) (b : Dev) (i : Nat) (x : LaneOp) (t : List LaneOp) (ss : List Strike) (v : Oct) (o : Oct), e =
      d.awaitLocks (d.opBarges x) ∧ i < 5 ∧ strikesOk ss = true ∧ d.on dTOW = true ∧ d.towMac = true ∧ (d.lane i).ops = x :: t ∧
        e.opCheck x = none ∧ e.opPoison x = false ∧ x.old = none ∧ (e.strike ss).laneData x = (v, false, f) ∧
          (f.winHand x (opOwner x)).readMem (e.opAddr x) 8 [] = (o, [], b) ∧ opScope x.op = 2)
    ∧ (∃ (d : Dev) (e : Dev) (f : Dev) (b : Dev) (i : Nat) (x : LaneOp) (t : List LaneOp) (ss : List Strike) (v : Oct) (o : Oct), e =
      d.awaitLocks (d.opBarges x) ∧ i < 5 ∧ strikesOk ss = true ∧ d.on dTOW = true ∧ d.towMac = true ∧ (d.lane i).ops = x :: t ∧
        e.opCheck x = none ∧ e.opPoison x = false ∧ x.old = none ∧ (e.strike ss).laneData x = (v, false, f) ∧
          (f.winHand x (opOwner x)).readMem (e.opAddr x) 8 [] = (o, [], b) ∧ opScope x.op ≠ 2)
    ∧ (∃ (d : Dev) (e : Dev) (f : Dev) (b : Dev) (i : Nat) (x : LaneOp) (t : List LaneOp) (ss : List Strike) (v : Oct) (o : Oct), e =
      d.awaitLocks (d.opBarges x) ∧ i < 5 ∧ strikesOk ss = true ∧ d.on dTOW = true ∧ d.towMac = true ∧ (d.lane i).ops = x :: t ∧
        e.opCheck x = none ∧ e.opPoison x = false ∧ x.old = none ∧ (e.strike ss).laneData x = (v, false, f) ∧
          (f.winHand x (opOwner x)).readMem (e.opAddr x) 8 [] = (o, [], b) ∧ opScope x.op ≠ 2)
    ∧ (∃ (d : Dev) (e : Dev) (f : Dev) (b : Dev) (i : Nat) (x : LaneOp) (t : List LaneOp) (ss : List Strike) (v : Oct) (o : Oct), e =
      d.awaitLocks (d.opBarges x) ∧ i < 5 ∧ strikesOk ss = true ∧ d.on dTOW = true ∧ d.towMac = true ∧ (d.lane i).ops = x :: t ∧
        e.opCheck x = none ∧ e.opPoison x = false ∧ x.old = none ∧ (e.strike ss).laneData x = (v, false, f) ∧
          (f.winHand x (opOwner x)).readMem (e.opAddr x) 8 [] = (o, [], b) ∧ opScope x.op ≠ 2)
    ∧ (∃ (d : Dev) (e : Dev) (f : Dev) (b : Dev) (i : Nat) (o : Nat) (x : LaneOp) (t : List LaneOp) (ss : List Strike) (v : Oct) (w :
      Oct), e = d.awaitLocks (d.opBarges x) ∧ i < 5 ∧ strikesOk ss = true ∧ d.on dTOW = true ∧ d.towMac = true ∧
        (d.lane i).ops = x :: t ∧ x.old = some o ∧ e.opBanks (e.opAddr x) 8 = none ∧ (e.strike ss).laneData x = (v, false, f) ∧
          f.readMem (e.opAddr x) 8 [] = (w, [], b) ∧ leNat w = o)
    ∧ (∃ (d : Dev) (e : Dev) (f : Dev) (b : Dev) (i : Nat) (o : Nat) (x : LaneOp) (t : List LaneOp) (ss : List Strike) (v : Oct) (w :
      Oct), e = d.awaitLocks (d.opBarges x) ∧ i < 5 ∧ strikesOk ss = true ∧ d.on dTOW = true ∧ d.towMac = true ∧
        (d.lane i).ops = x :: t ∧ x.old = some o ∧ e.opBanks (e.opAddr x) 8 = none ∧ (e.strike ss).laneData x = (v, false, f) ∧
          f.readMem (e.opAddr x) 8 [] = (w, [], b) ∧ leNat w = o)
    ∧ (∃ (d : Dev) (e : Dev) (f : Dev) (b : Dev) (i : Nat) (o : Nat) (x : LaneOp) (t : List LaneOp) (ss : List Strike) (v : Oct) (w :
      Oct), e = d.awaitLocks (d.opBarges x) ∧ i < 5 ∧ strikesOk ss = true ∧ d.on dTOW = true ∧ d.towMac = true ∧
        (d.lane i).ops = x :: t ∧ x.old = some o ∧ e.opBanks (e.opAddr x) 8 = none ∧ (e.strike ss).laneData x = (v, false, f) ∧
          f.readMem (e.opAddr x) 8 [] = (w, [], b) ∧ leNat w = o)
    ∧ (∃ (d : Dev) (e : Dev) (f : Dev) (b : Dev) (i : Nat) (o : Nat) (x : LaneOp) (t : List LaneOp) (ss : List Strike) (v : Oct) (w :
      Oct) (r : Dev), e = d.awaitLocks (d.opBarges x) ∧ r = ((((b.free.2.free.2.writeMem (e.opAddr x) (leOct 8 (b.free.1 % 2 ^
        64))).winHand x .host).respond x 0 (leOct 8 (b.free.2.free.1 % 2 ^ 64)) false).laneDone i).settle ∧ i < 5 ∧
          strikesOk ss = true ∧ d.on dTOW = true ∧ d.towMac = true ∧ (d.lane i).ops = x :: t ∧ x.old = some o ∧
            e.opBanks (e.opAddr x) 8 = none ∧ (e.strike ss).laneData x = (v, false, f) ∧ f.readMem (e.opAddr x) 8 [] = (w, [], b) ∧
              leNat w ≠ o)
    ∧ (∃ (d : Dev) (e : Dev) (f : Dev) (b : Dev) (i : Nat) (o : Nat) (x : LaneOp) (t : List LaneOp) (ss : List Strike) (v : Oct) (w :
      Oct) (r : Dev), e = d.awaitLocks (d.opBarges x) ∧ r = ((((b.free.2.free.2.writeMem (e.opAddr x) (leOct 8 (b.free.1 % 2 ^
        64))).winHand x .host).respond x 0 (leOct 8 (b.free.2.free.1 % 2 ^ 64)) false).laneDone i).settle ∧ i < 5 ∧
          strikesOk ss = true ∧ d.on dTOW = true ∧ d.towMac = true ∧ (d.lane i).ops = x :: t ∧ x.old = some o ∧
            e.opBanks (e.opAddr x) 8 = none ∧ (e.strike ss).laneData x = (v, false, f) ∧ f.readMem (e.opAddr x) 8 [] = (w, [], b) ∧
              leNat w ≠ o)
    ∧ (∃ (d : Dev) (e : Dev) (f : Dev) (b : Dev) (i : Nat) (o : Nat) (x : LaneOp) (t : List LaneOp) (ss : List Strike) (v : Oct) (w :
      Oct) (r : Dev), e = d.awaitLocks (d.opBarges x) ∧ r = ((((b.free.2.free.2.writeMem (e.opAddr x) (leOct 8 (b.free.1 % 2 ^
        64))).winHand x .host).respond x 0 (leOct 8 (b.free.2.free.1 % 2 ^ 64)) false).laneDone i).settle ∧ i < 5 ∧
          strikesOk ss = true ∧ d.on dTOW = true ∧ d.towMac = true ∧ (d.lane i).ops = x :: t ∧ x.old = some o ∧
            e.opBanks (e.opAddr x) 8 = none ∧ (e.strike ss).laneData x = (v, false, f) ∧ f.readMem (e.opAddr x) 8 [] = (w, [], b) ∧
              leNat w ≠ o)
    ∧ (∃ (d : Dev) (e : Dev) (i : Nat) (x : LaneOp) (t : List LaneOp), e = (d.deliverRx (rxRing (d.rd 0x600012)) (rxDesc i x.data.length
      0 0 0 0 (tagCount x.data) false none x.barges) x.barges x.data.length).2.awaitLocks x.barges ∧ i < 5 ∧ d.towMac = true ∧
        (d.lane i).ops = x :: t ∧ opCode x.op = 8 ∧ x.lost = false ∧ d.allOn [dTOW, dCORE, dPM0] = true)
    ∧ (∃ (d : Dev) (e : Dev) (e' : Dev) (i : Nat) (x : LaneOp) (t : List LaneOp) (body : Oct), e = d.nextCk ∧ i < 5 ∧
      d.on dTOW = true ∧ d.towMac = true ∧ (d.lane i).ops = x :: t ∧ e.domAbort dCORE = none ∧ e.link.ready = true ∧
        e.tow.dicts.any (fun y => y.peer == x.peer) = false ∧ opCode x.op = 9 ∧ e.dictRight x.peer (leAt x.op 10 2) false = true ∧
          e.dictRead (peerIni x.peer) (leAt x.op 10 2) (octAt x.op 12) (opOffset x.op) (opLen x.op) = .ok body e')
    ∧ (∃ (d : Dev) (e : Dev) (e' : Dev) (f : Dev) (i : Nat) (x : LaneOp) (t : List LaneOp) (body : Oct) (v : Oct), e = d.nextCk ∧
      i < 5 ∧ d.on dTOW = true ∧ d.towMac = true ∧ (d.lane i).ops = x :: t ∧ e.domAbort dCORE = none ∧ e.link.ready = true ∧
        e.tow.dicts.any (fun y => y.peer == x.peer) = false ∧ opCode x.op = 10 ∧ e.laneData x = (v, false, f) ∧
          e.dictRight x.peer (leAt x.op 10 2) true = true ∧ f.dictWrite (peerIni x.peer) (leAt x.op 10 2) (octAt x.op 12) (octAt x.op 13)
            (opOffset x.op) (v.take (opLen x.op)) = .ok body e')
    ∧ (∃ (d : Dev) (e : Dev) (f : Dev) (i : Nat) (x : LaneOp) (t : List LaneOp) (y : OpSlot) (v : Oct), e = f.laneDone i ∧ i < 5 ∧
      d.on dTOW = true ∧ d.towMac = true ∧ (d.lane i).ops = x :: t ∧ opCode x.op = 0x83 ∧ x.peer < 16 ∧ opTag x.op < 16 ∧
        opCode y.op = 3 ∧ d.laneData x = (v, false, f) ∧ e.opSlot (opTag x.op) = some y ∧ e.osState (opTag x.op) = 1 ∧
          e.rd (opSlotKey (opTag x.op)) / 65536 % 256 = x.peer) :=
  ⟨⟨((laneUp (lop 1 8 0))), _, ((((((laneUp (lop 1 8 0))).awaitLocks (((laneUp (lop 1 8 0))).opBarges (lop 1 8 0))).winHand (lop 1 8 0)
    (opOwner (lop 1 8 0))).readMem ((((laneUp (lop 1 8 0))).awaitLocks (((laneUp (lop 1 8 0))).opBarges (lop 1 8 0))).opAddr (lop 1 8 0))
      (opLen (lop 1 8 0).op) []).2.2), 1, (lop 1 8 0), [], [], ([1, 2, 3, 4, 5, 6, 7, 8]), rfl, by decide +kernel⟩,
   ⟨((laneUp (lop 2 8 0))), _, ((((((laneUp (lop 2 8 0))).awaitLocks (((laneUp (lop 2 8 0))).opBarges (lop 2 8 0))).winHand (lop 2 8 0)
     (opOwner (lop 2 8 0))).readMem ((((laneUp (lop 2 8 0))).awaitLocks (((laneUp (lop 2 8 0))).opBarges (lop 2 8 0))).opAddr (lop 2 8
       0)) (opLen (lop 2 8 0).op) []).2.2), 1, (lop 2 8 0), [], [], ([1, 2, 3, 4, 5, 6, 7, 8]), rfl, by decide +kernel⟩,
   ⟨((laneUp (lop 3 8 0))), _, ((((((laneUp (lop 3 8 0))).awaitLocks (((laneUp (lop 3 8 0))).opBarges (lop 3 8 0))).strike []).laneData
     (lop 3 8 0)).2.2), (((((((((laneUp (lop 3 8 0))).awaitLocks (((laneUp (lop 3 8 0))).opBarges (lop 3 8 0))).strike []).laneData (lop
       3 8 0)).2.2).winHand (lop 3 8 0) (opOwner (lop 3 8 0))).eccScan (partWords ((((laneUp (lop 3 8 0))).awaitLocks (((laneUp (lop 3 8
         0))).opBarges (lop 3 8 0))).opAddr (lop 3 8 0)) (opLen (lop 3 8 0).op)) []).2), 1, (lop 3 8 0), [], [], (zeros 16), rfl, by
           decide +kernel⟩,
   ⟨((laneUp (lop 4 8 0))), _, 1, (lop 4 8 0), [], [], rfl, by decide +kernel⟩,
   ⟨((winUp.wr (winKey 0 7) 3).setLane 1 (fun x => { x with ops := [lop 4 8 0] })), _, 1, (lop 4 8 0), [], [], rfl, by decide +kernel⟩,
   ⟨((laneUp (lop 5 8 32))), _, ((((((laneUp (lop 5 8 32))).awaitLocks (((laneUp (lop 5 8 32))).opBarges (lop 5 8 32))).strike
     []).laneData (lop 5 8 32)).2.2), (((((((((laneUp (lop 5 8 32))).awaitLocks (((laneUp (lop 5 8 32))).opBarges (lop 5 8 32))).strike
       []).laneData (lop 5 8 32)).2.2).winHand (lop 5 8 32) (opOwner (lop 5 8 32))).readMem ((((laneUp (lop 5 8 32))).awaitLocks
         (((laneUp (lop 5 8 32))).opBarges (lop 5 8 32))).opAddr (lop 5 8 32)) 8 []).2.2), 1, (lop 5 8 32), [], [], (zeros 16), ([1, 2,
           3, 4, 5, 6, 7, 8]), rfl, by decide +kernel⟩,
   ⟨((laneUp (lop 6 8 32))), _, ((((((laneUp (lop 6 8 32))).awaitLocks (((laneUp (lop 6 8 32))).opBarges (lop 6 8 32))).strike
     []).laneData (lop 6 8 32)).2.2), (((((((((laneUp (lop 6 8 32))).awaitLocks (((laneUp (lop 6 8 32))).opBarges (lop 6 8 32))).strike
       []).laneData (lop 6 8 32)).2.2).winHand (lop 6 8 32) (opOwner (lop 6 8 32))).readMem ((((laneUp (lop 6 8 32))).awaitLocks
         (((laneUp (lop 6 8 32))).opBarges (lop 6 8 32))).opAddr (lop 6 8 32)) 8 []).2.2), 1, (lop 6 8 32), [], [], (zeros 16), ([1, 2,
           3, 4, 5, 6, 7, 8]), rfl, by decide +kernel⟩,
   ⟨((laneUp (lop 7 16 32))), _, ((((((laneUp (lop 7 16 32))).awaitLocks (((laneUp (lop 7 16 32))).opBarges (lop 7 16 32))).strike
     []).laneData (lop 7 16 32)).2.2), (((((((((laneUp (lop 7 16 32))).awaitLocks (((laneUp (lop 7 16 32))).opBarges (lop 7 16
       32))).strike []).laneData (lop 7 16 32)).2.2).winHand (lop 7 16 32) (opOwner (lop 7 16 32))).readMem ((((laneUp (lop 7 16
         32))).awaitLocks (((laneUp (lop 7 16 32))).opBarges (lop 7 16 32))).opAddr (lop 7 16 32)) 8 []).2.2), 1, (lop 7 16 32), [], [],
           (zeros 16), ([1, 2, 3, 4, 5, 6, 7, 8]), rfl, by decide +kernel⟩,
   ⟨((laneUp (lopC))), _, ((((((laneUp (lopC))).awaitLocks (((laneUp (lopC))).opBarges (lopC))).strike []).laneData (lopC)).2.2),
     (((((((((laneUp (lopC))).awaitLocks (((laneUp (lopC))).opBarges (lopC))).strike []).laneData (lopC)).2.2).winHand (lopC) (opOwner
       (lopC))).readMem ((((laneUp (lopC))).awaitLocks (((laneUp (lopC))).opBarges (lopC))).opAddr (lopC)) 8 []).2.2), 1, lopC, [], [],
         ([1, 2, 3, 4, 5, 6, 7, 8] ++ zeros 8), ([1, 2, 3, 4, 5, 6, 7, 8]), rfl, by decide +kernel⟩,
   ⟨((laneUp (lop 5 8 0))), _, ((((((laneUp (lop 5 8 0))).awaitLocks (((laneUp (lop 5 8 0))).opBarges (lop 5 8 0))).strike []).laneData
     (lop 5 8 0)).2.2), (((((((((laneUp (lop 5 8 0))).awaitLocks (((laneUp (lop 5 8 0))).opBarges (lop 5 8 0))).strike []).laneData (lop
       5 8 0)).2.2).winHand (lop 5 8 0) (opOwner (lop 5 8 0))).readMem ((((laneUp (lop 5 8 0))).awaitLocks (((laneUp (lop 5 8
         0))).opBarges (lop 5 8 0))).opAddr (lop 5 8 0)) 8 []).2.2), 1, (lop 5 8 0), [], [], (zeros 16), ([1, 2, 3, 4, 5, 6, 7, 8]), rfl,
           by decide +kernel⟩,
   ⟨((laneUp (lop 6 8 0))), _, ((((((laneUp (lop 6 8 0))).awaitLocks (((laneUp (lop 6 8 0))).opBarges (lop 6 8 0))).strike []).laneData
     (lop 6 8 0)).2.2), (((((((((laneUp (lop 6 8 0))).awaitLocks (((laneUp (lop 6 8 0))).opBarges (lop 6 8 0))).strike []).laneData (lop
       6 8 0)).2.2).winHand (lop 6 8 0) (opOwner (lop 6 8 0))).readMem ((((laneUp (lop 6 8 0))).awaitLocks (((laneUp (lop 6 8
         0))).opBarges (lop 6 8 0))).opAddr (lop 6 8 0)) 8 []).2.2), 1, (lop 6 8 0), [], [], (zeros 16), ([1, 2, 3, 4, 5, 6, 7, 8]), rfl,
           by decide +kernel⟩,
   ⟨((laneUp (lop 7 16 0))), _, ((((((laneUp (lop 7 16 0))).awaitLocks (((laneUp (lop 7 16 0))).opBarges (lop 7 16 0))).strike
     []).laneData (lop 7 16 0)).2.2), (((((((((laneUp (lop 7 16 0))).awaitLocks (((laneUp (lop 7 16 0))).opBarges (lop 7 16 0))).strike
       []).laneData (lop 7 16 0)).2.2).winHand (lop 7 16 0) (opOwner (lop 7 16 0))).readMem ((((laneUp (lop 7 16 0))).awaitLocks
         (((laneUp (lop 7 16 0))).opBarges (lop 7 16 0))).opAddr (lop 7 16 0)) 8 []).2.2), 1, (lop 7 16 0), [], [], (zeros 16), ([1, 2,
           3, 4, 5, 6, 7, 8]), rfl, by decide +kernel⟩,
   ⟨((laneUp ({ lop 5 8 0 with old := some 0x0807060504030201 }))), _, ((((((laneUp
     ({ lop 5 8 0 with old := some 0x0807060504030201 }))).awaitLocks (((laneUp
       ({ lop 5 8 0 with old := some 0x0807060504030201 }))).opBarges ({ lop 5 8 0 with old := some 0x0807060504030201 }))).strike
         []).laneData ({ lop 5 8 0 with old := some 0x0807060504030201 })).2.2), ((((((((laneUp
           ({ lop 5 8 0 with old := some 0x0807060504030201 }))).awaitLocks (((laneUp
             ({ lop 5 8 0 with old := some 0x0807060504030201 }))).opBarges ({ lop 5 8 0 with old := some 0x0807060504030201 }))).strike
               []).laneData ({ lop 5 8 0 with old := some 0x0807060504030201 })).2.2).readMem ((((laneUp
                 ({ lop 5 8 0 with old := some 0x0807060504030201 }))).awaitLocks (((laneUp
                   ({ lop 5 8 0 with old := some 0x0807060504030201 }))).opBarges
                     ({ lop 5 8 0 with old := some 0x0807060504030201 }))).opAddr ({ lop 5 8 0 with old := some 0x0807060504030201 })) 8
                       []).2.2), 1, 0x0807060504030201, ({ lop 5 8 0 with old := some 0x0807060504030201 }), [], [], (zeros 16), ([1, 2,
                         3, 4, 5, 6, 7, 8]), rfl, by decide +kernel⟩,
   ⟨((laneUp ({ lop 6 8 0 with old := some 0x0807060504030201 }))), _, ((((((laneUp
     ({ lop 6 8 0 with old := some 0x0807060504030201 }))).awaitLocks (((laneUp
       ({ lop 6 8 0 with old := some 0x0807060504030201 }))).opBarges ({ lop 6 8 0 with old := some 0x0807060504030201 }))).strike
         []).laneData ({ lop 6 8 0 with old := some 0x0807060504030201 })).2.2), ((((((((laneUp
           ({ lop 6 8 0 with old := some 0x0807060504030201 }))).awaitLocks (((laneUp
             ({ lop 6 8 0 with old := some 0x0807060504030201 }))).opBarges ({ lop 6 8 0 with old := some 0x0807060504030201 }))).strike
               []).laneData ({ lop 6 8 0 with old := some 0x0807060504030201 })).2.2).readMem ((((laneUp
                 ({ lop 6 8 0 with old := some 0x0807060504030201 }))).awaitLocks (((laneUp
                   ({ lop 6 8 0 with old := some 0x0807060504030201 }))).opBarges
                     ({ lop 6 8 0 with old := some 0x0807060504030201 }))).opAddr ({ lop 6 8 0 with old := some 0x0807060504030201 })) 8
                       []).2.2), 1, 0x0807060504030201, ({ lop 6 8 0 with old := some 0x0807060504030201 }), [], [], (zeros 16), ([1, 2,
                         3, 4, 5, 6, 7, 8]), rfl, by decide +kernel⟩,
   ⟨((laneUp ({ lop 7 8 0 with old := some 0x0807060504030201 }))), _, ((((((laneUp
     ({ lop 7 8 0 with old := some 0x0807060504030201 }))).awaitLocks (((laneUp
       ({ lop 7 8 0 with old := some 0x0807060504030201 }))).opBarges ({ lop 7 8 0 with old := some 0x0807060504030201 }))).strike
         []).laneData ({ lop 7 8 0 with old := some 0x0807060504030201 })).2.2), ((((((((laneUp
           ({ lop 7 8 0 with old := some 0x0807060504030201 }))).awaitLocks (((laneUp
             ({ lop 7 8 0 with old := some 0x0807060504030201 }))).opBarges ({ lop 7 8 0 with old := some 0x0807060504030201 }))).strike
               []).laneData ({ lop 7 8 0 with old := some 0x0807060504030201 })).2.2).readMem ((((laneUp
                 ({ lop 7 8 0 with old := some 0x0807060504030201 }))).awaitLocks (((laneUp
                   ({ lop 7 8 0 with old := some 0x0807060504030201 }))).opBarges
                     ({ lop 7 8 0 with old := some 0x0807060504030201 }))).opAddr ({ lop 7 8 0 with old := some 0x0807060504030201 })) 8
                       []).2.2), 1, 0x0807060504030201, ({ lop 7 8 0 with old := some 0x0807060504030201 }), [], [], (zeros 16), ([1, 2,
                         3, 4, 5, 6, 7, 8]), rfl, by decide +kernel⟩,
   ⟨((laneUp ({ lop 5 8 0 with old := some 5 }))), _, ((((((laneUp ({ lop 5 8 0 with old := some 5 }))).awaitLocks (((laneUp
     ({ lop 5 8 0 with old := some 5 }))).opBarges ({ lop 5 8 0 with old := some 5 }))).strike []).laneData
       ({ lop 5 8 0 with old := some 5 })).2.2), ((((((((laneUp ({ lop 5 8 0 with old := some 5 }))).awaitLocks (((laneUp
         ({ lop 5 8 0 with old := some 5 }))).opBarges ({ lop 5 8 0 with old := some 5 }))).strike []).laneData
           ({ lop 5 8 0 with old := some 5 })).2.2).readMem ((((laneUp ({ lop 5 8 0 with old := some 5 }))).awaitLocks (((laneUp
             ({ lop 5 8 0 with old := some 5 }))).opBarges ({ lop 5 8 0 with old := some 5 }))).opAddr
               ({ lop 5 8 0 with old := some 5 })) 8 []).2.2), 1, 5, ({ lop 5 8 0 with old := some 5 }), [], [], (zeros 16), ([1, 2, 3,
                 4, 5, 6, 7, 8]), _, rfl, rfl, by decide +kernel⟩,
   ⟨((laneUp ({ lop 6 8 0 with old := some 5 }))), _, ((((((laneUp ({ lop 6 8 0 with old := some 5 }))).awaitLocks (((laneUp
     ({ lop 6 8 0 with old := some 5 }))).opBarges ({ lop 6 8 0 with old := some 5 }))).strike []).laneData
       ({ lop 6 8 0 with old := some 5 })).2.2), ((((((((laneUp ({ lop 6 8 0 with old := some 5 }))).awaitLocks (((laneUp
         ({ lop 6 8 0 with old := some 5 }))).opBarges ({ lop 6 8 0 with old := some 5 }))).strike []).laneData
           ({ lop 6 8 0 with old := some 5 })).2.2).readMem ((((laneUp ({ lop 6 8 0 with old := some 5 }))).awaitLocks (((laneUp
             ({ lop 6 8 0 with old := some 5 }))).opBarges ({ lop 6 8 0 with old := some 5 }))).opAddr
               ({ lop 6 8 0 with old := some 5 })) 8 []).2.2), 1, 5, ({ lop 6 8 0 with old := some 5 }), [], [], (zeros 16), ([1, 2, 3,
                 4, 5, 6, 7, 8]), _, rfl, rfl, by decide +kernel⟩,
   ⟨((laneUp ({ lop 7 8 0 with old := some 5 }))), _, ((((((laneUp ({ lop 7 8 0 with old := some 5 }))).awaitLocks (((laneUp
     ({ lop 7 8 0 with old := some 5 }))).opBarges ({ lop 7 8 0 with old := some 5 }))).strike []).laneData
       ({ lop 7 8 0 with old := some 5 })).2.2), ((((((((laneUp ({ lop 7 8 0 with old := some 5 }))).awaitLocks (((laneUp
         ({ lop 7 8 0 with old := some 5 }))).opBarges ({ lop 7 8 0 with old := some 5 }))).strike []).laneData
           ({ lop 7 8 0 with old := some 5 })).2.2).readMem ((((laneUp ({ lop 7 8 0 with old := some 5 }))).awaitLocks (((laneUp
             ({ lop 7 8 0 with old := some 5 }))).opBarges ({ lop 7 8 0 with old := some 5 }))).opAddr
               ({ lop 7 8 0 with old := some 5 })) 8 []).2.2), 1, 5, ({ lop 7 8 0 with old := some 5 }), [], [], (zeros 16), ([1, 2, 3,
                 4, 5, 6, 7, 8]), _, rfl, rfl, by decide +kernel⟩,
   ⟨((laneUp (lop 8 8 0))), _, 1, (lop 8 8 0), [], rfl, by decide +kernel⟩,
   ⟨(((peerUp []).setLk (fun x => { x with ready := true })).setLane 1 (fun x => { x with ops := [dop9] })), _, (dOf (((((peerUp
     []).setLk (fun x => { x with ready := true })).setLane 1 (fun x => { x with ops := [dop9] })).nextCk).dictRead (peerIni (dop9).peer)
       (leAt (dop9).op 10 2) (octAt (dop9).op 12) (opOffset (dop9).op) (opLen (dop9).op))), 1, dop9, [], (bodyOf (((((peerUp []).setLk
         (fun x => { x with ready := true })).setLane 1 (fun x => { x with ops := [dop9] })).nextCk).dictRead (peerIni (dop9).peer) (leAt
           (dop9).op 10 2) (octAt (dop9).op 12) (opOffset (dop9).op) (opLen (dop9).op))), rfl, by decide, by decide +kernel, by
             decide +kernel, by decide +kernel, by decide +kernel, by decide +kernel, by decide +kernel, by decide +kernel, by
               decide +kernel, dres_ok _ (by decide +kernel)⟩,
   ⟨(((peerUp [(0x600011, 4)]).setLk (fun x => { x with ready := true })).setLane 1 (fun x => { x with ops := [dop10] })), _, (dOf
     (((((((peerUp [(0x600011, 4)]).setLk (fun x => { x with ready := true })).setLane 1 (fun x =>
       { x with ops := [dop10] })).nextCk).laneData (dop10)).2.2).dictWrite (peerIni (dop10).peer) (leAt (dop10).op 10 2) (octAt
         (dop10).op 12) (octAt (dop10).op 13) (opOffset (dop10).op) ([1, 0, 16, 0].take (opLen (dop10).op)))), ((((((peerUp [(0x600011,
           4)]).setLk (fun x => { x with ready := true })).setLane 1 (fun x => { x with ops := [dop10] })).nextCk).laneData
             (dop10)).2.2), 1, dop10, [], (bodyOf (((((((peerUp [(0x600011, 4)]).setLk (fun x => { x with ready := true })).setLane 1
               (fun x => { x with ops := [dop10] })).nextCk).laneData (dop10)).2.2).dictWrite (peerIni (dop10).peer) (leAt (dop10).op 10
                 2) (octAt (dop10).op 12) (octAt (dop10).op 13) (opOffset (dop10).op) ([1, 0, 16, 0].take (opLen (dop10).op)))), ([1, 0,
                   16, 0]), rfl, by decide, by decide +kernel, by decide +kernel, by decide +kernel, by decide +kernel, by
                     decide +kernel, by decide +kernel, by decide +kernel, by decide +kernel, by decide +kernel, dres_ok _ (by
                       decide +kernel)⟩,
   ⟨(((winUp.setOpSlot 3 (some ⟨wop 3 8 0, [], none, 8, false, none, 1, none, 0⟩)).wr (opSlotKey 3) (1 + 65536 * 2)).setLane 1 (fun x =>
     { x with ops := [lop 0x83 8 0] })), _, (((((winUp.setOpSlot 3 (some ⟨wop 3 8 0, [], none, 8, false, none, 1, none, 0⟩)).wr
       (opSlotKey 3) (1 + 65536 * 2)).setLane 1 (fun x => { x with ops := [lop 0x83 8 0] }) : Dev).laneData (lop 0x83 8 0)).2.2), 1, (lop
         0x83 8 0), [], (⟨wop 3 8 0, [], none, 8, false, none, 1, none, 0⟩), (zeros 16), rfl, by decide +kernel⟩⟩

theorem witness_IssueCommandsComplete :
    (∃ (d0 : Dev) (d : Dev) (e : Dev) (b : Dev) (f : IssueFields) (tm : Timing) (code : Nat) (op : Oct), d = d0.hostStart ∧
      e = d.wr (opSlotKey f.slot) (1 + 256 * code + 65536 * f.peer) ∧
        b = (e.requestLock f.barge (.tow f.peer) 256).awaitLocks [f.barge] ∧
          op = opRecord code f.slot (f.win % 8 + 16 * f.scope + 64 * b2n f.release) f.off f.len 0 0 0 ∧ f.ok = true ∧ f.peer < 16 ∧
            d.peerOpen f.peer = true ∧ d.hostTakes 0x606001 (leNat (issueOctets code f)) tm = true ∧ d.towReady = true ∧
              d.tow.todo = [] ∧ e.rd 0x60000D ≠ 1 ∧ b.rd 0x60000D ≠ 1)
    ∧ (∃ (d0 : Dev) (d : Dev) (e : Dev) (b : Dev) (f : IssueFields) (tm : Timing) (code : Nat) (op : Oct), d = d0.hostStart ∧
      e = d.wr (opSlotKey f.slot) (1 + 256 * code + 65536 * f.peer) ∧
        b = (e.requestLock f.barge (.tow f.peer) 256).awaitLocks [f.barge] ∧
          op = opRecord code f.slot (f.win % 8 + 16 * f.scope + 64 * b2n f.release) f.off f.len 0 0 0 ∧ f.ok = true ∧ f.peer < 16 ∧
            d.peerOpen f.peer = true ∧ d.hostTakes 0x606001 (leNat (issueOctets code f)) tm = true ∧ d.towReady = true ∧
              d.tow.todo = [] ∧ e.rd 0x60000D ≠ 1 ∧ b.rd 0x60000D ≠ 1)
    ∧ (∃ (d0 : Dev) (d : Dev) (e : Dev) (f : IssueFields) (tm : Timing) (data : Oct), d = d0.hostStart ∧
      e = d.wr (opSlotKey f.slot) (1 + 256 + 65536 * f.peer) ∧ f.ok = true ∧ f.peer < 16 ∧ d.peerOpen f.peer = true ∧
        d.hostTakes 0x606001 (leNat (issueOctets 1 f)) tm = true ∧ d.towReady = true ∧ d.tow.todo = [] ∧
          e.cacheHit (issueOctets 1 f) = some data)
    ∧ (∃ (d0 : Dev) (d : Dev) (e : Dev) (b : Dev) (f : IssueFields) (tm : Timing) (o : Nat) (op : Oct), d = d0.hostStart ∧
      e = d.wr (opSlotKey f.slot) (1 + 256 + 65536 * f.peer) ∧ b = (e.requestLock f.barge (.tow f.peer) 256).awaitLocks [f.barge] ∧
        o = f.off / 64 * 64 ∧ op = opRecord 1 f.slot (f.win % 8 + 16 * f.scope + 64 * b2n f.release) o ((f.off + f.len + 63) / 64 * 64 -
          o) 0 0 0 ∧ f.ok = true ∧ f.peer < 16 ∧ d.peerOpen f.peer = true ∧ d.hostTakes 0x606001 (leNat (issueOctets 1 f)) tm = true ∧
            d.towReady = true ∧ d.tow.todo = [] ∧ e.cacheHit (issueOctets 1 f) = none ∧ b.rd 0x60000D = 1)
    ∧ (∃ (d0 : Dev) (d : Dev) (y : Dev) (e : Dev) (b : Dev) (f : IssueFields) (tm : Timing) (code : Nat) (op : Oct) (data : Oct) (bad :
      List Nat), d = d0.hostStart ∧ y = d.wr (opSlotKey f.slot) (1 + 256 * code + 65536 * f.peer) ∧
        e = (if code = 4 then y.rsvTake (f.rsvWin % 8) 0xFE f.peer else y) ∧
          op = opRecord code f.slot (f.win % 8 + 16 * f.scope + 64 * b2n f.release) f.off f.len 0 0 0 ∧ f.ok = true ∧ f.peer < 16 ∧
            d.peerOpen f.peer = true ∧ d.hostTakes 0x606001 (leNat (issueOctets code f)) tm = true ∧ d.towReady = true ∧
              d.tow.todo = [] ∧ ((e.requestLock f.barge (.tow f.peer) 256).awaitLocks [f.barge]).readMem (256 * f.barge) f.len [] =
                (data, bad, b) ∧ (b.barge f.barge).poison = false)
    ∧ (∃ (d0 : Dev) (d : Dev) (y : Dev) (e : Dev) (b : Dev) (f : IssueFields) (tm : Timing) (code : Nat) (op : Oct) (data : Oct) (bad :
      List Nat), d = d0.hostStart ∧ y = d.wr (opSlotKey f.slot) (1 + 256 * code + 65536 * f.peer) ∧
        e = (if code = 4 then y.rsvTake (f.rsvWin % 8) 0xFE f.peer else y) ∧
          op = opRecord code f.slot (f.win % 8 + 16 * f.scope + 64 * b2n f.release) f.off f.len 0 0 0 ∧ f.ok = true ∧ f.peer < 16 ∧
            d.peerOpen f.peer = true ∧ d.hostTakes 0x606001 (leNat (issueOctets code f)) tm = true ∧ d.towReady = true ∧
              d.tow.todo = [] ∧ ((e.requestLock f.barge (.tow f.peer) 256).awaitLocks [f.barge]).readMem (256 * f.barge) f.len [] =
                (data, bad, b) ∧ (b.barge f.barge).poison = false)
    ∧ (∃ (d0 : Dev) (d : Dev) (e : Dev) (f : IssueFields) (tm : Timing) (code : Nat) (op : Oct), d = d0.hostStart ∧
      e = (d.wr (opSlotKey f.slot) (1 + 256 * code + 65536 * f.peer)).cacheTouch f.peer (f.win % 8) f.off 8 ∧
        op = opRecord code f.slot (f.win % 8 + 16 * f.scope + 64 * b2n f.release) f.off (if code = 7 then 16 else 8) 0 0 0 ∧
          f.ok = true ∧ f.peer < 16 ∧ d.peerOpen f.peer = true ∧ d.hostTakes 0x606001 (leNat (issueOctets code f)) tm = true ∧
            d.towReady = true ∧ d.tow.todo = [])
    ∧ (∃ (d0 : Dev) (d : Dev) (e : Dev) (f : IssueFields) (tm : Timing) (code : Nat) (op : Oct), d = d0.hostStart ∧
      e = (d.wr (opSlotKey f.slot) (1 + 256 * code + 65536 * f.peer)).cacheTouch f.peer (f.win % 8) f.off 8 ∧
        op = opRecord code f.slot (f.win % 8 + 16 * f.scope + 64 * b2n f.release) f.off (if code = 7 then 16 else 8) 0 0 0 ∧
          f.ok = true ∧ f.peer < 16 ∧ d.peerOpen f.peer = true ∧ d.hostTakes 0x606001 (leNat (issueOctets code f)) tm = true ∧
            d.towReady = true ∧ d.tow.todo = [])
    ∧ (∃ (d0 : Dev) (d : Dev) (e : Dev) (f : IssueFields) (tm : Timing) (code : Nat) (op : Oct), d = d0.hostStart ∧
      e = (d.wr (opSlotKey f.slot) (1 + 256 * code + 65536 * f.peer)).cacheTouch f.peer (f.win % 8) f.off 8 ∧
        op = opRecord code f.slot (f.win % 8 + 16 * f.scope + 64 * b2n f.release) f.off (if code = 7 then 16 else 8) 0 0 0 ∧
          f.ok = true ∧ f.peer < 16 ∧ d.peerOpen f.peer = true ∧ d.hostTakes 0x606001 (leNat (issueOctets code f)) tm = true ∧
            d.towReady = true ∧ d.tow.todo = [])
    ∧ (∃ (d0 : Dev) (d : Dev) (e : Dev) (b : Dev) (f : IssueFields) (tm : Timing) (op : Oct), d = d0.hostStart ∧
      e = d.wr (opSlotKey f.slot) (1 + 256 + 65536 * 0xFF) ∧
        b = (e.requestLock f.barge (e.issueOwner (issueOctets 1 f)) 256).awaitLocks [f.barge] ∧
          op = opRecord 1 f.slot (f.win % 8 + 16 * f.scope + 64 * b2n f.release) f.off f.len 0 0 0 ∧ f.ok = true ∧ f.peer = 0xFF ∧
            d.hostTakes 0x606001 (leNat (issueOctets 1 f)) tm = true ∧ d.towReady = true ∧ d.tow.todo = [])
    ∧ (∃ (d0 : Dev) (d : Dev) (e : Dev) (b : Dev) (f : IssueFields) (tm : Timing) (op : Oct) (data : Oct) (bad : List Nat), d =
      d0.hostStart ∧ e = d.wr (opSlotKey f.slot) (1 + 256 * 3 + 65536 * 0xFF) ∧
        op = opRecord 3 f.slot (f.win % 8 + 16 * f.scope + 64 * b2n f.release) f.off f.len 0 0 0 ∧ f.ok = true ∧ f.peer = 0xFF ∧
          d.hostTakes 0x606001 (leNat (issueOctets 3 f)) tm = true ∧ d.towReady = true ∧ d.tow.todo = [] ∧
            ((e.requestLock f.barge (e.issueOwner (issueOctets 3 f)) 256).awaitLocks [f.barge]).readMem (256 * f.barge) f.len [] = (data,
              bad, b) ∧ (b.barge f.barge).poison = false)
    ∧ (∃ (d0 : Dev) (d : Dev) (y : Dev) (e : Dev) (f : IssueFields) (tm : Timing) (code : Nat), d = d0.hostStart ∧
      y = d.towMacOff.wr (opSlotKey f.slot) (1 + 256 * code + 65536 * f.peer) ∧
        e = ((if code = 4 then y.rsvTake (f.rsvWin % 8) 0xFE f.peer else y).setTow (fun x =>
          { x with todo := x.todo ++ [leOct 32 (leNat (issueOctets code f))] })) ∧ f.ok = true ∧ f.peer < 16 ∧
            d.peerOpen f.peer = true ∧ d.hostTakes 0x606001 (leNat (issueOctets code f)) tm = true ∧ d.towReady = false)
    ∧ (∃ (d0 : Dev) (d : Dev) (y : Dev) (e : Dev) (f : IssueFields) (tm : Timing) (code : Nat), d = d0.hostStart ∧
      y = d.towMacOff.wr (opSlotKey f.slot) (1 + 256 * code + 65536 * f.peer) ∧
        e = ((if code = 4 then y.rsvTake (f.rsvWin % 8) 0xFE f.peer else y).setTow (fun x =>
          { x with todo := x.todo ++ [leOct 32 (leNat (issueOctets code f))] })) ∧ f.ok = true ∧ f.peer < 16 ∧
            d.peerOpen f.peer = true ∧ d.hostTakes 0x606001 (leNat (issueOctets code f)) tm = true ∧ d.towReady = false)
    ∧ (∃ (d0 : Dev) (d : Dev) (y : Dev) (e : Dev) (f : IssueFields) (tm : Timing) (code : Nat), d = d0.hostStart ∧
      y = d.towMacOff.wr (opSlotKey f.slot) (1 + 256 * code + 65536 * f.peer) ∧
        e = ((if code = 4 then y.rsvTake (f.rsvWin % 8) 0xFE f.peer else y).setTow (fun x =>
          { x with todo := x.todo ++ [leOct 32 (leNat (issueOctets code f))] })) ∧ f.ok = true ∧ f.peer < 16 ∧
            d.peerOpen f.peer = true ∧ d.hostTakes 0x606001 (leNat (issueOctets code f)) tm = true ∧ d.towReady = false)
    ∧ (∃ (d0 : Dev) (d : Dev) (y : Dev) (e : Dev) (f : IssueFields) (tm : Timing) (code : Nat), d = d0.hostStart ∧
      y = d.towMacOff.wr (opSlotKey f.slot) (1 + 256 * code + 65536 * f.peer) ∧
        e = ((if code = 4 then y.rsvTake (f.rsvWin % 8) 0xFE f.peer else y).setTow (fun x =>
          { x with todo := x.todo ++ [leOct 32 (leNat (issueOctets code f))] })) ∧ f.ok = true ∧ f.peer < 16 ∧
            d.peerOpen f.peer = true ∧ d.hostTakes 0x606001 (leNat (issueOctets code f)) tm = true ∧ d.towReady = false) :=
  ⟨⟨((winUp.wr 0x60000D 0)), _, _, _, ((⟨3, 2, 0, 0, false, false, 16, 0, 0, 8, 5, 0⟩ : IssueFields)), tmw, 1, _, rfl, rfl, rfl, rfl, by
    decide +kernel⟩,
   ⟨((winUp.wr 0x60000D 0)), _, _, _, ((⟨3, 2, 0, 0, false, false, 16, 0, 0, 8, 5, 0⟩ : IssueFields)), tmw, 2, _, rfl, rfl, rfl, rfl, by
     decide +kernel⟩,
   ⟨(((winUp.wr 0x60000D 1).setTow (fun x => { x with cache := [⟨2, 0, 0, zeros 64⟩] }))), _, _, ((⟨3, 2, 0, 0, false, false, 16, 0, 0,
     8, 5, 0⟩ : IssueFields)), tmw, (zeros 8), rfl, rfl, by decide +kernel⟩,
   ⟨((winUp.wr 0x60000D 1)), _, _, _, ((⟨3, 2, 0, 0, false, false, 16, 0, 0, 8, 5, 0⟩ : IssueFields)), tmw, _, _, rfl, rfl, rfl, rfl,
     rfl, by decide +kernel⟩,
   ⟨((winUp.wr 0x60000D 0)), _, _, _, ((((((if (3) = 4 then ((((winUp.wr 0x60000D 0)).hostStart).wr (opSlotKey ((⟨3, 2, 0, 0, false,
     false, 16, 0, 0, 8, 5, 0⟩ : IssueFields)).slot) (1 + 256 * (3) + 65536 * ((⟨3, 2, 0, 0, false, false, 16, 0, 0, 8, 5, 0⟩ :
       IssueFields)).peer) : Dev).rsvTake (((⟨3, 2, 0, 0, false, false, 16, 0, 0, 8, 5, 0⟩ : IssueFields)).rsvWin % 8) 0xFE ((⟨3, 2, 0,
         0, false, false, 16, 0, 0, 8, 5, 0⟩ : IssueFields)).peer else ((((winUp.wr 0x60000D 0)).hostStart).wr (opSlotKey ((⟨3, 2, 0, 0,
           false, false, 16, 0, 0, 8, 5, 0⟩ : IssueFields)).slot) (1 + 256 * (3) + 65536 * ((⟨3, 2, 0, 0, false, false, 16, 0, 0, 8, 5,
             0⟩ : IssueFields)).peer) : Dev)) : Dev).requestLock ((⟨3, 2, 0, 0, false, false, 16, 0, 0, 8, 5, 0⟩ : IssueFields)).barge
               (.tow ((⟨3, 2, 0, 0, false, false, 16, 0, 0, 8, 5, 0⟩ : IssueFields)).peer) 256).awaitLocks [((⟨3, 2, 0, 0, false, false,
                 16, 0, 0, 8, 5, 0⟩ : IssueFields)).barge]).readMem (256 * ((⟨3, 2, 0, 0, false, false, 16, 0, 0, 8, 5, 0⟩ :
                   IssueFields)).barge) ((⟨3, 2, 0, 0, false, false, 16, 0, 0, 8, 5, 0⟩ : IssueFields)).len []).2.2), ((⟨3, 2, 0, 0,
                     false, false, 16, 0, 0, 8, 5, 0⟩ : IssueFields)), tmw, 3, _, ((((((if (3) = 4 then ((((winUp.wr 0x60000D
                       0)).hostStart).wr (opSlotKey ((⟨3, 2, 0, 0, false, false, 16, 0, 0, 8, 5, 0⟩ : IssueFields)).slot) (1 + 256 * (3)
                         + 65536 * ((⟨3, 2, 0, 0, false, false, 16, 0, 0, 8, 5, 0⟩ : IssueFields)).peer) : Dev).rsvTake (((⟨3, 2, 0, 0,
                           false, false, 16, 0, 0, 8, 5, 0⟩ : IssueFields)).rsvWin % 8) 0xFE ((⟨3, 2, 0, 0, false, false, 16, 0, 0, 8, 5,
                             0⟩ : IssueFields)).peer else ((((winUp.wr 0x60000D 0)).hostStart).wr (opSlotKey ((⟨3, 2, 0, 0, false, false,
                               16, 0, 0, 8, 5, 0⟩ : IssueFields)).slot) (1 + 256 * (3) + 65536 * ((⟨3, 2, 0, 0, false, false, 16, 0, 0,
                                 8, 5, 0⟩ : IssueFields)).peer) : Dev)) : Dev).requestLock ((⟨3, 2, 0, 0, false, false, 16, 0, 0, 8, 5,
                                   0⟩ : IssueFields)).barge (.tow ((⟨3, 2, 0, 0, false, false, 16, 0, 0, 8, 5, 0⟩ : IssueFields)).peer)
                                     256).awaitLocks [((⟨3, 2, 0, 0, false, false, 16, 0, 0, 8, 5, 0⟩ : IssueFields)).barge]).readMem
                                       (256 * ((⟨3, 2, 0, 0, false, false, 16, 0, 0, 8, 5, 0⟩ : IssueFields)).barge) ((⟨3, 2, 0, 0,
                                         false, false, 16, 0, 0, 8, 5, 0⟩ : IssueFields)).len []).1), [], rfl, rfl, rfl, rfl, by
                                           decide +kernel⟩,
   ⟨((winUp.wr 0x60000D 0)), _, _, _, ((((((if (4) = 4 then ((((winUp.wr 0x60000D 0)).hostStart).wr (opSlotKey ((⟨3, 2, 0, 0, false,
     false, 16, 0, 0, 8, 5, 0⟩ : IssueFields)).slot) (1 + 256 * (4) + 65536 * ((⟨3, 2, 0, 0, false, false, 16, 0, 0, 8, 5, 0⟩ :
       IssueFields)).peer) : Dev).rsvTake (((⟨3, 2, 0, 0, false, false, 16, 0, 0, 8, 5, 0⟩ : IssueFields)).rsvWin % 8) 0xFE ((⟨3, 2, 0,
         0, false, false, 16, 0, 0, 8, 5, 0⟩ : IssueFields)).peer else ((((winUp.wr 0x60000D 0)).hostStart).wr (opSlotKey ((⟨3, 2, 0, 0,
           false, false, 16, 0, 0, 8, 5, 0⟩ : IssueFields)).slot) (1 + 256 * (4) + 65536 * ((⟨3, 2, 0, 0, false, false, 16, 0, 0, 8, 5,
             0⟩ : IssueFields)).peer) : Dev)) : Dev).requestLock ((⟨3, 2, 0, 0, false, false, 16, 0, 0, 8, 5, 0⟩ : IssueFields)).barge
               (.tow ((⟨3, 2, 0, 0, false, false, 16, 0, 0, 8, 5, 0⟩ : IssueFields)).peer) 256).awaitLocks [((⟨3, 2, 0, 0, false, false,
                 16, 0, 0, 8, 5, 0⟩ : IssueFields)).barge]).readMem (256 * ((⟨3, 2, 0, 0, false, false, 16, 0, 0, 8, 5, 0⟩ :
                   IssueFields)).barge) ((⟨3, 2, 0, 0, false, false, 16, 0, 0, 8, 5, 0⟩ : IssueFields)).len []).2.2), ((⟨3, 2, 0, 0,
                     false, false, 16, 0, 0, 8, 5, 0⟩ : IssueFields)), tmw, 4, _, ((((((if (4) = 4 then ((((winUp.wr 0x60000D
                       0)).hostStart).wr (opSlotKey ((⟨3, 2, 0, 0, false, false, 16, 0, 0, 8, 5, 0⟩ : IssueFields)).slot) (1 + 256 * (4)
                         + 65536 * ((⟨3, 2, 0, 0, false, false, 16, 0, 0, 8, 5, 0⟩ : IssueFields)).peer) : Dev).rsvTake (((⟨3, 2, 0, 0,
                           false, false, 16, 0, 0, 8, 5, 0⟩ : IssueFields)).rsvWin % 8) 0xFE ((⟨3, 2, 0, 0, false, false, 16, 0, 0, 8, 5,
                             0⟩ : IssueFields)).peer else ((((winUp.wr 0x60000D 0)).hostStart).wr (opSlotKey ((⟨3, 2, 0, 0, false, false,
                               16, 0, 0, 8, 5, 0⟩ : IssueFields)).slot) (1 + 256 * (4) + 65536 * ((⟨3, 2, 0, 0, false, false, 16, 0, 0,
                                 8, 5, 0⟩ : IssueFields)).peer) : Dev)) : Dev).requestLock ((⟨3, 2, 0, 0, false, false, 16, 0, 0, 8, 5,
                                   0⟩ : IssueFields)).barge (.tow ((⟨3, 2, 0, 0, false, false, 16, 0, 0, 8, 5, 0⟩ : IssueFields)).peer)
                                     256).awaitLocks [((⟨3, 2, 0, 0, false, false, 16, 0, 0, 8, 5, 0⟩ : IssueFields)).barge]).readMem
                                       (256 * ((⟨3, 2, 0, 0, false, false, 16, 0, 0, 8, 5, 0⟩ : IssueFields)).barge) ((⟨3, 2, 0, 0,
                                         false, false, 16, 0, 0, 8, 5, 0⟩ : IssueFields)).len []).1), [], rfl, rfl, rfl, rfl, by
                                           decide +kernel⟩,
   ⟨((winUp.wr 0x60000D 0)), _, _, ((⟨3, 2, 0, 2, false, false, 65535, 0, 0, 8, 5, 0⟩ : IssueFields)), tmw, 5, _, rfl, rfl, rfl, by
     decide +kernel⟩,
   ⟨((winUp.wr 0x60000D 0)), _, _, ((⟨3, 2, 0, 2, false, false, 65535, 0, 0, 8, 5, 0⟩ : IssueFields)), tmw, 6, _, rfl, rfl, rfl, by
     decide +kernel⟩,
   ⟨((winUp.wr 0x60000D 0)), _, _, ((⟨3, 2, 0, 2, false, false, 65535, 0, 0, 8, 5, 6⟩ : IssueFields)), tmw, 7, _, rfl, rfl, rfl, by
     decide +kernel⟩,
   ⟨((winUp.wr 0x60000D 0)), _, _, _, ((⟨3, 0xFF, 0, 0, false, false, 16, 0, 0, 8, 5, 0⟩ : IssueFields)), tmw, _, rfl, rfl, rfl, rfl, by
     decide +kernel⟩,
   ⟨((winUp.wr 0x60000D 0)), _, _, ((((((((winUp.wr 0x60000D 0)).hostStart).wr (opSlotKey ((⟨3, 0xFF, 0, 0, false, false, 16, 0, 0, 8, 5,
     0⟩ : IssueFields)).slot) (1 + 256 * 3 + 65536 * 0xFF) : Dev).requestLock ((⟨3, 0xFF, 0, 0, false, false, 16, 0, 0, 8, 5, 0⟩ :
       IssueFields)).barge (((((winUp.wr 0x60000D 0)).hostStart).wr (opSlotKey ((⟨3, 0xFF, 0, 0, false, false, 16, 0, 0, 8, 5, 0⟩ :
         IssueFields)).slot) (1 + 256 * 3 + 65536 * 0xFF) : Dev).issueOwner (issueOctets 3 ((⟨3, 0xFF, 0, 0, false, false, 16, 0, 0, 8,
           5, 0⟩ : IssueFields)))) 256).awaitLocks [((⟨3, 0xFF, 0, 0, false, false, 16, 0, 0, 8, 5, 0⟩ : IssueFields)).barge]).readMem
             (256 * ((⟨3, 0xFF, 0, 0, false, false, 16, 0, 0, 8, 5, 0⟩ : IssueFields)).barge) ((⟨3, 0xFF, 0, 0, false, false, 16, 0, 0,
               8, 5, 0⟩ : IssueFields)).len []).2.2), ((⟨3, 0xFF, 0, 0, false, false, 16, 0, 0, 8, 5, 0⟩ : IssueFields)), tmw, _,
                 ((((((((winUp.wr 0x60000D 0)).hostStart).wr (opSlotKey ((⟨3, 0xFF, 0, 0, false, false, 16, 0, 0, 8, 5, 0⟩ :
                   IssueFields)).slot) (1 + 256 * 3 + 65536 * 0xFF) : Dev).requestLock ((⟨3, 0xFF, 0, 0, false, false, 16, 0, 0, 8, 5, 0⟩
                     : IssueFields)).barge (((((winUp.wr 0x60000D 0)).hostStart).wr (opSlotKey ((⟨3, 0xFF, 0, 0, false, false, 16, 0, 0,
                       8, 5, 0⟩ : IssueFields)).slot) (1 + 256 * 3 + 65536 * 0xFF) : Dev).issueOwner (issueOctets 3 ((⟨3, 0xFF, 0, 0,
                         false, false, 16, 0, 0, 8, 5, 0⟩ : IssueFields)))) 256).awaitLocks [((⟨3, 0xFF, 0, 0, false, false, 16, 0, 0, 8,
                           5, 0⟩ : IssueFields)).barge]).readMem (256 * ((⟨3, 0xFF, 0, 0, false, false, 16, 0, 0, 8, 5, 0⟩ :
                             IssueFields)).barge) ((⟨3, 0xFF, 0, 0, false, false, 16, 0, 0, 8, 5, 0⟩ : IssueFields)).len []).1), [], rfl,
                               rfl, rfl, by decide +kernel⟩,
   ⟨(((winUp.setDom dMACT (fun x => { x with st := .off })).setDom dMACL (fun x => { x with st := .off }))), _, _, _, ((⟨3, 2, 0, 0,
     false, false, 16, 0, 0, 8, 5, 0⟩ : IssueFields)), tmw, 1, rfl, rfl, rfl, by decide +kernel⟩,
   ⟨(((winUp.setDom dMACT (fun x => { x with st := .off })).setDom dMACL (fun x => { x with st := .off }))), _, _, _, ((⟨3, 2, 0, 0,
     false, false, 16, 0, 0, 8, 5, 0⟩ : IssueFields)), tmw, 3, rfl, rfl, rfl, by decide +kernel⟩,
   ⟨(((winUp.setDom dMACT (fun x => { x with st := .off })).setDom dMACL (fun x => { x with st := .off }))), _, _, _, ((⟨3, 2, 0, 0,
     false, false, 16, 0, 0, 8, 5, 0⟩ : IssueFields)), tmw, 4, rfl, rfl, rfl, by decide +kernel⟩,
   ⟨(((winUp.setDom dMACT (fun x => { x with st := .off })).setDom dMACL (fun x => { x with st := .off }))), _, _, _, ((⟨3, 2, 0, 2,
     false, false, 65535, 0, 0, 8, 5, 0⟩ : IssueFields)), tmw, 5, rfl, rfl, rfl, by decide +kernel⟩⟩

theorem witness_WindowCommandsComplete :
    (∃ (d0 : Dev) (d : Dev) (v : Nat) (tm : Timing), d = d0.hostStart ∧ v < 2 ^ 16 ∧ d.hostTakes 0x606004 v tm = true)
    ∧ (∃ (d : Dev) (e : Dev) (n : Nat) (tag : Nat) (y : OpSlot) (t : Nat × Nat), e = d.advanceTo (t.1 + t.2) ∧ n < 16 ∧ tag < 16 ∧
      d.towOn = true ∧ d.towReady = true ∧ d.opSlot tag = some y ∧ y.backoff = some t ∧ d.rd (opSlotKey tag) / 65536 % 256 = n)
    ∧ (∃ (d0 : Dev) (d : Dev) (w : Nat) (tm : Timing), d = d0.hostStart ∧ w < 8 ∧ d.hostTakes 0x606005 w tm = true ∧ d.rsv w = 0xFE)
    ∧ (∃ (d : Dev) (e : Dev) (w : Nat) (t : Nat), e = d.advanceTo (t + d.rd 0x60000E * 100000) ∧ w < 8 ∧ (d.win w).rsvAt = some t ∧
      d.on dTOW = true)
    ∧ (∃ (d0 : Dev) (d : Dev) (w : Nat) (tm : Timing), d = d0.hostStart ∧ w < 8 ∧ d.hostTakes (winKey w 1) 1 tm = true ∧
      d.rd (winKey w 1) = 0 ∧ d.rd (winKey w 4) = 1)
    ∧ (∃ (d0 : Dev) (d : Dev) (w : Nat) (m : Nat) (tm : Timing), d = d0.hostStart ∧ w < 8 ∧ d.hostTakes (winKey w 1) 1 tm = true ∧
      d.rd (winKey w 1) = 0 ∧ m < 16 ∧ d.rd (winKey w 4) = 16 + m)
    ∧ (∃ (d0 : Dev) (d : Dev) (w : Nat) (tm : Timing), d = d0.hostStart ∧ w < d.tow.wins.length ∧ w < 8 ∧
      d.hostTakes (winKey w 1) 0 tm = true ∧ d.rd (winKey w 1) = 1 ∧ d.winInLane w = false ∧ d.rd (winKey w 4) = 1)
    ∧ (∃ (d0 : Dev) (d : Dev) (w : Nat) (m : Nat) (tm : Timing), d = d0.hostStart ∧ w < d.tow.wins.length ∧ w < 8 ∧ m < 16 ∧
      d.hostTakes (winKey w 1) 0 tm = true ∧ d.rd (winKey w 1) = 1 ∧ d.winInLane w = false ∧ d.rd (winKey w 4) = 16 + m)
    ∧ (∃ (d0 : Dev) (d : Dev) (w : Nat) (tm : Timing), d = d0.hostStart ∧ w < 8 ∧ d.hostTakes (winKey w 1) 0 tm = true ∧
      d.rd (winKey w 1) = 1 ∧ d.winInLane w = true)
    ∧ (∃ (d : Dev) (d' : Dev) (p : Nat) (n : Nat) (l : Oct) (t : List (Nat × Oct)) (bs : List Nat) (e : Dev) (f : Oct), e = d.setTow (fun
      x => { x with inbox := t }) ∧ f = leOct 6 (d.rd (peerKey n 3)) ++ leOct 6 (d.rd 0x600006) ++ beOct 2 (d.rd 0x600003) ++ patch (sub
        l (towAt l) (16 + leAt l (towAt l + 14) 2)) 4 [1] ∧ d.tow.inbox = (p, l) :: t ∧ d.towOn = true ∧ d.towKind l = 4 ∧
          d.peerOfNode (octAt l (towAt l + 3)) = some n ∧ d.rd 0x600007 = 1 ∧ (octAt l (towAt l + 4)).testBit 0 = false ∧
            d.rd (peerKey n 5) = 0xFF ∧ e.towAlloc n f.length = (some bs, d')) :=
  ⟨⟨((winUp.wr (opSlotKey 3) 2)), _, 8, tmw, rfl, by decide +kernel⟩,
   ⟨(((winUp.setOpSlot 3 (some ⟨wop 4 8 0, [], none, 8, false, some 0, 1, some (7, 9), 0⟩)).wr (opSlotKey 3) (1 + 65536 * 2))), _, 2, 3,
     (⟨wop 4 8 0, [], none, 8, false, some 0, 1, some (7, 9), 0⟩), ((7, 9)), rfl, by decide +kernel⟩,
   ⟨((with_ [(winKey 3 7, 254)])), _, 3, tmw, rfl, by decide +kernel⟩,
   ⟨(up.setWin 3 (fun x => { x with rsvAt := some 7 })), _, 3, 7, rfl, by decide +kernel⟩,
   ⟨((with_ [(winKey 3 3, 4), (winKey 3 4, 1)])), _, 3, tmw, rfl, by decide +kernel⟩,
   ⟨((with_ [(winKey 3 3, 4), (winKey 3 4, 18)])), _, 3, 2, tmw, rfl, by decide +kernel⟩,
   ⟨((with_ [(winKey 3 1, 1), (winKey 3 4, 1)])), _, 3, tmw, rfl, by decide +kernel⟩,
   ⟨((with_ [(winKey 3 1, 1), (winKey 3 3, 4), (winKey 3 4, 18)])), _, 3, 2, tmw, rfl, by decide +kernel⟩,
   ⟨((with_ [(winKey 3 1, 1)]).setLane 1 (fun x => { x with ops := [{ lop 3 8 3 with closed := false }] })), _, 3, tmw, rfl, by
     decide +kernel⟩,
   ⟨(((peerUp [(0x252002, 64), (0x252007, 2), (0x600007, 1), (peerKey 2 2, 9), (peerKey 2 5, 255)]).setPm (fun x =>
     { x with frees := [(0, 0, [2, 1])] })).setTow (fun x => { x with inbox := [(0, towF 1 9 6 5 0 0 (wop 3 8 0))] })), ((((((peerUp
       [(0x252002, 64), (0x252007, 2), (0x600007, 1), (peerKey 2 2, 9), (peerKey 2 5, 255)]).setPm (fun x =>
         { x with frees := [(0, 0, [2, 1])] })).setTow (fun x => { x with inbox := [(0, towF 1 9 6 5 0 0 (wop 3 8 0))] })).setTow (fun x
           => { x with inbox := ([]) })).towAlloc 2 62).2), 0, 2, (towF 1 9 6 5 0 0 (wop 3 8 0)), [], [2], _, _, rfl, rfl, by
             decide +kernel⟩⟩

theorem witness_SluiceWritesComplete :
    (∃ (d0 : Dev) (d : Dev) (e : Dev) (k : Nat) (tm : Timing), d = d0.hostStart ∧ e = d.sluTurn (sluKey k 1) ∧ k < 4 ∧
      d.hostTakes (sluKey k 1) 1 tm = true ∧ e.sluState k = 0)
    ∧ (∃ (d0 : Dev) (d : Dev) (e : Dev) (k : Nat) (tm : Timing), d = d0.hostStart ∧ e = d.sluTurn (sluKey k 1) ∧ k < 4 ∧
      d.hostTakes (sluKey k 1) 0 tm = true ∧ e.sluState k = 4)
    ∧ (∃ (d0 : Dev) (d : Dev) (v : Nat) (tm : Timing), d = d0.hostStart ∧ v < 2 ^ 8 ∧ d.hostTakes 0x680003 v tm = true)
    ∧ (∃ (d0 : Dev) (d : Dev) (v : Nat) (tm : Timing), d = d0.hostStart ∧ v < 2 ^ 8 ∧ d.hostTakes 0x680004 v tm = true)
    ∧ (∃ (d0 : Dev) (d : Dev) (v : Nat) (tm : Timing), d = d0.hostStart ∧ v < 2 ^ 8 ∧ d.hostTakes 0x680002 v tm = true)
    ∧ (∃ (d : Dev) (k : Nat), (d.sluOut k).ev.all (fun x => x.ckx != d.sluCkx) = true)
    ∧ (∃ (d : Dev) (k : Nat) (x : SluEv), (d.sluOut k).ev = some x ∧ x.ckx = d.sluCkx)
    ∧ (∃ (d : Dev) (k : Nat) (x : SluEv), (d.sluOut k).ev = some x ∧ x.ckx = d.sluCkx) :=
  ⟨⟨up, _, _, 1, tmw, rfl, rfl, by decide +kernel⟩,
   ⟨((with_ [(sluKey 1 11, 4)])), _, _, 1, tmw, rfl, rfl, by decide +kernel⟩,
   ⟨(((up.setImg 13 (fun _ => imgEff (1 :: zeros 551))).wr (sluKey 1 11) 2)), _, 2, tmw, rfl, by decide +kernel⟩,
   ⟨up, _, 0xF, tmw, rfl, by decide +kernel⟩,
   ⟨up, _, 0xFF, tmw, rfl, by decide +kernel⟩,
   ⟨up, 1, by decide +kernel⟩,
   ⟨((up.setSluOut 1 (fun x => { x with ev := some ⟨up.sluCkx, 5, 0, 0, 0, 0, none⟩ }))), 1, (⟨up.sluCkx, 5, 0, 0, 0, 0, none⟩), by
     decide +kernel⟩,
   ⟨((up.setSluOut 1 (fun x => { x with ev := some ⟨up.sluCkx, 5, 0, 0, 0, 0, none⟩ }))), 1, (⟨up.sluCkx, 5, 0, 0, 0, 0, none⟩), by
     decide +kernel⟩⟩

theorem witness_SluiceEventsComplete :
    (∃ (d : Dev) (e : Dev), e = d.advanceTo (d.slu.tickAt + 100000 + d.slu.lost) ∧ d.sluRuns = true)
    ∧ (∃ (d : Dev) (e : Dev) (k : Nat) (s : Nat) (p : Nat) (on : Nat), e = d.advanceTo (s + p * 4 + d.slu.lost) ∧ k < 4 ∧
      d.sluRuns = true ∧ (d.sluOut k).per = some (s, p, on))
    ∧ (∃ (d : Dev) (e : Dev) (k : Nat), e = d.advanceTo ((d.sluOut k).hbAt + (d.sluOut k).hbMs * 100000 + d.slu.lost) ∧ k < 4 ∧
      d.sluRuns = true ∧ d.sluState k = 1 ∧ (e.sluOut k).ev.all (fun x => x.ckx != e.sluCkx) = true)
    ∧ (∃ (d : Dev) (e : Dev) (k : Nat) (r : Oct), e = d.advanceTo ((d.sluOut k).since + (d.sluOut k).holdMs * 100000 + d.slu.lost) ∧
      k < 4 ∧ d.sluRuns = true ∧ d.sluState k = 2 ∧ e.sluCurve k = some r ∧ (e.sluOut k).ev.all (fun x => x.ckx != e.sluCkx) = true)
    ∧ (∃ (d : Dev) (e : Dev) (k : Nat), e = d.advanceTo ((d.sluOut k).since + (d.sluOut k).holdMs * 100000 + d.slu.lost) ∧ k < 4 ∧
      d.sluRuns = true ∧ d.sluState k = 2 ∧ e.sluCurve k = none ∧ (e.sluOut k).ev.all (fun x => x.ckx != e.sluCkx) = true)
    ∧ (∃ (d : Dev) (e : Dev) (k : Nat) (l0 : Nat) (r : Oct), e = d.advanceTo ((d.sluOut k).since + coastEnd r * 100000 + d.slu.lost) ∧
      k < 4 ∧ (d.sluOut k).coast = some (r, l0) ∧ d.sluRuns = true ∧ d.sluState k = 3 ∧
        (e.sluOut k).ev.all (fun x => x.ckx != e.sluCkx) = true)
    ∧ (∃ (d : Dev) (us : Nat), d.sluRuns = true ∧ d.slu.safeN = false ∧ d.rd 0x680005 ≤ us)
    ∧ (∃ (d : Dev) (us : Nat), d.sluRuns = true ∧ d.slu.safeN = true ∧ d.rd 0x680005 ≤ us)
    ∧ (∃ (d : Dev) (us : Nat), us < d.rd 0x680005)
    ∧ (∃ (d : Dev) (e : Dev) (t : Nat) (dt : Nat), e = d.tick dt ∧ t < 4 ∧ e.sluRuns = true ∧
      ((∀ p, (e.tacho t).prev = some p → e.rd (tachoKey t 3) * 100 ≤ e.sluNow - p)))
    ∧ (∃ (d : Dev) (e : Dev) (t : Nat), e = d.advanceTo ((d.tacho t).winAt + (d.tacho t).winMs * 100000 + d.slu.lost) ∧ t < 4 ∧
      d.sluRuns = true ∧ e.rd (tachoKey t 5) = 0)
    ∧ (∃ (d : Dev) (e : Dev) (t : Nat), e = d.advanceTo ((d.tacho t).winAt + (d.tacho t).winMs * 100000 + d.slu.lost) ∧ t < 4 ∧
      d.sluRuns = true ∧ e.rd (tachoKey t 5) = 0)
    ∧ (∃ (d : Dev) (e : Dev) (t : Nat) (k : Nat), e = d.advanceTo ((d.tacho t).winAt + (d.tacho t).winMs * 100000 + d.slu.lost) ∧
      t < 4 ∧ d.sluRuns = true ∧ e.on dBRG = false ∧ k < 4 ∧ (e.tacho t).out = k ∧ (e.tacho t).high = true ∧
        e.rpmOf t < e.rd (tachoKey t 5) ∧ e.rd (tachoKey t 7) ≤ (e.tacho t).run + 1 ∧ (e.tacho t).alarmed = false) :=
  ⟨⟨up, _, rfl, by decide +kernel⟩,
   ⟨(up.setSluOut 1 (fun x => { x with per := some (7, 5, 3) })), _, 1, 7, 5, 3, rfl, by decide +kernel⟩,
   ⟨((with_ [(sluKey 1 11, 1)])), _, 1, rfl, by decide +kernel⟩,
   ⟨(((up.setImg 13 (fun _ => imgEff (1 :: zeros 551))).wr (sluKey 1 11) 2)), _, 1, (((((((up.setImg 13 (fun _ => imgEff (1 :: zeros
     551))).wr (sluKey 1 11) 2)).advanceTo (((((up.setImg 13 (fun _ => imgEff (1 :: zeros 551))).wr (sluKey 1 11) 2)).sluOut (1)).since +
       ((((up.setImg 13 (fun _ => imgEff (1 :: zeros 551))).wr (sluKey 1 11) 2)).sluOut (1)).holdMs * 100000 + (((up.setImg 13 (fun _ =>
         imgEff (1 :: zeros 551))).wr (sluKey 1 11) 2)).slu.lost)).sluCurve (1)).getD [])), rfl, by decide +kernel⟩,
   ⟨((with_ [(sluKey 1 11, 2)])), _, 1, rfl, by decide +kernel⟩,
   ⟨((with_ [(sluKey 1 11, 3)]).setSluOut 1 (fun x => { x with coast := some (zeros 136, 5) })), _, 1, 5, (zeros 136), rfl, by
     decide +kernel⟩,
   ⟨up, 1000, by decide +kernel⟩,
   ⟨(up.setSlu (fun x => { x with safeN := true })), 1000, by decide +kernel⟩,
   ⟨((with_ [(0x680005, 5)])), 4, by decide +kernel⟩,
   ⟨(up.setTacho 1 (fun x => { x with prev := some 7, edges := 3 })), _, 1, 5, rfl, by decide, by decide +kernel, fun p h =>
     (Option.some.inj h) ▸ (by decide +kernel)⟩,
   ⟨((with_ [(tachoKey 1 5, 0)])), _, 1, rfl, by decide +kernel⟩,
   ⟨(((with_ [(tachoKey 1 5, 0)]).setDom dBRG (fun x => { x with st := .off }))), _, 1, rfl, by decide +kernel⟩,
   ⟨(((with_ [(tachoKey 1 5, 100), (tachoKey 1 7, 1), (sluKey 1 11, 1)]).setDom dBRG (fun x => { x with st := .off }) |>.setTacho 1 (fun
     x => { x with out := 1, high := true }))), _, 1, 1, rfl, by decide +kernel⟩⟩

theorem witness_TimeCommandsComplete :
    (∃ (d0 : Dev) (d : Dev) (e : Dev) (x : Dev) (y : Dev) (r : Dev) (c : Nat) (v : Nat) (tm : Timing), d = d0.hostStart ∧
      c = (v / 2 ^ 32 * 1000000000 + v % 2 ^ 32) * 4194304 ∧ e = d.noteClock d.clkRate ∧
        x = (((({ e with tm := { e.tm with clock := c, stepped := true } } : Dev).wr 0x700005 1).inc 0x700006).fire 91) ∧
          y = (if x.tallyDue then x.boundary true false else x.wr 0x740005 x.nextTally) ∧
            r = forEach (List.range 4) y (fun k z => z.chLateCheck k 0) ∧ v < 2 ^ 80 ∧ d.hostTakes 0x700002 v tm = true)
    ∧ (∃ (d0 : Dev) (d : Dev) (e : Dev) (x : Dev) (y : Dev) (r : Dev) (c : Nat) (ns : Int) (tm : Timing), d = d0.hostStart ∧
      c = ((d.tm.clock : Int) + ns * 4194304).toNat ∧ e = d.noteClock d.clkRate ∧
        x = (((({ e with tm := { e.tm with clock := c, stepped := true } } : Dev).wr 0x700005 1).inc 0x700006).fire 91) ∧
          y = (if x.tallyDue then x.boundary true false else x.wr 0x740005 x.nextTally) ∧
            r = forEach (List.range 4) y (fun k z => z.chLateCheck k 0) ∧ -2 ^ 63 ≤ ns ∧ ns < 2 ^ 63 ∧
              d.hostTakes 0x700003 (ofSigned 64 ns) tm = true)
    ∧ (∃ (d : Dev) (e : Dev) (k : Nat) (gap : Nat), gap = (d.chTarget k - d.clkLow) * 4194304 - d.tm.clock % 4194304 ∧
      e = (if d.chTarget k ≤ d.clkLow then d else d.tick ((gap + d.clkRate - 1) / d.clkRate)) ∧ k < 4 ∧ d.chArmed k = true)
    ∧ (∃ (d : Dev) (e : Dev) (k : Nat) (gap : Nat), gap = (d.chTarget k - d.clkLow) * 4194304 - d.tm.clock % 4194304 ∧
      e = (if d.chTarget k ≤ d.clkLow then d else d.tick ((gap + d.clkRate - 1) / d.clkRate)) ∧ k < 4 ∧ d.chArmed k = true)
    ∧ (∃ (d : Dev) (e : Dev) (k : Nat) (gap : Nat), gap = (d.chTarget k - d.clkLow) * 4194304 - d.tm.clock % 4194304 ∧
      e = (if d.chTarget k ≤ d.clkLow then d else d.tick ((gap + d.clkRate - 1) / d.clkRate)) ∧ k < 4 ∧ d.chArmed k = true)
    ∧ (∃ (d : Dev) (e : Dev) (k : Nat) (t : Nat), e = d.advanceTo (t + (d.rd (chKey k 5) + 9) / 10) ∧ k < 4 ∧ (d.chan k).pulse = some t)
    ∧ (∃ (d : Dev) (e : Dev), e = (((d.tick ((1000000000 * 4194304 - d.tm.clock % (1000000000 * 4194304) + d.clkRate - 1) /
      d.clkRate)).inc (chKey 3 9)).fire 87).latch 14 ∧ d.on dTIME = true ∧ d.rd (chKey 3 1) = 4 ∧ d.govHolds = false)
    ∧ (∃ (d : Dev) (e : Dev), e = (((d.tick ((1000000000 * 4194304 - d.tm.clock % (1000000000 * 4194304) + d.clkRate - 1) /
      d.clkRate)).inc (chKey 3 9)).fire 87).latch 14 ∧ d.on dTIME = true ∧ d.rd (chKey 3 1) = 4 ∧ d.govHolds = false)
    ∧ (∃ (d : Dev) (e : Dev) (k : Nat) (dt : Nat) (s : Nat) (n : Nat) (st : Nat) (pin : Bool) (rising : Bool), e = d.tick dt ∧
      st = e.rd (chKey k 7) ∧ k < 4 ∧ e.on dTIME = true ∧ e.rd (chKey k 1) = 3 ∧ (e.rd (chKey k 2)).testBit 2 = pin ∧
        (e.rd (chKey k 2)).testBit (if rising then 0 else 1) = true ∧ ((k = 3 → e.govHolds = false)) ∧
          ((k = 1 → pin = false → e.sluEvt1 = false)) ∧ e.stampAt 0 20 = (s, n))
    ∧ (∃ (d : Dev) (e : Dev) (k : Nat) (dt : Nat) (s : Nat) (n : Nat) (st : Nat) (pin : Bool) (rising : Bool), e = d.tick dt ∧
      st = e.rd (chKey k 7) ∧ k < 4 ∧ e.on dTIME = true ∧ e.rd (chKey k 1) = 3 ∧ (e.rd (chKey k 2)).testBit 2 = pin ∧
        (e.rd (chKey k 2)).testBit (if rising then 0 else 1) = true ∧ ((k = 3 → e.govHolds = false)) ∧
          ((k = 1 → pin = false → e.sluEvt1 = false)) ∧ e.stampAt 0 20 = (s, n))
    ∧ (∃ (d0 : Dev) (d : Dev) (k : Nat) (v : Nat) (tm : Timing), d = d0.hostStart ∧ k < 4 ∧ v < 8 ∧ d.hostTakes (chKey k 8) v tm = true)
    ∧ (∃ (d0 : Dev) (d : Dev) (e : Dev) (k : Nat) (s : Nat) (v : Nat) (c : Bool) (tm : Timing), d = d0.hostStart ∧
      s = (if c then 2 else 1) ∧ e = (d.wr (chKey k s) v).setChan k (fun x => ⟨!c || x.armed, none, false⟩) ∧ k < 4 ∧ v < 2 ^ 8 ∧
        d.hostTakes (chKey k s) v tm = true)
    ∧ (∃ (d0 : Dev) (d : Dev) (e : Dev) (k : Nat) (s : Nat) (v : Nat) (c : Bool) (tm : Timing), d = d0.hostStart ∧
      s = (if c then 2 else 1) ∧ e = (d.wr (chKey k s) v).setChan k (fun x => ⟨!c || x.armed, none, false⟩) ∧ k < 4 ∧ v < 2 ^ 8 ∧
        d.hostTakes (chKey k s) v tm = true) :=
  ⟨⟨up, _, _, _, _, _, _, (5 * 2 ^ 32 + 999999999), tmw, rfl, rfl, rfl, rfl, rfl, rfl, by decide +kernel⟩,
   ⟨up, _, _, _, _, _, _, -5, tmw, rfl, rfl, rfl, rfl, rfl, rfl, by decide +kernel⟩,
   ⟨((with_ [(chKey 1 1, 2)])), _, 1, _, rfl, rfl, by decide +kernel⟩,
   ⟨((with_ [(chKey 1 1, 1)]).setChan 1 (fun x => { x with armed := true })), _, 1, _, rfl, rfl, by decide +kernel⟩,
   ⟨((with_ [(chKey 1 1, 1), (chKey 1 3, 2)]).setChan 1 (fun x => { x with armed := true })), _, 1, _, rfl, rfl, by decide +kernel⟩,
   ⟨(up.setChan 1 (fun x => { x with pulse := some 7 })), _, 1, 7, rfl, by decide +kernel⟩,
   ⟨((with_ [(chKey 3 1, 4), (chKey 3 2, 8)])), _, rfl, by decide +kernel⟩,
   ⟨((with_ [(chKey 3 1, 4), (chKey 3 2, 0)])), _, rfl, by decide +kernel⟩,
   ⟨((with_ [(chKey 1 1, 3), (chKey 1 2, 1)])), _, 1, 5, (((((with_ [(chKey 1 1, 3), (chKey 1 2, 1)])).tick (5)).stampAt 0 20).1),
     (((((with_ [(chKey 1 1, 3), (chKey 1 2, 1)])).tick (5)).stampAt 0 20).2), _, false, true, rfl, rfl, by decide +kernel⟩,
   ⟨((with_ [(chKey 3 1, 3), (chKey 3 2, 6)])), _, 3, 5, (((((with_ [(chKey 3 1, 3), (chKey 3 2, 6)])).tick (5)).stampAt 0 20).1),
     (((((with_ [(chKey 3 1, 3), (chKey 3 2, 6)])).tick (5)).stampAt 0 20).2), _, true, false, rfl, rfl, by decide +kernel⟩,
   ⟨up, _, 1, 7, tmw, rfl, by decide +kernel⟩,
   ⟨up, _, _, 1, _, 2, false, tmw, rfl, rfl, rfl, by decide +kernel⟩,
   ⟨up, _, _, 1, _, 9, true, tmw, rfl, rfl, rfl, by decide +kernel⟩⟩

theorem witness_TallyCommandsComplete :
    (∃ (d : Dev) (n : Nat), n = (d.rd 0x740005 * 1000000000 * 4194304 - d.tm.clock + d.clkRate - 1) / d.clkRate ∧ d.on dTIME = true ∧
      d.rd 0x740001 = 1)
    ∧ (∃ (d0 : Dev) (d : Dev) (tm : Timing), d = d0.hostStart ∧ d.hostTakes 0x740003 1 tm = true)
    ∧ (∃ (d0 : Dev) (d : Dev) (per : Bool) (v : Nat) (k : Nat) (tm : Timing), d = d0.hostStart ∧
      k = (if per then 0x740002 else 0x740001) ∧ v < (if per then 2 ^ 16 else 2 ^ 8) ∧ d.hostTakes k v tm = true)
    ∧ (∃ (d0 : Dev) (d : Dev) (per : Bool) (v : Nat) (k : Nat) (tm : Timing), d = d0.hostStart ∧
      k = (if per then 0x740002 else 0x740001) ∧ v < (if per then 2 ^ 16 else 2 ^ 8) ∧ d.hostTakes k v tm = true) :=
  ⟨⟨((with_ [(0x740001, 1), (0x740005, 0)])), _, rfl, by decide +kernel⟩,
   ⟨up, _, tmw, rfl, by decide +kernel⟩,
   ⟨up, _, false, 1, 0x740001, tmw, rfl, by decide +kernel⟩,
   ⟨up, _, true, 60, 0x740002, tmw, rfl, by decide +kernel⟩⟩

theorem witness_InterruptAndFaultLogCommandsComplete :
    (∃ (d0 : Dev) (d : Dev) (t : Nat) (s : Nat) (tm : Timing), d = d0.hostStart ∧ t < 4 ∧ d.linkTakes tm = true ∧
      d.readAbort 0 (0x7810 + t) 3 0 0 = none ∧ d.offerTo t = some s)
    ∧ (∃ (d0 : Dev) (d : Dev) (t : Nat) (tm : Timing), d = d0.hostStart ∧ t < 4 ∧ d.linkTakes tm = true ∧
      d.readAbort 0 (0x7810 + t) 3 0 0 = none ∧ d.offerTo t = none)
    ∧ (∃ (d0 : Dev) (d : Dev) (s : Nat) (v : Nat) (tm : Timing), d = d0.hostStart ∧ s < 96 ∧ v < 2 ^ 8 ∧
      d.hostTakes (srcStateKey s) v tm = true)
    ∧ (∃ (d0 : Dev) (d : Dev) (v : Nat) (tm : Timing), d = d0.hostStart ∧ v < 2 ^ 96 ∧ d.hostTakes 0x780003 v tm = true)
    ∧ (∃ (d0 : Dev) (d : Dev) (t : Nat) (tm : Timing), d = d0.hostStart ∧ t < 4 ∧ d.hostTakes (tgtKey t 7) 1 tm = true)
    ∧ (∃ (d0 : Dev) (d : Dev) (t : Nat) (tm : Timing), d = d0.hostStart ∧ t < 4 ∧ d.hostTakes (tgtKey t 7) 2 tm = true)
    ∧ (∃ (d : Dev) (f : FaultRec) (t : List FaultRec) (e : Dev), e = (d.advanceTo ((d.ck / 4 + 1) * 4)).setFl (fun l =>
      { l with queue := t }) ∧ d.aon.osc = true ∧ d.aon.xtalStopped = false ∧ d.fl.queue = f :: t ∧ e.flMerges f = false)
    ∧ (∃ (d : Dev) (f : FaultRec) (t : List FaultRec) (e : Dev), e = (d.advanceTo ((d.ck / 4 + 1) * 4)).setFl (fun l =>
      { l with queue := t }) ∧ d.aon.osc = true ∧ d.aon.xtalStopped = false ∧ d.fl.queue = f :: t ∧ e.flMerges f = true)
    ∧ (∃ (d0 : Dev) (d : Dev) (v : Nat) (tm : Timing), d = d0.hostStart ∧ v < 2 ^ 16 ∧ d.hostTakes 0x7C0003 v tm = true)
    ∧ (∃ (d0 : Dev) (d : Dev) (tm : Timing), d = d0.hostStart ∧ d.hostTakes 0x7C0007 0xA5 tm = true) :=
  ⟨⟨((with_ [(srcStateKey 5, 1), (srcCfgKey 5, 0x2F)])), _, 1, 5, tmw, rfl, by decide +kernel⟩,
   ⟨up, _, 1, tmw, rfl, by decide +kernel⟩,
   ⟨up, _, 95, 1, tmw, rfl, by decide +kernel⟩,
   ⟨up, _, (2 ^ 95), tmw, rfl, by decide +kernel⟩,
   ⟨(up.setIntc (fun x => { x with faulted := [false, true] })), _, 1, tmw, rfl, by decide +kernel⟩,
   ⟨(up.setIntc (fun x => { x with faulted := [false, true] })), _, 1, tmw, rfl, by decide +kernel⟩,
   ⟨(up.setFl (fun x => { x with queue := [rec1] })), rec1, [], _, rfl, by decide +kernel⟩,
   ⟨(((with_ [(0x7C0002, 1), (0x7C0008, 5)]).setFl (fun x => { x with queue := [rec1], newest := some rec1 }))), rec1, [], _, rfl, by
     decide +kernel⟩,
   ⟨up, _, 0, tmw, rfl, by decide +kernel⟩,
   ⟨up, _, tmw, rfl, by decide +kernel⟩⟩

theorem witness_DictionaryRefusals :
    (∃ (idx : Nat), (∀ s, rowAt idx s = none))
    ∧ (∃ (idx : Nat), ((idx < 0x1000 ∨ (0x1900 ≤ idx ∧ idx < 0x1E00) ∨ (0x2700 ≤ idx ∧ idx < 0x3000) ∨ (0x3400 ≤ idx ∧
      idx < 0x3800) ∨ (0x3900 ≤ idx ∧ idx < 0x4000) ∨ (0x4800 ≤ idx ∧ idx < 0x5000) ∨ (0x5C00 ≤ idx ∧ idx < 0x6000) ∨ (0x6C00 ≤ idx ∧
        idx < 0x7000) ∨ 0x8000 ≤ idx)))
    ∧ (∃ (idx : Nat) (r : ObjRow) (r1 : ObjRow), rowAt idx 0 = some r ∧ rowAt idx 1 = some r1)
    ∧ (∃ (d : Dev) (ini : Nat) (idx : Nat) (sb : Nat) (ty : Nat) (data : Oct) (r : ObjRow), rowAt idx sb = some r ∧
      d.writeAbort r ini (objKey idx sb) 0 (leNat data) = none ∧ ty ≠ 0 ∧ ty ≠ r.ty.code)
    ∧ (∃ (d : Dev) (ini : Nat) (idx : Nat) (sb : Nat) (ty : Nat) (data : Oct) (r : ObjRow), rowAt idx sb = some r ∧ imgOf idx = none ∧
      d.writeAbort r ini (objKey idx sb) ty (leNat data) = none ∧ data.length ≠ r.ty.size)
    ∧ (∃ (d0 : Dev) (d : Dev) (idx : Nat) (sb : Nat) (ty : Nat) (off : Nat) (c : Nat) (data : Oct) (tm : Timing), d = d0.hostStart ∧
      idx < 2 ^ 16 ∧ sb < 2 ^ 8 ∧ ty < 2 ^ 8 ∧ off < 2 ^ 32 ∧ data.length < 2 ^ 16 ∧ d.linkTakes tm = true ∧
        ((∀ r, rowAt idx sb = some r → r.per ≠ .pw)) ∧ d.dictWrite 0 idx sb ty off data = .abort c d) :=
  ⟨⟨0, fun _ => rfl⟩,
   ⟨0xFFF, by decide⟩,
   ⟨0x1F00, (row0 0x1F00 0), (row0 0x1F00 1), by decide +kernel⟩,
   ⟨up, 3, 0x1F00, 1, 1, ([1, 0, 0, 0]), (row0 (0x1F00) (1)), by decide +kernel⟩,
   ⟨up, 3, 0x1F00, 1, 0, [1], (row0 (0x1F00) (1)), by decide +kernel⟩,
   ⟨up, _, 0, 0, 0, 0, 0x0101, [], tmw, rfl, by decide, by decide, by decide, by decide, by decide, by decide +kernel, fun r h =>
     (nomatch (show (none : Option ObjRow) = some r from h)), rfl⟩⟩

theorem witness_BooleansAndFaultCounters :
    (∃ (d : Dev) (ini : Nat) (idx : Nat) (sb : Nat) (ty : Nat) (data : Oct) (r : ObjRow), rowAt idx sb = some r ∧ r.ty = .bool8 ∧
      d.writeAbort r ini (objKey idx sb) ty (leNat data) = none ∧ data.length = 1 ∧ 1 < leNat data)
    ∧ (∃ (k : Nat) (d : Dev) (ini : Nat) (ty : Nat) (data : Oct) (r : ObjRow), k ∈ [0x780001, 0x7C0005, 0x7C0006, 0x7F0001, 0x7F0003] ∧
      rowOf k = some r ∧ d.writeAbort r ini k ty (leNat data) = none ∧ data.length = 4)
    ∧ (∃ (k : Nat), k ∈ [0x780001, 0x7C0005, 0x7C0006, 0x7F0001, 0x7F0003]) :=
  ⟨⟨up, 3, 0x1800, 2, 0, [2], (row0 (0x1800) (2)), by decide +kernel⟩,
   ⟨0x7C0005, up, 3, 0, ([1, 0, 0, 0]), (row0 0x7C00 5), by decide +kernel⟩,
   ⟨0x7F0003, by decide +kernel⟩⟩

theorem witness_ObjectQuery :
    (∃ (d : Dev) (ini : Nat) (ty : Nat) (data : Oct) (r : ObjRow), rowAt 0x1F00 1 = some r ∧
      d.writeAbort r ini 0x1F0001 ty (leNat data) = none ∧ data.length = 4)
    ∧ (∃ (idx : Nat) (sb : Nat) (c : Nat), findObj idx sb = .inl c)
    ∧ (∃ (idx : Nat) (sb : Nat) (c : Nat), findObj idx sb = .inl c)
    ∧ (∃ (v : Nat) (r : ObjRow), v < 2 ^ 24 ∧ rowAt (v / 256) (v % 256) = some r)
    ∧ (∃ (ini : Nat) (j : Nat), j ≠ ini) :=
  ⟨⟨up, 3, 0, ([1, 0, 0, 0]), (row0 0x1F00 1), by decide +kernel⟩,
   ⟨0, 0, 0x0101, rfl⟩,
   ⟨0x1F00, 200, 0x0102, rfl⟩,
   ⟨0x1F0001, (row0 0x1F00 1), by decide +kernel⟩,
   ⟨3, 0, by decide +kernel⟩⟩

theorem witness_SourceStateWrites :
    (∃ (d0 : Dev) (d : Dev) (s : Nat) (v : Nat) (tm : Timing), d = d0.hostStart ∧ s < 96 ∧ v < 2 ^ 8 ∧
      d.hostTakes (srcStateKey s) v tm = true)
    ∧ (∃ (d0 : Dev) (d : Dev) (s : Nat) (v : Nat) (tm : Timing), d = d0.hostStart ∧ s < 96 ∧ v < 2 ^ 8 ∧
      d.hostTakes (srcStateKey s) v tm = true)
    ∧ (∃ (d : Dev) (ini : Nat) (s : Nat) (ty : Nat) (data : Oct) (r : ObjRow), s < 96 ∧ levelSource s = true ∧
      rowOf (srcStateKey s) = some r ∧ d.writeAbort r ini (srcStateKey s) ty (leNat data) = none ∧ data.length = 1 ∧ 16 ≤ leNat data) :=
  ⟨⟨up, _, 5, 0xF1, tmw, rfl, by decide +kernel⟩,
   ⟨up, _, 92, 1, tmw, rfl, by decide +kernel⟩,
   ⟨up, 3, 77, 0, [16], (row0 0x7850 78), by decide +kernel⟩⟩

theorem witness_FaultedTargets :
    (∃ (d : Dev) (t : Nat), d.faulted t = true)
    ∧ (∃ (d0 : Dev) (d : Dev) (t : Nat) (s : Nat), d = d0.hostStart ∧ t < 4 ∧ s < 96 ∧ d.hostUp = true ∧ d.faulted t = true)
    ∧ (∃ (t : Nat), t < 4)
    ∧ (∃ (d : Dev) (t : Nat) (r : ObjRow), t < 4 ∧ rowAt (0x7810 + t) 7 = some r ∧ d.domAbort dCORE = none ∧ d.faulted t = false)
    ∧ (∃ (d : Dev) (ini : Nat) (t : Nat) (ty : Nat) (data : Oct) (r : ObjRow), t < 4 ∧ rowAt (0x7810 + t) 7 = some r ∧
      d.writeAbort r ini (tgtKey t 7) ty (leNat data) = none ∧ data.length = 1 ∧ leNat data ≠ 1 ∧ leNat data ≠ 2)
    ∧ (∃ (d : Dev) (ini : Nat) (t : Nat) (ty : Nat) (data : Oct) (r : ObjRow), t < 4 ∧ rowAt (0x7810 + t) 7 = some r ∧
      d.writeAbort r ini (tgtKey t 7) ty (leNat data) = none ∧ data.length = 1 ∧ leNat data = 1)
    ∧ (∃ (d : Dev) (ini : Nat) (t : Nat) (ty : Nat) (data : Oct) (r : ObjRow), t < 4 ∧ rowAt (0x7810 + t) 7 = some r ∧
      d.writeAbort r ini (tgtKey t 7) ty (leNat data) = none ∧ data.length = 1 ∧ leNat data = 2) :=
  ⟨⟨(up.setIntc (fun x => { x with faulted := [false, true] })), 1, by decide +kernel⟩,
   ⟨(up.setIntc (fun x => { x with faulted := [false, true] })), _, 1, 5, rfl, by decide +kernel⟩,
   ⟨3, by decide +kernel⟩,
   ⟨up, 1, (row0 0x7811 7), by decide +kernel⟩,
   ⟨(up.setIntc (fun x => { x with faulted := [false, true] })), 3, 1, 0, [3], (row0 0x7811 7), by decide +kernel⟩,
   ⟨(up.setIntc (fun x => { x with faulted := [false, true] })), 3, 1, 0, [1], (row0 0x7811 7), by decide +kernel⟩,
   ⟨(up.setIntc (fun x => { x with faulted := [false, true] })), 3, 1, 0, [2], (row0 0x7811 7), by decide +kernel⟩⟩

theorem witness_NewFaultLogEntry :
    (∃ (d : Dev) (n : Nat), n = (d.rd 0x7C0002 + 1) % 65536)
    ∧ (∃ (n : Nat), n < 65536) :=
  ⟨⟨up, (((up).rd 0x7C0002 + 1) % 65536), by decide +kernel⟩,
   ⟨65535, by decide +kernel⟩⟩

theorem witness_OwnersAndRefusals :
    (∃ (d : Dev) (b : Nat) (dst : Owner), ((dst = .zeroing → d.pooled b = true)) ∧ transferOk (d.ownerAfter b) dst = true)
    ∧ (∃ (d : Dev) (b : Nat) (dst : Owner), ((dst = .zeroing → d.pooled b = true)) ∧ transferOk (d.ownerAfter b) dst = false)
    ∧ (∃ (d0 : Dev) (d : Dev) (a : Nat) (b : Nat) (data : Oct) (ss : List Strike), d = d0.hostStart ∧ a < 2 ^ 24 ∧
      data.length < 2 ^ 16 ∧ strikesOk ss = true ∧ d.hostUp = true ∧
        (bargesOf a (min data.length 4096)).all (fun x => !d.lockClosed x) = true ∧ d.memCheck a data.length true = some (0x0203, b))
    ∧ (∃ (d0 : Dev) (d : Dev) (a : Nat) (n : Nat) (b : Nat) (ss : List Strike) (tm : Timing), d = d0.hostStart ∧ a < 2 ^ 24 ∧
      n < 2 ^ 16 ∧ strikesOk ss = true ∧ d.hostUp = true ∧ d.late 72 tm = false ∧
        (bargesOf a (min n 4096)).all (fun x => !d.lockClosed x) = true ∧ d.memCheck a n false = some (0x0203, b)) :=
  ⟨⟨up, 9, .txdma, by decide +kernel⟩,
   ⟨(up.setPm (fun x => { x with barges := [(9, ⟨.txdma, 0, false, false, none⟩)] })), 9, .rxdma, by decide +kernel⟩,
   ⟨(up.setPm (fun x => { x with barges := [(9, ⟨.txdma, 0, false, false, none⟩)] })), _, 2304, 9, [1], [], rfl, by decide +kernel⟩,
   ⟨(up.setPm (fun x => { x with barges := [(9, ⟨.txdma, 0, false, false, none⟩)] })), _, 2304, 1, 9, [], tmw, rfl, by decide +kernel⟩⟩

theorem witness_HostLinkWhileDownOrNotReady :
    (∃ (d0 : Dev) (d : Dev) (c : Instr), d = d0.hostStart ∧ ((d.linkAnswers = false ∨ d.link.ready = false)) ∧ c.wf = true ∧
      overLink c = true)
    ∧ (∃ (d0 : Dev) (d : Dev) (c : Instr), d = d0.hostStart ∧ ((d.linkAnswers = false ∨ d.link.ready = false)) ∧ c.wf = true ∧
      overLink c = true) :=
  ⟨⟨(up.setDom 1 (fun x => { x with st := .off })), _, (.dictRead 0x1000 1 0 0 tmw), rfl, by decide +kernel⟩,
   ⟨(up.setLk (fun x => { x with ready := false })), _, (.hostLinkReset 0 tmw), rfl, by decide +kernel⟩⟩

theorem witness_MemWriteFrame : ∃ (d0 : Dev) (d : Dev) (a : Nat) (data : Oct), d = d0.hostStart ∧ a < 2 ^ 24 ∧ data.length < 2 ^ 16 ∧
  d.hostUp = true ∧ (bargesOf a (min data.length 4096)).all (fun b => !d.lockClosed b) = true ∧ d.memCheck a data.length true = none ∧
    d.pm.bad = [] ∧ d.pm.upsets = [] ∧ d.quiet = true :=
  ⟨((up.setDom 2 (fun x => { x with st := .off }))), _, 0x1FFFFF, [7], rfl, by decide +kernel⟩

theorem witness_TransactionFrame :
    (∃ (d0 : Dev) (d : Dev) (k : Nat) (v : Nat) (tm : Timing), d = d0.hostStart ∧ k < 2 ^ 24 ∧ k ≠ 0x180003 ∧
      d.hostTakes k v tm = true ∧ (d.noteRx k).writeEffect 0 k v = .ok ((d.noteRx k).wr k v) ∧
        (((d.noteRx k).wr k v).answered []).quiet = true)
    ∧ (∃ (d0 : Dev) (d : Dev) (idx : Nat) (sb : Nat) (off : Nat) (len : Nat) (tm : Timing) (r : ObjRow) (body : Oct), d = d0.hostStart ∧
      idx < 2 ^ 16 ∧ sb < 2 ^ 8 ∧ off < 2 ^ 32 ∧ len < 2 ^ 16 ∧ d.linkTakes tm = true ∧ rowAt idx sb = some r ∧
        d.readAbort 0 idx sb off len = none ∧ imgOf idx = none ∧ ((idx / 256 ≠ 0x5A ∨ sb = 0)) ∧ claimObj (objKey idx sb) = false ∧
          body = leOct 2 r.ty.size ++ leOct r.ty.size (d.readObj 0 (objKey idx sb)) ∧ (d.answered body).quiet = true) :=
  ⟨⟨((up.setDom 2 (fun x => { x with st := .off }))), _, 0x7C0008, 5, tmw, rfl, by decide, by decide, by decide +kernel, rfl, by
    decide +kernel⟩,
   ⟨((up.setDom 2 (fun x => { x with st := .off }))), _, 0x7C00, 8, 0, 0, tmw, (row0 (0x7C00) (8)), (leOct 2 (row0 (0x7C00) (8)).ty.size
     ++ leOct (row0 (0x7C00) (8)).ty.size ((((up.setDom 2 (fun x => { x with st := .off }))).hostStart).readObj 0 (objKey (0x7C00)
       (8)))), rfl, by decide +kernel⟩⟩

end Sys2Proof.Tests
end

/-! ### Clocks (01): PLL lock loss, crystal stop and crystal restart (O9) -/

section
namespace Sys2Proof.Machine

/-- How a command completes from a queue and a device: its effect under the hypotheses of a clause is all there is to show. -/
theorem State.run_completes {c : Instr} {q : List Instr} {d e : Dev} {f : Dev → Dev} (hwf : c.wf = true) (he : f d = e) :
    State.run c ⟨q, d⟩ f = .next ⟨q, e.settle⟩ :=
  he ▸ State.run_wf ⟨q, d⟩ f hwf

/-- Loss of a lock that stands: counted, a reset of every domain but KEEP, then start-up or, while RESET_n is low, the PLL
alone (01 R34; 07 R233, R245). -/
theorem Dev.pllLoss_of_locked {d e : Dev} (h : d.aon.pll = true)
    (he : e = (((d.inc 0x220006).setAon (fun a => { a with pll := false, pllStart := none })).resetDomains butKeep).stagedGone) :
    d.pllLoss = if e.aon.rstLow then (e.wr 0x220002 5).pllRun else (e.startupBegin 5 .pllLock).pllStep := by
  subst he
  simp only [Dev.pllLoss, h, Bool.not_true, Bool.false_eq_true, if_false]

/-- What a stop or a brown-out ends costs no time. -/
@[simp] theorem Dev.interrupted_ck (d : Dev) : d.interrupted.ck = d.ck := rfl

/-- A stop of a crystal that runs: counted, the NV step collapsed, what runs interrupted, every domain but KEEP forced OFF
(01 R35). -/
theorem Dev.crystalStop_of_running {d e : Dev} (hosc : d.aon.osc = true) (hrun : d.aon.xtalStopped = false)
    (he : e = (d.inc 0x220007).nvCollapse.sluStopClock) :
    d.crystalStop = (e.interrupted.setAon (fun a =>
      { a with osc := false, pll := false, pllStart := none, xtalStopped := true, stopAt := e.ck })).forceOff butKeep true := by
  subst he
  simp only [Dev.crystalStop, hosc, hrun, Bool.not_true, Bool.or_self, Bool.false_eq_true, if_false,
    Dev.interrupted_ck]

/-- A restart of a crystal that stands: the transition under way is moved on by the time of the stop, what is staged is
discarded, start-up runs from step 1 with cause 3, and the latches that waited are served (01 R36; 07 R234). -/
theorem Dev.crystalRestart_of_stopped {d e : Dev} (hstop : d.aon.xtalStopped = true)
    (he : e = d.setAon (fun a => { a with
      osc := true, xtalStopped := false, tempAt := d.ck,
      trans := a.trans.map (fun (t : Trans) => { t with start := t.start + (d.ck - a.stopAt) }) })) :
    d.crystalRestart =
      (({ e.sluStartClock with sup := { d.sup with energyAt := d.ck } } : Dev).stagedGone.flEmpty.startupBegin 3 .trims).wakeNow := by
  subst he
  simp only [Dev.crystalRestart, hstop, Bool.not_true, Bool.false_eq_true, if_false, Dev.setAon_sup, Dev.setAon_ck]

/-- Settles O9: each command is the run of its effect (`exec_pllLockLoss` and its like), whose guard the clause's hypotheses open. -/
theorem clockCommandsComplete : Obligations.ClockCommandsComplete := by
  unfold Obligations.ClockCommandsComplete
  refine ⟨fun q d hpll => ?lockLoss, fun q d hosc hrun => ?stop, fun q d hstop => ?restart⟩
  case lockLoss =>
    rw [exec_pllLockLoss]
    exact State.run_completes rfl (Dev.pllLoss_of_locked hpll rfl)
  case stop =>
    rw [exec_crystalStop]
    exact State.run_completes rfl (Dev.crystalStop_of_running hosc hrun rfl)
  case restart =>
    rw [exec_crystalRestart]
    exact State.run_completes rfl (Dev.crystalRestart_of_stopped hstop rfl)

end Sys2Proof.Machine
end

/-! ### What follows a command in a quiet device (18 R623)

Each part of Dev.settle leaves the device as it is where the state names nothing for it to do. -/

section
namespace Sys2Proof.Machine

/-- Nothing changes where each element leaves the state as it is. -/
theorem forEach_eq_self {α σ : Type} {l : List α} {s : σ} {f : α → σ → σ} (h : ∀ x ∈ l, f x s = s) : forEach l s f = s := by
  unfold forEach
  induction l with
  | nil => rfl
  | cons x t ih =>
    rw [List.foldl_cons, h x List.mem_cons_self]
    exact ih fun y hy => h y (List.mem_cons_of_mem x hy)

theorem Dev.coreRequest_eq_self {d : Dev} (h : d.aon.coreDue = none) : d.coreRequest = d := by
  simp only [Dev.coreRequest, h]

theorem Dev.transAsk_eq_self {d : Dev} (h : d.aon.trans.all (fun t => !t.waiting) = true) : d.transAsk = d := by
  cases ht : d.aon.trans with
  | none => simp only [Dev.transAsk, ht]
  | some t =>
    have begun : t.waiting = false := by simpa [ht] using h
    simp [Dev.transAsk, ht, begun]

theorem Dev.transBegins_eq_self {d : Dev} (h : d.aon.trans.all (fun t => !t.waiting) = true) (late : Nat) :
    d.transBegins late = d := by
  cases ht : d.aon.trans with
  | none => simp only [Dev.transBegins, ht]
  | some t =>
    have begun : t.waiting = false := by simpa [ht] using h
    simp [Dev.transBegins, ht, begun]

theorem Dev.startupWatch_eq_self {d : Dev} (hcore : d.aon.startup ≠ .coreOn) (hnvm : d.aon.startup ≠ .nvLoad) :
    d.startupWatch = d := by
  unfold Dev.startupWatch
  split
  · exact absurd ‹_› hcore
  · exact absurd ‹_› hnvm
  · rfl

theorem Dev.nvmAfter_eq_self {d : Dev} (h : d.aon.nvmOffAfter = false) : d.nvmAfter = d := by
  simp [Dev.nvmAfter, h]

theorem Dev.regulator_eq_self {d : Dev} (h : d.sup.regPend = false) : d.regulator = d := by
  simp [Dev.regulator, h]

/-- With no level of VBAK_OK waiting for its hold, the one that counts already does. -/
theorem Dev.vbakSettle_eq_self {d : Dev} (h : d.sup.vbakDue = none) : d.vbakSettle = d := by
  have settled : d.vbakLevel = d.sup.vbakOk := by simp only [Dev.vbakLevel, h]
  simp only [Dev.vbakSettle, settled, Dev.setSup, ← h, ite_self]

theorem Dev.clockGate_eq_self {d : Dev} (hpll : d.pllNeeded = true ∨ d.aon.pll = false ∧ d.aon.pllStart = none)
    (hosc : d.oscNeeded = true ∨ d.aon.osc = false) : d.clockGate = d := by
  have pll_stays : (if d.pllNeeded then d else d.setAon (fun a => { a with pll := false, pllStart := none })) = d := by
    rcases hpll with h | ⟨hp, hs⟩
    · rw [if_pos h]
    · simp only [Dev.setAon, ← hp, ← hs, ite_self]
  have osc_stays : (d.oscNeeded || !d.aon.osc) = true := by simpa using hosc
  simp only [Dev.clockGate, pll_stays, osc_stays, if_true]

theorem Dev.nvKick_eq_self {d : Dev} (h : d.nv.step.isSome = true ∨ d.on dNVM = false) : d.nvKick = d := by
  rcases h with h | h <;> simp [Dev.nvKick, h]

theorem Dev.dropClaims_of_nil {d : Dev} (h : d.claims = []) (p : Claim → Bool) : d.dropClaims p = d := by
  rw [Dev.dropClaims, show d.claims.filter (fun c => !p c) = d.claims by rw [h, List.filter_nil]]

theorem Dev.chanClaims_eq_self {d : Dev} (hnone : d.claims = [])
    (h : d.domEff dTIME = .off ∨ d.rd (chKey 3 1) = 0 ∧ d.chUsesEvt1 = false) : d.chanClaims = d := by
  rcases h with h | ⟨h3, h1⟩
  · rw [Dev.chanClaims, if_pos h]
  · simp [Dev.chanClaims, h3, h1, Dev.dropClaims_of_nil hnone]

theorem Dev.brgCredits_eq_self {d : Dev} (heth : d.brg.ethHeld = []) (htow : d.brg.towHeld = []) : d.brgCredits = d := by
  have eth_stays (p : Nat → Bool) : d.brg.ethHeld.filter p = d.brg.ethHeld := by rw [heth, List.filter_nil]
  have tow_stays (p : Nat → Bool) : d.brg.towHeld.filter p = d.brg.towHeld := by rw [htow, List.filter_nil]
  simp only [Dev.brgCredits, eth_stays, tow_stays, Dev.setBrg]

theorem Dev.towPumpAll_eq_self {d : Dev} (h : d.towOn = false ∨ ∀ n < 16, (d.sess n).waiting = [] ∧ (d.sess n).ctl = []) :
    d.towPumpAll = d := by
  rcases h with hoff | hidle
  · simp [Dev.towPumpAll, hoff]
  · have none_sent : ∀ n ∈ List.range 16, (forEach (d.sess n).ctl d fun k d => d.towCtl n k) = d ∧ (d.sess n).waiting = [] :=
      fun n hn => by simp [forEach, hidle n (List.mem_range.1 hn)]
    refine ite_eq_right_iff.2 fun _ => forEach_eq_self fun n hn => ?_
    simp [none_sent n hn]

theorem Dev.issueRun_eq_self {d : Dev} (h : d.tow.todo = []) (k : Nat) : d.issueRun k = d := by
  cases k with
  | zero => rfl
  | succ k => simp only [Dev.issueRun, h]

theorem Dev.heldRelease_eq_self {d : Dev} (h : d.cls.held = []) : d.heldRelease = d := by
  simp [Dev.heldRelease, h]

theorem Dev.poundMove_eq_self {d : Dev} {p : Nat} (h : d.poundState p ≠ 1) : d.poundMove p = d := by
  simp [Dev.poundMove, h]

theorem Dev.pauseWatch_eq_self {d : Dev} {p : Nat} (h : (d.on (macDom p) && d.flag (macKey 0x3820 p 1) 1) = false) :
    d.pauseWatch p = d := by
  refine if_neg fun hc => ?_
  simp only [Bool.and_eq_true] at hc
  simp [hc] at h

theorem Dev.tsoRelease_eq_self {d : Dev} {p : Nat} (h : (d.mac p).tsoOff = false) : d.tsoRelease p = d := by
  simp [Dev.tsoRelease, h]

theorem Dev.tsoUnclaim_eq_self {d : Dev} (h : d.claims = []) (p : Nat) : d.tsoUnclaim p = d := by
  simp [Dev.tsoUnclaim, h]

/-- In a quiet device nothing follows a command but the level sources. -/
theorem Dev.settle_of_quiet {d : Dev} (h : d.quiet = true) : d.settle = d.levels := by
  simp only [Dev.quiet, Bool.and_eq_true, Bool.or_eq_true, Bool.not_eq_eq_eq_not, Bool.not_true, bne_iff_ne, ne_eq, beq_iff_eq,
    Option.isNone_iff_eq_none, List.isEmpty_iff, List.all_eq_true, List.mem_range] at h
  obtain ⟨⟨⟨⟨⟨⟨⟨⟨⟨⟨⟨⟨⟨⟨⟨⟨⟨⟨hdue, htrans⟩, hcore⟩, hload⟩, hnvm⟩, hreg⟩, hpll⟩, hosc⟩, hnv⟩, hchan⟩, hclaims⟩, heth⟩, htow⟩, hsess⟩,
    htodo⟩, hheld⟩, hpound⟩, hvbak⟩, hports⟩ := h
  have pounds_stay : forEach (List.range 16) d (fun p d => d.poundMove p) = d :=
    forEach_eq_self fun p hp => Dev.poundMove_eq_self (hpound p (List.mem_range.1 hp))
  have ports_stay : forEach [0, 1] d (fun p d => ((d.pauseWatch p).tsoRelease p).tsoUnclaim p) = d :=
    forEach_eq_self fun p hp => by
      obtain ⟨hpause, htso⟩ := hports p hp
      rw [Dev.pauseWatch_eq_self hpause, Dev.tsoRelease_eq_self htso, Dev.tsoUnclaim_eq_self hclaims]
  unfold Dev.settle
  simp only [Dev.coreRequest_eq_self hdue, Dev.transAsk_eq_self htrans, Dev.transBegins_eq_self htrans,
    Dev.startupWatch_eq_self hcore hload, Dev.nvmAfter_eq_self hnvm, Dev.regulator_eq_self hreg, Dev.vbakSettle_eq_self hvbak,
    Dev.clockGate_eq_self hpll hosc, Dev.nvKick_eq_self hnv, Dev.chanClaims_eq_self hclaims hchan,
    Dev.brgCredits_eq_self heth htow, Dev.towPumpAll_eq_self hsess, Dev.issueRun_eq_self htodo, Dev.heldRelease_eq_self hheld,
    pounds_stay, ports_stay]

/-! The level sources change SRC_STATE of sources 3, 77 and 92 alone (18 R623). -/

theorem Dev.levelSet_store (d : Dev) (s : Nat) : ∃ st, d.levelSet s = { d with store := st } := by
  unfold Dev.levelSet
  split
  · exact ⟨_, rfl⟩
  · exact ⟨d.store, rfl⟩

theorem Dev.rd_levelSet_other (d : Dev) {s k : Nat} (h : k ≠ srcStateKey s) : (d.levelSet s).rd k = d.rd k := by
  unfold Dev.levelSet
  split
  · exact Dev.rd_wr_other d _ h
  · rfl

/-- The level sources change nothing but objects. -/
theorem Dev.levels_store (d : Dev) : ∃ st, d.levels = { d with store := st } := by
  obtain ⟨_, h3⟩ := d.levelSet_store 3
  obtain ⟨_, h77⟩ := (d.levelSet 3).levelSet_store 77
  obtain ⟨st, h92⟩ := ((d.levelSet 3).levelSet 77).levelSet_store 92
  exact ⟨st, by rw [Dev.levels, h92, h77, h3]⟩

/-- The level sources change no object but SRC_STATE of sources 3, 77 and 92. -/
theorem Dev.rd_levels_other (d : Dev) {k : Nat} (h3 : k ≠ srcStateKey 3) (h77 : k ≠ srcStateKey 77) (h92 : k ≠ srcStateKey 92) :
    d.levels.rd k = d.rd k := by
  rw [Dev.levels, Dev.rd_levelSet_other _ h92, Dev.rd_levelSet_other _ h77, Dev.rd_levelSet_other _ h3]

end Sys2Proof.Machine
end

/-! ### Memory commands of the host link (03 R108-R114) -/

section
namespace Sys2Proof.Machine

/-! #### The words an access reads and the locks it waits for -/

/-- An access to barges that no running lock cycle holds waits for nothing (09 R305). -/
theorem Dev.awaitOpen_of_open {d : Dev} {bs : List Nat} (h : bs.all (fun b => !d.lockClosed b) = true) :
    d.awaitOpen bs = d := by
  refine forEach_eq_self fun bk _ => if_neg ?_
  simp only [List.all_eq_true, Bool.not_eq_eq_eq_not, Bool.not_true, List.any_eq_true, Bool.and_eq_true] at h ⊢
  rintro ⟨b, hb, -, hclosed⟩
  simp [h b hb] at hclosed

/-- No word of the list holds an error, one that a read has found or one that no read has found yet. -/
def Dev.errorFree (d : Dev) (ws : List Nat) : Bool :=
  ws.all (fun w => !d.pm.bad.contains w && d.pm.upsets.all (fun s => strikeWord s != w))

/-- Words without an error are read without a finding, and the device stays as it is (09 R310, R311). -/
theorem Dev.eccScan_of_clean {d : Dev} {ws : List Nat} (h : d.errorFree ws = true) : d.eccScan ws [] = ([], d) := by
  simp only [Dev.errorFree, List.all_eq_true, Bool.and_eq_true, Bool.not_eq_eq_eq_not, Bool.not_true, bne_iff_ne, ne_eq] at h
  have none_failed : ws.filter (fun w => d.pm.bad.contains w) = [] :=
    List.filter_eq_nil_iff.2 fun w hw => by simpa using (h w hw).1
  have missed : ∀ s ∈ d.pm.upsets, strikeWord s ∉ ws := fun s hs hw => (h _ hw).2 s hs rfl
  have no_hit : d.pm.upsets.filter (fun s => ws.contains (strikeWord s)) = [] :=
    List.filter_eq_nil_iff.2 fun s hs => by simp [missed s hs]
  have all_stay : d.pm.upsets.filter (fun s => !ws.contains (strikeWord s)) = d.pm.upsets :=
    List.filter_eq_self.2 fun s hs => by simp [missed s hs]
  simp only [Dev.eccScan, List.append_nil, no_hit, all_stay, List.filter_nil, List.map_nil, List.eraseDups_nil,
    none_failed, forEach, List.foldl_nil]

/-- No octet is masked where no word failed. -/
@[simp] theorem maskFailed_nil (a : Nat) (l : Oct) : maskFailed [] a l = l := by
  induction l generalizing a with
  | nil => rfl
  | cons v t ih => simp [maskFailed, ih]

/-- A read past an empty buffer, of words without an error, gives the octets of memory (03 R112). -/
theorem Dev.memFetch_of_clean {d : Dev} {a n : Nat} (h : d.errorFree (wordsOf a n) = true) :
    d.memFetch a n [] none = (d.memAt a n, [], d) := by
  have all_read : (wordsOf a n).filter (fun _ => !false) = wordsOf a n := List.filter_eq_self.2 fun _ _ => rfl
  simp only [Dev.memFetch, Option.any_none, all_read, Dev.eccScan_of_clean h, maskFailed_nil]

/-- The partial words of a write are merged without a finding where memory holds no error (09 R314). -/
theorem Dev.mergeScan_of_clean {d : Dev} {a n : Nat} (hbad : d.pm.bad = []) (hups : d.pm.upsets = []) :
    d.mergeScan a n [] = d := by
  have clean : d.eccScan (partWords a n) [] = ([], d) := Dev.eccScan_of_clean (by simp [Dev.errorFree, hbad, hups])
  have hb : d.pm.bad.filter (fun w => !(wordsOf a n).contains w) = d.pm.bad := by simp [hbad]
  have hu : d.pm.upsets.filter (fun s => !(wordsOf a n).contains (strikeWord s)) = d.pm.upsets := by simp [hups]
  simp only [Dev.mergeScan, clean, hb, hu, forEach, List.foldl_nil]

/-- A write into memory that holds no error changes its octets alone. -/
theorem Dev.writeMem_of_clean {d : Dev} {a : Nat} {v : Oct} (hbad : d.pm.bad = []) (hups : d.pm.upsets = []) :
    d.writeMem a v = d.setPm (fun m => { m with mem := memWrite m.mem a v }) := by
  simp only [Dev.writeMem, Dev.mergeScan_of_clean hbad hups, Dev.setPm]

/-- No error comes about with an empty list of them. -/
@[simp] theorem Dev.strike_nil (d : Dev) : d.strike [] = d := by
  simp only [Dev.strike, List.append_nil]

/-! #### The commands that pass their checks -/

/-- An access that passes its checks is of at most 4,096 octets (03 R108). -/
theorem Dev.le_of_memCheck {d : Dev} {a n : Nat} {write : Bool} (h : d.memCheck a n write = none) : n ≤ 4096 := by
  refine Nat.le_of_not_lt fun hn => ?_
  have too_long : (decide (n = 0) || decide (4096 < n)) = true := by rw [decide_eq_true hn, Bool.or_true]
  rw [Dev.memCheck, if_pos too_long] at h
  exact nomatch h

/-- An access to barges that no running lock cycle holds, of a length that passes its checks, waits for nothing. -/
theorem Dev.awaitOpen_of_checked {d : Dev} {a n : Nat} {write : Bool}
    (hopen : (bargesOf a n).all (fun b => !d.lockClosed b) = true) (hc : d.memCheck a n write = none) :
    d.awaitOpen (bargesOf a (min n 4096)) = d := by
  rw [Nat.min_eq_left (Dev.le_of_memCheck hc)]
  exact Dev.awaitOpen_of_open hopen

/-- The device after a read has found these words uncorrectable: the first of them is logged (03 R111; 19 Table 19.4). -/
def Dev.readLogged (d : Dev) (n : Nat) : List Nat → Dev
  | [] => d
  | w :: _ => d.fault 9 dCORE 0x0701 w n 0

/-- A read of all its octets that passes its checks: from memory alone with acquire, from the buffer and followed by a read-ahead
without (03 R111, R112). -/
theorem Dev.memReadNow_whole {d e : Dev} {a n : Nat} {ss : List Strike} {acquire : Bool} {l : Oct} {failed : List Nat} {f : Dev}
    (he : d.awaitOpen (bargesOf a (min n 4096)) = e) (hc : e.memCheck a n false = none)
    (hr : e.memFetch a n ss (if acquire then none else e.link.ra) = (l, failed, f)) :
    d.memReadNow a n ss none acquire =
      (if acquire then f.readLogged n failed else (f.readLogged n failed).readAhead a n).sayOk
        (l ++ [if failed.isEmpty then 0 else 1]) := by
  subst he
  cases failed <;> simp [Dev.memReadNow, hc, hr, readTail, Dev.readLogged]

/-- MEM_READ in time that passes its checks (03 R111, R112). -/
theorem Dev.hostMemRead_reads {d e : Dev} {a n : Nat} {ss : List Strike} {tm : Timing} {l : Oct} {failed : List Nat} {f : Dev}
    (hup : d.hostUp = true) (hlate : d.late 72 tm = false) (he : d.awaitOpen (bargesOf a (min n 4096)) = e)
    (hc : e.memCheck a n false = none) (hr : e.memFetch a n ss e.link.ra = (l, failed, f)) :
    d.hostMemRead a n ss none tm =
      ((f.readLogged n failed).readAhead a n).sayOk (l ++ [if failed.isEmpty then 0 else 1]) := by
  simp only [Dev.hostMemRead, Dev.hostCmd_of_up _ hup, hlate, Bool.false_eq_true, if_false]
  exact Dev.memReadNow_whole (acquire := false) he hc hr

/-- MEM_READ past an empty buffer, of open barges and words without an error, gives the octets of memory (03 R111, R112). -/
theorem Dev.hostMemRead_of_clean {d : Dev} {a n : Nat} {tm : Timing} (hup : d.hostUp = true) (hlate : d.late 72 tm = false)
    (hopen : (bargesOf a n).all (fun b => !d.lockClosed b) = true) (hc : d.memCheck a n false = none) (hra : d.link.ra = none)
    (hclean : d.errorFree (wordsOf a n) = true) :
    d.hostMemRead a n [] none tm = (d.readAhead a n).sayOk (d.memAt a n ++ [0]) := by
  have octets : d.memFetch a n [] d.link.ra = (d.memAt a n, [], d) := by rw [hra, Dev.memFetch_of_clean hclean]
  rw [Dev.hostMemRead_reads hup hlate (Dev.awaitOpen_of_checked hopen hc) hc octets, Dev.readLogged, List.isEmpty_nil, if_pos rfl]

/-- The link after a write of `n` octets at `a` that ended at `t`: that CK kept for the bound of R91, and the read-ahead buffer emptied
where it overlaps (03 R110, R113). -/
def Dev.linkWrote (d : Dev) (t a n : Nat) : Dev :=
  d.setLk (fun l => { l with wrote := some t, ra := l.ra.filter (fun x => !(a < x.1 + 64 && x.1 < a + n)) })

/-- MEM_WRITE that passes its checks: the octets stored, the CK of its end kept for the bound of R91, and the read-ahead buffer
emptied where it overlaps (03 R110, R113). -/
theorem Dev.hostMemWrite_stores {d e : Dev} {a : Nat} {data : Oct} {ss : List Strike} (hup : d.hostUp = true)
    (he : d.awaitOpen (bargesOf a (min data.length 4096)) = e) (hc : e.memCheck a data.length true = none) :
    d.hostMemWrite a data ss = (((e.strike ss).writeMem a data).linkWrote e.ck a data.length).sayOk [] := by
  subst he
  simp only [Dev.hostMemWrite, Dev.hostCmd_of_up _ hup, hc, Dev.linkWrote]

/-- MEM_WRITE that passes its checks, of open barges in memory without an error, changes the octets it stores and the link
alone (03 R110, R113). -/
theorem Dev.hostMemWrite_of_clean {d : Dev} {a : Nat} {data : Oct} (hup : d.hostUp = true)
    (hopen : (bargesOf a data.length).all (fun b => !d.lockClosed b) = true) (hc : d.memCheck a data.length true = none)
    (hbad : d.pm.bad = []) (hups : d.pm.upsets = []) :
    d.hostMemWrite a data [] =
      ((d.setPm (fun m => { m with mem := memWrite m.mem a data })).linkWrote d.ck a data.length).sayOk [] := by
  rw [Dev.hostMemWrite_stores hup (Dev.awaitOpen_of_checked hopen hc) hc, Dev.strike_nil, Dev.writeMem_of_clean hbad hups]

/-! #### MEM_READ_ACQUIRE -/

/-- A lane in which no write waits has nothing to apply first (03 R114). -/
theorem Dev.laneDrain_of_no_writes {d : Dev} {i : Nat} (h : ∀ x ∈ (d.lane i).ops, opCode x.op ≠ 3 ∧ opCode x.op ≠ 4) (n : Nat) :
    d.laneDrain i n = d := by
  have none_waits : (d.lane i).ops.any (fun x => opCode x.op == 3 || opCode x.op == 4) = false := by
    simpa using h
  cases n <;> simp [Dev.laneDrain, none_waits]

/-- Every line of the remote read cache dropped. -/
theorem Dev.cacheDrop_all (d : Dev) : d.cacheDrop (fun _ => true) = d.setTow (fun t => { t with cache := [] }) := by
  have none_left (l : List CacheLine) : l.filter (fun _ => !true) = [] := List.filter_eq_nil_iff.2 fun _ _ => Bool.false_ne_true
  simp only [Dev.cacheDrop, none_left]

/-- MEM_READ_ACQUIRE in time, with no write of a peer waiting: the buffer and the remote read cache emptied, then the read
(03 R113, R114; 15 R550). -/
theorem Dev.hostMemAcquire_reads {d e : Dev} {a n : Nat} {ss : List Strike} {left : Option Nat} {tm : Timing}
    (hup : d.hostUp = true) (hlate : d.late 200 tm = false)
    (hlanes : ∀ i < 4, ∀ x ∈ (d.lane i).ops, opCode x.op ≠ 3 ∧ opCode x.op ≠ 4)
    (he : e = (d.setLk (fun l => { l with ra := none })).setTow (fun t => { t with cache := [] })) :
    d.hostMemAcquire a n ss left tm = e.memReadNow a n ss left true := by
  have same_lane : ∀ i, e.lane i = d.lane i := fun _ => by rw [he]; rfl
  have undrained : forEach (List.range 4) e (fun i d => d.laneDrain i (2 * (d.lane i).ops.length)) = e :=
    forEach_eq_self fun i hi => Dev.laneDrain_of_no_writes (same_lane i ▸ hlanes i (List.mem_range.1 hi)) _
  simp only [Dev.hostMemAcquire, Dev.hostCmd_of_up _ hup, hlate, Bool.false_eq_true, if_false, Dev.cacheDrop_all, ← he, undrained]

/-- MEM_READ_ACQUIRE of open barges and words without an error, with no write of a peer waiting, gives the octets of memory
(03 R111, R113, R114). -/
theorem Dev.hostMemAcquire_of_clean {d e : Dev} {a n : Nat} {tm : Timing} (hup : d.hostUp = true) (hlate : d.late 200 tm = false)
    (hopen : (bargesOf a n).all (fun b => !d.lockClosed b) = true) (hc : d.memCheck a n false = none)
    (hclean : d.errorFree (wordsOf a n) = true)
    (hlanes : ∀ i < 4, ∀ x ∈ (d.lane i).ops, opCode x.op ≠ 3 ∧ opCode x.op ≠ 4)
    (he : e = (d.setLk (fun l => { l with ra := none })).setTow (fun t => { t with cache := [] })) :
    d.hostMemAcquire a n [] none tm = e.sayOk (d.memAt a n ++ [0]) := by
  have same_pm : e.pm = d.pm := by rw [he, Dev.setTow_pm, Dev.setLk_pm]
  have same_locks : ∀ b, e.lockClosed b = d.lockClosed b := fun b => by rw [Dev.lockClosed, same_pm, Dev.lockClosed]
  have same_check : e.memCheck a n false = d.memCheck a n false := by rw [he]; rfl
  have same_octets : e.memAt a n = d.memAt a n := by rw [Dev.memAt, same_pm, Dev.memAt]
  rw [Dev.hostMemAcquire_reads hup hlate hlanes he, ← same_octets]
  simp only [← same_locks, ← same_check, Dev.errorFree, ← same_pm] at hopen hc hclean
  exact Dev.memReadNow_whole (acquire := true) (Dev.awaitOpen_of_checked hopen hc) hc (Dev.memFetch_of_clean hclean)

/-! #### The octets of the requests (03 R84, Table 3.2) -/

/-- A field of a request is the number its octets spell (03 R86). -/
theorem reqField_eq (l : Oct) (i n : Nat) : reqField l i n = leNat ((l.drop i).take n) := by
  unfold reqField
  induction (l.drop i).take n with
  | nil => rfl
  | cons b t ih => rw [List.foldr_cons, ih, leNat]

/-- A value that fits reads back from its place among the octets of a request. -/
theorem reqField_leOct (x t : Oct) {n v i : Nat} (hi : x.length = i) (hv : v < 256 ^ n) :
    reqField (x ++ (leOct n v ++ t)) i n = v := by
  rw [reqField_eq, List.drop_left' hi, List.take_left' (leOct_length n v), leNat_leOct n v hv]

/-- The address a memory command begins with (03 Table 3.2). -/
theorem reqField_addr {a : Nat} (ha : a < 2 ^ 24) (t : Oct) : reqField (leOct 3 a ++ t) 0 3 = a :=
  reqField_leOct [] t rfl ha

/-- The length that follows the address of a memory command (03 Table 3.2). -/
theorem reqField_len {n : Nat} (a : Nat) (hn : n < 2 ^ 16) (t : Oct) : reqField (leOct 3 a ++ (leOct 2 n ++ t)) 3 2 = n :=
  reqField_leOct _ t (leOct_length 3 a) hn

/-- As reqField_len, of a request that ends with the length. -/
theorem reqField_len_last {n : Nat} (a : Nat) (hn : n < 2 ^ 16) : reqField (leOct 3 a ++ leOct 2 n) 3 2 = n := by
  simpa using reqField_len a hn []

/-- The octets of MEM_READ in single width (03 R84, R85, Table 3.2). -/
theorem hostRequest_memRead {a n : Nat} (ha : a < 2 ^ 24) (hn : n < 2 ^ 16) (ss : List Strike) (left : Option Nat) (t r : Nat) :
    hostRequest (0x21 :: (leOct 3 a ++ leOct 2 n)) ss left t r = .memRead a n ss left ⟨8 * t, r⟩ := by
  calc hostRequest (0x21 :: (leOct 3 a ++ leOct 2 n)) ss left t r
      = (requestOf 0x21 (leOct 3 a ++ leOct 2 n) ss left ⟨8 * t, r⟩).getD .csEarlyRise := rfl
    _ = .memRead a n ss left ⟨8 * t, r⟩ := by
      simp [requestOf, reqField_addr ha, reqField_len_last a hn]

/-- The octets of MEM_READ_ACQUIRE in quad width (03 R84, R85, Table 3.2). -/
theorem hostRequest_memReadAcquire {a n : Nat} (ha : a < 2 ^ 24) (hn : n < 2 ^ 16) (ss : List Strike) (left : Option Nat)
    (t r : Nat) :
    hostRequest (0xA3 :: (leOct 3 a ++ leOct 2 n)) ss left t r = .memReadAcquire a n ss left ⟨2 * t, r⟩ := by
  calc hostRequest (0xA3 :: (leOct 3 a ++ leOct 2 n)) ss left t r
      = (requestOf 0x23 (leOct 3 a ++ leOct 2 n) ss left ⟨2 * t, r⟩).getD .csEarlyRise := rfl
    _ = .memReadAcquire a n ss left ⟨2 * t, r⟩ := by
      simp [requestOf, reqField_addr ha, reqField_len_last a hn]

/-- The octets of MEM_WRITE in single width (03 R84, Table 3.2). -/
theorem hostRequest_memWrite {a : Nat} {data : Oct} (ha : a < 2 ^ 24) (hn : data.length < 2 ^ 16) (ss : List Strike)
    (left : Option Nat) (t r : Nat) :
    hostRequest (0x22 :: (leOct 3 a ++ leOct 2 data.length ++ data)) ss left t r = .memWrite a data ss := by
  have hlen := reqField_len a hn data
  have complete : ¬(leOct 3 a ++ (leOct 2 data.length ++ data)).length < 5 + data.length := by
    simp only [List.length_append, leOct_length]
    omega
  have payload : (leOct 3 a ++ (leOct 2 data.length ++ data)).drop 5 = data := by
    rw [← List.append_assoc]
    exact List.drop_left' (by simp)
  rw [List.append_assoc]
  calc hostRequest (0x22 :: (leOct 3 a ++ (leOct 2 data.length ++ data))) ss left t r
      = (requestOf 0x22 (leOct 3 a ++ (leOct 2 data.length ++ data)) ss left ⟨8 * t, r⟩).getD .csEarlyRise := rfl
    _ = .memWrite a data ss := by
      simp only [requestOf, hlen, if_neg complete, payload, List.take_length, Option.getD_some, reqField_addr ha]

/-! #### What the commands complete with -/

/-- An address and a length that R108 lets pass, and errors that lie in packet memory, are those of a command of the device. -/
theorem wf_memRead {a n : Nat} {ss : List Strike} (left : Option Nat) (tm : Timing) (ha : a < 2 ^ 24) (hn : n ≤ 4096)
    (hss : strikesOk ss = true) : (Instr.memRead a n ss left tm).wf = true := by
  simp only [Instr.wf, hss, Bool.and_eq_true, decide_eq_true_eq, and_true]
  omega

/-- As wf_memRead, of MEM_READ_ACQUIRE. -/
theorem wf_memReadAcquire {a n : Nat} {ss : List Strike} (left : Option Nat) (tm : Timing) (ha : a < 2 ^ 24) (hn : n ≤ 4096)
    (hss : strikesOk ss = true) : (Instr.memReadAcquire a n ss left tm).wf = true :=
  wf_memRead left tm ha hn hss

/-- As wf_memRead, of MEM_WRITE. -/
theorem wf_memWrite {a : Nat} {data : Oct} {ss : List Strike} (ha : a < 2 ^ 24) (hn : data.length ≤ 4096)
    (hss : strikesOk ss = true) : (Instr.memWrite a data ss).wf = true :=
  wf_memRead none ⟨0, 0⟩ ha hn hss

/-- Settles O13: each command is the run of its effect (`exec_memRead` and its like), which `hostMemRead_reads`, `hostMemWrite_stores` and
`hostMemAcquire_reads` give; without errors the scan of the words finds nothing (`eccScan_of_clean`). -/
theorem memoryCommandsComplete : Obligations.MemoryCommandsComplete := by
  unfold Obligations.MemoryCommandsComplete
  refine ⟨?read, ?readClean, ?write, ?writeClean, ?acquire, ?octets⟩
  case read =>
    rintro q d0 d e a n ss tm rfl rfl ha hss hup hlate hc
    rw [exec_memRead]
    refine State.run_eq (wf_memRead none tm ha (Dev.le_of_memCheck hc) hss) ?_
    rw [Dev.hostMemRead_reads hup hlate rfl hc rfl]
    rfl
  case readClean =>
    rintro q d0 d a n tm rfl ha hup hlate hopen hc hra hclean
    rw [exec_memRead]
    exact State.run_eq (wf_memRead none tm ha (Dev.le_of_memCheck hc) rfl)
      (Dev.hostMemRead_of_clean hup hlate hopen hc hra hclean)
  case write =>
    rintro q d0 d e a data ss rfl rfl ha hss hup hc hlen
    rw [exec_memWrite]
    exact State.run_eq (wf_memWrite ha (Dev.le_of_memCheck hc) hss) (Dev.hostMemWrite_stores hup rfl hc)
  case writeClean =>
    rintro q d0 d a data rfl ha hup hopen hc hbad hups
    rw [exec_memWrite]
    exact State.run_eq (wf_memWrite ha (Dev.le_of_memCheck hc) rfl) (Dev.hostMemWrite_of_clean hup hopen hc hbad hups)
  case acquire =>
    rintro q d0 d a n tm rfl ha hup hlate hopen hc hclean hlanes
    rw [exec_memReadAcquire]
    exact State.run_eq (wf_memReadAcquire none tm ha (Dev.le_of_memCheck hc) rfl)
      (Dev.hostMemAcquire_of_clean hup hlate hopen hc hclean hlanes rfl)
  case octets =>
    intro a n t r data ss left ha hn hdata
    exact ⟨hostRequest_memRead ha hn ss left t r, hostRequest_memReadAcquire ha hn ss left t r,
      hostRequest_memWrite ha hdata ss left t r⟩

end Sys2Proof.Machine
end

/-! ### STATUS_POLL, DOORBELL and INT_COMPLETE (03 R115-R118) -/

section
namespace Sys2Proof.Machine

/-- STATUS_POLL of a link that answers: the octets of Table 3.5, and LINK_ERR cleared (03 R118). -/
theorem Dev.hostPoll_answers {d : Dev} (h : d.linkAnswers = true) :
    d.hostPoll = d.setLk (fun l => { l with response := 0 :: d.pollOctets, linkErr := false }) := by
  rw [Dev.hostPoll, if_pos h]
  rfl

/-- An index lies within the range a doorbell may move a ring's to: of a TX ring from RING_HOST on, RING_N ahead of RING_DEV at most;
of an RX ring up to RING_DEV (10 R336, R337). -/
def Dev.bellInRange (d : Dev) (r i : Nat) : Prop :=
  if isTxRing r then
    sub16 (d.ringHost r) (d.ringDev r) ≤ sub16 i (d.ringDev r) ∧ sub16 i (d.ringDev r) ≤ d.ringN r
  else sub16 (d.ringDev r) i ≤ sub16 (d.ringDev r) (d.ringHost r)

/-- A doorbell within range, of a ring that is RUNNING or STOPPING and not the bridge's, moves RING_HOST (03 R116). -/
theorem Dev.doorbell_of_inRange {d : Dev} {r i : Nat} (hr : r < 56) (hst : d.ringState r = 1 ∨ d.ringState r = 2)
    (hbrg : d.brgRing r = false) (hon : d.on dPM0 = true) (hi : d.bellInRange r i) :
    d.doorbell r i = .ok (d.wr (ringKey r 4) i) := by
  have known : ¬nRings ≤ r := Nat.not_le_of_lt hr
  have running : (d.ringState r != 1 && d.ringState r != 2) = false := by
    rcases hst with h | h <;> simp [h]
  unfold Dev.bellInRange at hi
  by_cases htx : isTxRing r = true <;>
    simpa [Dev.doorbell, known, running, hbrg, hon, htx] using hi

/-- DOORBELL within range: RING_HOST moved, the read-ahead buffer emptied (03 R113, R115, R116). -/
theorem Dev.hostBell_of_inRange {d : Dev} {r i : Nat} (hup : d.hostUp = true) (hr : r < 56)
    (hst : d.ringState r = 1 ∨ d.ringState r = 2) (hbrg : d.brgRing r = false) (hon : d.on dPM0 = true)
    (hi : d.bellInRange r i) :
    d.hostBell r i = ((d.setLk (fun l => { l with ra := none })).wr (ringKey r 4) i).sayOk [] := by
  have rung := Dev.doorbell_of_inRange (d := d.setLk (fun l => { l with ra := none })) hr hst hbrg hon hi
  simp only [Dev.hostBell, Dev.hostCmd_of_up _ hup, rung]

/-- A ring the device has and an index of 16 bits are those of a command of the device. -/
theorem wf_doorbell {r i : Nat} (hr : r < 56) (hi : i < 2 ^ 16) : (Instr.doorbell r i).wf = true := by
  simp only [Instr.wf, Bool.and_eq_true, decide_eq_true_eq]
  omega

/-- INT_COMPLETE of the source on top of a target's stack takes it off (03 R117; 18 R634). -/
theorem Dev.hostComplete_of_top {d : Dev} {t s : Nat} (hup : d.hostUp = true) (ht : t < 4) (hs : s < 96) (hf : d.faulted t = false)
    (htop : (d.stack t).head?.map (·.1) = some s) : d.hostComplete t s = (d.popTop t).sayOk [] := by
  have known : (decide (3 < t) || decide (95 < s)) = false := by
    rw [decide_eq_false (by omega), decide_eq_false (by omega), Bool.or_false]
  have popped : d.intComplete t s = (0, d.popTop t) := by simp [Dev.intComplete, hf, htop]
  simp only [Dev.hostComplete, Dev.hostCmd_of_up _ hup, known, popped, Bool.false_eq_true, if_false, if_true]

/-- Settles O14: each command is the run of its effect (`exec_statusPoll` and its like), which `hostPoll_answers`, `hostBell_of_inRange`
and `hostComplete_of_top` give. -/
theorem pollBellCompleteCommandsComplete : Obligations.PollBellCompleteCommandsComplete := by
  unfold Obligations.PollBellCompleteCommandsComplete
  refine ⟨?poll, ?txBell, ?rxBell, ?complete⟩
  case poll =>
    rintro q d0 d rfl hans
    rw [exec_statusPoll]
    exact State.run_eq rfl (Dev.hostPoll_answers hans)
  case txBell =>
    rintro q d0 d r i rfl hr htx hi hup hst hbrg hon hlow hhigh
    have inRange : d0.hostStart.bellInRange r i := by
      rw [Dev.bellInRange, if_pos htx]
      exact ⟨hlow, hhigh⟩
    rw [exec_doorbell]
    exact State.run_eq (wf_doorbell hr hi) (Dev.hostBell_of_inRange hup hr hst hbrg hon inRange)
  case rxBell =>
    rintro q d0 d r i rfl hr hrx hi hup hst hbrg hon hrange
    have inRange : d0.hostStart.bellInRange r i := by
      rw [Dev.bellInRange, hrx]
      exact hrange
    rw [exec_doorbell]
    exact State.run_eq (wf_doorbell hr hi) (Dev.hostBell_of_inRange hup hr hst hbrg hon inRange)
  case complete =>
    rintro q d0 d t s rfl ht hs hup hf htop
    have hwf : (Instr.intComplete t s).wf = true := by
      simp only [Instr.wf, Bool.and_eq_true, decide_eq_true_eq]
      omega
    rw [exec_intComplete]
    exact State.run_eq hwf (Dev.hostComplete_of_top hup ht hs hf htop)

end Sys2Proof.Machine
end

/-! ### Remote transactions and reissues (03 R99-R107) -/

section
namespace Sys2Proof.Machine

/-- A transaction for a peer whose session is OPEN takes the lowest free slot, is answered RETRY and goes to the peer
(03 R99, R106, R107; 15 R554). -/
theorem Dev.hostRemote_of_open {d : Dev} {peer s : Nat} (hup : d.hostUp = true) (hpeer : peer < 16) (hs : d.freeSlot = some s)
    (htow : d.towOn = true) (hopen : d.peerState peer = 2) (cmd idx sb ty off len : Nat) (data : Oct) :
    d.hostRemote cmd peer idx sb ty off len data =
      ((d.retry s cmd peer idx sb none).setLk (fun l => { l with remotes := l.remotes ++ [⟨peer, s, cmd, idx, sb, 0⟩] })).towQueue
        peer (opRecord (cmd - 0x58) s 0 off len idx sb ty ++ data) := by
  have known : ¬15 < peer := Nat.not_lt_of_le (Nat.le_of_lt_succ hpeer)
  have reachable : (!d.towOn || d.peerState peer != 2) = false := by simp [htow, hopen]
  simp only [Dev.hostRemote, Dev.hostCmd_of_up _ hup, hs, known, reachable, Bool.false_eq_true, if_false]

/-- A reissue of a READY slot frees it and gives its result (03 R103, R104). -/
theorem Dev.hostReissue_of_ready {d : Dev} {cmd tag s : Nat} {x : Slot} {r : Res} (hup : d.hostUp = true)
    (hs : d.link.slots.findIdx? (fun o => o.any (fun x => x.tag == tag && x.cmd == cmd)) = some s) (hx : d.slot s = some x)
    (hr : x.res = some r) : d.hostReissue cmd tag = (d.setSlot s none).sayRes r := by
  simp only [Dev.hostReissue, Dev.hostCmd_of_up _ hup, hs, hx, Option.bind_some, hr]

/-- Settles O15: each command is the run of its effect (`exec_dictReadRemote` and its like), which `hostRemote_of_open` and
`hostReissue_of_ready` give. -/
theorem retryCommandsComplete : Obligations.RetryCommandsComplete := by
  unfold Obligations.RetryCommandsComplete
  refine ⟨?read, ?write, ?reissue⟩
  case read =>
    rintro q d0 d peer idx sb off len s rfl hpeer hidx hsb hoff hlen hup hs htow hopen
    have hwf : (Instr.dictReadRemote peer idx sb off len).wf = true := by
      simp only [Instr.wf, Bool.and_eq_true, decide_eq_true_eq]
      omega
    rw [exec_dictReadRemote]
    exact State.run_eq hwf (by rw [Dev.hostRemote_of_open hup hpeer hs htow hopen, List.append_nil])
  case write =>
    rintro q d0 d peer idx sb ty off s data rfl hpeer hidx hsb hty hoff hlen hup hs htow hopen
    have hwf : (Instr.dictWriteRemote peer idx sb ty off data).wf = true := by
      simp only [Instr.wf, Bool.and_eq_true, decide_eq_true_eq]
      omega
    rw [exec_dictWriteRemote]
    exact State.run_eq hwf (Dev.hostRemote_of_open hup hpeer hs htow hopen ..)
  case reissue =>
    rintro q d0 d cmd tag s x r rfl hcmd htag htag' hup hs hx hr
    have hwf : (Instr.reissue cmd tag).wf = true := by
      simp only [Instr.wf, Bool.and_eq_true, decide_eq_true_eq, List.contains_iff_mem]
      exact ⟨⟨hcmd, htag⟩, htag'⟩
    rw [exec_reissue]
    exact State.run_eq hwf (Dev.hostReissue_of_ready hup hs hx hr)

end Sys2Proof.Machine
end

/-! ### The frame of MEM_WRITE (03 R110; 18 R623) -/

section
namespace Sys2Proof.Machine

/-- A quiet device with another packet memory and another link settles to itself with those, but for objects, and for no object but
SRC_STATE of the level sources: what follows by itself depends neither on packet memory nor on the link. -/
theorem Dev.settle_of_quiet_apart {d e : Dev} (he : e = { d with pm := e.pm, link := e.link }) (hquiet : d.quiet = true) :
    (∃ st, e.settle = { d with pm := e.pm, link := e.link, store := st })
      ∧ ∀ k, k ≠ srcStateKey 3 → k ≠ srcStateKey 77 → k ≠ srcStateKey 92 → e.settle.rd k = d.rd k := by
  have same_quiet : e.quiet = d.quiet := by rw [he]; rfl
  have same_rd (k : Nat) : e.rd k = d.rd k := by rw [he]; rfl
  rw [Dev.settle_of_quiet (same_quiet.trans hquiet)]
  obtain ⟨st, hst⟩ := e.levels_store
  refine ⟨⟨st, ?_⟩, fun k h3 h77 h92 => (Dev.rd_levels_other e h3 h77 h92).trans (same_rd k)⟩
  rw [hst]
  exact congrArg (fun x : Dev => { x with store := st }) he

/-- Settles O58: the device of `hostMemWrite_of_clean` differs from the one before in packet memory and the link alone, so what
follows is the level sources (`settle_of_quiet_apart`); of its memory `memGet_memWrite_in` and `memGet_memWrite_out` say the rest. -/
theorem memWriteFrame : Obligations.MemWriteFrame := by
  unfold Obligations.MemWriteFrame
  rintro q d0 d a data hd ha - hup hopen hc hbad hups hquiet
  have hlen := Dev.le_of_memCheck hc
  rw [Nat.min_eq_left hlen] at hopen
  obtain ⟨e, he⟩ : ∃ e, e =
    ((d.setPm (fun m => { m with mem := memWrite m.mem a data })).linkWrote d.ck a data.length).sayOk [] := ⟨_, rfl⟩
  have hpm : e.pm = { d.pm with mem := memWrite d.pm.mem a data } := by rw [he]; rfl
  have hlink : e.link = { d.link with seq := e.link.seq, response := [0], ra := e.link.ra, wrote := some d.ck } := by rw [he]; rfl
  obtain ⟨⟨st, hset⟩, hrd⟩ := Dev.settle_of_quiet_apart (show e = { d with pm := e.pm, link := e.link } by rw [he]; rfl) hquiet
  have hmem : e.settle.pm.mem = memWrite d.pm.mem a data := by rw [hset, hpm]
  refine ⟨e.settle, ?runs, ?inside, ?outside, ?canonical, ?rest, ?link, hrd⟩
  case runs =>
    rw [exec_memWrite]
    exact State.run_eq (wf_memWrite ha hlen rfl) (by rw [← hd, Dev.hostMemWrite_of_clean hup hopen hc hbad hups, he])
  case inside => exact fun i hi => hmem ▸ memGet_memWrite_in _ _ _ i hi
  case outside => exact fun x hx => hmem ▸ memGet_memWrite_out _ _ _ x hx
  case canonical => exact fun hwf => hmem ▸ memWrite_wf hwf a data
  case rest => rw [hset, hpm]
  case link =>
    rw [hset]
    exact hlink

end Sys2Proof.Machine
end

/-! ### The objects of a job slot (04 Table 4.5)

Which objects the passing of time and the writes of one slot leave alone. -/

section
namespace Sys2Proof.Machine

/-- The index of a slot's object lies in the job range, 16 for each slot. -/
theorem jobKey_div (n : Nat) {i : Nat} (hi : i < 256) : jobKey n i / 256 = 0x2310 + 0x10 * n := by
  unfold jobKey
  omega

/-- The subindex of a slot's object. -/
theorem jobKey_mod (n : Nat) {i : Nat} (hi : i < 256) : jobKey n i % 256 = i := by
  unfold jobKey
  omega

/-- Objects of a slot with different subindices differ. -/
theorem jobKey_ne (n : Nat) {i j : Nat} (h : i ≠ j) : jobKey n i ≠ jobKey n j := by
  unfold jobKey
  omega

/-- The objects of the four slots lie below those of the clock, the tally and the interrupt controller. -/
theorem jobKey_lt {n i : Nat} (hn : n < 4) (hi : i < 256) : jobKey n i < 0x240000 := by
  unfold jobKey
  omega

/-- A write of another object of the slot leaves its kind. -/
theorem Dev.jobKind_wr_other (d : Dev) (n : Nat) {i : Nat} (v : Nat) (hi : 1 ≠ i) :
    (d.wr (jobKey n i) v).jobKind n = d.jobKind n :=
  Dev.rd_wr_other d v (jobKey_ne n hi)

/-- What every step of a loop leaves as it was, the loop leaves as it was. -/
theorem forEach_unchanged {α σ β : Type} (g : σ → β) {f : α → σ → σ} (h : ∀ x s, g (f x s) = g s) (l : List α) (s : σ) :
    g (forEach l s f) = g s := by
  unfold forEach
  induction l generalizing s with
  | nil => rfl
  | cons x t ih => exact (ih (f x s)).trans (h x s)

/-- An event changes no object but SRC_STATE of its source (18 R623, R624). -/
theorem Dev.rd_fire_other (d : Dev) {s k : Nat} (h : k ≠ srcStateKey s) : (d.fire s).rd k = d.rd k := by
  unfold Dev.fire
  split
  · unfold Dev.srcEvent Dev.setPending
    dsimp only
    split <;> exact Dev.rd_wr_other d _ h
  · rfl

/-- The half-range flags and their events change no object below 74_0000h (17 R617). -/
theorem Dev.rd_halfFlag_of_lt (d : Dev) (b x y : Nat) {k : Nat} (h : k < 0x740000) : (d.halfFlag b x y).rd k = d.rd k := by
  unfold Dev.halfFlag
  split
  · rw [Dev.rd_fire_other _ (by unfold srcStateKey; omega), Dev.rd_wr_other _ _ (by omega)]
  · rfl

/-- A port's counter changes no object below 74_0000h (17 R611). -/
theorem Dev.rd_cnt_of_lt (d : Dev) (p i n : Nat) {k : Nat} (h : k < 0x740000) : (d.cnt p i n).rd k = d.rd k := by
  unfold Dev.cnt
  split
  · rw [Dev.cntRaise, Dev.rd_halfFlag_of_lt _ _ _ _ h, Dev.rd_wr_other _ _ (by omega)]
  · rfl

/-- A port's counters of time change no object below 74_0000h (17 Table 17.2). -/
theorem Dev.rd_tickPort_of_lt (d : Dev) (n p : Nat) {k : Nat} (h : k < 0x740000) : (d.tickPort n p).rd k = d.rd k := by
  have counted (e : Dev) (c : Prop) [Decidable c] (i m : Nat) : (if c then e else e.cnt p i m).rd k = e.rd k := by
    split
    · rfl
    · exact Dev.rd_cnt_of_lt e p i m h
  unfold Dev.tickPort
  split
  · simp only [counted]
    rfl
  · rfl

/-- The passing of time itself changes no object (01 R21). -/
@[simp] theorem Dev.rd_pass (d : Dev) (n k : Nat) : (d.pass n).rd k = d.rd k := by
  have same_store : (d.pass n).store = d.store := (apply_ite Dev.store ..).trans (ite_self _)
  rw [Dev.rd, same_store, Dev.rd]

/-- While time passes no object below 74_0000h changes. -/
theorem Dev.rd_tick_of_lt (d : Dev) (n : Nat) {k : Nat} (h : k < 0x740000) : (d.tick n).rd k = d.rd k := by
  have ports (e : Dev) : (e.tickPorts n).rd k = e.rd k := by
    unfold Dev.tickPorts
    split
    · exact forEach_unchanged (fun x : Dev => x.rd k) (fun p x => Dev.rd_tickPort_of_lt x n p h) _ e
    · rfl
  unfold Dev.tick
  split
  · rfl
  · rw [ports, Dev.rd_pass]

/-- A slot keeps its kind while time moves on. -/
theorem Dev.jobKind_advanceTo (d : Dev) {n : Nat} (t : Nat) (hn : n < 4) : (d.advanceTo t).jobKind n = d.jobKind n :=
  Dev.rd_tick_of_lt d _ (Nat.lt_trans (jobKey_lt hn (by decide)) (by decide))

end Sys2Proof.Machine
end

/-! ### The four commands of a job slot (04 R131-R136, R144, R147) -/

section
namespace Sys2Proof.Machine

/-- A slot that becomes RUNNING, SUSPENDING or CANCELLING fires nothing (04 R142). -/
theorem Dev.setJob_silent (d : Dev) (n : Nat) {st : Nat} (h : st = 1 ∨ st = 2 ∨ st = 4) : d.setJob n st = d.wr (jobKey n 3) st := by
  rcases h with rfl | rfl | rfl <;> rfl

/-- A slot that becomes SUSPENDED or CANCELLED fires its source (04 R142). -/
theorem Dev.setJob_fires (d : Dev) (n : Nat) {st : Nat} (h : st = 3 ∨ st = 7) :
    d.setJob n st = (d.wr (jobKey n 3) st).fire (8 + n) := by
  rcases h with rfl | rfl <;> rfl

/-- A host's write of JOB_COMMAND that nothing refuses is the job engine's (04 R130). -/
theorem Dev.hostPut_jobCommand {d e : Dev} {n v : Nat} {tm : Timing} (hn : n < 4) (h : d.hostTakes (jobKey n 2) v tm = true)
    (he : d.jobEffect 0 (jobKey n 2) v = .ok e) : d.hostPut (jobKey n 2) v tm = e.answered [] := by
  have below := jobKey_lt hn (show 2 < 256 by decide)
  have noSetting : ∀ m < 4, (List.range 4).all (fun p => !rxSetting p (jobKey m 2)) = true := by decide
  have range : jobKey n 2 / 0x10000 = 0x23 := by unfold jobKey at below ⊢; omega
  refine Dev.hostPut_ok h (by omega) ?_
  rw [Dev.noteRx_of_none (noSetting n hn), Dev.writeEffect, range]
  exact he

/-- The slot whose JOB_COMMAND is written. -/
theorem jobKey_slot (n : Nat) : (jobKey n 2 / 256 - 0x2310) / 16 = n := by
  rw [jobKey_div n (by decide)]
  omega

/-- JOB_COMMAND is one of the objects of a slot that have an effect beyond their value. -/
theorem jobKey_isCommand (n : Nat) : ¬(jobKey n 2 / 256 < 0x2310 || jobKey n 2 % 256 ≠ 2) = true := by
  simp [jobKey_div, jobKey_mod]

/-- START of a job that fits in the journal and claims no probe slots (04 R131, R136). -/
theorem Dev.jobEffect_start {d : Dev} {n : Nat} (ini : Nat) (hfits : d.jobKind n ≤ 3 → d.nvStartFits (d.jobKind n) = true)
    (hprobes : d.jobProbes n = none) : d.jobEffect ini (jobKey n 2) 1 = .ok (d.jobStart n) := by
  have fits : ¬((d.jobKind n ≤ 3 && !d.nvStartFits (d.jobKind n)) = true) := by simpa using hfits
  simp only [Dev.jobEffect, if_neg (jobKey_isCommand n), jobKey_slot, if_neg fits, hprobes]

/-- SUSPEND of a RUNNING job (04 R133). -/
theorem Dev.jobEffect_suspend_running {d : Dev} {n : Nat} (ini : Nat) (hst : d.jobState n = 1) :
    d.jobEffect ini (jobKey n 2) 2 = .ok ((d.setJobU n (fun u => { u with askAt := d.ck })).wr (jobKey n 3) 2) := by
  simp only [Dev.jobEffect, if_neg (jobKey_isCommand n), jobKey_slot, if_pos hst, Dev.setJob_silent _ _ (.inr (.inl rfl))]

/-- SUSPEND of a job that is not RUNNING (04 R132). -/
theorem Dev.jobEffect_suspend_again {d : Dev} {n : Nat} (ini : Nat) (hst : d.jobState n ≠ 1) :
    d.jobEffect ini (jobKey n 2) 2 = .ok d := by
  simp only [Dev.jobEffect, if_neg (jobKey_isCommand n), jobKey_slot, if_neg hst]

/-- RESUME (04 R147). -/
theorem Dev.jobEffect_resume (d : Dev) (ini n : Nat) :
    d.jobEffect ini (jobKey n 2) 3 = .ok ((d.setJobU n (fun u => { u with
      cause := 0, items := if d.jobKind n = 5 || d.jobKind n = 6 then [] else u.items,
      since := if d.jobState n == 3 || (d.jobKind n == 6 && !(d.jobU n).items.isEmpty) then d.ck else u.since })).wr
        (jobKey n 3) 1) := by
  simp only [Dev.jobEffect, if_neg (jobKey_isCommand n), jobKey_slot, Dev.setJob_silent _ _ (.inl rfl)]

/-- What a table load has copied stands still; the slot keeps its kind. -/
theorem Dev.jobKind_loadStops (d : Dev) (n : Nat) : (d.loadStops n).jobKind n = d.jobKind n := by
  unfold Dev.loadStops
  split
  · exact Dev.jobKind_wr_other d n _ (by decide)
  · rfl

/-- CANCEL of a job that is not CANCELLING; a rate step is taken back at once (04 R144, Table 4.1). -/
theorem Dev.jobEffect_cancel {d e : Dev} {n : Nat} (ini : Nat) (hst : d.jobState n ≠ 4)
    (he : e = ((d.loadStops n).setJobU n (fun u => { u with cause := 0, askAt := d.ck })).wr (jobKey n 3) 4) :
    d.jobEffect ini (jobKey n 2) 4 = .ok (if d.jobKind n = 8 then e.rateUndo else e) := by
  have kind : e.jobKind n = d.jobKind n := by
    rw [he, Dev.jobKind_wr_other _ _ _ (by decide)]
    exact d.jobKind_loadStops n
  simp only [Dev.jobEffect, if_neg (jobKey_isCommand n), jobKey_slot, if_neg hst, Dev.setJob_silent _ _ (.inr (.inr rfl)),
    ← he, kind]

/-- A job that claims probe slots is a table load (20 R665). -/
theorem Dev.jobProbes_of_scrub {d : Dev} {n : Nat} (h : d.jobKind n = 5) : d.jobProbes n = none := by
  simp only [Dev.jobProbes, h]

/-- A pound's barges are an object: they do not depend on what a slot keeps beyond its objects. -/
theorem Dev.poundCount_setJobU_wr (d : Dev) (n k v p : Nat) (f : JobU → JobU) :
    ((d.setJobU n f).wr k v).poundCount p = (d.wr k v).poundCount p := rfl

/-- A pound scrub starts: its total is the pound's barges (04 R136, Table 4.1). -/
theorem Dev.jobStart_scrub {d e : Dev} {n : Nat} (h : d.jobKind n = 5)
    (he : e = ((d.wr (jobKey n 4) 0).wr (jobKey n 7) 0).wr (jobKey n 8) 0) :
    d.jobStart n = ((e.setJobU n (fun _ => ⟨d.ck, 0, [], [], [], 0, 0, []⟩)).wr (jobKey n 3) 1).wr (jobKey n 5)
      ((e.wr (jobKey n 3) 1).poundCount (d.jobParam n 0)) := by
  have noNv : ¬5 ≤ 3 := by decide
  simp only [Dev.jobStart, h, if_neg noNv, Dev.setJob_silent _ _ (.inl rfl), he, Dev.jobProgress, JobU.idle,
    Dev.poundCount_setJobU_wr]

/-- Settles O17: each command is a host's write of JOB_COMMAND (`hostPut_jobCommand`), whose effect the lemmas
`jobEffect_start` to `jobEffect_cancel` give. -/
theorem jobCommandsComplete : Obligations.JobCommandsComplete := by
  unfold Obligations.JobCommandsComplete
  refine ⟨?start, ?startScrub, ?suspend, ?suspendAgain, ?resume, ?cancel⟩
  case start =>
    rintro q d0 d n tm rfl hn htakes hfits hprobes
    rw [exec_jobStart]
    exact State.run_eq (decide_eq_true hn) (Dev.hostPut_jobCommand hn htakes (Dev.jobEffect_start 0 hfits hprobes))
  case startScrub =>
    rintro q d0 d n tm rfl hn htakes hkind
    have fits : d0.hostStart.jobKind n ≤ 3 → d0.hostStart.nvStartFits (d0.hostStart.jobKind n) = true := by
      rw [hkind]
      exact fun h => absurd h (by decide)
    have started := Dev.jobEffect_start 0 fits (Dev.jobProbes_of_scrub hkind)
    rw [Dev.jobStart_scrub hkind rfl] at started
    rw [exec_jobStart]
    exact State.run_eq (decide_eq_true hn) (Dev.hostPut_jobCommand hn htakes started)
  case suspend =>
    rintro q d0 d n tm rfl hn htakes hst
    rw [exec_jobSuspend]
    exact State.run_eq (decide_eq_true hn) (Dev.hostPut_jobCommand hn htakes (Dev.jobEffect_suspend_running 0 hst))
  case suspendAgain =>
    rintro q d0 d n tm rfl hn htakes hst
    rw [exec_jobSuspend]
    exact State.run_eq (decide_eq_true hn) (Dev.hostPut_jobCommand hn htakes (Dev.jobEffect_suspend_again 0 hst))
  case resume =>
    rintro q d0 d n tm rfl hn htakes
    rw [exec_jobResume]
    exact State.run_eq (decide_eq_true hn) (Dev.hostPut_jobCommand hn htakes (Dev.jobEffect_resume _ 0 n))
  case cancel =>
    rintro q d0 d n tm rfl hn htakes hst
    rw [exec_jobCancel]
    exact State.run_eq (decide_eq_true hn) (Dev.hostPut_jobCommand hn htakes (Dev.jobEffect_cancel 0 hst rfl))

end Sys2Proof.Machine
end

/-! ### Suspend points and cancels that end (04 R133, R139, R142, R145, R146) -/

section
namespace Sys2Proof.Machine

/-- A job stands at its kind's suspend point (04 Table 4.1). -/
def Dev.jobAtPoint (d : Dev) (n : Nat) : Bool :=
  match d.jobKind n with
  | 1 | 3 => d.nvAtPoint n
  | 5 => true
  | 6 => !(d.jobU n).items.isEmpty
  | _ => false

/-- An NV job stands at its suspend point where the journal says so (04 R139). -/
theorem Dev.jobAtPoint_nv {d : Dev} {n : Nat} (h : d.jobKind n = 1 ∨ d.jobKind n = 3) : d.jobAtPoint n = d.nvAtPoint n := by
  rcases h with h | h <;> simp only [Dev.jobAtPoint, h]

/-- A pound scrub stands at a suspend point between any two barges (09 R318). -/
theorem Dev.jobAtPoint_scrub {d : Dev} {n : Nat} (h : d.jobKind n = 5) : d.jobAtPoint n = true := by
  simp only [Dev.jobAtPoint, h]

/-- A bank test stands at its suspend point when the pass under way has ended (09 R319). -/
theorem Dev.jobAtPoint_bankTest {d : Dev} {n : Nat} (h : d.jobKind n = 6) : d.jobAtPoint n = !(d.jobU n).items.isEmpty := by
  simp only [Dev.jobAtPoint, h]

/-- A job asked to suspend that stands at its suspend point is SUSPENDED, with cause 1 for the host's request
(04 R133, R146). -/
theorem Dev.jobSuspendPoint_of_point {d : Dev} {n c : Nat} (hc : c = (d.jobU n).cause)
    (hst : d.jobState n = 2 ∨ (d.jobState n = 1 ∧ c ≠ 0)) (hpoint : d.jobAtPoint n = true) :
    d.jobSuspendPoint n =
      (((d.wr (jobKey n 8) (if c = 0 then 1 else c)).setJobU n (fun u => { u with cause := 0 })).wr (jobKey n 3) 3).fire (8 + n) := by
  subst hc
  have asked : ((d.jobState n = 2 || (d.jobState n = 1 && (d.jobU n).cause != 0)) && d.jobAtPoint n) = true := by
    simpa [hpoint] using hst
  exact (if_pos asked).trans (Dev.setJob_fires _ n (.inl rfl))

/-- A job that does not stand at its suspend point goes on (04 R133). -/
theorem Dev.jobSuspendPoint_of_no_point {d : Dev} {n : Nat} (hpoint : d.jobAtPoint n = false) : d.jobSuspendPoint n = d := by
  have goesOn : ¬((d.jobState n = 2 || (d.jobState n = 1 && (d.jobU n).cause != 0)) && d.jobAtPoint n) = true := by
    simp [hpoint]
  exact if_neg goesOn

/-- A slot becomes CANCELLED with result 0 (04 R142, R145). -/
def Dev.jobCancelled (d : Dev) (n : Nat) : Dev :=
  (((d.setJobU n (fun _ => JobU.idle)).wr (jobKey n 7) 0).wr (jobKey n 3) 7).fire (8 + n)

/-- A CANCELLING job whose undo takes no time becomes CANCELLED (04 R145). -/
theorem Dev.jobCancelDone_at_once {d e : Dev} {n : Nat} (hst : d.jobState n = 4)
    (hdone : 3 < d.jobKind n ∨ d.nvCancelled n = true) (hkind : d.jobKind n ≠ 6) (he : d.jobUndo n = e) :
    d.jobCancelDone n = e.jobCancelled n := by
  have done : (d.jobState n = 4 && (3 < d.jobKind n || d.nvCancelled n)) = true := by simpa [hst] using hdone
  rw [Dev.jobCancelDone, if_pos done]
  simp only [if_neg hkind, he]
  exact Dev.setJob_fires _ n (.inr rfl)

/-- A CANCELLING bank test first zeroes its bank, in 65,536 CK (04 R145; log entry 84). -/
theorem Dev.jobCancelDone_bankTest {d e : Dev} {n : Nat} (hn : n < 4) (hst : d.jobState n = 4) (hkind : d.jobKind n = 6)
    (he : e = d.advanceTo ((d.jobU n).askAt + 65536)) (hon : (e.dom (bankDom (e.jobParam n 0))).st ≠ .off) :
    d.jobCancelDone n = (e.bankTestEnd n false).jobCancelled n := by
  have done : (d.jobState n = 4 && (3 < d.jobKind n || d.nvCancelled n)) = true := by simp [hst, hkind]
  have kind : e.jobKind n = 6 := by rw [he, Dev.jobKind_advanceTo _ _ hn, hkind]
  have undo : e.jobUndo n = e.bankTestEnd n false := by
    simp only [Dev.jobUndo, kind, beq_iff_eq, if_neg hon]
  rw [Dev.jobCancelDone, if_pos done]
  simp only [if_pos hkind, ← he, undo]
  exact Dev.setJob_fires _ n (.inr rfl)

/-- An NV job that is cancelled leaves its reservation; a slot of no kind has none (04 Table 4.1). -/
theorem Dev.jobUndo_nv {d : Dev} {n : Nat} (h : d.jobKind n < 4) :
    d.jobUndo n = if d.jobKind n = 0 then d else d.nvRelease := by
  obtain hk | hk | hk | hk : d.jobKind n = 0 ∨ d.jobKind n = 1 ∨ d.jobKind n = 2 ∨ d.jobKind n = 3 := by omega
  all_goals simp [Dev.jobUndo, hk]

/-- What the other cancels that take no time undo: a table load's claims, nothing of a scrub, a diagnosis leaves its port down, a
rate step its advertisement as it was (04 Table 4.1). -/
theorem Dev.jobUndo_at_once {d e : Dev} {n : Nat}
    (h : (d.jobKind n = 4 ∧ e = d.jobUnclaim n) ∨ (d.jobKind n = 5 ∧ e = d) ∨ (d.jobKind n = 7 ∧ e = d.setLink (d.jobParam n 0) 0)
      ∨ (d.jobKind n = 8 ∧ e = d.rateUndo)) :
    d.jobUndo n = e := by
  obtain ⟨hk, rfl⟩ | ⟨hk, rfl⟩ | ⟨hk, rfl⟩ | ⟨hk, rfl⟩ := h
  all_goals simp only [Dev.jobUndo, hk]

/-! ### A pound scrub reads a barge (09 R318; 04 R141, R143) -/

/-- The device after a scrub in slot `n` has read barge `b`, the pound's `j`-th: the unit is over, and an uncorrectable word is
kept for the job's end. -/
def Dev.scrubRead (d : Dev) (n b j : Nat) (ss : List Strike) : Dev :=
  let r := d.readMem (256 * b) 256 ss
  (r.2.2.setJobU n (fun u => { u with
    since := d.ck, items := if d.jobAsked n then [0] else [],
    code := if r.2.1.isEmpty then u.code else 0x0701 })).wr (jobKey n 4) (j + 1)

/-- How a scrub ends: FAILED where a word was uncorrectable, unless it is cancelled (04 R141, R143). -/
def Dev.scrubEnd (n : Nat) (d : Dev) : Dev :=
  if (d.jobU n).code != 0 && d.jobState n != 4 then d.jobFail n (d.jobU n).code else d.jobDone n

/-- A scrub's unit that may be carried out, with a barge left whose lock is not under way: the barge is read, and with the last one
the job ends. -/
theorem Dev.scrubBarge_reads {d e : Dev} {n j p t : Nat} (ss : List Strike) (hp : p = d.jobParam n 1)
    (ht : t = max d.ck (if p = 0 then 0 else (d.jobU n).since + 10000 / p)) (hunit : d.jobUnit n 5 t (p == 0) = true)
    (hnext : d.scrubNext (d.jobParam n 0) (d.rd (jobKey n 4)) (d.rd (jobKey n 5) - d.rd (jobKey n 4)) = some j)
    (hfree : d.lockBusy (d.poundBase (d.jobParam n 0) + j) = false) (he : e = d.advanceTo t) :
    d.scrubBarge n ss =
      (let f := e.scrubRead n (d.poundBase (d.jobParam n 0) + j) j ss
       if (f.scrubNext (d.jobParam n 0) (j + 1) (d.rd (jobKey n 5) - (j + 1))).isNone then
         (f.wr (jobKey n 4) (d.rd (jobKey n 5))).jobLast n (Dev.scrubEnd n)
       else f) := by
  have time : max d.ck (if d.jobParam n 1 = 0 then 0 else (d.jobU n).since + 100 * ckPerUs / d.jobParam n 1) = t := by
    rw [ht, hp]
    rfl
  rw [hp] at hunit
  simp only [Dev.scrubBarge, time, hunit, hnext, hfree, ← he, Bool.not_true, Bool.false_eq_true, if_false]
  rfl

/-- Settles O18: each event is the run of its effect (`exec_jobSuspendPoint` and its like). A suspend point goes by
`jobAtPoint`, a cancel by what `jobUndo` undoes, with the bank test's kind unchanged by the time its zeroing takes
(`jobKind_advanceTo`), and a scrub by `scrubBarge_reads`. -/
theorem jobScrubEventsComplete : Obligations.JobScrubEventsComplete := by
  unfold Obligations.JobScrubEventsComplete
  refine ⟨?suspended, ?goesOn, ?cancelNv, ?cancelAtOnce, ?cancelBankTest, ?scrub⟩
  case suspended =>
    rintro q d n c hn hc hst hwhere
    have point : d.jobAtPoint n = true := by
      rcases hwhere with hk | ⟨hk, hitems⟩ | ⟨hk, hnv⟩
      · exact Dev.jobAtPoint_scrub hk
      · simpa [Dev.jobAtPoint_bankTest hk] using hitems
      · rw [Dev.jobAtPoint_nv hk, hnv]
    rw [exec_jobSuspendPoint]
    exact State.run_eq (decide_eq_true hn) (Dev.jobSuspendPoint_of_point hc hst point)
  case goesOn =>
    rintro q d n hn hwhere
    have noPoint : d.jobAtPoint n = false := by
      rcases hwhere with ⟨hk, hitems⟩ | ⟨hk, hnv⟩
      · simp [Dev.jobAtPoint_bankTest hk, hitems]
      · rw [Dev.jobAtPoint_nv hk, hnv]
    rw [exec_jobSuspendPoint]
    exact State.run_eq (decide_eq_true hn) (Dev.jobSuspendPoint_of_no_point noPoint)
  case cancelNv =>
    rintro q d e n hn hst hk hnv rfl
    rw [exec_jobCancelDone]
    exact State.run_eq (decide_eq_true hn) (Dev.jobCancelDone_at_once hst (.inr hnv) (by omega) (Dev.jobUndo_nv hk))
  case cancelAtOnce =>
    rintro q d e n hn hst hundo
    rw [exec_jobCancelDone]
    exact State.run_eq (decide_eq_true hn)
      (Dev.jobCancelDone_at_once hst (.inl (by omega)) (by omega) (Dev.jobUndo_at_once hundo))
  case cancelBankTest =>
    rintro q d e n hn hst hk he hon
    rw [exec_jobCancelDone]
    exact State.run_eq (decide_eq_true hn) (Dev.jobCancelDone_bankTest hn hst hk he hon)
  case scrub =>
    rintro q d e n j p t ss hn hss hp ht hunit hnext hfree he
    have hwf : (Instr.poundScrubBarge n ss).wf = true := by simp [Instr.wf, hn, hss]
    rw [exec_poundScrubBarge]
    exact State.run_eq hwf (Dev.scrubBarge_reads ss hp ht hunit hnext hfree he)

end Sys2Proof.Machine
end

/-! ### POR and start-up steps 0 and 1 (05 R151-R153, R711; 07 R238; 21 R691) -/

section
namespace Sys2Proof.Machine

/-- The end of POR: start-up begins with cause 1, and the oscillator starts (05 R711). -/
theorem Dev.porEnd_of_inPor {d : Dev} (h : d.aon.inPor = true) :
    d.porEnd = (d.setAon (fun a => { a with inPor := false, oscStarting := true })).startupBegin 1 .oscStart :=
  if_pos h

/-- The oscillator is stable: it runs, what is timed from it is timed anew, a start-up that waited for it goes on to step 1, and the
ON requests of latches that waited are placed (21 R691; 06 R209). -/
theorem Dev.oscStable_of_starting {d e : Dev} (hosc : d.aon.osc = false) (hpor : d.aon.inPor = false)
    (hstop : d.aon.xtalStopped = false) (hstart : (d.aon.oscStarting || d.oscNeeded) = true)
    (he : e = (d.setAon (fun a =>
      { a with osc := true, oscStarting := false, tempAt := d.ck, monitorAt := a.monitorAt.map (fun _ => d.ck),
               startup := if d.aon.startup = .oscStart then .trims else a.startup,
               stepAt := if d.aon.startup = .oscStart then d.ck else a.stepAt })).setSup (fun s => { s with energyAt := d.ck })) :
    d.oscStable = e.wakeNow := by
  subst he
  by_cases hstep : d.aon.startup = .oscStart <;>
    simp [Dev.oscStable, hosc, hpor, hstop, hstart, hstep, Dev.setAon, Dev.setSup]

/-- Step 1 acts while CKX runs, and on a start-up that is in step 1. -/
theorem Dev.trimsGuard_open {d : Dev} (hruns : d.supRuns = true) (hstep : d.aon.startup = .trims) :
    ¬(!d.supRuns || decide (d.aon.startup ≠ .trims)) = true := by
  simp [hruns, hstep]

/-- Step 1 ends where MAIN has been entered since POR: the PLL's start follows (07 Table 7.3). -/
theorem Dev.trimsDone_of_everMain {d e : Dev} {main vbak : Bool} (hruns : d.supRuns = true) (hstep : d.aon.startup = .trims)
    (he : e = d.advanceTo (d.aon.stepAt + 5000)) (hever : e.sup.everMain = true) :
    d.trimsDone main vbak = e.pllStep := by
  subst he
  exact (if_neg (Dev.trimsGuard_open hruns hstep)).trans (if_pos hever)

/-- Step 1 ends for the first time after POR: the comparators stand at their levels, the supply is selected, and main in range moves
the selector from BACKUP to QUALIFY (05 R158; 07 R238). -/
theorem Dev.trimsDone_of_first {d e f : Dev} {main vbak : Bool} (hruns : d.supRuns = true) (hstep : d.aon.startup = .trims)
    (he : e = d.advanceTo (d.aon.stepAt + 5000)) (hever : e.sup.everMain = false)
    (hf : f = (e.setSup (fun s => { s with vbakOk := vbak })).mainEdge main) :
    d.trimsDone main vbak =
      (let g := f.setAon (fun a => { a with startup := .supplySelect, stepAt := f.ck })
       if main && g.supState = 2 then g.qualify else g) := by
  subst he hf
  exact (if_neg (Dev.trimsGuard_open hruns hstep)).trans (if_neg (ne_true_of_eq_false hever))

/-- A comparator that changes while the oscillator is stopped starts it; the level of VBAK_OK waits for its hold (06 R714). -/
theorem Dev.monitorChange_of_stopped {d : Dev} (v : Option Bool) (hosc : d.aon.osc = false) (hpor : d.aon.inPor = false)
    (hstop : d.aon.xtalStopped = false) :
    d.monitorChange v = (d.setAon (fun a => { a with oscStarting := true, monitorAt := some d.ck })).setSup
      (fun s => { s with vbakDue := if v = none then s.vbakDue else v }) := by
  cases v <;> simp [Dev.monitorChange, hosc, hpor, hstop]

/-- The level of VBAK_OK that changes while the oscillator runs counts after its hold (05 R153). -/
theorem Dev.monitorChange_of_running {d e : Dev} {n : Nat} (b : Bool) (hosc : d.aon.osc = true) (hpor : d.aon.inPor = false)
    (hstop : d.aon.xtalStopped = false) (hhold : (n, e) = d.holdCk) :
    d.monitorChange (some b) = (e.tick n).setSup (fun s => { s with vbakOk := b, vbakDue := none }) := by
  simp [Dev.monitorChange, hosc, hpor, hstop, ← hhold]

/-- Settles O20: each command is the run of its effect (`exec_powerOnReset` and its like), whose guard the clause's hypotheses open:
`porEnd_of_inPor` to `monitorChange_of_running`. -/
theorem supplyStartCommandsComplete : Obligations.SupplyStartCommandsComplete := by
  unfold Obligations.SupplyStartCommandsComplete
  refine ⟨?por, ?porEnd, ?oscStable, ?trimsAgain, ?trimsFirst, ?changeStopped, ?changeRunning⟩
  case por =>
    intro q d
    rw [exec_powerOnReset]
    exact State.run_eq rfl rfl
  case porEnd =>
    intro q d hpor
    rw [exec_porEnd]
    exact State.run_eq rfl (Dev.porEnd_of_inPor hpor)
  case oscStable =>
    intro q d hosc hpor hstop hstart
    rw [exec_oscStable]
    exact State.run_eq rfl (Dev.oscStable_of_starting hosc hpor hstop hstart rfl)
  case trimsAgain =>
    intro q d main vbak hruns hstep hever
    rw [exec_aonTrimsDone]
    exact State.run_eq rfl (Dev.trimsDone_of_everMain hruns hstep rfl hever)
  case trimsFirst =>
    intro q d main vbak hruns hstep hever
    rw [exec_aonTrimsDone]
    exact State.run_eq rfl (Dev.trimsDone_of_first hruns hstep rfl hever rfl)
  case changeStopped =>
    intro q d v hosc hpor hstop
    rw [exec_monitorChangeOscStart]
    exact State.run_eq rfl (Dev.monitorChange_of_stopped v hosc hpor hstop)
  case changeRunning =>
    intro q d e b n hosc hpor hstop hhold
    rw [exec_monitorChangeOscStart]
    exact State.run_eq rfl (Dev.monitorChange_of_running b hosc hpor hstop hhold)

end Sys2Proof.Machine
end

/-! ### The selector's moves (05 R157, R158, R161, R171-R175) -/

section
namespace Sys2Proof.Machine

/-- A move of the selector is made while CKX runs, from the state it starts in. -/
theorem Dev.selGuard_open {d : Dev} {st : Nat} (hruns : d.supRuns = true) (hst : d.supState = st) :
    (!d.supRuns || decide (d.supState ≠ st)) = false := by
  simp [hruns, hst]

/-- Loss of main in MAIN: counted, the backup sets taken as they are set, the selector in DOWN, the outputs and the PW writes that
wait told; with enough backup the shed requests follow (05 R157, R161, R171). -/
theorem Dev.supplyDown_of_main {d e f : Dev} {vbak : Bool} (hruns : d.supRuns = true) (hst : d.supState = 0)
    (he : e = ((d.monitorHold.inc 0x202001).wr 0x201003 (d.monitorHold.rd 0x201001)).wr 0x201004 (d.monitorHold.rd 0x201002))
    (hf : f = (((e.setSup (fun s => { s with
      vbakOk := vbak, vbakDue := none, downAt := e.ck, lowBackup := !vbak, regPend := vbak, regDue := none })).mainEdge
        false).selEnter 1).sluDown) :
    d.supplyDown vbak =
      (let g := f.setNv (fun v => { v with pws := v.pws.map (fun (p : PwReq) => { p with recheck := true }) })
       if vbak then forEach butKeep g (fun n x => x.shedOne n) else g) := by
  subst he hf
  exact if_neg (ne_true_of_eq_false (Dev.selGuard_open hruns hst))

/-- DOWN with enough backup ends: the hold time is noted, the selector is in BACKUP, and where main is back it goes on to QUALIFY in
the next CK (05 R157, R185). -/
theorem Dev.toBackup_of_down {d e f : Dev} {us : Nat} {main : Bool} (hruns : d.supRuns = true) (hst : d.supState = 1)
    (hlow : d.sup.lowBackup = false) (he : e = d.advanceTo (d.sup.downAt + us * 100))
    (hf : f = (((e.wr 0x202003 (min ((e.ck - e.sup.downAt) / 100) 0xFF)).selEnter 2).mainEdge main).regulator) :
    d.toBackup us main = if main then (f.tick 1).qualify else f := by
  subst he hf
  exact if_neg (by simp only [Dev.selGuard_open hruns hst, hlow, Bool.or_self, Bool.false_eq_true, not_false_eq_true])

/-- Main returns in BACKUP, with the comparators settled: the selector is in QUALIFY (05 R157). -/
theorem Dev.mainReturn_of_backup {d : Dev} (hruns : d.supRuns = true) (hst : d.supState = 2) (hsettled : d.supSettled = true) :
    d.mainReturn = (d.monitorHold.mainEdge true).qualify :=
  if_neg (by simp [hruns, hst, hsettled])

/-- QUALIFY ends, and the selector is in MAIN (05 R157, R158). -/
theorem Dev.qualifyExpiry_of_qualify {d : Dev} (hruns : d.supRuns = true) (hst : d.supState = 3) :
    d.qualifyExpiry = (d.advanceTo (d.sup.qualAt + d.sup.qualMs * 100000)).mainEntered :=
  if_neg (ne_true_of_eq_false (Dev.selGuard_open hruns hst))

/-- Main leaves its range within QUALIFY: counted, the selector back in BACKUP, and the third bounce within 1 s begins the stretch
(05 R174, R175). -/
theorem Dev.bounce_of_qualify {d e : Dev} {dt : Nat} (hruns : d.supRuns = true) (hst : d.supState = 3)
    (hdt : dt < d.sup.qualMs * 100000)
    (he : e = (((d.advanceTo (d.sup.qualAt + dt)).mainEdge false).inc 0x202002).selEnter 2) :
    d.bounce dt =
      (let third := decide (2 ≤ (e.sup.bounces.filter (fun t => e.ck ≤ t + 100000000)).length) && !e.sup.stretch
       let f := e.setSup (fun s => { s with
         bounces := (s.bounces ++ [e.ck]).drop (s.bounces.length - 1), stretch := s.stretch || third })
       if third then f.fire 2 else f) := by
  subst he
  exact if_neg (by simp [hruns, hst, hdt])

/-- The stretch ends 1 s after the last bounce (05 R175). -/
theorem Dev.stretchEnd_of_stretch {d : Dev} {t : Nat} (hlast : d.sup.bounces.getLast? = some t) (hstretch : d.sup.stretch = true)
    (hruns : d.supRuns = true) :
    d.stretchEnd = (d.advanceTo (t + 100000000)).setSup (fun s => { s with stretch := false }) := by
  simp only [Dev.stretchEnd, hlast, hstretch, hruns, Bool.and_self, if_true]
  rfl

/-- Settles O21: each move is the run of its effect (`exec_supplyDown` and its like), made from the state the clause names:
`supplyDown_of_main` to `stretchEnd_of_stretch`. -/
theorem supplySelectorCommandsComplete : Obligations.SupplySelectorCommandsComplete := by
  unfold Obligations.SupplySelectorCommandsComplete
  refine ⟨?down, ?toBackup, ?mainReturn, ?expiry, ?bounce, ?stretchEnd⟩
  case down =>
    rintro q d e vbak hruns hst rfl
    rw [exec_supplyDown]
    exact State.run_eq rfl (Dev.supplyDown_of_main hruns hst rfl rfl)
  case toBackup =>
    intro q d us main hus hruns hst hlow
    rw [exec_downToBackup]
    exact State.run_eq (decide_eq_true hus) (Dev.toBackup_of_down hruns hst hlow rfl rfl)
  case mainReturn =>
    rintro q d e hruns hst hsettled rfl
    rw [exec_mainReturn]
    exact State.run_eq rfl (Dev.mainReturn_of_backup hruns hst hsettled)
  case expiry =>
    intro q d hruns hst
    rw [exec_qualifyExpiry]
    exact State.run_eq rfl (Dev.qualifyExpiry_of_qualify hruns hst)
  case bounce =>
    intro q d e dt hruns hst hdt he
    rw [exec_supplyBounce]
    exact State.run_eq rfl (Dev.bounce_of_qualify hruns hst hdt he)
  case stretchEnd =>
    intro q d t hlast hstretch hruns
    rw [exec_stretchEnd]
    exact State.run_eq rfl (Dev.stretchEnd_of_stretch hlast hstretch hruns)

end Sys2Proof.Machine
end

/-! ### Brown-outs (05 R168-R171, R185) -/

section
namespace Sys2Proof.Machine

/-- A brown-out with its cause: the NV step collapsed, the cause recorded, counted and locked out, what runs interrupted, every domain
but KEEP forced OFF; that of VBAK alone turns the sluice's outputs (05 R168, R169; 16 R582). -/
theorem Dev.brownedOut_eq {d e : Dev} {c : Nat} (he : e = ((((d.nvCollapse.wr 0x202004 c).inc 0x202005).interrupted).setSup (fun s =>
      { s with lockout := true, lockCause := c })).forceOff butKeep true) :
    d.brownedOut c = if c = 2 then e.sluBrownOut else e := by
  rw [Dev.brownedOut, he]

/-- The cause a brown-out of a rail records: 3 for the core rail in MAIN, 1 for it elsewhere, 2 for VBAK (05 R168). -/
def brownOutCause (rail : Bool) (st : Nat) : Nat := if rail then (if st = 0 then 3 else 1) else 2

/-- The cause is that of VBAK where the rail is not the core's. -/
theorem brownOutCause_eq_two (rail : Bool) (st : Nat) : brownOutCause rail st = 2 ↔ rail = false := by
  cases rail
  · simp [brownOutCause]
  · by_cases h : st = 0 <;> simp [brownOutCause, h]

/-- A brown-out, of the core rail or, outside MAIN, of VBAK, once MAIN has been entered, with its cause (05 R168). -/
theorem Dev.brownOut_of_everMain {d : Dev} {rail : Bool} (hruns : d.supRuns = true) (hever : d.sup.everMain = true)
    (hrail : rail = true ∨ d.supState ≠ 0) :
    d.brownOut rail = d.monitorHold.brownedOut (brownOutCause rail d.supState) := by
  cases rail
  · have outside : d.supState ≠ 0 := by simpa using hrail
    simp [Dev.brownOut, hruns, hever, outside, brownOutCause]
  · simp [Dev.brownOut, hruns, hever, brownOutCause]

/-- The brown-out of a DOWN with too little backup: the step of the NV array ends first, the cause is 4, the selector is in BACKUP
with the hold time noted, and where main is in range it goes on to QUALIFY in the next CK (05 R171, R185; log entry 28). -/
theorem Dev.lowBackup_of_down {d x e f : Dev} (hruns : d.supRuns = true) (hst : d.supState = 1) (hlow : d.sup.lowBackup = true)
    (hx : x = if d.nv.step.isSome then d.nvFinish true else d)
    (he : e = (x.brownedOut 4).setSup (fun s => { s with lowBackup := false, regPend := true, regDue := none }))
    (hf : f = ((e.wr 0x202003 (min ((e.ck - e.sup.downAt) / 100) 0xFF)).selEnter 2).regulator) :
    d.lowBackup = if f.sup.mainIn then (f.tick 1).qualify else f := by
  have acts : ¬(!d.supRuns || decide (d.supState ≠ 1) || !d.sup.lowBackup) = true := by simp [hruns, hst, hlow]
  simp only [Dev.lowBackup, if_neg acts, ← hx, ← he, ← hf]

/-- The lockout of a brown-out in MAIN ends, and start-up runs (05 R170). -/
theorem Dev.lockoutEnd_of_main {d : Dev} (hruns : d.supRuns = true) (hlock : d.sup.lockout = true) (hcause : d.sup.lockCause = 3) :
    d.lockoutEnd = d.lockoutEnds :=
  if_pos (by simp [hruns, hlock, hcause])

/-- Settles O22: each command is the run of its effect (`exec_brownOut` and its like); the causes are those of `brownOutCause`, and
what each brown-out does is `brownedOut_eq`. -/
theorem brownOutCommandsComplete : Obligations.BrownOutCommandsComplete := by
  unfold Obligations.BrownOutCommandsComplete
  refine ⟨?brownOut, ?lowBackup, ?lockoutEnd⟩
  case brownOut =>
    rintro q d e rail hruns hever hrail rfl
    rw [exec_brownOut]
    refine State.run_eq rfl ?_
    rw [Dev.brownOut_of_everMain hruns hever hrail, Dev.brownedOut_eq rfl]
    simp only [brownOutCause_eq_two]
    cases rail <;> rfl
  case lowBackup =>
    intro q d x hruns hst hlow hx
    rw [exec_brownoutLowBackup]
    have forced := Dev.brownedOut_eq (d := x) (c := 4) rfl
    rw [if_neg (by decide), Dev.interrupted, butKeep] at forced
    exact State.run_eq rfl (Dev.lowBackup_of_down hruns hst hlow hx (by rw [forced]) rfl)
  case lockoutEnd =>
    intro q d hruns hlock hcause
    rw [exec_lockoutEnd]
    exact State.run_eq rfl (Dev.lockoutEnd_of_main hruns hlock hcause)

end Sys2Proof.Machine
end

/-! ### The monitor and PoDL (05 R176, R181-R184, R712) -/

section
namespace Sys2Proof.Machine

/-- A sample of the monitor 1 ms after the one before: VIN_MV, VBAK_MV and STORED_ENERGY, with the level of VBAK_OK and the board's VIO
(05 R176, R712; 21 R678). -/
theorem Dev.energyTick_of_runs {d x e m : Dev} {vin vbak : Nat} {ok : Bool} {v : Option Nat} (hruns : d.supRuns = true)
    (hx : x = d.setSup (fun s => { s with vioIn := v.getD s.vioIn })) (he : e = x.advanceTo (x.sup.energyAt + 100000))
    (hm : m = (e.wr 0x200003 (10 * vin)).wr 0x200004 (vbak * 3 / 2)) :
    d.energyTick vin vbak ok v = (m.wr 0x203005 (energyOf m.backupTerm m.holdupTerm)).setSup
      (fun s => { s with energyAt := e.ck, vbakOk := ok, vbakDue := none }) := by
  subst hx he hm
  exact if_neg (ne_true_of_eq_false (congrArg (! ·) hruns))

/-- A change of PODL_STATE is counted, fires source 4 and edges wake latch 1 (18 Tables 18.1, 18.4). -/
theorem Dev.podlSet_of_ne {d : Dev} {st : Nat} (h : d.rd 0x204001 ≠ st) :
    d.podlSet st = (((d.wr 0x204001 st).inc 0x204003).fire 4).latch 1 :=
  if_neg h

/-- A classification is made of a front end that is not powered. -/
theorem Dev.podlGuard_open {d : Dev} (h3 : d.rd 0x204001 ≠ 3) (h4 : d.rd 0x204001 ≠ 4) :
    ¬(decide (d.rd 0x204001 = 3) || decide (d.rd 0x204001 = 4)) = true := by
  simp [h3, h4]

/-- With PODL_CLS open there is no class, and the state is 0 (05 R181). -/
theorem Dev.podlClassify_open {d : Dev} {asked : Bool} (h3 : d.rd 0x204001 ≠ 3) (h4 : d.rd 0x204001 ≠ 4) :
    d.podlClassify none asked = (d.wr 0x204002 0).podlSet 0 :=
  if_neg (Dev.podlGuard_open h3 h4)

/-- A resistor of a class: the class recorded, the state 1 with the signature detected, and 2 once the class is asked for (05 R181). -/
theorem Dev.podlClassify_of_class {d : Dev} {r c : Nat} {asked : Bool} (h3 : d.rd 0x204001 ≠ 3) (h4 : d.rd 0x204001 ≠ 4)
    (hc : podlClass r = some c) :
    d.podlClassify (some r) asked =
      if asked then ((d.wr 0x204002 c).podlSet 1).podlSet 2 else (d.wr 0x204002 c).podlSet 1 := by
  simp only [Dev.podlClassify, if_neg (Dev.podlGuard_open h3 h4), hc]

/-- A resistor of no class: the state is 5 (05 R182). -/
theorem Dev.podlClassify_of_no_class {d : Dev} {r : Nat} {asked : Bool} (h3 : d.rd 0x204001 ≠ 3) (h4 : d.rd 0x204001 ≠ 4)
    (hc : podlClass r = none) : d.podlClassify (some r) asked = (d.wr 0x204002 0).podlSet 5 := by
  simp only [Dev.podlClassify, if_neg (Dev.podlGuard_open h3 h4), hc]

/-- A front end that turns off leaves state 2, 3 or 4 for state 1 (05 R184). -/
theorem Dev.podlOff_of_powered {d : Dev} (h : d.rd 0x204001 = 2 ∨ d.rd 0x204001 = 3 ∨ d.rd 0x204001 = 4) :
    d.podlOff = d.podlSet 1 :=
  if_pos (by simpa [or_assoc] using h)

/-- Settles O23: each command is the run of its effect (`exec_energySample` and its like), given by `energyTick_of_runs` and the lemmas of
`podlClassify`; that each change of PODL_STATE is one is `podlSet_of_ne`. -/
theorem energyAndPodlCommandsComplete : Obligations.EnergyAndPodlCommandsComplete := by
  unfold Obligations.EnergyAndPodlCommandsComplete
  refine ⟨?sample, ?noResistor, ?ofClass, ?noClass, ?power, ?ramped, ?off⟩
  case sample =>
    intro q d e x vin vbak ok v hvin hvbak hruns hx he
    have hwf : (Instr.energySample vin vbak ok v).wf = true := by simp [Instr.wf, hvin, hvbak]
    rw [exec_energySample]
    exact State.run_eq hwf (Dev.energyTick_of_runs hruns hx he rfl)
  case noResistor =>
    intro q d asked h3 h4
    rw [exec_podlClassify]
    exact State.run_eq rfl (Dev.podlClassify_open h3 h4)
  case ofClass =>
    intro q d r c asked h3 h4 hc
    rw [exec_podlClassify]
    exact State.run_eq rfl (Dev.podlClassify_of_class h3 h4 hc)
  case noClass =>
    intro q d r asked h3 h4 hc
    rw [exec_podlClassify]
    exact State.run_eq rfl (Dev.podlClassify_of_no_class h3 h4 hc)
  case power =>
    intro q d hst
    rw [exec_podlPowerOn]
    exact State.run_eq rfl ((if_pos hst).trans (Dev.podlSet_of_ne (by omega)))
  case ramped =>
    intro q d hst
    rw [exec_podlInrushRampEnd]
    exact State.run_eq rfl ((if_pos hst).trans (Dev.podlSet_of_ne (by omega)))
  case off =>
    intro q d hst
    rw [exec_podlTurnOff]
    exact State.run_eq rfl ((Dev.podlOff_of_powered hst).trans (Dev.podlSet_of_ne (by omega)))

end Sys2Proof.Machine
end

/-! ### The state after reset (05 R711; 07 R234, Table 7.2) -/

section
namespace Sys2Proof.Machine

/-- Every object of the device in POR is at its default, but SUPPLY_STATE, which is BACKUP (05 Table 5.2). -/
theorem Dev.rd_initial (k : Nat) : Dev.initial.rd k = if k = 0x200001 then 2 else dflt k := by
  by_cases h : k = 0x200001
  · subst h
    rfl
  · rw [if_neg h, Dev.rd, Dev.initial, Store.get?, if_neg (Ne.symm h)]
    rfl

/-- A place of a list of defaults holds the default, beyond its end too. -/
theorem getD_replicate_default {α : Type} (n i : Nat) (x : α) : (List.replicate n x).getD i x = x := by
  rw [List.getD_eq_getElem?_getD, List.getElem?_replicate]
  split
  · rfl
  · rfl

/-- No source is pending by default (18 Table 18.6). -/
theorem dflt_srcStateKey : ∀ s < 96, dflt (srcStateKey s) = 0 := by decide +kernel

/-- Settles O60: the objects are those of `rd_initial`, and the rest is the device of State.reset as it is written. -/
theorem resetState : Obligations.ResetState := by
  unfold Obligations.ResetState
  refine ⟨rfl, ?_⟩
  rintro d rfl
  refine ⟨?domains, rfl, rfl, Dev.rd_initial, fun _ => rfl, fun _ => rfl, rfl, ?slots, ?targets, ?sources, rfl, rfl, rfl⟩
  case domains => decide
  case slots => exact fun s => getD_replicate_default 8 s none
  case targets => exact fun t => ⟨getD_replicate_default 4 t [], getD_replicate_default 4 t false⟩
  case sources =>
    intro s hs
    have other : srcStateKey s ≠ 0x200001 := by unfold srcStateKey; omega
    rw [Dev.isPending, State.reset, Dev.rd_initial, if_neg other, dflt_srcStateKey s hs]
    rfl

end Sys2Proof.Machine
end

/-! ### Requests and the domain controller (06 R191-R196, R201, R202, R224) -/

section
namespace Sys2Proof.Machine

/-- The settings of reception lie from RX_POUND on (10 R357; 11 R362). -/
theorem rxSetting_of_lt {k : Nat} (h : k < 0x268001) (p : Nat) : rxSetting p k = false := by
  have rxPound : k ≠ 0x268001 + p := by omega
  have macs : k / 256 ≠ 0x3800 + p ∧ k / 256 ≠ 0x3810 + p ∧ k / 256 ≠ 0x3850 := by omega
  simp [rxSetting, rxPound, macs]

/-- A host's write of an object of 06 or 07 that nothing refuses has its effect at once (06 R191; 07 R247). -/
theorem Dev.hostPut_power {d : Dev} {k v : Nat} {tm : Timing} (h : d.hostTakes k v tm = true)
    (hk : k / 0x10000 = 0x21 ∨ k / 0x10000 = 0x22) : d.hostPut k v tm = (d.powEffect 0 k v).answered [] := by
  have noSetting : (List.range 4).all (fun p => !rxSetting p k) = true :=
    List.all_eq_true.2 fun p _ => by rw [rxSetting_of_lt (by omega) p, Bool.not_false]
  refine Dev.hostPut_ok h (by omega) ?_
  rw [Dev.noteRx_of_none noSetting, Dev.writeEffect]
  rcases hk with hk | hk <;> simp only [hk]

/-- The objects DOM_REQ_0 to DOM_REQ_15 lie in the range of 06. -/
theorem domReqKey_range {n : Nat} (hn : n < 16) : (0x211001 + n) / 0x10000 = 0x21 := by omega

/-- A write of DOM_REQ places the request it encodes, but for one of CORE to leave ON (06 R189, R191, R224). -/
theorem Dev.powEffect_domReq (d : Dev) (ini : Nat) {n v : Nat} (hn : n < 16) (h : n ≠ 1 ∨ v = 2) :
    d.powEffect ini (0x211001 + n) v = d.placeReq n (if v = 2 then .on else if v = 1 then .retention else .off) := by
  have inRange : 0x211001 ≤ 0x211001 + n ∧ 0x211001 + n ≤ 0x211010 := by omega
  have atOnce : ¬(n = 1 ∧ v ≠ 2) := by omega
  simp [Dev.powEffect, inRange, atOnce]

/-- A request for CORE to leave ON waits for its response (06 R224). -/
theorem Dev.powEffect_coreReq (d : Dev) {v : Nat} (hv : v ≠ 2) :
    d.powEffect 0 0x211002 v = (d.wr 0x211002 v).setAon (fun a => { a with coreDue := some (0xFF, v) }) := by
  simp [Dev.powEffect, hv]

/-- The controller, with no transition running and its clock, takes the next transition: that of CORE first where a domain that needs it
is to be ON and CORE is not (06 R196, R202). -/
theorem Dev.domSelect_of_next {d e : Dev} {n : Nat} {t : DSt} {r : Bool} (hfree : d.aon.trans = none) (hosc : d.aon.osc = true)
    (hclock : d.aon.xtalStopped = false) (he : e = d.clearRequests) (hnext : e.nextTrans = some (n, t, r)) :
    d.domSelect = if t = .on ∧ r = false ∧ 2 ≤ n ∧ (e.dom 1).st ≠ .on
      then (e.placeReq 1 .on).transSelect 1 .on false else e.transSelect n t r := by
  simp only [Dev.domSelect, hfree, hosc, hclock, ← he, hnext, Option.isSome_none, Bool.not_true, Bool.or_self, Bool.false_eq_true,
    if_false, Bool.and_eq_true, decide_eq_true_eq, Bool.not_eq_true', bne_iff_ne, and_assoc]

/-- The drain step of a transition that drains ends: the lock cycles on what the domain holds complete, and it leaves what it held
(06 R201). -/
theorem Dev.drainDone_of_drains {d : Dev} {t : Trans} (ht : d.aon.trans = some t) (hbegun : t.waiting = false)
    (hdrains : d.transDrains t = true) (hopen : t.drained = false) (hclock : d.aon.xtalStopped = false) :
    d.drainDone = (((d.advanceTo (t.start + drainCk t.dom)).setAon (fun a =>
      { a with trans := some { t with drained := true } })).drainLocks t.dom).leaves t.dom (t.isReset || t.target == .off)
        t.isReset := by
  simp only [Dev.drainDone, ht, hbegun, hdrains, hopen, hclock, Bool.not_true, Bool.or_self, Bool.false_eq_true, if_false]

/-- Settles O24: a DOM_REQ is a host's write (`hostPut_power`), whose effect `powEffect_domReq` and `powEffect_coreReq` give; the two
events are `domSelect_of_next` and `drainDone_of_drains`. -/
theorem domainRequestCommandsComplete : Obligations.DomainRequestCommandsComplete := by
  have hwf {n v : Nat} (tm : Timing) (hn : n < 16) (hv : v < 3) : (Instr.domReq n v tm).wf = true := by
    simp only [Instr.wf, Bool.and_eq_true, decide_eq_true_eq]
    omega
  unfold Obligations.DomainRequestCommandsComplete
  refine ⟨?toOn, ?fromOn, ?core, ?select, ?drain⟩
  case toOn =>
    rintro q d0 d n tm rfl hn htakes
    have placed := Dev.powEffect_domReq d0.hostStart 0 hn (.inr rfl)
    rw [exec_domReq]
    exact State.run_eq (hwf tm hn (by decide)) (placed ▸ Dev.hostPut_power htakes (.inl (domReqKey_range hn)))
  case fromOn =>
    rintro q d0 d n v tm rfl hn hcore hv htakes
    have placed := Dev.powEffect_domReq d0.hostStart 0 (v := v) hn (.inl hcore)
    rw [if_neg (by omega)] at placed
    rw [exec_domReq]
    exact State.run_eq (hwf tm hn (by omega)) (placed ▸ Dev.hostPut_power htakes (.inl (domReqKey_range hn)))
  case core =>
    rintro q d0 d v tm rfl hv htakes
    have waits := Dev.powEffect_coreReq d0.hostStart (v := v) (by omega)
    rw [exec_domReq]
    exact State.run_eq (hwf tm (by decide) (by omega)) (waits ▸ Dev.hostPut_power htakes (.inl rfl))
  case select =>
    intro q d e n t r hfree hosc hclock he hnext
    rw [exec_domainSelect]
    exact State.run_eq rfl (Dev.domSelect_of_next hfree hosc hclock he hnext)
  case drain =>
    intro q d t ht hbegun hopen hdrains hclock
    rw [exec_domainDrainDone]
    exact State.run_eq rfl (Dev.drainDone_of_drains ht hbegun hdrains hopen hclock)

end Sys2Proof.Machine
end

/-! ### Time and the state of AON (01 R21)

What passes with time are counters, the clock and the random source: AON, with the domains and the transition under way, stays. -/

section
namespace Sys2Proof.Machine

@[simp] theorem Dev.fire_aon (d : Dev) (s : Nat) : (d.fire s).aon = d.aon := by
  have event : (d.srcEvent s).aon = d.aon := by
    unfold Dev.srcEvent
    dsimp only
    split <;> rfl
  unfold Dev.fire
  split
  · exact event
  · rfl

@[simp] theorem Dev.cnt_aon (d : Dev) (p i n : Nat) : (d.cnt p i n).aon = d.aon := by
  have flagged (e : Dev) (b x y : Nat) : (e.halfFlag b x y).aon = e.aon := by
    unfold Dev.halfFlag
    split
    · exact Dev.fire_aon _ _
    · rfl
  unfold Dev.cnt
  split
  · exact flagged _ _ _ _
  · rfl

@[simp] theorem Dev.tickPort_aon (d : Dev) (n p : Nat) : (d.tickPort n p).aon = d.aon := by
  have counted (e : Dev) (c : Prop) [Decidable c] (i m : Nat) : (if c then e else e.cnt p i m).aon = e.aon := by
    split
    · rfl
    · exact Dev.cnt_aon e p i m
  unfold Dev.tickPort
  split
  · simp only [counted, Dev.setMac_aon]
  · rfl

@[simp] theorem Dev.tick_aon (d : Dev) (n : Nat) : (d.tick n).aon = d.aon := by
  have ports (e : Dev) : (e.tickPorts n).aon = e.aon := by
    unfold Dev.tickPorts
    split
    · exact forEach_unchanged Dev.aon (fun p x => Dev.tickPort_aon x n p) _ e
    · rfl
  have passed : (d.pass n).aon = d.aon := (apply_ite Dev.aon ..).trans (ite_self _)
  unfold Dev.tick
  split
  · rfl
  · rw [ports, passed]

@[simp] theorem Dev.advanceTo_aon (d : Dev) (t : Nat) : (d.advanceTo t).aon = d.aon := Dev.tick_aon d _

/-- A domain's state stands while time moves on. -/
@[simp] theorem Dev.dom_advanceTo (d : Dev) (t n : Nat) : (d.advanceTo t).dom n = d.dom n := by
  rw [Dev.dom, Dev.advanceTo_aon, Dev.dom]

end Sys2Proof.Machine
end

/-! ### Transitions that end and a supply that fails (06 R194, R198, R199, R201, R222; 07 R250) -/

section
namespace Sys2Proof.Machine

/-- Whether a transition drains stands while time moves on. -/
@[simp] theorem Dev.transDrains_advanceTo (d : Dev) (x : Nat) (t : Trans) : (d.advanceTo x).transDrains t = d.transDrains t := by
  rw [Dev.transDrains, Dev.dom_advanceTo, Dev.transDrains]

/-- The way to ON drains nothing, but in a domain reset (06 R199; 07 R250). -/
theorem Dev.transDrains_to_on {d : Dev} {t : Trans} (hto : t.target = .on) : d.transDrains t = t.isReset := by
  simp [Dev.transDrains, hto]

/-- The way from ON to another state drains (06 R201). -/
theorem Dev.transDrains_from_on {d : Dev} {t : Trans} (hfrom : (d.dom t.dom).st = .on) (hto : t.target ≠ .on) :
    d.transDrains t = true := by
  simp [Dev.transDrains, hfrom, hto]

/-- The transition `t` under way may end: nothing holds it, its PLL and its clock run, and no reset has taken its bank
(06 R193, R713). -/
structure Dev.MayEnd (d : Dev) (t : Trans) : Prop where
  running : d.aon.trans = some t
  begun : t.waiting = false
  pllRuns : t.pllWait = false
  clocked : d.aon.xtalStopped = false
  kept : t.lost = false

/-- What the domain held is left as its drain ends; a drain that has ended has done so (06 R201). -/
def Dev.drainEnds (d : Dev) (t : Trans) : Dev :=
  if t.drained then d else (d.drainLocks t.dom).leaves t.dom (t.isReset || t.target == .off) t.isReset

/-- A domain that reports ON takes its claims, and Towpath its sessions (20 R669). -/
def Dev.claimsBack (d : Dev) (n : Nat) : Dev := if n = 14 then (d.claimsOn n).towReachesOn else d.claimsOn n

/-- Source 6 fires as a transition ends, unless a request waits (06 R194). -/
def Dev.tellsEnd (d : Dev) (n : Nat) : Dev := if (d.dom n).pend.isNone then d.fire 6 else d

/-- With NVM the NV load that waits for it begins (08 R277). -/
def Dev.nvLoadBegins (d : Dev) (n : Nat) : Dev :=
  if n = 2 && (d.aon.startup = .nvLoad || d.aon.nvLoadDue) then d.setAon (fun a => { a with stepAt := d.ck }) else d

/-- From OFF to ON the domain starts up, and CORE takes the start-up further (06 R199; 07 Table 7.1). -/
theorem Dev.transEnds_of_off {d e : Dev} {t : Trans} {bad : List Nat} (h : d.MayEnd t) (hto : t.target = .on)
    (hreset : t.isReset = false) (hfrom : (d.dom t.dom).st = .off) (he : e = d.advanceTo (t.start + d.transCk t)) :
    d.transEnds bad =
      (let f := (((e.transOver t.dom .on false).startsUp t.dom bad).claimsBack t.dom).tellsEnd t.dom
       (if t.dom = 1 then f.coreUp else f).nvLoadBegins t.dom) := by
  obtain ⟨running, begun, pllRuns, clocked, kept⟩ := h
  subst he
  simp [Dev.transEnds, Dev.transDrains_to_on hto, Dev.claimsBack, Dev.tellsEnd, Dev.nvLoadBegins, running, begun, pllRuns, clocked, kept,
    hto, hreset, hfrom]

/-- From RETENTION to ON what the domain kept goes on (06 R199). -/
theorem Dev.transEnds_of_retention {d e : Dev} {t : Trans} {bad : List Nat} (h : d.MayEnd t) (hto : t.target = .on)
    (hreset : t.isReset = false) (hfrom : (d.dom t.dom).st = .retention) (he : e = d.advanceTo (t.start + d.transCk t)) :
    d.transEnds bad =
      ((((e.transOver t.dom .on false).resumes t.dom).claimsBack t.dom).tellsEnd t.dom).nvLoadBegins t.dom := by
  obtain ⟨running, begun, pllRuns, clocked, kept⟩ := h
  subst he
  simp [Dev.transEnds, Dev.transDrains_to_on hto, Dev.claimsBack, Dev.tellsEnd, Dev.nvLoadBegins, running, begun, pllRuns, clocked, kept,
    hto, hreset, hfrom]

/-- To RETENTION the domain leaves what it held (06 R201). -/
theorem Dev.transEnds_to_retention {d e : Dev} {t : Trans} {bad : List Nat} (h : d.MayEnd t) (hto : t.target = .retention)
    (hreset : t.isReset = false) (hfrom : (d.dom t.dom).st = .on) (he : e = d.advanceTo (t.start + d.transCk t)) :
    d.transEnds bad = ((e.drainEnds t).transOver t.dom .retention false).tellsEnd t.dom := by
  obtain ⟨running, begun, pllRuns, clocked, kept⟩ := h
  subst he
  have drains : d.transDrains t = true := Dev.transDrains_from_on hfrom (by simp [hto])
  cases hd : t.drained <;>
    simp [Dev.transEnds, drains, Dev.drainEnds, Dev.tellsEnd, running, begun, pllRuns, clocked, kept, hto, hreset, hd]

/-- To OFF the domain leaves what it held, which is gone, with CORE what is staged too (06 R201; 07 Table 7.2). -/
theorem Dev.transEnds_to_off {d e : Dev} {t : Trans} {bad : List Nat} (h : d.MayEnd t) (hto : t.target = .off)
    (hreset : t.isReset = false) (hfrom : (d.dom t.dom).st ≠ .off) (he : e = d.advanceTo (t.start + d.transCk t)) :
    d.transEnds bad =
      (let f := ((e.drainEnds t).transOver t.dom .off false).goesOff t.dom
       (if t.dom = 1 then f.stagedGone else f).tellsEnd t.dom) := by
  obtain ⟨running, begun, pllRuns, clocked, kept⟩ := h
  subst he
  have leaves : (d.transDrains t || (d.dom t.dom).st == .retention) = true := by
    cases hst : (d.dom t.dom).st with
    | off => exact absurd hst hfrom
    | retention => simp
    | on => simp [Dev.transDrains_from_on hst, hto]
  cases hd : t.drained <;>
    simp [Dev.transEnds, Dev.drainEnds, Dev.tellsEnd, running, begun, pllRuns, clocked, kept, hto, hreset, leaves, hd]

/-- A domain reset, of another domain than CORE, NVM and PM0, leaves, loses and starts up again in one (07 R250). -/
theorem Dev.transEnds_of_reset {d e : Dev} {t : Trans} {bad : List Nat} (h : d.MayEnd t) (hto : t.target = .on)
    (hreset : t.isReset = true) (hcore : t.dom ≠ 1) (hnvm : t.dom ≠ 2) (hpm : t.dom ≠ 3)
    (he : e = d.advanceTo (t.start + d.transCk t)) :
    d.transEnds bad =
      (((((e.drainEnds t).transOver t.dom .on false).goesOff t.dom).startsUp t.dom bad).claimsBack t.dom).tellsEnd t.dom := by
  obtain ⟨running, begun, pllRuns, clocked, kept⟩ := h
  subst he
  cases hd : t.drained <;>
    simp [Dev.transEnds, Dev.transDrains_to_on hto, Dev.drainEnds, Dev.claimsBack, Dev.tellsEnd, running, begun, pllRuns, clocked, kept,
      hto, hreset, hcore, hnvm, hpm, hd]

/-- A supply that fails within its time on the way to ON: the domain is OFF, with what it retained gone, marked failed, counted and
logged, and source 7 fires (06 R222; log entry 29). -/
theorem Dev.powerFail_of_ramp {d e : Dev} {t : Trans} (ht : d.aon.trans = some t) (hcore : t.dom ≠ 1) (hnvm : t.dom ≠ 2)
    (hto : t.target = .on) (hreset : t.isReset = false) (hbegun : t.waiting = false) (hclock : d.aon.xtalStopped = false)
    (hintime : t.pllWait = true ∨ d.ck ≤ t.start + rampCk t.dom + 1500) (he : e = d.advanceTo (t.start + rampCk t.dom + 500)) :
    d.powerFail =
      (let f := if (d.dom t.dom).st = .retention then
           (((e.leaves t.dom true false).transOver t.dom .off true).wr (0x211001 + t.dom) 0).goesOff t.dom
         else (e.transOver t.dom .off true).wr (0x211001 + t.dom) 0
       ((f.inc 0x213004).fault 0x0B 0xFF 0 t.dom 0).fire 7) := by
  subst he
  have inTime : (!t.pllWait && decide (t.start + rampCk t.dom + 500 + 1000 < d.ck)) = false := by
    rcases hintime with h | h
    · simp [h]
    · simp only [Bool.and_eq_false_imp, decide_eq_false_iff_not]
      omega
  by_cases hret : (d.dom t.dom).st = .retention <;>
    simp [Dev.powerFail, ht, hbegun, hreset, hto, inTime, hclock, hcore, hnvm, hret]

end Sys2Proof.Machine
end

/-! ### The scan of a bank's owner array (09 R323) -/

section
namespace Sys2Proof.Machine

/-- What the scan of bank `b` does with a barge: a FREE one joins the free list of its pound, or goes to HOST outside every pound; with the
bank kept through a reset one that an engine owns, or that is locked, is freed with zeroing (09 R323; log entry 37). -/
def scanStep (b : Nat) (kept : Bool) (x : Nat × Barge) (f : Dev) : Dev :=
  if x.2.owner = .free ∧ x.2.next = none then
    match f.poundTo x.1 with
    | some p => if x.2.retired then f else f.addFree p b [x.1]
    | none => f.requestLock x.1 .host 0
  else if kept = true ∧ x.2.retired = false ∧ (x.2.next ≠ none ∨ (x.2.owner ≠ .host ∧ x.2.owner ≠ .free)) then
    let g := f.setBarge x.1 (fun r => { r with next := none })
    if (f.barge x.1).owner = .zeroing ∧ f.pooled x.1 = true then g.zeroFrom x.1
    else g.pushLock x.1 (f.barge x.1).owner (if f.pooled x.1 then .zeroing else .host) 256
  else f

/-- A barge of a kept bank is zeroed again where it was found in ZEROING in a pound; else a lock cycle frees it, to HOST outside every
pound (09 R293, R323). -/
theorem Dev.scanFrees_eq (d : Dev) (x : Nat) : d.scanFrees x =
    (let g := d.setBarge x (fun r => { r with next := none })
     if (d.barge x).owner = .zeroing ∧ d.pooled x = true then g.zeroFrom x
     else g.pushLock x (d.barge x).owner (if d.pooled x then .zeroing else .host) 256) := by
  have pooled : (d.setBarge x (fun r => { r with next := none })).pooled x = d.pooled x := rfl
  cases hp : d.pooled x <;> simp [Dev.scanFrees, Dev.lockDest, pooled, hp]

/-- The scan of a bank that is ON ends 2,048 CK after it began, with every barge of the bank taken in order (09 R323). -/
theorem Dev.scanDone_of_on {d e : Dev} {b since : Nat} {kept : Bool}
    (hscan : d.pm.scan.find? (fun e => e.1 == b) = some (b, kept, since)) (hon : d.bankOn b = true)
    (he : e = d.advanceTo (since + 2048)) :
    d.scanDone b =
      (forEach (e.pm.barges.filter (fun x => bankOf x.1 == b))
        (e.setPm (fun m => { m with scan := m.scan.filter (fun x => x.1 != b) })) (scanStep b kept)).watchPounds := by
  subst he
  simp only [Dev.scanDone, hscan, hon, Bool.not_true, Bool.false_eq_true, if_false]
  refine congrArg Dev.watchPounds (congrArg (forEach _ _) (funext fun x => funext fun f => ?_))
  have free : (x.2.owner == .free && x.2.next.isNone) = true ↔ x.2.owner = .free ∧ x.2.next = none := by simp
  have freed : (kept && (x.2.next.isSome || x.2.owner != .host && x.2.owner != .free) && !x.2.retired) = true ↔
      kept = true ∧ x.2.retired = false ∧ (x.2.next ≠ none ∨ (x.2.owner ≠ .host ∧ x.2.owner ≠ .free)) := by
    simp [Option.isSome_iff_ne_none, and_comm, and_left_comm]
  exact ite_congr (propext free) (fun _ => rfl) fun _ =>
    ite_congr (propext freed) (fun _ => Dev.scanFrees_eq f x.1) fun _ => rfl

/-- Settles O25: a transition that ends is the run of `transEnds`, which `transEnds_of_off` to `transEnds_of_reset` give by what the
domain leaves and what it reaches; a supply that fails is `powerFail_of_ramp`, the owner scan `scanDone_of_on`. -/
theorem domainTransitionCommandsComplete : Obligations.DomainTransitionCommandsComplete := by
  have hwf {bad : List Nat} (hbad : ∀ i ∈ bad, i < 14) : (Instr.domainTransitionEnd bad).wf = true :=
    List.all_eq_true.2 fun i hi => decide_eq_true (hbad i hi)
  unfold Obligations.DomainTransitionCommandsComplete
  refine ⟨?offToOn, ?retentionToOn, ?toRetention, ?toOff, ?reset, ?powerFail, ?scan⟩
  case offToOn =>
    rintro q d e t bad n hbad ht rfl - hto hreset hbegun hpll hkept hclock hfrom he
    rw [exec_domainTransitionEnd]
    exact State.run_eq (hwf hbad) (Dev.transEnds_of_off ⟨ht, hbegun, hpll, hclock, hkept⟩ hto hreset hfrom he)
  case retentionToOn =>
    rintro q d e t bad n hbad ht rfl - hto hreset hbegun hpll hkept hclock hfrom he
    rw [exec_domainTransitionEnd]
    exact State.run_eq (hwf hbad) (Dev.transEnds_of_retention ⟨ht, hbegun, hpll, hclock, hkept⟩ hto hreset hfrom he)
  case toRetention =>
    rintro q d e t n ht rfl - hto hreset hbegun hpll hkept hclock hfrom he
    have ends := Dev.transEnds_to_retention (bad := []) ⟨ht, hbegun, hpll, hclock, hkept⟩ hto hreset hfrom he
    rw [Dev.drainEnds, hreset, hto] at ends
    rw [exec_domainTransitionEnd]
    exact State.run_eq rfl ends
  case toOff =>
    rintro q d e t n ht rfl - hto hreset hbegun hpll hkept hclock hfrom he
    have ends := Dev.transEnds_to_off (bad := []) ⟨ht, hbegun, hpll, hclock, hkept⟩ hto hreset hfrom he
    rw [Dev.drainEnds, hreset, hto] at ends
    rw [exec_domainTransitionEnd]
    exact State.run_eq rfl ends
  case reset =>
    rintro q d e t bad n hbad ht rfl - hcore hnvm hpm hto hreset hbegun hpll hkept hclock he
    have ends := Dev.transEnds_of_reset (bad := bad) ⟨ht, hbegun, hpll, hclock, hkept⟩ hto hreset hcore hnvm hpm he
    rw [Dev.drainEnds, hreset, hto] at ends
    rw [exec_domainTransitionEnd]
    exact State.run_eq (hwf hbad) ends
  case powerFail =>
    rintro q d e t n ht rfl - hcore hnvm hto hreset hbegun hclock hintime he
    rw [exec_domainPowerFail]
    exact State.run_eq rfl (Dev.powerFail_of_ramp ht hcore hnvm hto hreset hbegun hclock hintime he)
  case scan =>
    intro q d e b since kept hb hscan hon he
    rw [exec_ownerScanDone]
    exact State.run_eq (decide_eq_true hb) (Dev.scanDone_of_on hscan hon he)

end Sys2Proof.Machine
end

/-! ### Wake latches, the temperature and refresh (06 R205-R210; 09 R315) -/

section
namespace Sys2Proof.Machine

/-- An edge of an armed latch that is clear sets it and, with the oscillator running and no lockout, places its ON requests
(06 R208, R209). -/
theorem Dev.latch_of_armed {d : Dev} {n : Nat} (harmed : d.flag 0x214001 n = true) (hclear : d.flag 0x214002 n = false)
    (hpor : d.aon.inPor = false) (hosc : d.aon.osc = true) (hlock : d.sup.lockout = false) :
    d.latch n = (d.wr 0x214002 (setBit (d.rd 0x214002) n true)).wakeRequests (2 ^ n) := by
  simp [Dev.latch, harmed, hclear, hpor, hosc, hlock]

/-- An edge of another latch than that of main is an event of its source too (18 R636). -/
theorem Dev.wakeEdge_of_pos {d : Dev} {n : Nat} (hn : 0 < n) : d.wakeEdge n = (d.latch n).fire (latchSource n) :=
  if_pos (by omega)

/-- WAKE_CLEAR clears the latches it names (06 R210). -/
theorem Dev.powEffect_wakeClear (d : Dev) (ini v : Nat) : d.powEffect ini 0x214003 v =
    d.wr 0x214002 ((List.range 16).foldl (fun a n => if v.testBit n then setBit a n false else a) (d.rd 0x214002)) := rfl

/-- A sample above 85 degrees sets the hot flag (06 R206). -/
theorem Dev.tempSample_of_hot {d e : Dev} {c : Int} (hosc : d.aon.osc = true) (hhot : 85 < c)
    (he : e = d.advanceTo (d.aon.tempAt + 100000)) :
    d.tempSample c = (e.setAon (fun a => { a with tempAt := e.ck, lastCelsius := c, coolSince := none })).wr 0x214004 1 := by
  have sampled : d.advanceTo (d.aon.tempAt + ckPerMs) = e := he.symm
  simp only [Dev.tempSample, sampled, hosc, Bool.not_true, Bool.false_eq_true, if_false, if_pos hhot]
  rfl

/-- A sample of 80 degrees or less clears a hot flag that stands, a second after the first such sample (06 R206). -/
theorem Dev.tempSample_of_cool {d e : Dev} {c : Int} {since : Nat} (hosc : d.aon.osc = true) (hcool : c ≤ 80)
    (he : e = d.advanceTo (d.aon.tempAt + 100000)) (hflag : e.rd 0x214004 = 1) (hsince : e.aon.coolSince = some since)
    (hlong : since + 100000000 ≤ e.ck) :
    d.tempSample c = (e.setAon (fun a => { a with tempAt := e.ck, lastCelsius := c, coolSince := none })).wr 0x214004 0 := by
  have sampled : d.advanceTo (d.aon.tempAt + ckPerMs) = e := he.symm
  have notHot : ¬85 < c := by omega
  have clears : (decide (e.rd 0x214004 = 1) && decide (c ≤ 80)) = true := by simp [hflag, hcool]
  have second : (e.aon.coolSince.getD e.ck) + 1000 * ckPerMs ≤ e.ck := by rwa [hsince]
  simp only [Dev.tempSample, sampled, hosc, Bool.not_true, Bool.false_eq_true, if_false, if_neg notHot]
  exact (if_pos clears).trans (if_pos second)

/-- The refresher of a bank in the state it works in takes its next row at its rate (06 R205, R207; 09 R315). -/
theorem Dev.refresh_of_state {d e : Dev} {b : Nat} {st : DSt} (hst : (d.dom (3 + b)).st = st) (hclock : d.aon.xtalStopped = false)
    (he : e = d.advanceTo (d.aon.refAt.getD b 0 + (if d.rd 0x214004 = 1 then 388 else 780))) :
    d.refresh b st = e.setAon (fun a => { a with
      refRow := updAt a.refRow b (fun r => (r + 1) % 8192), refAt := updAt a.refAt b (fun _ => e.ck) }) := by
  subst he
  exact if_pos (by simp [bankDom, hst, hclock])

/-- Settles O26: each command is the run of its effect (`exec_wakeEdge` and its like), given by `latch_of_armed` to
`refresh_of_state`. -/
theorem wakeAndRefreshCommandsComplete : Obligations.WakeAndRefreshCommandsComplete := by
  have hwf {c : Int} (hlow : -128 ≤ c) (hhigh : c < 128) : (Instr.tempSample c).wf = true := by simp [Instr.wf, hlow, hhigh]
  unfold Obligations.WakeAndRefreshCommandsComplete
  refine ⟨?edge, ?clear, ?hot, ?cool, ?retained, ?on⟩
  case edge =>
    intro q d n hpos hn harmed hclear hpor hosc hlock
    rw [exec_wakeEdge]
    refine State.run_eq (decide_eq_true hn) ?_
    rw [Dev.wakeEdge_of_pos hpos, Dev.latch_of_armed harmed hclear hpor hosc hlock]
  case clear =>
    rintro q d0 d v tm rfl hv htakes
    rw [exec_wakeClear]
    exact State.run_eq (decide_eq_true hv) ((Dev.hostPut_power htakes (.inl rfl)).trans (by rw [Dev.powEffect_wakeClear]))
  case hot =>
    intro q d e c hhot hhigh hosc he
    rw [exec_tempSample]
    exact State.run_eq (hwf (by omega) hhigh) (Dev.tempSample_of_hot hosc hhot he)
  case cool =>
    intro q d e c since hlow hcool hosc he hflag hsince hlong
    rw [exec_tempSample]
    exact State.run_eq (hwf hlow (by omega)) (Dev.tempSample_of_cool hosc hcool he hflag hsince hlong)
  case retained =>
    intro q d e b hb hst hclock he
    rw [exec_retentionRefresh]
    exact State.run_eq (decide_eq_true hb) (Dev.refresh_of_state hst hclock he)
  case on =>
    intro q d e b hb hst hclock he
    rw [exec_bankRefresh]
    exact State.run_eq (decide_eq_true hb) (Dev.refresh_of_state hst hclock he)

end Sys2Proof.Machine
end

/-! ### Start-up and resets (07 R229, R241, R244-R250, R254; 08 R277, R278) -/

section
namespace Sys2Proof.Machine

/-- A count costs no time. -/
@[simp] theorem Dev.inc_ck (d : Dev) (k : Nat) : (d.inc k).ck = d.ck := Dev.wr_ck d k _

/-- The lock ends step 3, and CORE is requested ON (07 R229, R241). -/
theorem Dev.pllLocked_of_startup {d : Dev} {t : Nat} (hstart : d.aon.pllStart = some t) (hstep : d.aon.startup = .pllLock)
    (hfree : d.aon.trans = none) :
    d.pllLocked = (d.setAon (fun a => { a with pll := true, pllStart := none, startup := .coreOn, stepAt := d.ck })).placeReq 1 .on := by
  simp only [Dev.pllLocked, hstart, hstep, hfree, Dev.setAon, Option.map_none, if_true, Dev.coreStep, dCORE]

/-- A lock that takes 100 us is counted, and the PLL starts anew (07 R254). -/
theorem Dev.pllTimeout_of_startup {d : Dev} {t : Nat} (hstart : d.aon.pllStart = some t) (hstep : d.aon.startup = .pllLock) :
    d.pllTimeout = ((d.advanceTo (t + 10000)).inc 0x220006).setAon (fun a =>
      { a with pllStart := some (d.advanceTo (t + 10000)).ck }) := by
  have timeout : d.afterUs t 100 = d.advanceTo (t + 10000) := rfl
  simp only [Dev.pllTimeout, hstart, hstep, timeout, Dev.inc_ck]

/-- The load of step 5 ends it, after what its reads take: no more than 08 R277 and R278 allow, no less than the headers need
(log entry 61). -/
theorem Dev.loadDone_of_step5 {d : Dev} {n : Nat} (f : LoadFound) (hstep : d.aon.startup = .nvLoad) (hon : d.on dNVM = true)
    (hn : n = d.nv.opened.length + d.nv.partly.length) :
    d.loadDone f = (((d.advanceTo (d.aon.stepAt + max (1024 * n / 100) (min f.us (12 + 21 * n / 2)) * 100)).nvLoad f).setAon
      (fun a => { a with nvLoadDue := false })).step5End := by
  subst hn
  simp [Dev.loadDone, hstep, hon, Dev.afterUs, Dev.nvLoadUs]

/-- RESET_n low for fewer than 50 CK does nothing but take its time (07 R244, R253). -/
theorem Dev.resetNAssert_of_short {d : Dev} {held : Nat} (hshort : held < 50) (hpll : d.aon.pll = true) (hhigh : d.aon.rstLow = false) :
    d.resetNAssert held = d.tick held := by
  simp only [Dev.resetNAssert, hpll, hhigh, Bool.not_true, Bool.or_self, Bool.false_eq_true, if_false, if_pos hshort]

/-- RESET_n low for 50 CK resets every domain but KEEP in the 50th, with cause 4, and what is staged is discarded (07 R244, R245). -/
theorem Dev.resetNAssert_of_held {d : Dev} {held : Nat} (hheld : 50 ≤ held) (hpll : d.aon.pll = true) (hhigh : d.aon.rstLow = false) :
    d.resetNAssert held =
      ((((d.tick 50).setAon (fun a => { a with rstLow := true })).resetDomains butKeep).stagedGone).wr 0x220002 4 := by
  simp only [Dev.resetNAssert, hpll, hhigh, Bool.not_true, Bool.or_self, Bool.false_eq_true, if_false, if_neg (Nat.not_lt.2 hheld)]

/-- Released while the PLL runs, RESET_n lets start-up run from step 3 in the CK after, with the cause recorded (07 R245, R253). -/
theorem Dev.resetNRelease_of_low {d : Dev} (hlow : d.aon.rstLow = true) (hpll : d.aon.pll = true) :
    d.resetNRelease =
      (((d.setAon (fun a => { a with rstLow := false })).tick 1).startupBegin (d.rd 0x220002) .pllLock).pllStep := by
  simp only [Dev.resetNRelease, hlow, hpll, Bool.not_true, Bool.or_self, Bool.false_eq_true, if_false]

/-- The host's soft reset waits for its response where its set holds CORE; another takes effect in the CK after (07 R247). -/
theorem Dev.powEffect_softReset (d : Dev) (v : Nat) : d.powEffect 0 0x220004 v =
    if (d.rd 0x220003).testBit 1 then d.setAon (fun a => { a with coreDue := some (0xFF, 2) }) else (d.tick 1).softReset := rfl

/-- DOM_RESET asks for the reset of the domain it names (07 R250). -/
theorem Dev.powEffect_domReset (d : Dev) (ini n : Nat) :
    d.powEffect ini 0x220005 n = d.setDom n (fun o => { o with resetReq := true }) := rfl

/-- Settles O27: each event is the run of its effect (`exec_pllLocked` and its like), given by `pllLocked_of_startup` to
`resetNRelease_of_low`; a reset the host asks for is a write (`hostPut_power`) with the effect `powEffect_softReset` or
`powEffect_domReset`. -/
theorem resetCommandsComplete : Obligations.ResetCommandsComplete := by
  unfold Obligations.ResetCommandsComplete
  refine ⟨?locked, ?timeout, ?load, ?short, ?held, ?release, ?softCore, ?soft, ?domain⟩
  case locked =>
    intro q d t hstart hstep hfree
    rw [exec_pllLocked]
    exact State.run_eq rfl (Dev.pllLocked_of_startup hstart hstep hfree)
  case timeout =>
    intro q d t hstart hstep
    rw [exec_pllLockTimeout]
    exact State.run_eq rfl (Dev.pllTimeout_of_startup hstart hstep)
  case load =>
    intro q d f n hstep hon hn
    rw [exec_nvLoadDone]
    exact State.run_eq rfl (Dev.loadDone_of_step5 f hstep hon hn)
  case short =>
    intro q d held hshort hpll hhigh
    rw [exec_resetNAssert]
    exact State.run_eq rfl (Dev.resetNAssert_of_short hshort hpll hhigh)
  case held =>
    intro q d held hheld hpll hhigh
    rw [exec_resetNAssert]
    exact State.run_eq rfl (Dev.resetNAssert_of_held hheld hpll hhigh)
  case release =>
    intro q d hlow hpll
    rw [exec_resetNRelease]
    exact State.run_eq rfl (Dev.resetNRelease_of_low hlow hpll)
  case softCore =>
    rintro q d0 d tm rfl htakes hcore
    have waits := (Dev.powEffect_softReset d0.hostStart 0x7A5E).trans (if_pos hcore)
    rw [exec_softReset]
    exact State.run_eq rfl (waits ▸ Dev.hostPut_power htakes (.inr rfl))
  case soft =>
    rintro q d0 d tm rfl htakes hcore
    have resets := (Dev.powEffect_softReset d0.hostStart 0x7A5E).trans (if_neg (ne_true_of_eq_false hcore))
    rw [exec_softReset]
    exact State.run_eq rfl (resets ▸ Dev.hostPut_power htakes (.inr rfl))
  case domain =>
    rintro q d0 d n tm rfl hn htakes
    rw [exec_domReset]
    refine State.run_eq (decide_eq_true (by omega)) ?_
    rw [Dev.hostPut_power htakes (.inr rfl), Dev.powEffect_domReset]

end Sys2Proof.Machine
end

/-! ### Time, events and the array (01 R21; 08)

What passes with time, and what an event changes, stated once for every field that stays; of the array nothing changes. -/

section
namespace Sys2Proof.Machine

/-- An event of a source leaves what no write of an object changes (18 R623, R624). -/
theorem Dev.fire_keeps {β : Type} {g : Dev → β} (hwr : ∀ (d : Dev) (k v : Nat), g (d.wr k v) = g d) (d : Dev) (s : Nat) :
    g (d.fire s) = g d := by
  have event : g (d.srcEvent s) = g d := by
    unfold Dev.srcEvent
    dsimp only
    split <;> exact hwr d _ _
  unfold Dev.fire
  split
  · exact event
  · rfl

/-- A port's counter leaves what no write of an object changes (17 R611). -/
theorem Dev.cnt_keeps {β : Type} {g : Dev → β} (hwr : ∀ (d : Dev) (k v : Nat), g (d.wr k v) = g d) (d : Dev) (p i n : Nat) :
    g (d.cnt p i n) = g d := by
  have flagged (e : Dev) (b x y : Nat) : g (e.halfFlag b x y) = g e := by
    unfold Dev.halfFlag
    split
    · exact (Dev.fire_keeps hwr _ _).trans (hwr e _ _)
    · rfl
  unfold Dev.cnt
  split
  · exact (flagged _ _ _ _).trans (hwr d _ _)
  · rfl

/-- A port's counters of time leave what changes with no object and no MAC (17 Table 17.2). -/
theorem Dev.tickPort_keeps {β : Type} {g : Dev → β} (hwr : ∀ (d : Dev) (k v : Nat), g (d.wr k v) = g d)
    (hmac : ∀ (d : Dev) (p : Nat) (f : Mac → Mac), g (d.setMac p f) = g d) (d : Dev) (n p : Nat) : g (d.tickPort n p) = g d := by
  have counted (e : Dev) (c : Prop) [Decidable c] (i m : Nat) : g (if c then e else e.cnt p i m) = g e := by
    split
    · rfl
    · exact Dev.cnt_keeps hwr e p i m
  unfold Dev.tickPort
  split
  · exact ((counted _ _ _ _).trans (counted _ _ _ _)).trans (hmac d p _)
  · rfl

/-- Time leaves what changes with no object, no MAC, and neither the CK count, the random source nor the clock (01 R21). -/
theorem Dev.tick_keeps {β : Type} {g : Dev → β} (hwr : ∀ (d : Dev) (k v : Nat), g (d.wr k v) = g d)
    (hmac : ∀ (d : Dev) (p : Nat) (f : Mac → Mac), g (d.setMac p f) = g d) (hpass : ∀ (d : Dev) (n : Nat), g (d.pass n) = g d)
    (d : Dev) (n : Nat) : g (d.tick n) = g d := by
  have ports (e : Dev) : g (e.tickPorts n) = g e := by
    unfold Dev.tickPorts
    split
    · exact forEach_unchanged g (fun p x => Dev.tickPort_keeps hwr hmac x n p) _ e
    · rfl
  unfold Dev.tick
  split
  · rfl
  · exact (ports _).trans (hpass d n)

@[simp] theorem Dev.fire_nv (d : Dev) (s : Nat) : (d.fire s).nv = d.nv := Dev.fire_keeps Dev.wr_nv d s

@[simp] theorem Dev.advanceTo_nv (d : Dev) (t : Nat) : (d.advanceTo t).nv = d.nv :=
  have passed (e : Dev) (n : Nat) : (e.pass n).nv = e.nv := (apply_ite Dev.nv ..).trans (ite_self _)
  Dev.tick_keeps Dev.wr_nv Dev.setMac_nv passed d _

/-- A slot keeps its state while time moves on. -/
theorem Dev.jobState_advanceTo (d : Dev) {n : Nat} (t : Nat) (hn : n < 4) : (d.advanceTo t).jobState n = d.jobState n :=
  Dev.rd_tick_of_lt d _ (Nat.lt_trans (jobKey_lt hn (by decide)) (by decide))

/-- A search finds the same with a test that agrees on what the list holds. -/
theorem find?_of_agree {α : Type} {p r : α → Bool} {l : List α} (h : ∀ x ∈ l, p x = r x) : l.find? p = l.find? r := by
  induction l with
  | nil => rfl
  | cons x t ih => rw [List.find?_cons, List.find?_cons, h x List.mem_cons_self, ih fun y hy => h y (List.mem_cons_of_mem x hy)]

/-- The active NV job stands while time moves on. -/
theorem Dev.nvJob_advanceTo (d : Dev) (t : Nat) : (d.advanceTo t).nvJob = d.nvJob := by
  refine find?_of_agree fun s hs => ?_
  have slot : s < 4 := List.mem_range.1 hs
  rw [Dev.jobKind_advanceTo d t slot, Dev.jobState_advanceTo d t slot]

/-- No change of the array changes which NV job is active. -/
@[simp] theorem Dev.nvJob_setNv (d : Dev) (f : Nv → Nv) : (d.setNv f).nvJob = d.nvJob := rfl

/-! ### The record in hand while its words are placed (08 R263, R718) -/

@[simp] theorem Dev.nvPut_cur (d : Dev) (q n : Nat) : (d.nvPut q n).nv.cur = d.nv.cur := by
  unfold Dev.nvPut
  split <;> rfl

@[simp] theorem Dev.nvOpen_cur (d : Dev) : d.nvOpen.nv.cur = d.nv.cur := by
  unfold Dev.nvOpen
  dsimp only
  split
  · rw [Dev.fire_nv]
    rfl
  · rfl

@[simp] theorem Dev.nvPlace_cur (d : Dev) (q n : Nat) : (d.nvPlace q n).nv.cur = d.nv.cur := by
  unfold Dev.nvPlace
  dsimp only
  split
  · exact Dev.nvPut_cur d q n
  · rw [Dev.nvPut_cur, Dev.nvOpen_cur, Dev.nvPut_cur]

/-- The words programmed count for the record in hand, and nothing else of it changes. -/
theorem Dev.nvWrote_cur (d : Dev) (n : Nat) :
    (d.nvWrote n).nv.cur = d.nv.cur.map (fun w => { w with written := w.written + n }) :=
  congrArg (Option.map _) (Dev.nvPlace_cur d d.nv.seq n)

end Sys2Proof.Machine
end

/-! ### The end of a step of the array (08 R259-R282, R715) -/

section
namespace Sys2Proof.Machine

/-- What a step has done to the array and to the write it belongs to, its time and its margin read apart (08 R263). -/
def Dev.nvEffect (d : Dev) : NvAct → Dev
  | .chunk n =>
    match (d.nvWrote n).nv.cur with
    | some w => if w.words ≤ w.written then (d.nvWrote n).nvDefaultsAt 1 else d.nvWrote n
    | none => d.nvWrote n
  | .check => (d.nvWrote 1).nvDefaultsAt 2
  | .commit => d.nvCommitted
  | .home n => d.nvHomeWrote n
  | .mark => d.nvMarked
  | .erase s => d.nvErased s
  | .void => d.setNv (fun v => { v with voidDue := false }.setRec v.seq (fun r => { r with commit := List.replicate 8 0 }))

/-- Two changes of the array are one. -/
theorem Dev.setNv_setNv (d : Dev) (f g : Nv → Nv) : (d.setNv f).setNv g = d.setNv (fun v => g (f v)) := rfl

/-- A command that names the kind of the running step ends that step. -/
theorem Dev.nvStepEnds_of_code {d : Dev} {st : NvStep} (pass : Bool) (h : d.nv.step = some st) :
    d.nvStepEnds [st.act.code] pass = d.nvFinish pass := by
  simp [Dev.nvStepEnds, h]

/-- A running step of `t` CK has done its work that long after its start. -/
theorem Dev.nvDue_of_step {d : Dev} {st : NvStep} {t : Nat} (h : d.nv.step = some st) (ht : st.us * 100 = t) :
    d.nvDue = d.advanceTo (st.since + t) := by
  subst ht
  simp only [Dev.nvDue, h, Dev.afterUs]

/-- A home mark of eight words takes 8,000 CK (08 R258, R263). -/
theorem NvStep.ck_mark (o : Bool) (at_ : Nat) : NvStep.us ⟨.mark, o, at_⟩ * 100 = 8000 := congrArg (· * 100) (rfl : _ = 80)

/-- An erase takes 120,000 CK (08 R258). -/
theorem NvStep.ck_erase (s : Nat) (o : Bool) (at_ : Nat) : NvStep.us ⟨.erase s, o, at_⟩ * 100 = 120000 :=
  congrArg (· * 100) (rfl : _ = 1200)

/-- A commit word takes 1,000 CK to void (08 R258, R715). -/
theorem NvStep.ck_void (o : Bool) (at_ : Nat) : NvStep.us ⟨.void, o, at_⟩ * 100 = 1000 := congrArg (· * 100) (rfl : _ = 10)

/-- A mark whose margin read fails is programmed further: time passes, and the step goes on (08 R260). -/
theorem Dev.nvStepEnds_of_failed {d : Dev} {st : NvStep} {t : Nat} (h : d.nv.step = some st) (ht : st.us * 100 = t)
    (hmark : st.act = .commit ∨ st.act = .mark) : d.nvStepEnds [st.act.code] false = d.advanceTo (st.since + t) := by
  have marks : (st.act == .commit || st.act == .mark) = true := by
    rcases hmark with hact | hact <;> rw [hact] <;> rfl
  rw [Dev.nvStepEnds_of_code false h, ← Dev.nvDue_of_step h ht]
  simp only [Dev.nvFinish, h, marks, Bool.not_false, Bool.and_self, if_true]

/-- A step that writes no mark, and one whose mark passes its margin read, ends at its time with its effect (08 R260, R263). -/
theorem Dev.nvStepEnds_of_passed {d : Dev} {st : NvStep} {t : Nat} {pass : Bool} (h : d.nv.step = some st) (ht : st.us * 100 = t)
    (hpass : pass = true ∨ st.act ≠ .commit ∧ st.act ≠ .mark) :
    d.nvStepEnds [st.act.code] pass = ((d.advanceTo (st.since + t)).setNv (fun v => { v with step := none })).nvEffect st.act := by
  have passes : (!pass && (st.act == .commit || st.act == .mark)) = false := by
    rcases hpass with rfl | ⟨noCommit, noMark⟩
    · rfl
    · simp [noCommit, noMark]
  rw [Dev.nvStepEnds_of_code pass h, ← Dev.nvDue_of_step h ht]
  simp only [Dev.nvFinish, h, passes, Bool.false_eq_true, if_false]
  cases st.act <;> rfl

/-- A chunk of a record places its words; the one that completes header and body is the first of the three steps in which
NV_RESTORE_DEFAULTS progresses (08 R263, R271). -/
theorem Dev.nvEffect_chunk {d : Dev} {n : Nat} {w : NvWrite} (hcur : d.nv.cur = some w) :
    d.nvEffect (.chunk n) = if w.words ≤ w.written + n then (d.nvWrote n).nvDefaultsAt 1 else d.nvWrote n := by
  have cur : (d.nvWrote n).nv.cur = some { w with written := w.written + n } := by rw [Dev.nvWrote_cur, hcur, Option.map_some]
  simp only [Dev.nvEffect, cur]

/-- A mark makes the new home valid; the compaction goes on to phase X, unless its job has ended (08 R274, R276). -/
theorem Dev.nvEffect_mark {d : Dev} {c : Compact} (hcomp : d.nv.comp = some c) :
    d.nvEffect .mark = d.setNv (fun v => { v with
      homes := updAt v.homes c.bank (fun h => { h with mark := markOct }),
      comp := if d.nvJob = some c.slot then some { c with phase := 3, between := false } else none }) := by
  have marked (f : NvHome → NvHome) : (d.setHome c.bank f).nv.comp = some c := hcomp
  simp only [Dev.nvEffect, Dev.nvMarked, hcomp]
  by_cases hjob : d.nvJob = some c.slot
  · have job (f : NvHome → NvHome) : (d.setHome c.bank f).nvJob = some c.slot := hjob
    simp only [job, hjob, if_true, Dev.setComp, Dev.setNv, marked, Option.map_some]
    rfl
  · have job (f : NvHome → NvHome) : (d.setHome c.bank f).nvJob ≠ some c.slot := hjob
    simp only [job, hjob, if_false]
    rfl

/-- Settles O28: each command names the kind of the running step (`exec_journalChunkWritten` and its like), which goes on
(`nvStepEnds_of_failed`) or ends with its effect (`nvStepEnds_of_passed`); what the record in hand, the compaction and the job
were before the step's time has passed they are after it (`advanceTo_nv`, `nvJob_advanceTo`). -/
theorem nvStepCommandsComplete : Obligations.NvStepCommandsComplete := by
  unfold Obligations.NvStepCommandsComplete
  refine ⟨?chunk, ?check, ?commit, ?commitFails, ?home, ?mark, ?markFails, ?erase, ?void⟩
  case chunk =>
    intro q d n at_ o w hstep hcur
    have ends := Dev.nvStepEnds_of_passed hstep rfl (.inl rfl)
    rw [Dev.nvEffect_chunk (w := w) (by rw [Dev.setNv_nv, Dev.advanceTo_nv, hcur])] at ends
    rw [exec_journalChunkWritten]
    exact State.run_eq rfl ends
  case check =>
    intro q d at_ o hstep
    rw [exec_journalCheckWritten]
    exact State.run_eq rfl (Dev.nvStepEnds_of_passed hstep rfl (.inl rfl))
  case commit =>
    intro q d at_ o hstep
    rw [exec_journalCommitMark]
    exact State.run_eq rfl (Dev.nvStepEnds_of_passed hstep rfl (.inl rfl))
  case commitFails =>
    intro q d at_ o hstep
    rw [exec_journalCommitMark]
    exact State.run_eq rfl (Dev.nvStepEnds_of_failed hstep rfl (.inl rfl))
  case home =>
    intro q d n at_ o pass hstep
    rw [exec_homeChunkWritten]
    exact State.run_eq rfl (Dev.nvStepEnds_of_passed hstep rfl (.inr ⟨nofun, nofun⟩))
  case mark =>
    intro q d at_ o c hstep hcomp
    have ends := Dev.nvStepEnds_of_passed hstep (NvStep.ck_mark ..) (.inl rfl)
    rw [Dev.nvEffect_mark (c := c) (by rw [Dev.setNv_nv, Dev.advanceTo_nv, hcomp]), Dev.nvJob_setNv,
      Dev.nvJob_advanceTo, Dev.setNv_setNv] at ends
    rw [exec_homeChunkWritten]
    exact State.run_eq rfl ends
  case markFails =>
    intro q d at_ o hstep
    rw [exec_homeChunkWritten]
    exact State.run_eq rfl (Dev.nvStepEnds_of_failed hstep (NvStep.ck_mark ..) (.inr rfl))
  case erase =>
    intro q d s at_ o hstep
    rw [exec_sectorErased]
    exact State.run_eq rfl (Dev.nvStepEnds_of_passed hstep (NvStep.ck_erase ..) (.inl rfl))
  case void =>
    intro q d at_ o hstep
    have ends := Dev.nvStepEnds_of_passed hstep (NvStep.ck_void ..) (.inl rfl)
    rw [Dev.nvEffect, Dev.setNv_setNv] at ends
    rw [exec_commitWordVoid]
    exact State.run_eq rfl ends

end Sys2Proof.Machine
end

/-! ### Rings (10 R331-R335, R346-R348, R351, R353) -/

section
namespace Sys2Proof.Machine

/-! #### What an update leaves of the rings -/

/-- An entry changed in a list that has it. -/
theorem getD_updAt_same {α : Type} {l : List α} {i : Nat} (hi : i < l.length) (f : α → α) (x : α) :
    (updAt l i f).getD i x = f (l.getD i x) := by
  induction l generalizing i with
  | nil => exact absurd hi (Nat.not_lt_zero i)
  | cons a t ih =>
    cases i with
    | zero => rfl
    | succ i => exact ih (Nat.lt_of_succ_lt_succ hi)

/-- A ring changed holds what the change makes of what it held. -/
theorem Dev.ring_setRing_same {d : Dev} {r : Nat} (hr : r < d.rings.length) (f : Ring → Ring) :
    (d.setRing r f).ring r = f (d.ring r) :=
  getD_updAt_same hr f Ring.idle

@[simp] theorem Dev.fire_rings (d : Dev) (s : Nat) : (d.fire s).rings = d.rings := Dev.fire_keeps Dev.wr_rings d s

@[simp] theorem Dev.fault_rings (d : Dev) (kind block code whr detail ini : Nat) :
    (d.fault kind block code whr detail ini).rings = d.rings := by
  unfold Dev.fault
  split
  · exact Dev.fire_rings _ 94
  · rfl

/-- A transfer asked for, made or refused, leaves the rings (09 R303). -/
@[simp] theorem Dev.requestLock_rings (d : Dev) (b len : Nat) (dst : Owner) : (d.requestLock b dst len).rings = d.rings := by
  unfold Dev.requestLock
  dsimp only
  split
  · rfl
  · exact (Dev.fire_rings _ 21).trans (Dev.fault_rings ..)

/-- Taking the barges of a chain leaves the rings (10 R346). -/
@[simp] theorem Dev.takeBarges_rings (d : Dev) (bs : List (Nat × Nat × Bool)) : (d.takeBarges bs).rings = d.rings :=
  forEach_unchanged Dev.rings (fun (b : Nat × Nat × Bool) (x : Dev) => x.requestLock_rings b.1 b.2.1 .txdma) bs d

/-! #### What a FLUSHED completion leaves of the objects (10 R335) -/

/-- Two loops do the same where their steps agree on every state that keeps a property. -/
theorem forEach_eq_of_kept {α σ : Type} {P : σ → Prop} {f g : α → σ → σ} (hkept : ∀ x s, P s → P (g x s))
    (h : ∀ x s, P s → f x s = g x s) {l : List α} {s : σ} (hs : P s) : forEach l s f = forEach l s g := by
  unfold forEach
  induction l generalizing s with
  | nil => rfl
  | cons x t ih => rw [List.foldl_cons, List.foldl_cons, h x s hs, ih (hkept x s hs)]

/-- A count changes no other object. -/
theorem Dev.rd_inc_other (d : Dev) {k x : Nat} (h : x ≠ k) : (d.inc k).rd x = d.rd x := Dev.rd_wr_other d _ h

/-- An event changes no object below 74_0000h (18 R623). -/
theorem Dev.rd_fire_of_lt (d : Dev) (s : Nat) {k : Nat} (h : k < 0x740000) : (d.fire s).rd k = d.rd k :=
  Dev.rd_fire_other d (by unfold srcStateKey; omega)

/-- A completion counted, with its event or without, changes no object below 74_0000h (10 R353). -/
theorem Dev.rd_ringCount_of_lt (d : Dev) (r : Nat) (ev : Bool) {k : Nat} (h : k < 0x740000) : (d.ringCount r ev).rd k = d.rd k := by
  unfold Dev.ringCount
  dsimp only
  split
  · exact Dev.rd_fire_of_lt _ _ h
  · rfl

section
variable {k : Nat} (hlow : k < 0x740000) (hsub : 3 < k % 256)
include hlow hsub

/-! The errors found in a bank are kept in its subindices 1 to 3: an access to packet memory changes no other object below
74_0000h (09 R310, R311). -/

theorem Dev.rd_eccCorrect_other (d : Dev) (bk : Nat) : (d.eccCorrect bk).rd k = d.rd k := by
  have counted : (d.inc (0x254001 + 256 * bk)).rd k = d.rd k := Dev.rd_inc_other d (by omega)
  unfold Dev.eccCorrect
  dsimp only
  split
  · rw [Dev.rd_fire_of_lt _ _ hlow, counted]
  · exact counted

theorem Dev.rd_eccFail_other (d : Dev) (w : Nat) : (d.eccFail w).rd k = d.rd k := by
  unfold Dev.eccFail
  dsimp only
  rw [Dev.rd_fire_of_lt _ _ hlow, Dev.rd_inc_other _ (by omega), Dev.rd_wr_other _ _ (by omega)]
  rfl

theorem Dev.rd_eccScan_other (d : Dev) (ws : List Nat) (ss : List Strike) : (d.eccScan ws ss).2.rd k = d.rd k := by
  have corrected (l : List Strike) (e : Dev) : (forEach l e (fun s d => d.eccCorrect (bankOfAddr s.addr))).rd k = e.rd k := by
    refine forEach_unchanged (fun x : Dev => x.rd k) (fun s x => ?_) l e
    exact Dev.rd_eccCorrect_other hlow hsub x (bankOfAddr s.addr)
  have failed (l : List Nat) (e : Dev) : (forEach l e (fun w d => d.eccFail w)).rd k = e.rd k :=
    forEach_unchanged (fun x : Dev => x.rd k) (fun w x => Dev.rd_eccFail_other hlow hsub x w) l e
  exact (failed _ _).trans (corrected _ _)

theorem Dev.rd_readMem_other (d : Dev) (a n : Nat) (ss : List Strike) : (d.readMem a n ss).2.2.rd k = d.rd k :=
  Dev.rd_eccScan_other hlow hsub d (wordsOf a n) ss

theorem Dev.rd_writeMem_other (d : Dev) (a : Nat) (v : Oct) : (d.writeMem a v).rd k = d.rd k :=
  Dev.rd_eccScan_other hlow hsub d (partWords a v.length) []

end

/-- A FLUSHED completion does not move the fetch index of its ring, so that the slots flushed are those from the index at which the
reset began (10 R335). -/
theorem Dev.ringFetch_flushSlot (d : Dev) {r : Nat} (x : Nat) (hr : r < 56) : (d.flushSlot r x).ringFetch r = d.ringFetch r := by
  have hlow : ringKey r 6 < 0x740000 := by unfold ringKey; omega
  have hsub : 3 < ringKey r 6 % 256 := by unfold ringKey; omega
  have hne : ringKey r 6 ≠ ringKey r 11 := by unfold ringKey; omega
  have counted (e : Dev) (c : Prop) [Decidable c] : (if c then e.cnt (r / 8) 31 else e).rd (ringKey r 6) = e.rd (ringKey r 6) := by
    split
    · exact Dev.rd_cnt_of_lt e _ _ _ hlow
    · rfl
  unfold Dev.ringFetch Dev.flushSlot
  dsimp only
  rw [Dev.rd_ringCount_of_lt _ _ _ hlow, counted, Dev.rd_inc_other _ hne, Dev.rd_writeMem_other hlow hsub,
    Dev.rd_readMem_other hlow hsub]

/-! #### RING_CTRL and the states of a ring (10 R331-R335) -/

/-- A host's write of RING_CTRL that nothing refuses has its effect at once (10 Table 10.1). -/
theorem Dev.hostPut_ringCtrl {d : Dev} {r v : Nat} {tm : Timing} (hr : r < 56) (h : d.hostTakes (ringKey r 3) v tm = true) :
    d.hostPut (ringKey r 3) v tm = (d.ringCtrl r v).answered [] := by
  have range : ringKey r 3 / 0x10000 = 0x26 := by unfold ringKey; omega
  have isCtrl : (decide (ringKey r 3 < 0x263800) && decide (ringKey r 3 % 256 = 3)) = true := by
    simp only [Bool.and_eq_true, decide_eq_true_eq]
    unfold ringKey
    omega
  have ring : ringKey r 3 / 256 - 0x2600 = r := by unfold ringKey; omega
  have noSetting : (List.range 4).all (fun p => !rxSetting p (ringKey r 3)) = true :=
    List.all_eq_true.2 fun p _ => by rw [rxSetting_of_lt (by omega) p, Bool.not_false]
  refine Dev.hostPut_ok h (by omega) ?_
  simp only [Dev.noteRx_of_none noSetting, Dev.writeEffect, range, if_pos isCtrl, ring]

/-- A RUNNING ring becomes STOPPING by a stop (10 R331, Table 10.1). -/
theorem Dev.ringCtrl_stop {d : Dev} {r : Nat} (hst : d.ringState r = 1) : d.ringCtrl r 0 = d.wr (ringKey r 3) 2 := by
  simp [Dev.ringCtrl, hst]

/-- A STOPPED ring runs (10 R331, Table 10.1). -/
theorem Dev.ringCtrl_run {d : Dev} {r : Nat} (hst : d.ringState r = 0) : d.ringCtrl r 1 = d.wr (ringKey r 3) 1 := by
  simp [Dev.ringCtrl, hst]

/-- A RUNNING ring becomes STOPPING by a reset, which then waits (10 R331, Table 10.1). -/
theorem Dev.ringCtrl_reset_of_running {d : Dev} {r : Nat} (hst : d.ringState r = 1) :
    d.ringCtrl r 2 = (d.wr (ringKey r 3) 2).setRing r (fun x => { x with resetAfter := true }) := by
  simp [Dev.ringCtrl, hst]

/-- The reset of a STOPPED ring begins at once (10 R331, Table 10.1). -/
theorem Dev.ringCtrl_reset_of_stopped {d : Dev} {r : Nat} (hst : d.ringState r = 0) : d.ringCtrl r 2 = d.ringReset r := by
  simp [Dev.ringCtrl, hst]

/-- RESETTING runs at once on a ring without work whose area is not in RETENTION (10 R335, R355). -/
theorem Dev.ringReset_of_quiet {d : Dev} {r : Nat} (hquiet : d.ringQuiet r = true) (hret : d.ringRetained r = false) :
    d.ringReset r = d.ringFlush r := by
  simp [Dev.ringReset, hquiet, hret]

/-- RESETTING of a TX ring whose area is within reach: each descriptor posted and not fetched is flushed, the indices return to 0 and
the ring is STOPPED (10 R335). -/
theorem Dev.ringFlush_of_tx {d e : Dev} {r : Nat} (hr : r < 56) (htx : isTxRing r = true) (hreach : d.ringReach r = true)
    (he : e = forEach (List.range (sub16 (d.ringHost r) (d.ringFetch r))) d (fun i e => e.flushSlot r (d.ringFetch r + i))) :
    d.ringFlush r = ((((e.wr (ringKey r 4) 0).wr (ringKey r 5) 0).wr (ringKey r 6) 0).setRing r (fun x =>
      { x with resetAfter := false })).wr (ringKey r 3) 0 := by
  have noWorker : ¬(decide (32 ≤ r) && decide (r < 48)) = true := by
    simp only [isTxRing, Bool.or_eq_true, Bool.and_eq_true, decide_eq_true_eq] at htx ⊢
    omega
  have flushed : forEach (List.range (sub16 (d.ringHost r) (d.ringFetch r))) d (fun i e => e.flushSlot r (e.ringFetch r + i)) = e :=
    he ▸ forEach_eq_of_kept (P := fun s => s.ringFetch r = d.ringFetch r)
      (fun i s hs => (s.ringFetch_flushSlot (d.ringFetch r + i) hr).trans hs) (fun i s hs => by rw [hs]) rfl
  simp only [Dev.ringFlush, htx, hreach, if_true, if_neg noWorker, flushed]

/-- A STOPPING ring without work and with no reset waiting is STOPPED (10 R334). -/
theorem Dev.ringStopped_of_quiet {d : Dev} {r : Nat} (hst : d.ringState r = 2) (hquiet : d.ringQuiet r = true)
    (hon : d.on dCORE = true) (hret : d.ringRetained r = false) (hno : (d.ring r).resetAfter = false) :
    d.ringStopped r = d.wr (ringKey r 3) 0 := by
  simp [Dev.ringStopped, hst, hquiet, hon, hret, hno]

/-! #### The fetch of a chain (10 R343-R346) -/

/-- A chain that nothing refuses is fetched: the fetch index moves past it, its barges are asked for TXDMA, and it joins the ring's
chains (10 R346). -/
theorem Dev.fetchChain_of_taken {d d' e : Dev} {r n : Nat} {ss : List Strike} {early : Dev → List Oct → Option Nat × Dev}
    {ds : List Oct} {bs : List (Nat × Nat × Bool)} (hnext : d.nextChain r = some (n, false))
    (hread : (d.strike ss).readDescs r (d.ringFetch r) n = (ds, false, d'))
    (hearly : early (d'.wr (ringKey r 6) ((d.ringFetch r + n) % 65536)) ds = (none, e))
    (hbs : chainBarges (isCanRing r) ds = bs) (hfree : e.chainRefused (e.chainSource r) bs = none)
    (hclean : bs.any (fun b => (e.barge b.1).poison) = false) :
    d.fetchChain r ss early = (e.takeBarges bs).setRing r (fun y =>
      { y with chains := y.chains ++ [⟨d.ringFetch r, ds, bs, none, 0, none, 0, false⟩] }) := by
  simp [Dev.fetchChain, hnext, hread, hearly, hbs, hfree, hclean]

/-- A ring's only chain is the one that starts where it does. -/
theorem Dev.chainOf_of_only {d : Dev} {r : Nat} {c : Chain} (h : (d.ring r).chains = [c]) : d.chainOf r c.start = some c := by
  simp [Dev.chainOf, h]

/-- The chain joined to a ring that held none is found at its start. -/
theorem Dev.chainOf_joined {d : Dev} {r : Nat} (hr : r < d.rings.length) (hnone : (d.ring r).chains = []) (c : Chain) :
    (d.setRing r (fun y => { y with chains := y.chains ++ [c] })).chainOf r c.start = some c := by
  refine Dev.chainOf_of_only ?_
  rw [Dev.ring_setRing_same hr, hnone, List.nil_append]

/-- A MAC that has selected a ring it can fetch from goes on with the chain fetched (10 R346; 11 R378). -/
theorem Dev.macFetch_of_selected {d e : Dev} {r : Nat} {ss : List Strike} {c : Chain} (hsel : (d.mac (r / 8)).cur = .ring r)
    (hst : d.ringState r = 1) (hreach : d.ringReach r = true) (hsend : d.canSend (r / 8) = true)
    (hfetch : d.fetchChain r ss (fun d ds => d.earlyCode (r / 8) ds) = e) (hc : e.chainOf r (d.ringFetch r) = some c)
    (hopen : c.code = none) : d.macFetch r ss = e.setSel (r / 8) (.ring r) (.chain r (d.ringFetch r)) := by
  simp [Dev.macFetch, hsel, hst, hreach, hsend, hfetch, hc, hopen]

/-! #### Completions, RX descriptors and coalescing (10 R347, R348, R351, R353) -/

/-- The head chain of a RUNNING ring that has ended OK, its barges returned: its descriptors are written back and the ring moves past
it; it counts as one completion (10 R347, R348; log entries 41 and 43). -/
theorem Dev.chainComplete_of_ok {d e f : Dev} {r : Nat} {c : Chain} {t : List Chain} (hc : (d.ring r).chains = c :: t)
    (hok : c.code = some 0) (hret : c.returned = true) (hclear : d.locksClear (c.barges.map (·.1)) = true)
    (hst : d.ringState r = 1) (hreach : d.ringReach r = true)
    (he : e = forEach c.descs.zipIdx d (fun (x : Oct × Nat) (e : Dev) =>
      e.writeMem (e.slotAddr r (c.start + x.2)) (chainWriteBack (isCanRing r) c 0 x.2 x.1)))
    (hf : f = (e.wr (ringKey r 5) ((e.ringDev r + c.descs.length) % 65536)).setRing r (fun x => { x with chains := t })) :
    d.chainComplete r = (if !isCanRing r && c.ts.isSome then f.cnt (r / 8) 39 else f).ringCount r
      (c.descs.any (fun x => dEvent x && !(!isCanRing r && dIsTso x))) := by
  simp [Dev.chainComplete, hc, hok, hret, hclear, hst, hreach, he, hf]

/-- The head of an RX ring that is RUNNING: the descriptor that waits first is written and counted (10 R351, R353). -/
theorem Dev.rxWrite_of_running {d e f : Dev} {r : Nat} {w : RxWrite} {t : List RxWrite} (hw : (d.ring r).rxq = w :: t)
    (hclear : d.locksClear w.barges = true) (hst : d.ringState r = 1) (hreach : d.ringReach r = true)
    (hclean : w.barges.any (fun b => (d.barge b).poison) = false) (he : e = d.writeMem (d.slotAddr r (d.ringDev r)) w.desc)
    (hf : f = e.numWritten w.num (e.ringDev r)) :
    d.rxWrite r = (((f.wr (ringKey r 5) ((f.ringDev r + 1) % 65536)).wr (ringKey r 6) ((f.ringDev r + 1) % 65536)).setRing r (fun x =>
      { x with rxq := t })).ringCount r false := by
  simp [Dev.rxWrite, hw, hclear, hst, hreach, hclean, he, hf]

/-- RING_COAL_TIME after the first completion that waits, the ring's event is raised (10 R353). -/
theorem Dev.ringCoalTimeout_of_waiting {d : Dev} {r t : Nat} (hsince : (d.ring r).coalSince = some t)
    (htime : d.rd (ringKey r 9) ≠ 0) :
    d.ringCoalTimeout r = (d.advanceTo (t + d.rd (ringKey r 9) * 100)).ringEvent r := by
  have timeout : d.afterUs t (d.rd (ringKey r 9)) = d.advanceTo (t + d.rd (ringKey r 9) * 100) := rfl
  simp only [Dev.ringCoalTimeout, hsince, if_neg htime, timeout]

/-- Settles O31: a host's command is a write of RING_CTRL (`hostPut_ringCtrl`), whose effect `ringCtrl_stop` and its like give; each other
command is the run of its effect (`exec_chainFetch` and its like), given by `ringStopped_of_quiet` to
`ringCoalTimeout_of_waiting`. The MAC goes on with the chain it has fetched: the ring held none (`chainOf_joined`). -/
theorem ringCommandsComplete : Obligations.RingCommandsComplete := by
  unfold Obligations.RingCommandsComplete
  refine ⟨?stop, ?run, ?reset, ?resetStopped, ?stopped, ?fetch, ?complete, ?rxWrite, ?coalesced⟩
  case stop =>
    rintro q d0 d r tm rfl hr htakes hst
    rw [exec_ringStop]
    exact State.run_eq (decide_eq_true hr) (Dev.ringCtrl_stop hst ▸ Dev.hostPut_ringCtrl hr htakes)
  case run =>
    rintro q d0 d r tm rfl hr htakes hst
    rw [exec_ringRun]
    exact State.run_eq (decide_eq_true hr) (Dev.ringCtrl_run hst ▸ Dev.hostPut_ringCtrl hr htakes)
  case reset =>
    rintro q d0 d r tm rfl hr htakes hst
    rw [exec_ringReset]
    exact State.run_eq (decide_eq_true hr) (Dev.ringCtrl_reset_of_running hst ▸ Dev.hostPut_ringCtrl hr htakes)
  case resetStopped =>
    rintro q d0 d r tm rfl htx hr htakes hst hquiet hret hreach
    have resets : d0.hostStart.ringCtrl r 2 = _ :=
      (Dev.ringCtrl_reset_of_stopped hst).trans ((Dev.ringReset_of_quiet hquiet hret).trans (Dev.ringFlush_of_tx hr htx hreach rfl))
    rw [exec_ringReset]
    exact State.run_eq (decide_eq_true hr) (resets ▸ Dev.hostPut_ringCtrl hr htakes)
  case stopped =>
    intro q d r hr hst hquiet hon hret hno
    rw [exec_ringStopped]
    exact State.run_eq (decide_eq_true hr) (Dev.ringStopped_of_quiet hst hquiet hon hret hno)
  case fetch =>
    intro q d d' e r n ds ss hr hss hsel hst hreach hsend hnext hread hearly hlen hnone hfree hclean
    have hwf : (Instr.chainFetch r ss).wf = true := Bool.and_eq_true_iff.2 ⟨decide_eq_true (by omega), hss⟩
    have ethernet : isCanRing r = false := decide_eq_false (by omega)
    have fetched := Dev.fetchChain_of_taken (early := fun d ds => d.earlyCode (r / 8) ds) hnext hread hearly
      (by rw [ethernet]) hfree hclean
    have same_rings := e.takeBarges_rings (chainBarges false ds)
    have empty : ((e.takeBarges (chainBarges false ds)).ring r).chains = [] := by rw [Dev.ring, same_rings, ← Dev.ring, hnone]
    have found := Dev.chainOf_joined (same_rings ▸ hlen) empty ⟨d.ringFetch r, ds, chainBarges false ds, none, 0, none, 0, false⟩
    rw [exec_chainFetch]
    refine State.run_eq hwf ?_
    rw [Dev.chainFetch, if_pos hr]
    exact Dev.macFetch_of_selected hsel hst hreach hsend fetched found rfl
  case complete =>
    intro q d r c t hr hc hok hret hclear hst hreach
    rw [exec_chainComplete]
    exact State.run_eq (decide_eq_true hr) (Dev.chainComplete_of_ok hc hok hret hclear hst hreach rfl rfl)
  case rxWrite =>
    intro q d r w t hr hw hclear hst hreach hclean
    rw [exec_rxDescriptorWrite]
    exact State.run_eq (decide_eq_true hr) (Dev.rxWrite_of_running hw hclear hst hreach hclean rfl rfl)
  case coalesced =>
    rintro q d e r t hr hsince htime rfl
    rw [exec_ringCoalTimeout]
    exact State.run_eq (decide_eq_true hr) (Dev.ringCoalTimeout_of_waiting hsince htime)

end Sys2Proof.Machine
end

/-! ### What an update leaves of the MACs -/

section
namespace Sys2Proof.Machine

/-- Two changes that agree on the entry they change do the same. -/
theorem updAt_congr {α : Type} {l : List α} {i : Nat} {f g : α → α} {x : α} (h : f (l.getD i x) = g (l.getD i x)) :
    updAt l i f = updAt l i g := by
  induction l generalizing i with
  | nil => rfl
  | cons a t ih =>
    cases i with
    | zero => exact congrArg (· :: t) h
    | succ i => exact congrArg (a :: ·) (ih h)

/-- What a change keeps of every value it keeps of the entry it changes. -/
theorem getD_updAt_kept {α β : Type} {g : α → β} {f : α → α} (h : ∀ y, g (f y) = g y) (l : List α) (i : Nat) (x : α) :
    g ((updAt l i f).getD i x) = g (l.getD i x) := by
  induction l generalizing i with
  | nil => rfl
  | cons a t ih =>
    cases i with
    | zero => exact h a
    | succ i => exact ih i

/-- Two changes of a MAC that agree on what it holds do the same. -/
theorem Dev.setMac_congr {d : Dev} {p : Nat} {f g : Mac → Mac} (h : f (d.mac p) = g (d.mac p)) : d.setMac p f = d.setMac p g := by
  rw [Dev.setMac, Dev.setMac, updAt_congr (x := Mac.idle) h]

@[simp] theorem Dev.fire_macs (d : Dev) (s : Nat) : (d.fire s).macs = d.macs := Dev.fire_keeps Dev.wr_macs d s

@[simp] theorem Dev.cnt_macs (d : Dev) (p i n : Nat) : (d.cnt p i n).macs = d.macs := Dev.cnt_keeps Dev.wr_macs d p i n

@[simp] theorem Dev.eccCorrect_macs (d : Dev) (bk : Nat) : (d.eccCorrect bk).macs = d.macs := by
  unfold Dev.eccCorrect
  dsimp only
  split
  · exact Dev.fire_macs _ 16
  · rfl

@[simp] theorem Dev.eccFail_macs (d : Dev) (w : Nat) : (d.eccFail w).macs = d.macs := Dev.fire_macs _ 17

@[simp] theorem Dev.eccScan_macs (d : Dev) (ws : List Nat) (ss : List Strike) : (d.eccScan ws ss).2.macs = d.macs :=
  (forEach_unchanged Dev.macs (fun w x => x.eccFail_macs w) _ _).trans
    (forEach_unchanged Dev.macs (fun (s : Strike) x => x.eccCorrect_macs (bankOfAddr s.addr)) _ _)

/-- A read of packet memory, whatever errors it finds, leaves the MACs (09 R310, R311). -/
@[simp] theorem Dev.readPlaces_macs (d : Dev) (ps : List (Nat × Nat)) : (d.readPlaces ps).2.2.macs = d.macs := by
  induction ps generalizing d with
  | nil => rfl
  | cons e t ih => exact (ih _).trans (d.eccScan_macs (wordsOf e.1 e.2) [])

/-- The device a read of packet memory leaves has the MACs it had before. -/
theorem Dev.mac_of_readPlaces {d e : Dev} {ps : List (Nat × Nat)} {l : Oct} {bad : List Nat} (h : d.readPlaces ps = (l, bad, e))
    (p : Nat) : e.mac p = d.mac p := by
  have same := d.readPlaces_macs ps
  rw [h] at same
  rw [Dev.mac, same, Dev.mac]

@[simp] theorem Dev.govSent_macs (d : Dev) (p n : Nat) : (d.govSent p n).macs = d.macs := by
  unfold Dev.govSent
  split <;> rfl

/-- The counters of a frame sent leave the Towpath queue of the port that sent it (17 Table 17.2). -/
theorem Dev.towq_countTx (d : Dev) (p : Nat) (l : Oct) : ((d.countTx p l).mac p).towq = (d.mac p).towq := by
  unfold Dev.countTx
  dsimp only
  rw [Dev.mac, Dev.setMac_macs, getD_updAt_kept (g := Mac.towq) (f := fun m => { m with lastTx := l ++ fcsOf l }) fun _ => rfl,
    Dev.cnt_macs, Dev.cnt_macs, Dev.cnt_macs, Dev.govSent_macs, Dev.mac]

end Sys2Proof.Machine
end

/-! ### Frames at a MAC (11 Table 11.1, R369-R379; 10 R347; 15 R532; 19 R649) -/

section
namespace Sys2Proof.Machine

/-! #### Reception (11 Table 11.1) -/

/-- A frame without error flags counts in no error counter. -/
@[simp] theorem Dev.countErrors_zero (d : Dev) (p : Nat) : d.countErrors p 0 = d := by
  simp only [Dev.countErrors, Nat.zero_testBit, Bool.false_eq_true, if_false]

/-- A clean frame that the address filter takes, no MAC control frame, at a port not in wake-listen and not of the Towpath
EtherType, comes to step 8 of 11 Table 11.1. -/
theorem Dev.rxFrame_to_classifier {d c y b : Dev} {p : Nat} {f : WireFrame} {l : Oct} (hcut : (d.mac p).cutAt = none)
    (hrecv : d.canReceive p = true) (hwhole : f.cut = false) (hlen : 18 ≤ f.octets.length) (hc : c = d.atSfd p f.sfdAgo)
    (hy : y = (d.carrierEnd p).setMac p (fun m => { m with was := [] }))
    (hb : b = if p = 0 then y.setGov (fun g => { g with rxOct := g.rxOct + f.octets.length + 20 }) else y)
    (hclean : c.rxErrors p f = 0) (hl : l = f.octets.take (f.octets.length - 4)) (haddr : c.acceptAddr p l = true)
    (hctl : etherType l ≠ 0x8808) (hlisten : c.wakeListen p = false) (htow : b.isTowFrame l = false) :
    d.rxFrame p f = b.rxToCls c p f.octets.length (l.take 2048) (decide (2048 < l.length)) (b.rxStamp p f.sfdAgo) := by
  have uncut : ¬(d.mac p).cutAt.any (fun t => d.ck - f.sfdAgo < t) = true := by simp [hcut]
  have receives : ¬(!d.canReceive p) = true := by simp [hrecv]
  have whole : ¬(f.cut || f.octets.length < 18) = true := by simp [hwhole, hlen]
  unfold Dev.rxFrame
  rw [if_neg uncut, if_neg receives]
  subst hy
  extract_lets c' y n g b' e b₁ l' data trunc ts
  have same : b' = b := hb.symm
  clear_value b'
  subst same
  simp only [c', n, e, b₁, l', data, trunc, ts, if_neg whole, ← hc, ← hl, hclean, Dev.countErrors_zero, haddr, hlisten, htow,
    if_neg hctl, ne_eq, not_true_eq_false, Bool.not_true, Bool.false_eq_true, if_false]

/-- A frame at step 8 that finds its barges is counted, stored and put into the arrival order (11 R359, R368; 13 R446). -/
theorem Dev.rxToCls_of_stored {d c x e d' : Dev} {p n c3 c4 : Nat} {data : Oct} {trunc : Bool} {ts : Option (Nat × Nat)}
    {bs : List Nat} (hc3 : c3 = if c.flag (macKey 0x3800 p 1) 4 then l3Csum data else 0)
    (hc4 : c4 = if c.flag (macKey 0x3800 p 1) 4 then l4Csum data else 0)
    (hx : x = if c3 = 2 then (d.countOk p data n).cnt p 23 else d.countOk p data n) (he : e = if c4 = 2 then x.cnt p 24 else x)
    (hcls : e.on dCLS = true) (hon : e.allOn [dCORE, dPM0] = true)
    (hstore : e.storeFrame p (c.rd (0x268001 + p)) data = (some bs, d')) :
    d.rxToCls c p n data trunc ts = (if trunc then d'.cnt p 14 else d').setCls (fun y => { y with
      queue := arrive
        ⟨p, data, bs, 64 * c3 + 256 * c4 + 1024 * b2n trunc, ts, (if trunc then d'.cnt p 14 else d').ck⟩ y.queue }) := by
  simp only [Dev.rxToCls, ← hc3, ← hc4, ← hx, ← he, hcls, hon, hstore, Bool.not_true, Bool.false_eq_true, if_false,
    Dev.setCls]

/-! #### Selection (11 R378, R384) -/

/-- A MAC that can send, outside a rate step, selects a pending PAUSE frame before all else (11 R378, R384; 12 R417). -/
theorem Dev.txChoose_of_pendPause {d : Dev} {p v : Nat} {a : Bool} (hsend : d.canSend p = true)
    (hstep : p = 0 → d.gov.step = none) (hpend : (d.mac p).pendPause = some (v, a)) : d.txChoose p = .pause v a := by
  have free : (p == 0 && d.gov.step.isSome) = false := by simpa using hstep
  simp only [Dev.txChoose, hsend, free, hpend, Bool.not_true, Bool.or_self, Bool.false_eq_true, if_false]

/-- With no PAUSE frame pending and no pause running it selects the first of the order of the rings and the Towpath queue
(11 R378). -/
theorem Dev.txChoose_of_txOrder {d : Dev} {p : Nat} {s : TxSel} {t : List TxSel} (hsend : d.canSend p = true)
    (hstep : p = 0 → d.gov.step = none) (hpend : (d.mac p).pendPause = none) (hend : (d.mac p).pauseEnd = none)
    (horder : d.txOrder p = s :: t) : d.txChoose p = s := by
  have free : (p == 0 && d.gov.step.isSome) = false := by simpa using hstep
  simp only [Dev.txChoose, hsend, free, hpend, hend, horder, Bool.not_true, Bool.or_self, Bool.false_eq_true, if_false,
    Option.isSome_none, List.headD_cons]

/-- A PAUSE frame that begins is the pending one, which is then no longer pending (11 R384). -/
theorem Mac.begin_pause {m : Mac} {v : Nat} {a : Bool} (h : m.pendPause = some (v, a)) :
    m.begin (.pause v a) = { m with cur := .pause v a, nxt := .idle, attempts := 0, pendPause := none } := by
  simp only [Mac.begin, h]

/-- What an idle MAC selects begins (11 R378). -/
theorem Dev.txSelect_of_idle {d e : Dev} {p : Nat} {s : TxSel} (he : e = d.oppWatch p) (hidle : (e.mac p).cur = .idle)
    (hs : e.txChoose p = s) : d.txSelect p = e.setMac p (fun m => m.begin s) := by
  subst he
  simp only [Dev.txSelect, hs, if_pos hidle]

/-- A MAC whose frame is on the wire selects what follows it (11 R378). -/
theorem Dev.txSelect_of_sending {d e : Dev} {p : Nat} (he : e = d.oppWatch p) (hbusy : (e.mac p).cur ≠ .idle)
    (hnext : (e.mac p).nxt = .idle) (hback : (e.mac p).backoff = none) (hsending : e.sending p = true) :
    d.txSelect p = e.setMac p (fun m => { m with nxt := e.txChoose p }) := by
  subst he
  simp only [Dev.txSelect, if_neg hbusy, hnext, hback, hsending, decide_true, Option.isNone_none, Bool.and_self, if_true]

/-! #### Transmission (10 R347; 11 R369-R379; 15 R532; 19 R649) -/

/-- The device with a deferral counted, where a segment port's first attempt was deferred (17 counter 36). -/
def Dev.deferralCounted (d : Dev) (p : Nat) (deferred : Bool) : Dev :=
  if deferred && 2 ≤ p && (d.mac p).attempts = 0 && d.sending p then d.cnt p 36 else d

section
variable {d : Dev} {p : Nat} (hon : d.on (macDom p) = true) (hback : (d.mac p).backoff = none) (hmay : d.mayStart p = true)
  (hhold : (d.mac p).hold = false) (df : Bool) (ss : List Strike) (ago : Nat)
include hon hback hmay hhold

/-- A PAUSE frame leaves: it is counted, and one the device asked for itself tells whether it stopped the peer (11 R382-R385). -/
theorem Dev.txDone_of_pause {v : Nat} {a : Bool} (hcur : (d.mac p).cur = .pause v a) :
    d.txDone p df ss ago = (((d.govSent p ((d.pauseFrame p v).length + 4)).cnt p 30).setMac p (fun m =>
      { m with lastTx := d.pauseFrame p v ++ fcsOf (d.pauseFrame p v), xoff := if a then v != 0 else m.xoff })).txNext p := by
  simp [Dev.txDone, hon, hback, hmay, hhold, hcur]

/-- The end of the transmission of a chain's frame (10 R347). -/
theorem Dev.txDone_of_chain {r s : Nat} (hcur : (d.mac p).cur = .chain r s) :
    d.txDone p df ss ago = ((d.deferralCounted p df).strike ss).sendChain p r s ago := by
  simp [Dev.txDone, hon, hback, hmay, hhold, hcur, Dev.deferralCounted]

/-- The end of the transmission of a Towpath frame (15 R532). -/
theorem Dev.txDone_of_tow (hcur : (d.mac p).cur = .tow) :
    d.txDone p df ss ago = ((d.deferralCounted p df).strike ss).sendTowTx p := by
  simp [Dev.txDone, hon, hback, hmay, hhold, hcur, Dev.deferralCounted]

end

/-- A chain found from its start begins there. -/
theorem Dev.start_of_chainOf {d : Dev} {r s : Nat} {c : Chain} (h : d.chainOf r s = some c) : c.start = s :=
  beq_iff_eq.1 (List.find?_some (p := fun c : Chain => c.start == s) h)

/-- A chain that is no TSO chain, not finished and with its barges and the domains it needs, sends its frame whole (10 R347). -/
theorem Dev.sendChain_of_whole {d : Dev} {p r s ago : Nat} {c : Chain} (hc : d.chainOf r s = some c) (hopen : c.code = none)
    (hclear : d.locksClear (c.barges.map (·.1)) = true) (hneeds : d.allOn (chainNeeds c) = true)
    (hwhole : dIsTso (c.descs.headD []) = false) : d.sendChain p r s ago = d.sendWhole p r c ago := by
  simp only [Dev.sendChain, hc, hopen, hwhole, hclear, hneeds, Option.isSome_none, List.nil_append, List.all_nil, Bool.not_true,
    Bool.false_eq_true, if_false]

/-- A frame read without an error, on a ring without one-step timestamps, is sent with its checksums and its chain ends OK
(10 R347; 11 R369-R373). -/
theorem Dev.sendWhole_of_clean {d e : Dev} {p r ago : Nat} {c : Chain} {l l' : Oct} {bad : Bool}
    (hread : d.readPlaces (chainPlaces c.barges) = (l, [], e)) (hsum : insertCsums (c.descs.getLastD []) l = (l', bad))
    (htwo : e.flag (0x701003 + 256 * p) (r % 8) = false) :
    d.sendWhole p r c ago =
      (let ts := if c.descs.any dTsReq then e.txStamp p ago else none
       let x := (if bad then e.inc (macKey 0x3840 p 2) else e).countTx p (padFrame l')
       (((x.setChain r c.start (fun c => { c with attempts := (e.mac p).attempts + 1, ts := ts })).endChain r c.start 0).oppSent
         p).txNext p) := by
  simp only [Dev.sendWhole, hread, hsum, htwo, List.isEmpty_nil, Bool.false_and, Bool.not_true, Bool.false_eq_true, if_false]

/-- A frame with an uncorrectable word is cut before it and its chain ends with POISON (19 R649; log entry 91). -/
theorem Dev.sendWhole_of_failed {d e : Dev} {p r ago w : Nat} {c : Chain} {l : Oct} {bad : List Nat}
    (hread : d.readPlaces (chainPlaces c.barges) = (l, w :: bad, e)) :
    d.sendWhole p r c ago = e.cutChain p r c.start ((e.mac p).attempts + 1)
      ((insertCsums (c.descs.getLastD []) l).1.take (readBefore (chainPlaces c.barges) (w :: bad))) := by
  simp [Dev.sendWhole, hread]

/-- The frame at the head of the Towpath queue, once counted as sent, leaves it (15 R532). -/
theorem Dev.towTxGone_countTx {d : Dev} {p : Nat} {f : TowTx} {t : List TowTx} (l : Oct) (hq : (d.mac p).towq = f :: t) :
    (d.countTx p l).towTxGone p f = (let x := (d.countTx p l).setMac p (fun m => { m with towq := t })
      if f.own then x.freeBarges f.barges else x) := by
  have tail : ((d.countTx p l).mac p).towq.drop 1 = t := by rw [Dev.towq_countTx, hq, List.drop_one, List.tail_cons]
  unfold Dev.towTxGone
  rw [Dev.setMac_congr (g := fun m => { m with towq := t }) (by rw [tail])]

/-- A Towpath frame with its barges and their banks, none of them poisoned, leaves as they hold it (15 R532). -/
theorem Dev.sendTowTx_of_clean {d e : Dev} {p : Nat} {f : TowTx} {t : List TowTx} {l : Oct} (hq : (d.mac p).towq = f :: t)
    (hclear : d.locksClear f.barges = true)
    (hneeds : d.allOn (dPM0 :: (f.barges.map (fun b => bankDom (bankOf b))).eraseDups) = true)
    (hpoison : f.barges.any (fun x => (d.barge x).poison) = false)
    (hread : d.readPlaces (framePlaces f.barges f.len) = (l, [], e)) :
    d.sendTowTx p = (((e.countTx p (padFrame l)).towTxGone p f).oppSent p).txNext p := by
  simp [Dev.sendTowTx, hq, hclear, hneeds, hpoison, hread]

/-- The end of a transmission on one of the four ports is a command of the device. -/
theorem wf_frameTransmitted {p : Nat} {ss : List Strike} (df : Bool) (ago : Nat) (hp : p < 4) (hss : strikesOk ss = true) :
    (Instr.frameTransmitted p df ss ago).wf = true :=
  Bool.and_eq_true_iff.2 ⟨decide_eq_true hp, hss⟩

/-- Settles O32: a frame received comes to the classifier (`rxFrame_to_classifier`) and is stored (`rxToCls_of_stored`); a selection
is what `txChoose_of_pendPause` and `txChoose_of_txOrder` give; a frame sent ends as `txDone_of_pause`, `sendWhole_of_clean`,
`sendWhole_of_failed` and `sendTowTx_of_clean` say. -/
theorem frameCommandsComplete : Obligations.FrameCommandsComplete := by
  unfold Obligations.FrameCommandsComplete
  refine ⟨?received, ?selectPause, ?selectFirst, ?selectNext, ?pauseSent, ?chainSent, ?chainCut, ?towSent⟩
  case received =>
    rintro q d c y b x e d' p f l data c3 c4 bs hp hlen hmin hwhole hon hrun hlink hcut hc hclean hl rfl haddr hctl hlisten hy hb
      htow hc3 hc4 hx he hcls hneeds hstore
    have hwf : (Instr.frameReceived p f).wf = true := Bool.and_eq_true_iff.2 ⟨decide_eq_true hp, decide_eq_true hlen⟩
    have hrecv : d.canReceive p = true := by simp [Dev.canReceive, hon, hrun, hlink]
    rw [exec_frameReceived]
    exact State.run_eq hwf ((Dev.rxFrame_to_classifier hcut hrecv hwhole hmin hc hy hb hclean hl haddr hctl hlisten htow).trans
      (Dev.rxToCls_of_stored hc3 hc4 hx he hcls hneeds hstore))
  case selectPause =>
    intro q d e p v a hp he hidle hsend hstep hpend
    have chosen := Dev.txChoose_of_pendPause hsend hstep hpend
    rw [exec_txSelect]
    exact State.run_eq (decide_eq_true hp) ((Dev.txSelect_of_idle he hidle chosen).trans (Dev.setMac_congr (Mac.begin_pause hpend)))
  case selectFirst =>
    intro q d e p s t hp he hidle hsend hstep hpend hend horder
    have chosen := Dev.txChoose_of_txOrder hsend hstep hpend hend horder
    rw [exec_txSelect]
    exact State.run_eq (decide_eq_true hp) (Dev.txSelect_of_idle he hidle chosen)
  case selectNext =>
    intro q d e p hp he hbusy hnext hback hsending
    rw [exec_txSelect]
    exact State.run_eq (decide_eq_true hp) (Dev.txSelect_of_sending he hbusy hnext hback hsending)
  case pauseSent =>
    rintro q d p v ago a df ss l hp hss hon hback hmay hhold hcur rfl
    rw [exec_frameTransmitted]
    exact State.run_eq (wf_frameTransmitted df ago hp hss) (Dev.txDone_of_pause hon hback hmay hhold df ss ago hcur)
  case chainSent =>
    rintro q d b e p r s ago df ss c l l' bad hp hss hon hback hmay hhold hcur rfl hc hopen hclear hneeds hwhole hread hsum htwo
    obtain rfl := Dev.start_of_chainOf hc
    rw [exec_frameTransmitted]
    exact State.run_eq (wf_frameTransmitted df ago hp hss) ((Dev.txDone_of_chain hon hback hmay hhold df ss ago hcur).trans
      ((Dev.sendChain_of_whole hc hopen hclear hneeds hwhole).trans (Dev.sendWhole_of_clean hread hsum htwo)))
  case chainCut =>
    rintro q d b e p r s ago df ss c l o w bad hp hss hon hback hmay hhold hcur rfl hc hopen hclear hneeds hwhole hread rfl
    obtain rfl := Dev.start_of_chainOf hc
    rw [exec_frameTransmitted]
    exact State.run_eq (wf_frameTransmitted df ago hp hss) ((Dev.txDone_of_chain hon hback hmay hhold df ss ago hcur).trans
      ((Dev.sendChain_of_whole hc hopen hclear hneeds hwhole).trans (Dev.sendWhole_of_failed hread)))
  case towSent =>
    rintro q d b e p ago df ss f t l hp hss hon hback hmay hhold hcur rfl hq hclear hneeds hpoison hread
    have queued : (e.mac p).towq = f :: t := (congrArg Mac.towq (Dev.mac_of_readPlaces hread p)).trans hq
    have sent := Dev.sendTowTx_of_clean hq hclear hneeds hpoison hread
    rw [Dev.towTxGone_countTx _ queued] at sent
    rw [exec_frameTransmitted]
    exact State.run_eq (wf_frameTransmitted df ago hp hss)
      ((Dev.txDone_of_tow hon hback hmay hhold df ss ago hcur).trans sent)

end Sys2Proof.Machine
end

/-! ### PAUSE, TSO, wake-listen and pralines (11 R376, R381-R389, R391, R392) -/

section
namespace Sys2Proof.Machine

/-! #### The objects of 11 -/

/-- The index of an object of a port's record. -/
theorem macKey_div (base p : Nat) {s : Nat} (hs : s < 256) : macKey base p s / 256 = base + p := by
  unfold macKey
  omega

/-- The subindex of an object of a port's record. -/
theorem macKey_mod (base p : Nat) {s : Nat} (hs : s < 256) : macKey base p s % 256 = s := by
  unfold macKey
  omega

/-- The record and the port that the index of an object names. -/
theorem portRecord_div_mod {base p : Nat} (hbase : base % 16 = 0) (hp : p < 4) : (base + p) / 16 = base / 16 ∧ (base + p) % 16 = p := by
  omega

/-- The objects of PAUSE and TSO are no settings of reception (11 R362). -/
theorem Dev.noteRx_of_pauseOrTso {k : Nat} (d : Dev) (hlo : 0x382000 ≤ k) (hhi : k < 0x384000) : d.noteRx k = d := by
  refine Dev.noteRx_of_none (List.all_eq_true.2 fun p hp => ?_)
  have port : p < 4 := List.mem_range.1 hp
  have others : k / 256 ≠ 0x3800 + p ∧ k / 256 ≠ 0x3810 + p ∧ k / 256 ≠ 0x3850 := by omega
  have rxPound : k ≠ 0x268001 + p := by omega
  simp [rxSetting, others, rxPound]

/-- A host's write of an object of 11 that nothing refuses has its effect at once. -/
theorem Dev.hostPut_mac {d e : Dev} {k v : Nat} {tm : Timing} (h : d.hostTakes k v tm = true) (hk : k / 0x10000 = 0x38)
    (he : (d.noteRx k).macEffect 0 k v = .ok e) : d.hostPut k v tm = e.answered [] := by
  refine Dev.hostPut_ok h (by omega) ?_
  simpa only [Dev.writeEffect, hk] using he

/-- A host's write of an object of PAUSE or TSO that nothing refuses has its effect at once. -/
theorem Dev.hostPut_pauseOrTso {d e : Dev} {base p s v : Nat} {tm : Timing} (h : d.hostTakes (macKey base p s) v tm = true)
    (hbase : base = 0x3820 ∨ base = 0x3830) (hp : p < 4) (hs : s < 256) (he : d.macEffect 0 (macKey base p s) v = .ok e) :
    d.hostPut (macKey base p s) v tm = e.answered [] := by
  have range : 0x382000 ≤ macKey base p s ∧ macKey base p s < 0x384000 := by unfold macKey; omega
  exact Dev.hostPut_mac h (by omega) ((d.noteRx_of_pauseOrTso range.1 range.2).symm ▸ he)

/-! #### The effects of the writes -/

/-- PAUSE_SEND leaves a frame pending (11 R383). -/
theorem Dev.macEffect_pauseSend (d : Dev) (ini v : Nat) {p : Nat} (hp : p < 2) :
    d.macEffect ini (macKey 0x3820 p 6) v = .ok (d.setMac p (fun m => { m with pendPause := some (v, false) })) := by
  have record := portRecord_div_mod (base := 0x3820) (by decide) (show p < 4 by omega)
  simp [Dev.macEffect, macKey_div, macKey_mod, record, Dev.askPause]

/-- PAUSE_REARM ends the defeat and clears the strikes (11 R389). -/
theorem Dev.macEffect_pauseRearm (d : Dev) (ini v : Nat) {p : Nat} (hp : p < 2) :
    d.macEffect ini (macKey 0x3820 p 0xA) v = .ok (d.setMac p (fun m => { m with defeated := false, strikes := 0 })) := by
  have record := portRecord_div_mod (base := 0x3820) (by decide) (show p < 4 by omega)
  simp [Dev.macEffect, macKey_div, macKey_mod, record]

/-- TSO_ENABLE 01h claims the scratch barge and asks for it for TXDMA, where no other claim stands in the way (11 R376). -/
theorem Dev.macEffect_tsoEnable {d : Dev} {p b : Nat} (ini : Nat) (hp : p < 2) (hoff : d.rd (macKey 0x3830 p 1) = 0)
    (hb : d.rd (macKey 0x3830 p 2) = b) (hfree : d.claimBlock [⟨4, b, 7, p⟩] = none) :
    d.macEffect ini (macKey 0x3830 p 1) 1 =
      .ok (((d.takeClaims [⟨4, b, 7, p⟩]).wr (macKey 0x3830 p 1) 1).requestLock b .txdma 0) := by
  have record := portRecord_div_mod (base := 0x3830) (by decide) (show p < 4 by omega)
  simp [Dev.macEffect, macKey_div, macKey_mod, record, hoff, hb, hfree]

/-- TSO_ENABLE 00h: the scratch barge returns once no TSO chain is in progress (11 R376). -/
theorem Dev.macEffect_tsoDisable {d : Dev} {p : Nat} (ini : Nat) (hp : p < 2) (hon : d.rd (macKey 0x3830 p 1) = 1) :
    d.macEffect ini (macKey 0x3830 p 1) 0 =
      .ok (((d.wr (macKey 0x3830 p 1) 0).setMac p (fun m => { m with tsoOff := true })).tsoRelease p) := by
  have record := portRecord_div_mod (base := 0x3830) (by decide) (show p < 4 by omega)
  simp [Dev.macEffect, macKey_div, macKey_mod, record, hon]

/-- WAKE_LISTEN takes its value; a selected frame not yet on the wire does not begin while it reads 01h (11 R392). -/
theorem Dev.macEffect_wakeListen (d : Dev) (ini v : Nat) {p : Nat} (hp : p < 4) :
    d.macEffect ini (macKey 0x3800 p 5) v = .ok ((d.wakeHold p v).wr (macKey 0x3800 p 5) v) := by
  have record := portRecord_div_mod (base := 0x3800) (by decide) hp
  simp [Dev.macEffect, macKey_div, macKey_mod, record]

/-- PRALINE_ENABLE takes its value and the pattern slots of its pralines, where no other claim stands in the way (11 R391). -/
theorem Dev.macEffect_pralineEnable {d : Dev} {v : Nat} (ini : Nat) (hfree : d.claimBlock (pralineClaims v) = none) :
    d.macEffect ini 0x385011 v =
      .ok (((d.dropClaims (fun c => c.kind == 1 && c.holder == 1 && !v.testBit c.inst)).takeClaims (pralineClaims v)).wr
        0x385011 v) := by
  simp [Dev.macEffect, hfree]

/-! #### The timers of PAUSE (11 R381, R382, R387-R389) -/

/-- The pause timer ends: the watchdog stops and the quiet time starts (11 R381, R387, R388). -/
theorem Dev.pauseExpire_of_running {d : Dev} {p t : Nat} (hend : (d.mac p).pauseEnd = some t) :
    d.pauseExpire p = (d.advanceTo t).pauseZero p := by
  simp only [Dev.pauseExpire, hend]

/-- A pause that lasts is refreshed PAUSE_REFRESH after its last automatic frame (11 R382). -/
theorem Dev.pauseRefresh_of_low {d e : Dev} {p t : Nat} (hp : p < 2) (hlast : (d.mac p).lastAuto = some t)
    (hon : d.on (macDom p) = true) (hauto : d.flag (macKey 0x3820 p 1) 1 = true) (hpound : d.poundState (d.rd (0x268001 + p)) = 2)
    (hlow : d.poundFree (d.rd (0x268001 + p)) < d.rd (macKey 0x3820 p 4))
    (he : e = d.advanceTo (t + d.rd (macKey 0x3820 p 5) * 100)) :
    d.pauseRefresh p = (e.setMac p (fun m => { m with pendPause := some (e.rd (macKey 0x3820 p 2), true) })).setMac p (fun m =>
      { m with lastAuto := some e.ck }) := by
  have refreshed : d.afterUs t (d.rd (macKey 0x3820 p 5)) = e := he.symm
  simp [Dev.pauseRefresh, hlast, hp, hon, hauto, hpound, hlow, refreshed, Dev.askPause]

/-- The watchdog breaks a pause whose timer outlasts PAUSE_WD_LIMIT: a strike, and the defeat of PAUSE at the limit of strikes
(11 R387, R389). -/
theorem Dev.pauseBreak_of_long {d e y : Dev} {p t x n : Nat} (hwd : (d.mac p).wdSince = some t) (hon : d.on (macDom p) = true)
    (hend : (d.mac p).pauseEnd = some x) (hlong : t + d.rd (macKey 0x3820 p 7) * 100 < x)
    (he : e = d.advanceTo (t + d.rd (macKey 0x3820 p 7) * 100)) (hn : n = min ((e.mac p).strikes + 1) 15)
    (hy : y = ((e.setMac p (fun m => { m with pauseEnd := none, wdSince := none, quietSince := some e.ck, strikes := n })).inc
      (macKey 0x3820 p 0xB)).fire 60) :
    d.pauseBreak p =
      if y.rd (macKey 0x3820 p 8) ≠ 0 && y.rd (macKey 0x3820 p 8) ≤ n && !(y.mac p).defeated
      then (y.setMac p (fun m => { m with defeated := true })).fire 60 else y := by
  have broken : d.afterUs t (d.rd (macKey 0x3820 p 7)) = e := he.symm
  have outlasts : ¬(!d.on (macDom p) ||
      (d.mac p).pauseEnd.all (fun e => e ≤ t + d.rd (macKey 0x3820 p 7) * ckPerUs)) = true := by
    simpa [hon, hend] using hlong
  simp only [Dev.pauseBreak, hwd, if_neg outlasts, broken, ← hn, ← hy]

/-- A quiet time of PAUSE_WD_LIMIT clears the strikes (11 R388). -/
theorem Dev.strikeReset_of_quiet {d e : Dev} {p t : Nat} (hquiet : (d.mac p).quietSince = some t) (hon : d.on (macDom p) = true)
    (hend : (d.mac p).pauseEnd = none) (he : e = d.advanceTo (t + d.rd (macKey 0x3820 p 7) * 100)) :
    d.strikeReset p = e.setMac p (fun m => { m with strikes := 0, quietSince := none }) := by
  have elapsed : d.afterUs t (d.rd (macKey 0x3820 p 7)) = e := he.symm
  simp [Dev.strikeReset, hquiet, hon, hend, elapsed]

/-- Settles O33: a host's command is a write of an object of 11 (`hostPut_mac`), whose effect `macEffect_pauseSend` to
`macEffect_pralineEnable` give; a timer's end is `pauseExpire_of_running` and the lemmas after it. -/
theorem pauseAndTsoCommandsComplete : Obligations.PauseAndTsoCommandsComplete := by
  unfold Obligations.PauseAndTsoCommandsComplete
  refine ⟨?expiry, ?refresh, ?send, ?broken, ?quiet, ?rearm, ?tsoOn, ?tsoOff, ?listen, ?pralines⟩
  case expiry =>
    rintro q d e p t hp hend rfl
    rw [exec_pauseTimerExpiry]
    exact State.run_eq (decide_eq_true hp) (Dev.pauseExpire_of_running hend)
  case refresh =>
    intro q d e p t hp hlast hon hauto hpound hlow he
    rw [exec_pauseRefresh]
    exact State.run_eq (decide_eq_true hp) (Dev.pauseRefresh_of_low hp hlast hon hauto hpound hlow he)
  case send =>
    rintro q d0 d p v tm rfl hp hv htakes
    rw [exec_pauseSend]
    exact State.run_eq (Bool.and_eq_true_iff.2 ⟨decide_eq_true hp, decide_eq_true hv⟩)
      (Dev.hostPut_pauseOrTso htakes (.inl rfl) (by omega) (by decide) (Dev.macEffect_pauseSend _ 0 v hp))
  case broken =>
    intro q d e p t x hp hwd hon hend hlong he
    rw [exec_pauseWdBreak]
    exact State.run_eq (decide_eq_true hp) (Dev.pauseBreak_of_long hwd hon hend hlong he rfl rfl)
  case quiet =>
    intro q d e p t hp hquiet hon hend he
    rw [exec_pauseStrikeReset]
    exact State.run_eq (decide_eq_true hp) (Dev.strikeReset_of_quiet hquiet hon hend he)
  case rearm =>
    rintro q d0 d p tm rfl hp htakes
    rw [exec_pauseRearm]
    exact State.run_eq (Bool.and_eq_true_iff.2 ⟨decide_eq_true hp, rfl⟩)
      (Dev.hostPut_pauseOrTso htakes (.inl rfl) (by omega) (by decide) (Dev.macEffect_pauseRearm _ 0 1 hp))
  case tsoOn =>
    rintro q d0 d p b tm rfl hp htakes hoff hb hfree
    rw [exec_tsoEnable]
    exact State.run_eq (decide_eq_true hp)
      (Dev.hostPut_pauseOrTso htakes (.inr rfl) (by omega) (by decide) (Dev.macEffect_tsoEnable 0 hp hoff hb hfree))
  case tsoOff =>
    rintro q d0 d p tm rfl hp htakes hon
    rw [exec_tsoDisable]
    exact State.run_eq (decide_eq_true hp)
      (Dev.hostPut_pauseOrTso htakes (.inr rfl) (by omega) (by decide) (Dev.macEffect_tsoDisable 0 hp hon))
  case listen =>
    rintro q d0 d p v tm rfl hp hv htakes
    have range : macKey 0x3800 p 5 / 0x10000 = 0x38 := by unfold macKey; omega
    rw [exec_wakeListen]
    exact State.run_eq (Bool.and_eq_true_iff.2 ⟨decide_eq_true hp, decide_eq_true hv⟩)
      (Dev.hostPut_mac htakes range (Dev.macEffect_wakeListen _ 0 v hp))
  case pralines =>
    rintro q d0 d e v tm rfl hv htakes rfl hfree
    rw [exec_pralineEnable]
    exact State.run_eq (decide_eq_true hv) (Dev.hostPut_mac htakes rfl (Dev.macEffect_pralineEnable 0 hfree))

end Sys2Proof.Machine
end

/-! ### The queue and its commands (95; log entries 2, 10) -/

section
namespace Sys2Proof.Machine

/-- A command answers a next state, or stops with illFormed where it names parts the device lacks. -/
theorem State.run_not_wf {c : Instr} (s : State) (f : Dev → Dev) (h : c.wf = false) : State.run c s f = .fault .illFormed := by
  simp [State.run, h]

/-- A command that answers leaves the queue as it was. -/
theorem exec_pending {c : Instr} {s t : State} (h : exec c s = .next t) : t.pending = s.pending := by
  obtain ⟨f, hf⟩ := exec_run c
  exact (State.run_next ((hf s).symm.trans h)).1

/-- A command that answers leaves a device that has settled. -/
theorem exec_settles {c : Instr} {s t : State} (h : exec c s = .next t) : ∃ e : Dev, t.dev = e.settle := by
  obtain ⟨f, hf⟩ := exec_run c
  exact ⟨_, (State.run_next ((hf s).symm.trans h)).2⟩

/-- A step takes the front command off the queue, with none waiting it leaves the queue empty. -/
theorem step_pending {s t : State} (h : step s = .next t) : t.pending = s.pending.tail := by
  unfold step at h
  split at h
  case h_1 hp =>
    injection h with h
    rw [← h, hp, List.tail_nil]
  case h_2 c rest hp => rw [exec_pending h, hp, List.tail_cons]

/-- A step leaves a device that has settled. -/
theorem step_settles {s t : State} (h : step s = .next t) : ∃ e : Dev, t.dev = e.settle := by
  unfold step at h
  split at h
  case h_1 =>
    injection h with h
    exact ⟨s.dev.tick 1, h ▸ rfl⟩
  case h_2 => exact exec_settles h

/-- Settles O1: a step is the front command's run by definition. -/
theorem stepRunsFrontCommand : Obligations.StepRunsFrontCommand := by
  unfold Obligations.StepRunsFrontCommand
  exact ⟨fun _ _ _ => rfl, fun _ => rfl⟩

/-- Settles O2: every command is the run of an effect (`exec_run`), which its form alone decides. -/
theorem commandsAnswerOrAreIllFormed : Obligations.CommandsAnswerOrAreIllFormed := by
  unfold Obligations.CommandsAnswerOrAreIllFormed
  intro c s
  obtain ⟨f, hf⟩ := exec_run c
  exact ⟨fun hwf => ⟨_, (hf s).trans (State.run_wf s f hwf)⟩, fun hwf => (hf s).trans (State.run_not_wf s f hwf)⟩

/-- Settles O3: `step_pending` and `exec_pending`; a queue of commands of the device answers by `commandsAnswerOrAreIllFormed`. -/
theorem queueIsFifoAndNeverStops : Obligations.QueueIsFifoAndNeverStops := by
  unfold Obligations.QueueIsFifoAndNeverStops
  refine ⟨fun _ _ h => step_pending h, fun _ _ _ h => exec_pending h, ?neverStops⟩
  intro s hok
  have answers : ∃ t, step s = .next t := by
    unfold step
    split
    case h_1 => exact ⟨_, rfl⟩
    case h_2 c rest hp =>
      have front : c ∈ s.pending := hp ▸ List.mem_cons_self
      exact (commandsAnswerOrAreIllFormed c _).1 (hok c front)
  obtain ⟨t, ht⟩ := answers
  refine ⟨t, ht, fun c hc => hok c (List.mem_of_mem_tail ?_)⟩
  rwa [← step_pending ht]

end Sys2Proof.Machine
end

/-! ### The level sources (18 R623) -/

section
namespace Sys2Proof.Machine

/-- Two loops over the same list do the same where their steps agree on its elements. -/
theorem forEach_congr {α σ : Type} {f g : α → σ → σ} {l : List α} (h : ∀ x ∈ l, ∀ s, f x s = g x s) (s : σ) :
    forEach l s f = forEach l s g := by
  unfold forEach
  induction l generalizing s with
  | nil => rfl
  | cons x t ih => rw [List.foldl_cons, List.foldl_cons, h x List.mem_cons_self, ih fun y hy => h y (List.mem_cons_of_mem x hy)]

/-- The condition of a level source looks at no object from SRC_STATE on (05 R177, 15 R548, 18 R638). -/
theorem Dev.levelCond_wr (d : Dev) {k : Nat} (s v : Nat) (hk : 0x785001 ≤ k) : (d.wr k v).levelCond s = d.levelCond s := by
  have below {x : Nat} (hx : x < 0x785001) : (d.wr k v).rd x = d.rd x := Dev.rd_wr_other d v (by omega)
  have energy : (d.wr k v).energyOk = d.energyOk := by
    unfold Dev.energyOk Dev.energyNeed
    rw [below (by decide), below (by decide), below (by decide)]
  have slots (p : Nat → Bool) : (d.wr k v).osMask p = d.osMask p := by
    refine forEach_congr (fun i hi n => ?_) 0
    have inTable : opSlotKey i < 0x785001 := by
      have := List.mem_range.1 hi
      unfold opSlotKey
      omega
    have same : (d.wr k v).osState i = d.osState i := congrArg (· % 256) (below inTable)
    rw [same]
  simp only [Dev.levelCond, energy, slots, Dev.wr_intc]

/-- SRC_STATE lies where no condition of a level source looks. -/
theorem srcStateKey_ge (s : Nat) : 0x785001 ≤ srcStateKey s := Nat.le_add_right _ s

/-- The sources differ in SRC_STATE. -/
theorem srcStateKey_ne {s r : Nat} (h : s ≠ r) : srcStateKey s ≠ srcStateKey r := by
  unfold srcStateKey
  omega

/-- A bit set is set. -/
@[simp] theorem testBit_setBit_true (v n : Nat) : (setBit v n true).testBit n = true := by
  unfold setBit
  by_cases h : v.testBit n = true
  · simp [h]
  · simp [h, Nat.add_comm v, Nat.testBit_two_pow_add_eq]

/-- A source made pending is pending. -/
@[simp] theorem Dev.isPending_setPending (d : Dev) (s : Nat) : (d.setPending s).isPending s = true := by
  rw [Dev.isPending, Dev.setPending, Dev.rd_wr_same, testBit_setBit_true]

/-- R623 of one source: where its condition holds it is pending or in service. -/
def Dev.levelShown (d : Dev) (s : Nat) : Prop := d.levelCond s = true → d.isPending s = true ∨ d.inService s = true

/-- A level source followed shows its condition while CORE is ON (18 R623). -/
theorem Dev.levelSet_shows {d : Dev} (s : Nat) (hon : d.on dCORE = true) : (d.levelSet s).levelShown s := by
  intro hcond
  unfold Dev.levelSet at hcond ⊢
  split at hcond
  case isTrue h => exact .inl (by rw [if_pos h, Dev.isPending_setPending])
  case isFalse h =>
    rw [if_neg h]
    exact .inr (by simpa [hon, hcond] using h)

/-- A level source that shows its condition goes on to when another is followed. -/
theorem Dev.levelShown_levelSet {d : Dev} {s r : Nat} (hne : s ≠ r) (h : d.levelShown s) : (d.levelSet r).levelShown s := by
  unfold Dev.levelSet
  split
  case isFalse => exact h
  case isTrue =>
    have pending : (d.setPending r).isPending s = d.isPending s := by
      rw [Dev.isPending, Dev.setPending, Dev.rd_wr_other _ _ (srcStateKey_ne hne), Dev.isPending]
    intro hcond
    rw [pending]
    exact h ((d.levelCond_wr s _ (srcStateKey_ge r)).symm.trans hcond)

/-- Following a level source switches no domain. -/
@[simp] theorem Dev.on_levelSet (d : Dev) (s n : Nat) : (d.levelSet s).on n = d.on n := by
  obtain ⟨st, h⟩ := d.levelSet_store s
  rw [h]
  rfl

/-- Once the level sources have been followed each shows its condition. -/
theorem Dev.levelsKept_levels (d : Dev) : d.levels.levelsKept := by
  intro hon s hs
  have hcore : d.on dCORE = true := by simpa [Dev.levels] using hon
  have core3 : (d.levelSet 3).on dCORE = true := by rwa [Dev.on_levelSet]
  have core77 : ((d.levelSet 3).levelSet 77).on dCORE = true := by rwa [Dev.on_levelSet]
  obtain (rfl | rfl) | rfl : (s = 3 ∨ s = 77) ∨ s = 92 := by simpa [levelSource] using hs
  · exact Dev.levelShown_levelSet (by decide) (Dev.levelShown_levelSet (by decide) (Dev.levelSet_shows 3 hcore))
  · exact Dev.levelShown_levelSet (by decide) (Dev.levelSet_shows 77 core3)
  · exact Dev.levelSet_shows 92 core77

/-- What follows a command ends with the level sources. -/
theorem Dev.settle_ends_with_levels (d : Dev) : ∃ e : Dev, d.settle = e.levels := by
  unfold Dev.settle
  exact ⟨_, rfl⟩

/-- Settles O5: every step leaves a device that has settled (`step_settles`), and that ends with the level sources. -/
theorem levelSourcesStayPending : Obligations.LevelSourcesStayPending := by
  unfold Obligations.LevelSourcesStayPending
  intro s t _ h
  obtain ⟨e, he⟩ := step_settles h
  obtain ⟨f, hf⟩ := e.settle_ends_with_levels
  rw [he, hf]
  exact f.levelsKept_levels

/-- Settles O4: `settle_of_quiet` and the frame of the level sources. -/
theorem settleOfQuietDevice : Obligations.SettleOfQuietDevice := by
  unfold Obligations.SettleOfQuietDevice
  exact ⟨fun _ h => Dev.settle_of_quiet h, fun d => ⟨d.levels_store, fun _ h3 h77 h92 => d.rd_levels_other h3 h77 h92⟩⟩

/-- Settles O8: at reset CORE is OFF, packet memory and the free lists are empty, and the store lists one object, SUPPLY_STATE, which
is not at its default. -/
theorem invariantsAtReset : Obligations.InvariantsAtReset := by
  unfold Obligations.InvariantsAtReset
  refine ⟨?levels, rfl, ?store, ?frees⟩
  case levels =>
    intro hon
    exact absurd hon (by decide)
  case store => decide +kernel
  case frees => exact ⟨List.Pairwise.nil, fun e he => absurd he List.not_mem_nil⟩

end Sys2Proof.Machine
end

/-! ### Transactions of the host by unit (02 R55, R74; 03 R95-R100) -/

section
namespace Sys2Proof.Machine

/-- The settings of reception are objects of 10 and 11 alone (11 R362). -/
theorem Dev.noteRx_of_unit {k : Nat} (d : Dev) (h26 : k / 0x10000 ≠ 0x26) (h38 : k / 0x10000 ≠ 0x38) : d.noteRx k = d := by
  refine Dev.noteRx_of_none (List.all_eq_true.2 fun p hp => ?_)
  have port : p < 4 := List.mem_range.1 hp
  have rxPound : k ≠ 0x268001 + p := by omega
  have macs : k / 256 ≠ 0x3800 + p ∧ k / 256 ≠ 0x3810 + p ∧ k / 256 ≠ 0x3850 := by omega
  simp [rxSetting, rxPound, macs]

/-- A host's write that nothing refuses, of an object beyond 09, 10 and 11, has its effect at once. -/
theorem Dev.hostPut_effect {d e : Dev} {k v : Nat} {tm : Timing} (h : d.hostTakes k v tm = true) (hk : 0x390000 ≤ k)
    (he : d.writeEffect 0 k v = .ok e) : d.hostPut k v tm = e.answered [] :=
  Dev.hostPut_ok h (by omega) ((d.noteRx_of_unit (k := k) (by omega) (by omega)).symm ▸ he)

/-- As hostPut_effect, of an effect whose result comes later: the lowest free slot holds the transaction. -/
theorem Dev.hostPut_later {d e : Dev} {k v s : Nat} {tm : Timing} (h : d.hostTakes k v tm = true) (hk : 0x390000 ≤ k)
    (hs : d.freeSlot = some s) (he : d.writeEffect 0 k v = .pend e) :
    d.hostPut k v tm = e.retry s 0x12 0xFF (k / 256) (k % 256) none :=
  Dev.hostPut_pend h hs ((d.noteRx_of_unit (k := k) (by omega) (by omega)).symm ▸ he)

/-- Two conditions on a command's operands that hold. -/
theorem decide_and_decide {p r : Prop} [Decidable p] [Decidable r] (hp : p) (hr : r) : (decide p && decide r) = true := by
  simp [hp, hr]

/-- A host's read that is answered at once. -/
theorem Dev.hostRead_ok {d e : Dev} {idx sb off len : Nat} {tm : Timing} {body : Oct} (h : d.linkTakes tm = true)
    (hr : d.dictRead 0 idx sb off len = .ok body e) : d.hostRead idx sb off len tm = e.answered body := by
  simp only [Dev.linkTakes, Bool.and_eq_true, Bool.not_eq_eq_eq_not, Bool.not_true] at h
  obtain ⟨⟨hup, hfree⟩, hlate⟩ := h
  obtain ⟨s, hs⟩ := Dev.freeSlot_of_taken hfree
  simp [Dev.hostRead, Dev.hostCmd_of_up _ hup, hfree, hr, hlate, Dev.hostDict, hs, Dev.settleTxn, Dev.sayRes, Dev.answered]

/-- Orders 1 and 2 let every address with a row pass, but for the signal cache. -/
theorem Dev.findAt_of_row {idx sb : Nat} {r : ObjRow} (d : Dev) (hr : rowAt idx sb = some r) (hcache : objKey idx sb / 0x10000 ≠ 0x5A) :
    d.findAt idx sb = .inr r := by
  have present : d.cacheAbsent (objKey idx sb) = false := by simp [Dev.cacheAbsent, hcache]
  simp [Dev.findAt, findObj_of_row hr, present]

/-- A write of an object that is no table image, refused by orders 3 to 7. -/
theorem Dev.dictWrite_refused {d : Dev} {idx sb ini ty off c : Nat} {data : Oct} {r : ObjRow} (hr : rowAt idx sb = some r)
    (hcache : objKey idx sb / 0x10000 ≠ 0x5A) (hper : r.per ≠ .pw)
    (hw : d.writeAbort r ini (objKey idx sb) ty (leNat data) = some c) : d.dictWrite ini idx sb ty off data = .abort c d := by
  simp [Dev.dictWrite, d.findAt_of_row hr hcache, hw, hper]

/-- A write of an object that is no table image, refused by orders 8 and 9. -/
theorem Dev.dictWrite_of_badValue {d : Dev} {idx sb ini ty off c : Nat} {data : Oct} {r : ObjRow} (hr : rowAt idx sb = some r)
    (hcache : objKey idx sb / 0x10000 ≠ 0x5A) (himg : imgOf idx = none)
    (hw : d.writeAbort r ini (objKey idx sb) ty (leNat data) = none)
    (hv : d.writeValueAbort r (objKey idx sb) off data = some c) : d.dictWrite ini idx sb ty off data = .abort c d := by
  simp [Dev.dictWrite, d.findAt_of_row hr hcache, hw, himg, hv]

/-- A write of an object that is no table image, which orders 1 to 9 let pass. -/
theorem Dev.dictWrite_effect {d : Dev} {idx sb ini ty off : Nat} {data : Oct} {r : ObjRow} (hr : rowAt idx sb = some r)
    (hcache : objKey idx sb / 0x10000 ≠ 0x5A) (himg : imgOf idx = none)
    (hw : d.writeAbort r ini (objKey idx sb) ty (leNat data) = none)
    (hv : d.writeValueAbort r (objKey idx sb) off data = none) :
    d.dictWrite ini idx sb ty off data = ((d.noteRx (objKey idx sb)).writeEffect ini (objKey idx sb) (leNat data)).toDRes := by
  simp [Dev.dictWrite, d.findAt_of_row hr hcache, hw, himg, hv]

end Sys2Proof.Machine
end

/-! ### The interrupt controller and the fault log (18 R624, R633, R636, R639; 19 R655, R660) -/

section
namespace Sys2Proof.Machine

/-- A host's write of an object of 18 that nothing refuses. -/
theorem Dev.hostPut_int {d : Dev} {k v : Nat} {tm : Timing} (h : d.hostTakes k v tm = true) (hk : k / 0x10000 = 0x78) :
    d.hostPut k v tm = (d.intEffect k v).answered [] :=
  Dev.hostPut_effect h (by omega) (by simp only [Dev.writeEffect, hk])

/-- A host's write of an object of 19 that nothing refuses. -/
theorem Dev.hostPut_fl {d : Dev} {k v : Nat} {tm : Timing} (h : d.hostTakes k v tm = true) (hk : k / 0x10000 = 0x7C) :
    d.hostPut k v tm = (d.flEffect k v).answered [] :=
  Dev.hostPut_effect h (by omega) (by simp only [Dev.writeEffect, hk])

/-- SRC_STATE takes the value written, but for IN_SERVICE (18 R627). -/
theorem Dev.intEffect_srcState (d : Dev) (v : Nat) {s : Nat} (hs : s < 96) :
    d.intEffect (srcStateKey s) v = d.wr (srcStateKey s) (setBit v 1 false) := by
  have range : srcStateKey s ≠ 0x780002 ∧ srcStateKey s ≠ 0x780003 ∧ 0x785001 ≤ srcStateKey s ∧ srcStateKey s ≤ 0x785060 := by
    unfold srcStateKey
    omega
  simp [Dev.intEffect, range]

/-- INT_FAULT_CLEAR of a target (18 R639). -/
theorem Dev.intEffect_faultClear (d : Dev) (v : Nat) {t : Nat} (ht : t < 4) : d.intEffect (tgtKey t 7) v = d.intFaultClear t v := by
  have range : tgtKey t 7 ≠ 0x780002 ∧ tgtKey t 7 ≠ 0x780003 ∧ ¬0x785001 ≤ tgtKey t 7 ∧ 0x781000 ≤ tgtKey t 7
      ∧ tgtKey t 7 < 0x781400 ∧ tgtKey t 7 % 256 = 7 ∧ tgtKey t 7 / 256 - 0x7810 = t := by
    unfold tgtKey
    omega
  simp [Dev.intEffect, range]

/-- INT_CLAIM is no table image, an object of two octets (18 Table 18.6). -/
theorem intClaim_row : ∀ t < 4, imgOf (0x7810 + t) = none ∧ claimObj (objKey (0x7810 + t) 3) = true
    ∧ (rowAt (0x7810 + t) 3).map (·.ty.size) = some 2 := by decide +kernel

/-- A read of INT_CLAIM that passes its checks claims the source offered (18 R633). -/
theorem Dev.dictRead_intClaim {d : Dev} {t : Nat} (ht : t < 4) (h : d.readAbort 0 (0x7810 + t) 3 0 0 = none) :
    d.dictRead 0 (0x7810 + t) 3 0 0 = .ok (leOct 2 2 ++ leOct 2 (d.intClaim t).1) (d.intClaim t).2 := by
  obtain ⟨noImage, isClaim, size⟩ := intClaim_row t ht
  have noCache : (0x7810 + t) / 256 ≠ 0x5A := by omega
  simp [Dev.dictRead, h, Dev.readNow, noImage, isClaim, noCache, size]

/-- A claim takes the source offered: its pending bit is cleared, and it stands on the target's stack (18 R633). -/
theorem Dev.intClaim_of_offer {d : Dev} {t s : Nat} (h : d.offerTo t = some s) :
    d.intClaim t = (s + 256 * d.srcLevel s,
      (d.wr (srcStateKey s) (setBit (d.rd (srcStateKey s)) 0 false)).setStack t ((s, d.srcLevel s) :: d.stack t)) := by
  simp only [Dev.intClaim, h]

/-- A claim without an offer takes nothing (18 R633). -/
theorem Dev.intClaim_of_none {d : Dev} {t : Nat} (h : d.offerTo t = none) : d.intClaim t = (0x00FF, d) := by
  simp only [Dev.intClaim, h]

/-- With the crystal running the writer takes the head of its queue at the next CKX (19 R655, R658). -/
theorem Dev.flWrite_of_queue {d e : Dev} {f : FaultRec} {t : List FaultRec} (hosc : d.aon.osc = true)
    (hrun : d.aon.xtalStopped = false) (hq : d.fl.queue = f :: t)
    (he : e = (d.advanceTo ((d.ck / 4 + 1) * 4)).setFl (fun l => { l with queue := t })) :
    d.flWrite = if e.flMerges f then e.flRepeat else e.flNew f := by
  subst he
  simp only [Dev.flWrite, hosc, hrun, Bool.not_true, Bool.or_self, Bool.false_eq_true, if_false, hq]

/-- Settles O49: the claim is a read (`dictRead_intClaim`), the writes have the effects `intEffect_srcState`, `intEffect_faultClear` and
those of `intEffect` and `flEffect` by their definition, the writer's turn is `flWrite_of_queue`. -/
theorem interruptAndFaultLogCommandsComplete : Obligations.InterruptAndFaultLogCommandsComplete := by
  unfold Obligations.InterruptAndFaultLogCommandsComplete
  refine ⟨?claim, ?noClaim, ?srcState, ?pending, ?clearMark, ?clearStack, ?newEntry, ?merged, ?ack, ?clear⟩
  case claim =>
    rintro q d0 d t s tm rfl ht htakes hread hoffer
    have claimed := Dev.dictRead_intClaim ht hread
    rw [Dev.intClaim_of_offer hoffer] at claimed
    rw [exec_intClaim]
    exact State.run_eq (decide_eq_true ht) (Dev.hostRead_ok htakes claimed)
  case noClaim =>
    rintro q d0 d t tm rfl ht htakes hread hoffer
    have claimed := Dev.dictRead_intClaim ht hread
    rw [Dev.intClaim_of_none hoffer] at claimed
    rw [exec_intClaim]
    exact State.run_eq (decide_eq_true ht) (Dev.hostRead_ok htakes claimed)
  case srcState =>
    rintro q d0 d s v tm rfl hs hv htakes
    rw [exec_srcStateWrite]
    refine State.run_eq (decide_and_decide hs hv) ?_
    rw [Dev.hostPut_int htakes (by unfold srcStateKey; omega), Dev.intEffect_srcState _ v hs]
  case pending =>
    rintro q d0 d v tm rfl hv htakes
    rw [exec_intPendingWrite]
    exact State.run_eq (decide_eq_true hv) (Dev.hostPut_int htakes rfl)
  case clearMark =>
    rintro q d0 d t tm rfl ht htakes
    rw [exec_intFaultClear]
    refine State.run_eq (decide_and_decide ht (by decide)) ?_
    rw [Dev.hostPut_int htakes (by unfold tgtKey; omega), Dev.intEffect_faultClear _ 1 ht]
    rfl
  case clearStack =>
    rintro q d0 d t tm rfl ht htakes
    rw [exec_intFaultClear]
    refine State.run_eq (decide_and_decide ht (by decide)) ?_
    rw [Dev.hostPut_int htakes (by unfold tgtKey; omega), Dev.intEffect_faultClear _ 2 ht]
    rfl
  case newEntry =>
    rintro q d f t hosc hrun hq e he hnew
    rw [exec_faultLogWrite]
    refine State.run_eq rfl ?_
    rw [Dev.flWrite_of_queue hosc hrun hq he, hnew, if_neg Bool.false_ne_true]
  case merged =>
    rintro q d f t hosc hrun hq e he hmerge
    rw [exec_faultLogWrite]
    refine State.run_eq rfl ?_
    rw [Dev.flWrite_of_queue hosc hrun hq he, if_pos hmerge]
  case ack =>
    rintro q d0 d v tm rfl hv htakes
    rw [exec_flAckSeq]
    exact State.run_eq (decide_eq_true hv) (Dev.hostPut_fl htakes rfl)
  case clear =>
    rintro q d0 d tm rfl htakes
    rw [exec_flClear]
    exact State.run_eq rfl (Dev.hostPut_fl htakes rfl)

end Sys2Proof.Machine
end

/-! ### Writes of SRC_STATE and FAULTED targets (18 R627, R629, R638, R639) -/

section
namespace Sys2Proof.Machine

/-- Bit 0 stays where bit 1 is cleared. -/
theorem testBit_zero_setBit_one_false (v : Nat) : (setBit v 1 false).testBit 0 = v.testBit 0 := by
  unfold setBit
  cases h : v.testBit 1
  · simp
  · simp only [Nat.testBit_eq_decide_div_mod_eq, decide_eq_true_eq] at h ⊢
    simp only [Bool.true_eq_false, beq_iff_eq, if_false, decide_eq_decide, Bool.false_eq_true]
    omega

/-- Bits 7 to 4 stay where bit 1 is cleared. -/
theorem setBit_one_false_div (v : Nat) : setBit v 1 false / 16 = v / 16 := by
  unfold setBit
  cases h : v.testBit 1
  · simp
  · simp only [Nat.testBit_eq_decide_div_mod_eq, decide_eq_true_eq] at h
    simp only [Bool.true_eq_false, beq_iff_eq, if_false, Bool.false_eq_true]
    omega

/-- Bit 1, where it was cleared and a flag put in its place. -/
theorem testBit_one_setBit_one_false_add (v : Nat) (b : Bool) : (setBit v 1 false + 2 * b2n b).testBit 1 = b := by
  have clear : setBit v 1 false / 2 % 2 = 0 := by
    unfold setBit
    cases h : v.testBit 1
    all_goals
      simp only [Nat.testBit_eq_decide_div_mod_eq, decide_eq_true_eq, decide_eq_false_iff_not] at h
      simp only [Bool.true_eq_false, beq_iff_eq, if_false, if_true, Bool.false_eq_true]
      omega
  rw [Nat.testBit_eq_decide_div_mod_eq]
  cases b
  all_goals
    simp only [b2n, Bool.false_eq_true, if_false, if_true, decide_eq_true_eq, decide_eq_false_iff_not]
    omega

/-- SRC_STATE as it is read: IN_SERVICE in bit 1 (18 Table 18.6). -/
theorem Dev.readObj_srcState (d : Dev) (ini : Nat) {s : Nat} (hs : s < 96) :
    d.readObj ini (srcStateKey s) = d.rd (srcStateKey s) + 2 * b2n (d.inService s) := by
  have unit : srcStateKey s / 0x10000 = 0x78 := by unfold srcStateKey; omega
  have index : srcStateKey s / 256 = 0x7850 := by unfold srcStateKey; omega
  have inTable : 1 ≤ srcStateKey s % 256 ∧ srcStateKey s % 256 ≤ 96 ∧ srcStateKey s % 256 - 1 = s := by unfold srcStateKey; omega
  simp [Dev.readObj, Dev.computed, unit, Dev.intRead, index, inTable]

/-- SRC_STATE is an object of one octet (18 Table 18.6). -/
theorem srcState_row : ∀ s < 96, (rowAt 0x7850 (s + 1)).map (·.ty.size) = some 1 := by decide +kernel

/-- The key of SRC_STATE from its index and subindex. -/
theorem objKey_srcState (s : Nat) : objKey 0x7850 (s + 1) = srcStateKey s := by
  unfold objKey srcStateKey
  omega

/-- The row of SRC_STATE by its key. -/
theorem rowOf_srcState {s : Nat} (hs : s < 96) : rowOf (srcStateKey s) = rowAt 0x7850 (s + 1) := by
  have index : srcStateKey s / 256 % 65536 = 0x7850 := by unfold srcStateKey; omega
  have subindex : srcStateKey s % 256 = s + 1 := by unfold srcStateKey; omega
  rw [rowOf, index, subindex]

/-- Orders 8 and 9 refuse a COUNT of a level source (18 R627). -/
theorem Dev.writeValueAbort_levelCount (d : Dev) {s : Nat} {data : Oct} {r : ObjRow} (hs : s < 96) (hlevel : levelSource s = true)
    (hsize : r.ty.size = 1) (hlen : data.length = 1) (hcount : 16 ≤ leNat data) :
    d.writeValueAbort r (srcStateKey s) 0 data = some 0x0301 := by
  have unit : srcStateKey s / 0x10000 = 0x78 := by unfold srcStateKey; omega
  have index : srcStateKey s / 256 = 0x7850 := by unfold srcStateKey; omega
  have source : srcStateKey s % 256 - 1 = s := by unfold srcStateKey; omega
  have bad : d.rangeOk r (srcStateKey s) (leNat data) = false := by
    simp [Dev.rangeOk, Dev.valueOk, unit, intValue, index, source, hlevel, hcount]
  simp [Dev.writeValueAbort, hsize, hlen, bad]

/-- Settles O53: the effect is `intEffect_srcState`, the refusal `writeValueAbort_levelCount`. -/
theorem sourceStateWrites : Obligations.SourceStateWrites := by
  unfold Obligations.SourceStateWrites
  refine ⟨?write, ?levelCount⟩
  case write =>
    rintro q d0 d s v tm rfl hs hv htakes
    refine ⟨d0.hostStart.wr (srcStateKey s) (setBit v 1 false), ?runs, ?pending, ?count, rfl, ?service, fun x hx => Dev.rd_wr_other _ _ hx⟩
    case runs =>
      rw [exec_srcStateWrite]
      refine State.run_eq (decide_and_decide hs hv) ?_
      rw [Dev.hostPut_int htakes (by unfold srcStateKey; omega), Dev.intEffect_srcState _ v hs]
    case pending => rw [Dev.isPending, Dev.rd_wr_same, testBit_zero_setBit_one_false]
    case count => rw [Dev.rd_wr_same, setBit_one_false_div]
    case service =>
      rw [Dev.readObj_srcState _ 0 hs, Dev.rd_wr_same, testBit_one_setBit_one_false_add]
      rfl
  case levelCount =>
    intro d ini s ty data r hs hlevel hrow hw hlen hcount
    rw [rowOf_srcState hs] at hrow
    rw [← objKey_srcState s] at hw
    have size : r.ty.size = 1 := by simpa [hrow] using srcState_row s hs
    refine Dev.dictWrite_of_badValue hrow (by rw [objKey_srcState]; unfold srcStateKey; omega) (by decide) hw ?_
    rw [objKey_srcState]
    exact d.writeValueAbort_levelCount hs hlevel size hlen hcount

/-- A mark cleared reads clear. -/
theorem getD_updAt_clear (l : List Bool) (t : Nat) : (updAt l t (fun _ => false)).getD t false = false := by
  induction l generalizing t with
  | nil => rfl
  | cons a l ih =>
    cases t with
    | zero => rfl
    | succ t => exact ih t

end Sys2Proof.Machine
end


/-! ### FAULTED targets (18 R629, R638, R639) -/

section
namespace Sys2Proof.Machine

/-- The running priority of a target by its stack (18 R629). -/
theorem Dev.running_eq (d : Dev) (t : Nat) : d.running t = match d.stack t with
    | [] => d.rd (tgtKey t 2)
    | e :: _ => max (d.rd (tgtKey t 2)) e.2 := by
  cases h : d.stack t <;> simp [Dev.running, h]

/-- The target a source is offered to is a candidate for it (18 R630, R631). -/
theorem Dev.candidate_of_offerTarget {d : Dev} {s t : Nat} {taken : List (Nat × Nat)} (h : d.offerTarget s taken = some t) :
    d.candidate s t = true := by
  have chosen : ∀ u, d.offerTarget s taken = some u → d.candidate s u = true := by
    unfold Dev.offerTarget
    refine List.foldlRecOn (motive := fun o => ∀ u, o = some u → d.candidate s u = true) _ _ nofun ?_
    intro b hb v hv u hu
    have isCandidate : d.candidate s v = true := (Bool.and_eq_true_iff.1 (List.mem_filter.1 hv).2).1
    cases b with
    | none => exact Option.some.inj hu ▸ isCandidate
    | some w =>
      dsimp only at hu
      split at hu
      · exact Option.some.inj hu ▸ isCandidate
      · exact hb u hu
  exact chosen t h

/-- Every offer is to a candidate for the source (18 R630, R631). -/
theorem Dev.candidate_of_mem_offers {d : Dev} {e : Nat × Nat} (h : e ∈ d.offers) : d.candidate e.2 e.1 = true := by
  have offered (order : List Nat) (os : List (Nat × Nat)) (hos : ∀ e ∈ os, d.candidate e.2 e.1 = true) :
      ∀ e ∈ order.foldl (fun os s => match d.offerTarget s os with
        | some t => os ++ [(t, s)]
        | none => os) os, d.candidate e.2 e.1 = true := by
    induction order generalizing os with
    | nil => exact hos
    | cons s order ih =>
      refine ih _ fun e he => ?_
      dsimp only at he
      split at he
      next t ht =>
        rcases List.mem_append.1 he with he | he
        · exact hos e he
        · exact List.mem_singleton.1 he ▸ Dev.candidate_of_offerTarget ht
      next => exact hos e he
  unfold Dev.offers at h
  split at h
  · exact absurd h List.not_mem_nil
  · exact offered _ [] (fun e he => absurd he List.not_mem_nil) e h

/-- A FAULTED target has no offer (18 R638). -/
theorem Dev.offerTo_of_faulted {d : Dev} {t : Nat} (h : d.faulted t = true) : d.offerTo t = none := by
  rw [Dev.offerTo, Option.map_eq_none_iff, List.find?_eq_none]
  intro e he heq
  have cand := Dev.candidate_of_mem_offers he
  rw [beq_iff_eq.1 heq] at cand
  simp [Dev.candidate, h] at cand

/-- INT_COMPLETE to a FAULTED target is refused (18 R638). -/
theorem Dev.hostComplete_of_faulted {d : Dev} {t s : Nat} (hup : d.hostUp = true) (ht : t < 4) (hs : s < 96) (hf : d.faulted t = true) :
    d.hostComplete t s = d.sayAbort 0x0203 0 := by
  have known : (decide (3 < t) || decide (95 < s)) = false := by
    rw [decide_eq_false (by omega), decide_eq_false (by omega), Bool.or_false]
  have refused : d.intComplete t s = (0x0203, d) := by simp only [Dev.intComplete, hf, if_true]
  simp [Dev.hostComplete, Dev.hostCmd_of_up _ hup, known, refused]

/-- Source 92 is asked for while any target is FAULTED (18 R638). -/
theorem Dev.levelCond_faulted (d : Dev) : d.levelCond 92 = true ↔ ∃ t, d.faulted t = true := by
  have cond : d.levelCond 92 = d.intc.faulted.contains true := rfl
  simp only [cond, List.contains_iff_mem, List.mem_iff_getElem?, Dev.faulted, List.getD_eq_getElem?_getD]
  refine exists_congr fun t => ?_
  cases d.intc.faulted[t]? <;> simp

/-- Bit `t` of a mask of the four targets. -/
theorem testBit_maskOf_targets (p : Nat → Bool) {t : Nat} (ht : t < 4) :
    maskOf (List.range 4) p < 2 ^ 4 ∧ (maskOf (List.range 4) p).testBit t = p t := by
  have mask : maskOf (List.range 4) p = maskOf [p 0, p 1, p 2, p 3] id := rfl
  have bits : ∀ a b c e : Bool, maskOf [a, b, c, e] id < 2 ^ 4
      ∧ ∀ i < 4, (maskOf [a, b, c, e] id).testBit i = [a, b, c, e].getD i false := by decide
  have at_ : [p 0, p 1, p 2, p 3].getD t false = p t := by
    obtain rfl | rfl | rfl | rfl : t = 0 ∨ t = 1 ∨ t = 2 ∨ t = 3 := by omega
    all_goals rfl
  obtain ⟨small, bit⟩ := bits (p 0) (p 1) (p 2) (p 3)
  exact mask ▸ ⟨small, (bit t ht).trans at_⟩

/-- Octet 2 of STATUS_POLL shows the targets with an offer and those FAULTED (03 Table 3.5). -/
theorem Dev.pollOctets_targets (d : Dev) {t : Nat} (ht : t < 4) :
    (d.pollOctets.getD 2 0).toNat.testBit (4 + t) = d.faulted t
      ∧ (d.pollOctets.getD 2 0).toNat.testBit t = (d.offerTo t).isSome := by
  obtain ⟨hsmall, hoffer⟩ := testBit_maskOf_targets (fun t => (d.offerTo t).isSome) ht
  obtain ⟨-, hfault⟩ := testBit_maskOf_targets d.faulted ht
  have octet : (d.pollOctets.getD 2 0).toNat
      = (2 ^ 4 * maskOf (List.range 4) d.faulted + maskOf (List.range 4) (fun t => (d.offerTo t).isSome)) % 2 ^ 8 := by
    rw [Nat.add_comm]
    rfl
  rw [octet, Nat.testBit_mod_two_pow, Nat.testBit_mod_two_pow, Nat.testBit_two_pow_mul_add _ hsmall,
    Nat.testBit_two_pow_mul_add _ hsmall, hoffer, ← hfault]
  simp only [ht, show 4 + t < 8 by omega, show t < 8 by omega, Nat.not_lt.2 (Nat.le_add_right 4 t), Nat.add_sub_cancel_left, decide_true,
    Bool.true_and, if_true, if_false, and_self]

/-- INT_FAULT_CLEAR is an octet of CORE that is only written, no table image (18 Table 18.6). -/
theorem faultClear_row : ∀ t < 4, imgOf (0x7810 + t) = none
    ∧ rowAt (0x7810 + t) 7 = some ⟨0x7810, 4, 1, 7, 1, .u8, .wo, 0, dCORE, .none, 0, 0xFF, false⟩ := by
  decide +kernel

/-- What the row found for INT_FAULT_CLEAR says (18 Table 18.6). -/
theorem faultClear_row_of {t : Nat} {r : ObjRow} (ht : t < 4) (hr : rowAt (0x7810 + t) 7 = some r) :
    r.ty.size = 1 ∧ r.acc = .wo ∧ r.dom = dCORE ∧ r.per = .none ∧ r.lo = 0 ∧ r.hi = 255 := by
  obtain rfl := Option.some.inj (hr.symm.trans (faultClear_row t ht).2)
  exact ⟨rfl, rfl, rfl, rfl, rfl, rfl⟩

/-- Where INT_FAULT_CLEAR of a target lies (18 Table 18.6). -/
theorem tgtKey_seven {t : Nat} (ht : t < 4) : tgtKey t 7 / 0x10000 = 0x78 ∧ 0x781000 ≤ tgtKey t 7 ∧ tgtKey t 7 < 0x781400
    ∧ tgtKey t 7 / 256 = 0x7810 + t ∧ tgtKey t 7 % 256 = 7 := by
  unfold tgtKey
  omega

/-- Order 5 refuses INT_FAULT_CLEAR of a target that is not FAULTED (18 R639). -/
theorem Dev.writeAbort_faultClear {d : Dev} {ini t ty v : Nat} {r : ObjRow} (ht : t < 4) (hr : rowAt (0x7810 + t) 7 = some r)
    (hcore : d.domAbort dCORE = none) (hf : d.faulted t = false) : d.writeAbort r ini (tgtKey t 7) ty v = some 0x0203 := by
  obtain ⟨-, acc, dom, per, -⟩ := faultClear_row_of ht hr
  obtain ⟨unit, low, high, index, subindex⟩ := tgtKey_seven ht
  have refused : d.stateBad ini (tgtKey t 7) v = true := by simp [Dev.stateBad, unit, Dev.intState, low, high, index, subindex, hf]
  simp [Dev.writeAbort, acc, dom, per, hcore, Dev.stateAbort, refused]

/-- Orders 8 and 9 let the values 01h and 02h of INT_FAULT_CLEAR pass alone (18 R639). -/
theorem Dev.writeValueAbort_faultClear (d : Dev) {t : Nat} {data : Oct} {r : ObjRow} (ht : t < 4)
    (hr : rowAt (0x7810 + t) 7 = some r) (hlen : data.length = 1) :
    d.writeValueAbort r (tgtKey t 7) 0 data = if leNat data = 1 ∨ leNat data = 2 then none else some 0x0301 := by
  obtain ⟨size, -, -, -, lo, hi⟩ := faultClear_row_of ht hr
  obtain ⟨unit, -, -, index, subindex⟩ := tgtKey_seven ht
  have notQuery : tgtKey t 7 ≠ 0x1F0001 := by omega
  have value : d.valueOk (tgtKey t 7) (leNat data) = (leNat data == 1 || leNat data == 2) := by
    obtain rfl | rfl | rfl | rfl : t = 0 ∨ t = 1 ∨ t = 2 ∨ t = 3 := by omega
    all_goals rfl
  have inRange : leNat data ≤ 255 := by
    have := leNat_lt data
    rw [hlen] at this
    omega
  simp only [Dev.writeValueAbort, size, hlen, Dev.rangeOk, value, lo, hi, inRange, notQuery, if_false]
  by_cases h1 : leNat data = 1 <;> by_cases h2 : leNat data = 2 <;> simp [h1, h2]

/-- The key of INT_FAULT_CLEAR from its index and subindex. -/
theorem objKey_faultClear (t : Nat) : objKey (0x7810 + t) 7 = tgtKey t 7 := rfl

/-- A write of 01h or 02h to INT_FAULT_CLEAR that orders 1 to 7 let pass (18 R639). -/
theorem Dev.dictWrite_faultClear {d : Dev} {ini t ty : Nat} {data : Oct} {r : ObjRow} (ht : t < 4) (hr : rowAt (0x7810 + t) 7 = some r)
    (hw : d.writeAbort r ini (tgtKey t 7) ty (leNat data) = none) (hlen : data.length = 1) (hv : leNat data = 1 ∨ leNat data = 2) :
    d.dictWrite ini (0x7810 + t) 7 ty 0 data = .ok [] (d.intFaultClear t (leNat data)) := by
  have unit := (tgtKey_seven ht).1
  have passes := d.writeValueAbort_faultClear ht hr hlen
  rw [if_pos hv] at passes
  rw [Dev.dictWrite_effect hr (by rw [objKey_faultClear]; omega) (faultClear_row t ht).1 hw passes, objKey_faultClear,
    Dev.noteRx_of_unit _ (by omega) (by omega)]
  simp only [Dev.writeEffect, unit, Dev.intEffect_faultClear _ _ ht, WRes.toDRes]

/-- A stack that is not empty is one of the device's, and is the one replaced. -/
theorem Dev.stack_setStack {d : Dev} {t : Nat} (h : d.stack t ≠ []) (l : List (Nat × Nat)) : (d.setStack t l).stack t = l := by
  have known : t < d.intc.serving.length := by
    refine Nat.lt_of_not_le fun beyond => ?_
    exact h (by rw [Dev.stack, List.getD_eq_getElem?_getD, List.getElem?_eq_none (by omega), Option.getD_none])
  exact getD_updAt_same known _ []

/-- A completion looks at objects alone (18 R624, R634). -/
theorem Dev.srcCompleted_store_congr {d e : Dev} (h : d.store = e.store) (s : Nat) :
    (d.srcCompleted s).store = (e.srcCompleted s).store := by
  have same_rd (k : Nat) : d.rd k = e.rd k := by rw [Dev.rd, h, Dev.rd]
  have same_wr (k v : Nat) : (d.wr k v).store = (e.wr k v).store := by rw [Dev.wr, h, Dev.wr]
  unfold Dev.srcCompleted
  simp only [same_rd]
  split
  · exact same_wr _ _
  · exact h

/-- A completion leaves the stacks (18 R624, R634). -/
@[simp] theorem Dev.srcCompleted_stack (d : Dev) (s t : Nat) : (d.srcCompleted s).stack t = d.stack t := by
  unfold Dev.srcCompleted
  dsimp only
  split <;> rfl

/-- A target whose stack is completed from its top down: the sources complete in that order and the stack is empty (18 R639). -/
theorem Dev.popAll {d e : Dev} {t : Nat} {l : List (Nat × Nat)} (h : d.stack t = l) (hstore : d.store = e.store) :
    (forEach l d (fun _ f => f.popTop t)).store = (forEach l e (fun x f => f.srcCompleted x.1)).store
      ∧ (forEach l d (fun _ f => f.popTop t)).stack t = [] := by
  induction l generalizing d e with
  | nil => exact ⟨hstore, h⟩
  | cons x l ih =>
    have popped : d.popTop t = (d.setStack t l).srcCompleted x.1 := by simp only [Dev.popTop, h]
    have rest : (d.popTop t).stack t = l := by
      rw [popped, Dev.srcCompleted_stack, Dev.stack_setStack (by rw [h]; exact List.cons_ne_nil x l)]
    have same : (d.popTop t).store = (e.srcCompleted x.1).store :=
      popped ▸ Dev.srcCompleted_store_congr (show (d.setStack t l).store = e.store from hstore) x.1
    exact ih rest same

/-- Settles O54: the running priority, the offers and the refusals one by one; INT_FAULT_CLEAR by `dictWrite_faultClear` and, with 02h,
`popAll`. -/
theorem faultedTargets : Obligations.FaultedTargets := by
  unfold Obligations.FaultedTargets
  refine ⟨Dev.running_eq, fun _ _ h => Dev.offerTo_of_faulted h, ?complete, Dev.levelCond_faulted, fun d t ht => d.pollOctets_targets ht,
    ?notFaulted, ?badValue, ?mark, ?stack⟩
  case complete =>
    rintro q d0 d t s rfl ht hs hup hf
    rw [exec_intComplete]
    exact State.run_eq (decide_and_decide (by omega) (by omega)) (Dev.hostComplete_of_faulted hup ht hs hf)
  case notFaulted =>
    intro d ini t ty data r ht hr hcore hf
    have per := (faultClear_row_of ht hr).2.2.2.1
    have unit := (tgtKey_seven ht).1
    exact Dev.dictWrite_refused hr (by rw [objKey_faultClear]; omega) (by rw [per]; decide) (Dev.writeAbort_faultClear ht hr hcore hf)
  case badValue =>
    intro d ini t ty data r ht hr hw hlen h1 h2
    have unit := (tgtKey_seven ht).1
    have refused := d.writeValueAbort_faultClear ht hr hlen
    rw [if_neg (not_or.2 ⟨h1, h2⟩)] at refused
    exact Dev.dictWrite_of_badValue hr (by rw [objKey_faultClear]; omega) (faultClear_row t ht).1 hw refused
  case mark =>
    intro d ini t ty data r ht hr hw hlen h1
    refine ⟨_, Dev.dictWrite_faultClear ht hr hw hlen (.inl h1), getD_updAt_clear _ t, ?_, ?_⟩
    all_goals rw [h1]; rfl
  case stack =>
    intro d ini t ty data r ht hr hw hlen h2
    obtain ⟨hstore, hstack⟩ := Dev.popAll (d := d) (t := t) rfl rfl
    refine ⟨_, Dev.dictWrite_faultClear ht hr hw hlen (.inr h2), getD_updAt_clear _ t, ?_, ?_⟩
    all_goals rw [h2]
    · exact hstack
    · exact hstore

end Sys2Proof.Machine
end

/-! ### A new entry of the fault log (19 R656) -/

section
namespace Sys2Proof.Machine

/-- The entry an entry number occupies lies in the table of entries. -/
theorem flEntryKey_range (q : Nat) : 0x7C1001 ≤ flEntryKey q ∧ flEntryKey q ≤ 0x7C1040 := by
  unfold flEntryKey
  omega

/-- SRC_STATE of a source lies below the fault log. -/
theorem srcStateKey_lt {s : Nat} (hs : s < 96) : srcStateKey s < 0x7C0000 := by
  unfold srcStateKey
  omega

/-- The device once an unread entry that is replaced has been counted and told of (19 R657). -/
def Dev.flOverrun (d : Dev) (q : Nat) : Dev :=
  if d.rd (flEntryKey q) != 0 && d.flUnread (d.rd (flEntryKey q) % 65536) then (d.inc 0x7C0006).fire 94 else d

/-- A replaced entry changes FL_OVERRUNS and SRC_STATE of source 94 alone. -/
theorem Dev.rd_flOverrun_other (d : Dev) (q : Nat) {k : Nat} (h6 : k ≠ 0x7C0006) (h94 : k ≠ srcStateKey 94) :
    (d.flOverrun q).rd k = d.rd k := by
  unfold Dev.flOverrun
  split
  · rw [Dev.rd_fire_other _ h94, Dev.rd_inc_other _ h6]
  · rfl

/-- What no write of an object changes, a replaced entry leaves. -/
theorem Dev.flOverrun_keeps {β : Type} {g : Dev → β} (hwr : ∀ (d : Dev) (k v : Nat), g (d.wr k v) = g d) (d : Dev) (q : Nat) :
    g (d.flOverrun q) = g d := by
  unfold Dev.flOverrun
  split
  · exact (Dev.fire_keeps hwr _ 94).trans (hwr ..)
  · rfl

/-- The device with a new entry in place, before it is counted and told of (19 R656). -/
def Dev.flPlaced (d : Dev) (f : FaultRec) (q : Nat) : Dev :=
  (((d.flOverrun q).wr (flEntryKey q) (flEntry f q)).wr 0x7C0002 q).wr 0x7C0001 (min 64 ((d.flOverrun q).rd 0x7C0001 + 1))

/-- What no write of an object changes, a new entry in place leaves. -/
theorem Dev.flPlaced_keeps {β : Type} {g : Dev → β} (hwr : ∀ (d : Dev) (k v : Nat), g (d.wr k v) = g d) (d : Dev) (f : FaultRec)
    (q : Nat) : g (d.flPlaced f q) = g d := by
  rw [Dev.flPlaced, hwr, hwr, hwr, Dev.flOverrun_keeps hwr]

/-- A new entry: placed, counted, and source 93 fired (19 R656). -/
theorem Dev.flNew_eq (d : Dev) (f : FaultRec) {q : Nat} (hq : q = (d.rd 0x7C0002 + 1) % 65536) :
    d.flNew f = (((d.flPlaced f q).inc 0x7C0005).fire 93).setFl (fun l => { l with newest := some f }) := by
  subst hq
  rfl

/-- What a new entry leaves of an object that is no object of 19, nor SRC_STATE of sources 93 and 94. -/
theorem Dev.rd_flPlaced_other (d : Dev) (f : FaultRec) (q : Nat) {k : Nat} (hlow : k < 0x7C0000) (h94 : k ≠ srcStateKey 94) :
    (d.flPlaced f q).rd k = d.rd k := by
  have entry := (flEntryKey_range q).1
  rw [Dev.flPlaced, Dev.rd_wr_other _ _ (by omega), Dev.rd_wr_other _ _ (by omega), Dev.rd_wr_other _ _ (by omega),
    Dev.rd_flOverrun_other _ _ (by omega) h94]

/-- An event of a source while CORE is ON is the controller's (18 R622). -/
theorem Dev.fire_of_on {d : Dev} {s : Nat} (h : d.on dCORE = true) : d.fire s = d.srcEvent s := if_pos h

/-- An event of a source that does not count makes it pending (18 R623). -/
theorem Dev.srcEvent_of_plain {d : Dev} {s : Nat} (h : (d.rd (srcCfgKey s)).testBit 8 = false) : d.srcEvent s = d.setPending s := by
  simp only [Dev.srcEvent, h, Bool.false_and, Bool.false_eq_true, if_false]

/-- An event of a counting source that is pending or in service is counted (18 R624). -/
theorem Dev.srcEvent_of_counting {d : Dev} {s : Nat} (hcnt : (d.rd (srcCfgKey s)).testBit 8 = true)
    (hbusy : (d.isPending s || d.inService s) = true) :
    d.srcEvent s = d.wr (srcStateKey s) (d.rd (srcStateKey s) % 16 + 16 * min 15 (d.rd (srcStateKey s) / 16 + 1)) := by
  rw [Dev.isPending] at hbusy
  simp only [Dev.srcEvent, hcnt, hbusy, Bool.true_and, if_true]

/-- Settles O55: an entry is placed, counted and told of (`flNew_eq`); that an entry is unread is its definition. -/
theorem newFaultLogEntry : Obligations.NewFaultLogEntry := by
  unfold Obligations.NewFaultLogEntry
  refine ⟨?entry, ?unread⟩
  case entry =>
    intro d f n hn
    have small : n < 65536 := hn ▸ Nat.mod_lt _ (by decide)
    obtain ⟨x, hx⟩ : ∃ x, x = (d.flPlaced f n).inc 0x7C0005 := ⟨_, rfl⟩
    have log {k : Nat} (hk : 0x7C0000 ≤ k) : (d.flNew f).rd k = x.rd k := by
      rw [d.flNew_eq f hn, hx]
      exact Dev.rd_fire_other _ (by unfold srcStateKey; omega)
    have sources {k : Nat} (hk : k < 0x7C0000) (h94 : k ≠ srcStateKey 94) : x.rd k = d.rd k := by
      rw [hx, Dev.rd_inc_other _ (by omega), Dev.rd_flPlaced_other _ _ _ hk h94]
    have kept {β : Type} (g : Dev → β) (hwr : ∀ (d : Dev) (k v : Nat), g (d.wr k v) = g d) : g x = g d := by
      rw [hx, Dev.inc, Dev.add, hwr, Dev.flPlaced_keeps hwr]
    have service : x.inService 93 = d.inService 93 := kept (fun e => e.inService 93) fun _ _ _ => rfl
    have core : x.on dCORE = d.on dCORE := kept (fun e => e.on dCORE) fun d k v => d.wr_on k v dCORE
    have config : x.rd (srcCfgKey 93) = d.rd (srcCfgKey 93) := sources (by decide) (by decide)
    have state : x.rd (srcStateKey 93) = d.rd (srcStateKey 93) := sources (by decide) (by decide)
    have told (hcore : d.on dCORE = true) (k : Nat) : (d.flNew f).rd k = (x.srcEvent 93).rd k := by
      rw [d.flNew_eq f hn, ← hx, Dev.fire_of_on (core.trans hcore)]
      rfl
    refine ⟨?number, ?place, ?low, ?others, ?count, ?pending, ?counted⟩
    case number =>
      rw [log (by decide), hx, Dev.rd_inc_other _ (by decide), Dev.flPlaced, Dev.rd_wr_other _ _ (by decide), Dev.rd_wr_same]
    case place =>
      rw [log (by omega), hx, Dev.rd_inc_other _ (by omega), Dev.flPlaced, Dev.rd_wr_other _ _ (by omega),
        Dev.rd_wr_other _ _ (by omega)]
      exact Dev.rd_wr_same ..
    case low =>
      unfold flEntry
      omega
    case others =>
      intro k hk hne
      have other : 0x7C1001 + k ≠ flEntryKey n := by
        unfold flEntryKey
        omega
      rw [log (by omega), hx, Dev.rd_inc_other _ (by omega), Dev.flPlaced, Dev.rd_wr_other _ _ (by omega),
        Dev.rd_wr_other _ _ (by omega), Dev.rd_wr_other _ _ other, Dev.rd_flOverrun_other _ _ (by omega) (by unfold srcStateKey; omega)]
    case count =>
      have before : (d.flPlaced f n).rd 0x7C0005 = d.rd 0x7C0005 := by
        have entry := (flEntryKey_range n).1
        rw [Dev.flPlaced, Dev.rd_wr_other _ _ (by decide), Dev.rd_wr_other _ _ (by decide), Dev.rd_wr_other _ _ (by omega),
          Dev.rd_flOverrun_other _ _ (by decide) (by decide)]
      have most : maxOf 0x7C0005 = 0xFFFFFFFF := by decide +kernel
      rw [log (by decide), hx, Dev.inc, Dev.add, Dev.rd_wr_same, before, most]
    case pending =>
      intro hcore hplain
      rw [Dev.isPending, told hcore, Dev.srcEvent_of_plain (config ▸ hplain)]
      exact x.isPending_setPending 93
    case counted =>
      intro hcore hcnt hbusy
      have busy : (x.isPending 93 || x.inService 93) = true := by
        rw [service, Dev.isPending, state]
        exact hbusy
      rw [told hcore, Dev.srcEvent_of_counting (config ▸ hcnt) busy, Dev.rd_wr_same, state]
  case unread =>
    intro d n _
    exact Bool.and_eq_true_iff.trans (and_congr decide_eq_true_iff decide_eq_true_iff)

end Sys2Proof.Machine
end

/-! ### Tallies (17 R613, R616); the clock and the channels (17 R595, R604-R610) -/

section
namespace Sys2Proof.Machine

/-- A host's write of an object of 17 that nothing refuses and the governor does not hold. -/
theorem Dev.hostPut_time {d : Dev} {k v : Nat} {tm : Timing} (h : d.hostTakes k v tm = true)
    (hk : k / 0x10000 = 0x70 ∨ k / 0x10000 = 0x74) (hfree : d.timeHeld k = false) :
    d.hostPut k v tm = (d.timeEffect k v).answered [] := by
  refine Dev.hostPut_effect h (by omega) ?_
  have unit : d.writeEffect 0 k v = d.timeWrite 0 k v := by
    obtain hk | hk := hk <;> simp only [Dev.writeEffect, hk]
  simp [unit, Dev.timeWrite, hfree]

/-- The objects of the tallies are never held (17 R610). -/
theorem Dev.timeHeld_tally (d : Dev) {k : Nat} (hk : 0x740000 ≤ k) : d.timeHeld k = false := by
  have other : ¬k / 256 = 0x7023 := by omega
  simp [Dev.timeHeld, other]

/-- A host's write of an object of the tallies that nothing refuses. -/
theorem Dev.hostPut_tally {d : Dev} {k v : Nat} {tm : Timing} (h : d.hostTakes k v tm = true) (hk : k / 0x10000 = 0x74) :
    d.hostPut k v tm = (d.timeEffect k v).answered [] :=
  Dev.hostPut_time h (.inr hk) (d.timeHeld_tally (by omega))

/-- TALLY_TRIGGER makes a boundary in the next CK (17 R613). -/
theorem Dev.timeEffect_trigger (d : Dev) (v : Nat) : d.timeEffect 0x740003 v = d.tallyTrigger := by
  simp [Dev.timeEffect]

/-- TALLY_MODE and TALLY_PERIOD_S set the next boundary (17 R613, R616). -/
theorem Dev.timeEffect_mode (d : Dev) (per : Bool) (v : Nat) :
    d.timeEffect (if per then 0x740002 else 0x740001) v = d.tallyWrite (if per then 0x740002 else 0x740001) v := by
  cases per <;> simp [Dev.timeEffect]

/-- In the periodic mode a boundary that is due comes at once (17 R613). -/
theorem Dev.tallyPeriod_of_due {d : Dev} (hon : d.on dTIME = true) (hmode : d.rd 0x740001 = 1)
    (hdue : d.rd 0x740005 * 1000000000 * clkUnit ≤ d.tm.clock) : d.tallyPeriod = d.boundary true false := by
  simp [Dev.tallyPeriod, hon, hmode, hdue]

/-- In the periodic mode a boundary to come is made in the CK in which the clock reaches it (17 R613, R614). -/
theorem Dev.tallyPeriod_of_later {d : Dev} (hon : d.on dTIME = true) (hmode : d.rd 0x740001 = 1)
    (hlater : d.tm.clock < d.rd 0x740005 * 1000000000 * clkUnit) (hrate : 0 < d.clkRate) :
    d.tallyPeriod = (d.tick ((d.rd 0x740005 * 1000000000 * clkUnit - d.tm.clock + d.clkRate - 1) / d.clkRate - 1)).boundaryCk
      (fun e => e.boundary true false) := by
  have notDue : ¬d.rd 0x740005 * 1000000000 * clkUnit ≤ d.tm.clock := Nat.not_le.2 hlater
  have runs : d.clkRate ≠ 0 := Nat.ne_of_gt hrate
  simp [Dev.tallyPeriod, hon, hmode, notDue, runs]

/-- Settles O48: the periodic boundary comes at once or when the clock reaches it (`tallyPeriod_of_due`, `tallyPeriod_of_later`),
the others are writes of an object of 17 (`hostPut_tally`). -/
theorem tallyCommandsComplete : Obligations.TallyCommandsComplete := by
  unfold Obligations.TallyCommandsComplete
  refine ⟨?period, ?trigger, ?mode⟩
  case period =>
    rintro q d n hon hmode rfl
    rw [exec_tallyBoundary]
    exact ⟨fun hdue => State.run_eq rfl (Dev.tallyPeriod_of_due hon hmode hdue),
      fun hlater hrate => State.run_eq rfl (Dev.tallyPeriod_of_later hon hmode hlater hrate)⟩
  case trigger =>
    rintro q d0 d tm rfl htakes
    rw [exec_tallyTrigger]
    exact State.run_eq rfl ((Dev.hostPut_tally htakes rfl).trans (by rw [Dev.timeEffect_trigger]; rfl))
  case mode =>
    rintro q d0 d per v k tm rfl rfl hv htakes
    rw [exec_tallyModeWrite]
    refine State.run_eq (decide_eq_true hv) ((Dev.hostPut_tally htakes ?_).trans ?_)
    · cases per <;> rfl
    · rw [Dev.timeEffect_mode]
      rfl

/-- Every domain ON, start-up complete, and the governor holding compare channel 3 (12 R414, 17 R610). -/
def governedDevice : Dev := { Dev.initial with
  ck := 2 ^ 40
  aon := { Dev.initial.aon with
    inPor := false, osc := true, pll := true, startup := .none, doms := List.replicate 16 ⟨.on, none, false, false, false⟩ }
  sup := { Dev.initial.sup with everMain := true, mainIn := true }
  link := { Dev.initial.link with ready := true }
  claims := [govClaim] }

/-- The response octets that a step leaves on the host link. -/
def responseOf : Host.Outcome State Fault Refusal → Oct
  | .next s => s.dev.link.response
  | _ => []

/-- Refutes O47: its last clause lets a write of CH_CTRL of channel 3 that orders 1 to 9 let pass take effect. While the governor
holds the channel, order 11 refuses it with 0501h (17 R610), as the model does. -/
theorem not_timeCommandsComplete : ¬ Obligations.TimeCommandsComplete := by
  unfold Obligations.TimeCommandsComplete
  rintro ⟨-, -, -, -, -, -, -, config⟩
  have taken := config [] governedDevice _ _ 3 2 0 true ⟨1000, 0⟩ rfl (by decide) (by decide) rfl (by decide +kernel) rfl
  have refused : responseOf (exec (.chConfigWrite 3 true 0 ⟨1000, 0⟩) ⟨[], governedDevice⟩) = [3, 1, 5] := by decide +kernel
  rw [taken] at refused
  exact absurd refused (by decide +kernel)

end Sys2Proof.Machine
end

/-! ### Writes of the sluice by the host (16 R564, R568, R570, R573, R574, R582) -/

section
namespace Sys2Proof.Machine

/-- A host's write of an object of 16 that nothing refuses. -/
theorem Dev.hostPut_slu {d : Dev} {k v : Nat} {tm : Timing} (h : d.hostTakes k v tm = true) (hk : k / 0x10000 = 0x68) :
    d.hostPut k v tm = (d.sluEffect k v).answered [] :=
  Dev.hostPut_effect h (by omega) (by simp only [Dev.writeEffect, hk])

/-- The objects of the outputs lie in their unit, and none is a command of all of them (16 Table 16.5). -/
theorem sluKey_range {k s : Nat} (hk : k < 4) (hs : s < 256) :
    sluKey k s / 0x10000 = 0x68 ∧ sluKey k s / 256 = 0x6810 + k ∧ sluKey k s % 256 = s ∧ 0x681000 ≤ sluKey k s ∧ sluKey k s < 0x681400 := by
  unfold sluKey
  omega

/-- Another object of an output. -/
theorem Dev.rd_wr_sluOther (d : Dev) (k v : Nat) {s u : Nat} (h : s ≠ u) : (d.wr (sluKey k u) v).rd (sluKey k s) = d.rd (sluKey k s) :=
  Dev.rd_wr_other d v (by unfold sluKey; omega)

/-- A write of SLU_OUT_ENABLE waits for its turn (16 R564, R568). -/
theorem Dev.sluEffect_enable (d : Dev) (v : Nat) {k : Nat} (hk : k < 4) :
    d.sluEffect (sluKey k 1) v = (d.sluTurn (sluKey k 1)).sluEnable k v := by
  obtain ⟨-, record, field, low, -⟩ := sluKey_range hk (s := 1) (by decide)
  have range : sluKey k 1 ≠ 0x680002 ∧ sluKey k 1 ≠ 0x680003 ∧ sluKey k 1 ≠ 0x680004 ∧ sluKey k 1 ≠ 0x680007 := by omega
  have output : 0x6810 ≤ 0x6810 + k ∧ 0x6810 + k < 0x6814 := by omega
  simp only [Dev.sluEffect, range, record, field, output, if_false, decide_true, Bool.and_self, if_true, Nat.add_sub_cancel_left]

/-- SLU_HEARTBEAT, SLU_ARM and SLU_STOP wait for their turn (16 R564). -/
theorem Dev.sluEffect_heartbeat (d : Dev) (v : Nat) : d.sluEffect 0x680002 v = (d.sluTurn 0x680002).sluHeartbeat := by
  simp [Dev.sluEffect]

theorem Dev.sluEffect_arm (d : Dev) (v : Nat) : d.sluEffect 0x680003 v = (d.sluTurn 0x680003).sluArm v := by
  simp [Dev.sluEffect]

theorem Dev.sluEffect_stop (d : Dev) (v : Nat) : d.sluEffect 0x680004 v = (d.sluTurn 0x680004).sluStop v := by
  simp [Dev.sluEffect]

/-- Enabling a DISABLED output takes it to SAFE at its safe level (16 R568). -/
theorem Dev.sluEnable_of_disabled {e : Dev} {k : Nat} (h : e.sluState k = 0) :
    e.sluEnable k 1 = (((e.wr (sluKey k 1) 1).setLevel k (e.rd (sluKey k 5))).sluGo k 4 none).setSluOut k (fun x =>
      { x with safeLv := e.rd (sluKey k 5) }) := by
  have state : (e.wr (sluKey k 1) 1).sluState k = 0 := (e.rd_wr_sluOther k 1 (by decide)).trans h
  have safeLevel : (e.wr (sluKey k 1) 1).rd (sluKey k 5) = e.rd (sluKey k 5) := e.rd_wr_sluOther k 1 (by decide)
  simp [Dev.sluEnable, state, safeLevel]

/-- Disabling a SAFE output makes it DISABLED (16 R568). -/
theorem Dev.sluEnable_of_safe {e : Dev} {k : Nat} (h : e.sluState k = 4) :
    e.sluEnable k 0 = (e.wr (sluKey k 1) 0).sluGo k 0 none := by
  have state : (e.wr (sluKey k 1) 0).sluState k = 4 := (e.rd_wr_sluOther k 0 (by decide)).trans h
  simp [Dev.sluEnable, state]

/-- An event that is the first of its CKX acts where the state admits it (16 R582). -/
theorem Dev.sluEvent_first {d : Dev} {k rank : Nat} {admits : Nat → Bool} {act : Dev → Dev}
    (h : (d.sluOut k).ev.all (fun x => x.ckx != d.sluCkx) = true) :
    d.sluEvent k rank admits act = if admits (d.sluState k) then
      (act d).setSluOut k (fun x => { x with ev := some ⟨d.sluCkx, rank, d.sluState k, d.rd (sluKey k 13), (d.sluOut k).since,
        (d.sluOut k).hbAt, (d.sluOut k).coast⟩ }) else d := by
  have none_before : (d.sluOut k).ev.filter (fun e => e.ckx == d.sluCkx && e.rank != rank) = none := by
    cases hev : (d.sluOut k).ev with
    | none => rfl
    | some x =>
      have other : x.ckx ≠ d.sluCkx := by simpa [hev] using h
      simp [Option.filter, other]
  simp only [Dev.sluEvent, none_before]

/-- An event that comes after another one of its CKX acts in its place where it ranks higher and the state before admits it
(16 R582). -/
theorem Dev.sluEvent_after {d : Dev} {k rank : Nat} {admits : Nat → Bool} {act : Dev → Dev} {x : SluEv}
    (h : (d.sluOut k).ev = some x) (hckx : x.ckx = d.sluCkx) (hrank : x.rank ≠ rank) :
    d.sluEvent k rank admits act = if x.rank < rank || !admits x.state then d
      else (act (d.sluBefore k x)).setSluOut k (fun y => { y with ev := some { x with rank := rank } }) := by
  have found : (d.sluOut k).ev.filter (fun e => e.ckx == d.sluCkx && e.rank != rank) = some x := by
    simp [h, Option.filter, hckx, hrank]
  simp only [Dev.sluEvent, found]

/-- What an event does matters only on a device at the sluice's time of the event. -/
theorem Dev.sluEvent_congr {d : Dev} {k rank : Nat} {admits : Nat → Bool} {act act' : Dev → Dev}
    (h : ∀ e : Dev, e.sluNow = d.sluNow → act e = act' e) : d.sluEvent k rank admits act = d.sluEvent k rank admits act' := by
  unfold Dev.sluEvent
  rw [h d rfl]
  split
  · rw [h (d.sluBefore k _) rfl]
  · rfl

/-- A heartbeat renews the timer of each output in RUN that heeds it (16 R570). -/
theorem Dev.sluHeartbeat_eq (d : Dev) : d.sluHeartbeat = forEach (List.range 4) d (fun k e =>
    e.sluEvent k 6 (fun st => st == 1 && !e.byBridge k) (fun e => e.setSluOut k (fun x => { x with hbAt := e.sluNow }))) := by
  refine congrArg (forEach (List.range 4) d) (funext fun k => funext fun e => ?_)
  exact Dev.sluEvent_congr fun x hx => by rw [hx]

/-- Settles O45: a host's command is a write of an object of 16 (`hostPut_slu`), whose effect is that of `sluEffect_enable` and the
lemmas after it; the rank of an event in its CKX is `sluEvent_first` and `sluEvent_after`. -/
theorem sluiceWritesComplete : Obligations.SluiceWritesComplete := by
  unfold Obligations.SluiceWritesComplete
  refine ⟨?enable, ?disable, ?arm, ?stop, ?heartbeat, ?first, ?after⟩
  case enable =>
    rintro q d0 d e k tm rfl hk htakes rfl hstate
    rw [exec_sluOutEnable]
    refine State.run_eq (decide_and_decide hk (by decide)) ?_
    rw [Dev.hostPut_slu htakes (sluKey_range hk (by decide)).1, Dev.sluEffect_enable _ 1 hk, Dev.sluEnable_of_disabled hstate]
  case disable =>
    rintro q d0 d e k tm rfl hk htakes rfl hstate
    rw [exec_sluOutEnable]
    refine State.run_eq (decide_and_decide hk (by decide)) ?_
    rw [Dev.hostPut_slu htakes (sluKey_range hk (by decide)).1, Dev.sluEffect_enable _ 0 hk, Dev.sluEnable_of_safe hstate]
  case arm =>
    rintro q d0 d v tm rfl hv htakes
    rw [exec_sluArm]
    exact State.run_eq (decide_eq_true hv) (by rw [Dev.hostPut_slu htakes rfl, Dev.sluEffect_arm, Dev.sluArm])
  case stop =>
    rintro q d0 d v tm rfl hv htakes
    rw [exec_sluStop]
    exact State.run_eq (decide_eq_true hv) (by rw [Dev.hostPut_slu htakes rfl, Dev.sluEffect_stop, Dev.sluStop])
  case heartbeat =>
    rintro q d0 d v tm rfl hv htakes
    rw [exec_sluHeartbeat]
    exact State.run_eq (decide_eq_true hv) (by rw [Dev.hostPut_slu htakes rfl, Dev.sluEffect_heartbeat, Dev.sluHeartbeat_eq])
  case first =>
    intro d k rank admits act h
    rw [Dev.sluEvent_first h]
    exact ⟨fun no => by rw [no]; rfl, fun yes => by rw [yes]; rfl⟩
  case after =>
    intro d k rank admits act x h hckx
    refine ⟨fun lower => ?_, fun higher no => ?_, fun higher yes => ?_⟩
    · rw [Dev.sluEvent_after h hckx (by omega), decide_eq_true lower]
      rfl
    · rw [Dev.sluEvent_after h hckx (by omega), no, Bool.not_false, Bool.or_true]
      rfl
    · rw [Dev.sluEvent_after h hckx (by omega), decide_eq_false (by omega), yes]
      rfl

end Sys2Proof.Machine
end

/-! ### What the sluice does by itself (16 R563, R565, R569, R570, R578, R580, R582-R585) -/

section
namespace Sys2Proof.Machine

/-- A loop whose steps over the entries of its list keep a part of the state keeps it. -/
theorem forEach_keeps {α σ β : Type} (g : σ → β) {f : α → σ → σ} {l : List α} (h : ∀ x ∈ l, ∀ s, g (f x s) = g s) (s : σ) :
    g (forEach l s f) = g s := by
  unfold forEach
  induction l generalizing s with
  | nil => rfl
  | cons x t ih => exact (ih (fun y hy => h y (.tail x hy)) (f x s)).trans (h x (.head t) s)

/-- Two changes of an entry, one after the other. -/
theorem updAt_updAt {α : Type} (l : List α) (i : Nat) (f g : α → α) : updAt (updAt l i f) i g = updAt l i (fun x => g (f x)) := by
  induction l generalizing i with
  | nil => rfl
  | cons a t ih =>
    cases i with
    | zero => rfl
    | succ i => exact congrArg (a :: ·) (ih i)

/-! #### What a wake latch leaves (06 R208, R209) -/

/-- A request changes what neither objects nor domains make up. -/
theorem Dev.placeReq_keeps {β : Type} {g : Dev → β} {n : Nat} (hreq : ∀ (d : Dev) (v : Nat), g (d.wr (0x211001 + n) v) = g d)
    (hcount : ∀ d : Dev, g (d.inc 0x213001) = g d) (hdom : ∀ (d : Dev) (f : Dom → Dom), g (d.setDom n f) = g d)
    (d : Dev) (t : DSt) : g (d.placeReq n t) = g d := by
  unfold Dev.placeReq
  dsimp only
  split
  · split
    · exact hreq d _
    · exact ((hcount _).trans (hdom _ _)).trans (hreq d _)
  · split
    · exact hreq d _
    · exact (hdom _ _).trans (hreq d _)

/-- A latch changes what neither its own objects, the requests of the domains nor the always-on part make up. -/
theorem Dev.latch_keeps {β : Type} {g : Dev → β} (hset : ∀ (d : Dev) (v : Nat), g (d.wr 0x214002 v) = g d)
    (hreq : ∀ n < 16, ∀ (d : Dev) (v : Nat), g (d.wr (0x211001 + n) v) = g d) (hcount : ∀ d : Dev, g (d.inc 0x213001) = g d)
    (haon : ∀ (d : Dev) (a : Aon), g { d with aon := a } = g d) (d : Dev) (n : Nat) : g (d.latch n) = g d := by
  unfold Dev.latch
  split
  · dsimp only
    split
    · refine Eq.trans (forEach_keeps g (fun m hm x => ?_) _) (hset d _)
      exact Dev.placeReq_keeps (hreq m (List.mem_range.1 (List.mem_filter.1 hm).1)) hcount (fun x f => haon x _) x .on
    · exact (haon _ _).trans (hset d _)
  · rfl

/-- A latch changes no object above the requests and the latches themselves. -/
theorem Dev.rd_latch_of_gt (d : Dev) (n : Nat) {k : Nat} (h : 0x214002 < k) : (d.latch n).rd k = d.rd k :=
  Dev.latch_keeps (g := fun x => x.rd k) (fun x v => x.rd_wr_other v (by omega)) (fun m hm x v => x.rd_wr_other v (by omega))
    (fun x => x.rd_inc_other (by omega)) (fun _ _ => rfl) d n

/-- A latch leaves the sluice. -/
@[simp] theorem Dev.latch_slu (d : Dev) (n : Nat) : (d.latch n).slu = d.slu :=
  Dev.latch_keeps (g := Dev.slu) (fun x v => x.wr_slu _ v) (fun _ _ x v => x.wr_slu _ v) (fun x => x.wr_slu _ _) (fun _ _ => rfl) d n

@[simp] theorem Dev.fire_slu (d : Dev) (s : Nat) : (d.fire s).slu = d.slu := Dev.fire_keeps Dev.wr_slu d s

/-! #### Time and the sluice -/

@[simp] theorem Dev.tick_slu (d : Dev) (n : Nat) : (d.tick n).slu = d.slu :=
  Dev.tick_keeps (g := Dev.slu) Dev.wr_slu Dev.setMac_slu (fun _ _ => (apply_ite Dev.slu ..).trans (ite_self _)) d n

@[simp] theorem Dev.advanceTo_slu (d : Dev) (t : Nat) : (d.advanceTo t).slu = d.slu := d.tick_slu _

/-- Time changes no state of an output. -/
theorem Dev.sluState_advanceTo (d : Dev) (t : Nat) {k : Nat} (hk : k < 4) : (d.advanceTo t).sluState k = d.sluState k :=
  Dev.rd_tick_of_lt d _ (by unfold sluKey; omega)

/-- The tick of the sluice moves each level (16 R563). -/
theorem Dev.sluTick_of_runs {d : Dev} (h : d.sluRuns = true) :
    d.sluTick = forEach (List.range 4) ((d.advanceTo (d.slu.tickAt + 100000 + d.slu.lost)).setSlu (fun s =>
      { s with tickAt := d.slu.tickAt + 100000 })) (fun k e => (e.setLevel k (e.tickLevel k)).setSluOut k (fun x => { x with
        hbMs := e.rd 0x680001, holdMs := e.rd (sluKey k 7), safeLv := e.rd (sluKey k 5) })) := by
  simp only [Dev.sluTick, h, if_true, Dev.sluTo, ckPerCkx, Nat.reduceMul]

/-- A PWM period takes its length and its on-time as it begins (16 R565, R566). -/
theorem Dev.pwmPeriod_of_next {d e : Dev} {k s p on : Nat} (h : d.sluRuns = true) (hper : (d.sluOut k).per = some (s, p, on))
    (he : e = d.advanceTo (s + p * 4 + d.slu.lost)) :
    d.pwmPeriod k = e.setSluOut k (fun x => { x with
      acc := ((d.sluOut k).acc + e.sluLevel k * e.rd (sluKey k 2)) % 65535,
      per := some (s + p * 4, e.rd (sluKey k 2), ((d.sluOut k).acc + e.sluLevel k * e.rd (sluKey k 2)) / 65535) }) := by
  subst he
  simp only [Dev.pwmPeriod, h, if_true, hper, Dev.sluTo, ckPerCkx]

/-- An expiry acts on an output in the one state it is for, as the first event of its CKX, and the CKX passes (16 R582). -/
theorem Dev.sluTimer_first {d e : Dev} {t k rank st : Nat} {admits : Nat → Bool} {act : Dev → Dev} (hk : k < 4)
    (he : e = d.advanceTo (t + d.slu.lost)) (hstate : d.sluState k = st) (hadmits : admits st = true)
    (hev : (e.sluOut k).ev.all (fun x => x.ckx != e.sluCkx) = true) :
    d.sluTimer t k rank admits act = ((act e).setSluOut k (fun x => { x with ev := some ⟨e.sluCkx, rank, st, e.rd (sluKey k 13),
      (e.sluOut k).since, (e.sluOut k).hbAt, (e.sluOut k).coast⟩ })).tick 4 := by
  have same : e.sluState k = st := by rw [he, Dev.sluState_advanceTo _ _ hk, hstate]
  rw [Dev.sluTimer, Dev.sluTo, ← he, Dev.sluEvent_first hev, same, if_pos hadmits]

/-- Two changes of an output, one after the other. -/
theorem Dev.setSluOut_setSluOut (d : Dev) (k : Nat) (f g : SluOut → SluOut) :
    (d.setSluOut k f).setSluOut k g = d.setSluOut k (fun x => g (f x)) :=
  congrArg (fun outs => { d with slu := { d.slu with outs } }) (updAt_updAt d.slu.outs k f g)

/-- A rising edge that is not too early is counted (16 R583). -/
theorem Dev.tachoEdge_of_late {e : Dev} {t : Nat} (h : e.sluRuns = true)
    (hlate : ∀ p, (e.tacho t).prev = some p → e.rd (tachoKey t 3) * 100 ≤ e.sluNow - p) :
    e.tachoEdge t = (e.wr (tachoKey t 9) ((e.rd (tachoKey t 9) + 1) % 2 ^ 32)).setTacho t (fun x => { x with
      edges := x.edges + 1, first := if x.edges = 0 then e.sluNow else x.first, last := e.sluNow, prev := some e.sluNow }) := by
  cases hprev : (e.tacho t).prev with
  | none => simp only [Dev.tachoEdge, hprev, h, Bool.not_true, Bool.or_self, Bool.false_eq_true, if_false]
  | some p =>
    have notEarly : ¬e.sluNow - p < e.rd (tachoKey t 3) * ckPerUs := Nat.not_lt.2 (hlate p hprev)
    simp only [Dev.tachoEdge, hprev, h, notEarly, decide_false, Bool.not_true, Bool.or_self, Bool.false_eq_true, if_false]

/-- Another object of a tacho. -/
theorem Dev.rd_wr_tachoOther (d : Dev) (t v : Nat) {s u : Nat} (h : s ≠ u) :
    (d.wr (tachoKey t u) v).rd (tachoKey t s) = d.rd (tachoKey t s) :=
  Dev.rd_wr_other d v (by unfold tachoKey; omega)

/-- A window without a stall limit gives its speed, to the bridge too where that is ON (16 R584). -/
theorem Dev.tachoWindow_of_noLimit {d e : Dev} {t : Nat} (h : d.sluRuns = true)
    (he : e = d.advanceTo ((d.tacho t).winAt + (d.tacho t).winMs * 100000 + d.slu.lost)) (hlimit : e.rd (tachoKey t 5) = 0) :
    d.tachoWindow t = ((if e.on dBRG then (e.wr (tachoKey t 8) (e.rpmOf t)).brgEnter (.tacho t (e.rpmOf t))
      else e.wr (tachoKey t 8) (e.rpmOf t)).wr (tachoKey t 10) 0).winStart t ((d.tacho t).winAt + (d.tacho t).winMs * 100000) 0 := by
  have ended : d.sluTo ((d.tacho t).winAt + (d.tacho t).winMs * ckPerMs) = e := he.symm
  have limit : (e.wr (tachoKey t 8) (e.rpmOf t)).rd (tachoKey t 5) = 0 := (e.rd_wr_tachoOther t _ (by decide)).trans hlimit
  cases hon : e.on dBRG <;> simp [Dev.tachoWindow, h, ended, hon, limit, Dev.brgEnter]

/-- The window that makes the run long enough raises the alarm (16 R585). -/
theorem Dev.tachoWindow_of_stall {d e : Dev} {t k : Nat} (hk : k < 4) (h : d.sluRuns = true)
    (he : e = d.advanceTo ((d.tacho t).winAt + (d.tacho t).winMs * 100000 + d.slu.lost)) (hon : e.on dBRG = false)
    (hout : (e.tacho t).out = k) (hhigh : (e.tacho t).high = true) (hslow : e.rpmOf t < e.rd (tachoKey t 5))
    (hrun : e.rd (tachoKey t 7) ≤ (e.tacho t).run + 1) (halarm : (e.tacho t).alarmed = false) :
    d.tachoWindow t = (((e.wr (tachoKey t 8) (e.rpmOf t)).stall t k).setTacho t (fun x => { x with alarmed := true })).winStart t
      ((d.tacho t).winAt + (d.tacho t).winMs * 100000) ((e.tacho t).run + 1) := by
  have ended : d.sluTo ((d.tacho t).winAt + (d.tacho t).winMs * ckPerMs) = e := he.symm
  have limit : (e.wr (tachoKey t 8) (e.rpmOf t)).rd (tachoKey t 5) = e.rd (tachoKey t 5) := e.rd_wr_tachoOther t _ (by decide)
  have needed : (e.wr (tachoKey t 8) (e.rpmOf t)).rd (tachoKey t 7) = e.rd (tachoKey t 7) := e.rd_wr_tachoOther t _ (by decide)
  have same : (e.wr (tachoKey t 8) (e.rpmOf t)).tacho t = e.tacho t := rfl
  have limited : e.rd (tachoKey t 5) ≠ 0 := Nat.ne_of_gt (Nat.zero_lt_of_lt hslow)
  have notFast : ¬e.rd (tachoKey t 5) ≤ e.rpmOf t := Nat.not_le.2 hslow
  have linked : k ≤ 3 := by omega
  simp [Dev.tachoWindow, h, ended, hon, same, limit, needed, hout, hhigh, hslow, hrun, halarm, limited, notFast, linked]

/-- The alarm looks at the settings of the output, which its own signs leave (16 R585). -/
theorem Dev.stall_eq (d : Dev) (t : Nat) {k v : Nat} (ht : t < 4) (hk : k < 4) :
    (d.wr (tachoKey t 8) v).stall t k = (((((d.wr (tachoKey t 8) v).wr (tachoKey t 10) 1).inc (tachoKey t 11)).fire 81).latch 9).sluEvent
      k 2 (fun st => d.sluFlag k 5 && 1 ≤ st && st ≤ 3) (fun e => e.sluGo k 4 (some 8)) := by
  have below : 0x681000 ≤ sluKey k 3 ∧ sluKey k 3 < 0x681400 := (sluKey_range hk (by decide)).2.2.2
  have above (s : Nat) : 0x683000 ≤ tachoKey t s := by
    unfold tachoKey
    omega
  have tacho (s : Nat) : sluKey k 3 ≠ tachoKey t s := by
    have := above s
    omega
  have flags : ((((((d.wr (tachoKey t 8) v).wr (tachoKey t 10) 1).inc (tachoKey t 11)).fire 81).latch 9).rd (sluKey k 3)) = d.rd (sluKey k 3) := by
    rw [Dev.rd_latch_of_gt _ _ (by omega), Dev.rd_fire_of_lt _ _ (by omega), Dev.rd_inc_other _ (tacho 11), Dev.rd_wr_other _ _ (tacho 10),
      Dev.rd_wr_other _ _ (tacho 8)]
  simp only [Dev.stall, Dev.sluFlag, Dev.flag, flags]

/-- Settles O46: one lemma for each event above, an expiry by `sluTimer_first`. -/
theorem sluiceEventsComplete : Obligations.SluiceEventsComplete := by
  unfold Obligations.SluiceEventsComplete
  refine ⟨?tick, ?pwm, ?heartbeat, ?holdCurve, ?holdSafe, ?coastEnd, ?assert, ?release, ?short, ?edge, ?window, ?stall⟩
  case tick =>
    rintro q d e hruns rfl
    rw [exec_sluTick]
    exact State.run_eq rfl (Dev.sluTick_of_runs hruns)
  case pwm =>
    intro q d e k s p on hk hruns hper he
    rw [exec_pwmPeriodStart]
    exact State.run_eq (decide_eq_true hk) (Dev.pwmPeriod_of_next hruns hper he)
  case heartbeat =>
    intro q d e k hk hruns hstate he hev
    rw [exec_sluHbTimeout]
    refine State.run_eq (decide_eq_true hk) ?_
    simp only [Dev.sluHbTimeout, hruns, hstate, decide_true, Bool.and_self, if_true]
    exact Dev.sluTimer_first hk he hstate rfl hev
  case holdCurve =>
    intro q d e k r hk hruns hstate he hcurve hev
    rw [exec_sluHoldElapsed]
    refine State.run_eq (decide_eq_true hk) ?_
    simp only [Dev.sluHoldElapsed, hruns, hstate, decide_true, Bool.and_self, if_true]
    rw [Dev.sluTimer_first hk he hstate rfl hev]
    simp only [Dev.sluCoast, hcurve, Dev.setSluOut_setSluOut]
  case holdSafe =>
    intro q d e k hk hruns hstate he hcurve hev
    rw [exec_sluHoldElapsed]
    refine State.run_eq (decide_eq_true hk) ?_
    simp only [Dev.sluHoldElapsed, hruns, hstate, decide_true, Bool.and_self, if_true]
    rw [Dev.sluTimer_first hk he hstate rfl hev]
    simp only [Dev.sluCoast, hcurve]
  case coastEnd =>
    intro q d e k l0 r hk hcoast hruns hstate he hev
    rw [exec_sluCoastEnd]
    refine State.run_eq (decide_eq_true hk) ?_
    simp only [Dev.sluCoastEnd, hcoast, hruns, hstate]
    exact Dev.sluTimer_first hk he hstate rfl hev
  case assert =>
    intro q d us hruns hsafe hus
    rw [exec_safeNAssert]
    exact State.run_eq rfl (by simp only [Dev.safeAssert, hruns, hsafe, hus, Bool.not_false, decide_true, Bool.and_self, if_true])
  case release =>
    intro q d us hruns hsafe hus
    rw [exec_safeNRelease]
    exact State.run_eq rfl (by simp only [Dev.safeRelease, hruns, hsafe, hus, decide_true, Bool.and_self, if_true])
  case short =>
    intro q d us hus
    have tooShort : ¬d.rd 0x680005 ≤ us := Nat.not_le.2 hus
    rw [exec_safeNAssert, exec_safeNRelease]
    exact ⟨State.run_eq rfl (by simp [Dev.safeAssert, tooShort]), State.run_eq rfl (by simp [Dev.safeRelease, tooShort])⟩
  case edge =>
    rintro q d e t dt ht rfl hruns hlate
    rw [exec_tachoEdge]
    exact State.run_eq (decide_eq_true ht) (Dev.tachoEdge_of_late hruns hlate)
  case window =>
    intro q d e t ht hruns he hlimit
    rw [exec_tachoWindow]
    refine ⟨fun off => ?_, fun on => ?_⟩
    · exact State.run_eq (decide_eq_true ht) (by simp only [Dev.tachoWindow_of_noLimit hruns he hlimit, off, Bool.false_eq_true, if_false])
    · exact State.run_eq (decide_eq_true ht) (by simp only [Dev.tachoWindow_of_noLimit hruns he hlimit, on, if_true])
  case stall =>
    intro q d e t k ht hruns he hon hk hout hhigh hslow hrun halarm
    rw [exec_tachoWindow]
    refine State.run_eq (decide_eq_true ht) ?_
    rw [Dev.tachoWindow_of_stall hk hruns he hon hout hhigh hslow hrun halarm, Dev.stall_eq _ _ ht hk]

end Sys2Proof.Machine
end

/-! ### PORT_RUN and the MDIO master (12 R399-R401, R407-R413, R441) -/

section
namespace Sys2Proof.Machine

/-- A host's write of an object of 12 that nothing refuses has its effect at once. -/
theorem Dev.hostPut_port {d e : Dev} {k v : Nat} {tm : Timing} (h : d.hostTakes k v tm = true)
    (hk : 0x300000 ≤ k ∧ k < 0x340000) (he : d.portEffect 0 k v = .ok e) : d.hostPut k v tm = e.answered [] := by
  refine Dev.hostPut_ok h (by omega) ?_
  have unit : k / 0x10000 = 0x30 ∨ k / 0x10000 = 0x31 ∨ k / 0x10000 = 0x32 ∨ k / 0x10000 = 0x33 := by omega
  rw [d.noteRx_of_unit (by omega) (by omega)]
  obtain hk | hk | hk | hk := unit <;> simp only [Dev.writeEffect, hk, he]

/-- PORT_RUN lies in its port's part of the unit. -/
theorem portRunKey_fields {p : Nat} (hp : p < 4) : portRunKey p % 0x10000 = 1 ∧ portRunKey p / 0x10000 - 0x30 = p
    ∧ 0x300000 ≤ portRunKey p ∧ portRunKey p < 0x340000 := by
  unfold portRunKey
  omega

/-- A write of PORT_RUN that changes it stops or starts the port (12 R400, R401). -/
theorem Dev.portEffect_stop {d : Dev} {p : Nat} (hp : p < 4) (h : d.rd (portRunKey p) = 1) :
    d.portEffect 0 (portRunKey p) 0 = .ok (((d.cutReceive p).wr (portRunKey p) 0).portHalt p 0) := by
  obtain ⟨low, port, -, -⟩ := portRunKey_fields hp
  simp [Dev.portEffect, low, port, hp, h]

theorem Dev.portEffect_start {d : Dev} {p : Nat} (hp : p < 4) (h : d.rd (portRunKey p) = 0) :
    d.portEffect 0 (portRunKey p) 1 = .ok ((d.wr (portRunKey p) 1).portStart p) := by
  obtain ⟨low, port, -, -⟩ := portRunKey_fields hp
  simp [Dev.portEffect, low, port, hp, h]

/-- A write of MDIO_CMD starts its command (12 R413). -/
theorem Dev.portEffect_mdio (d : Dev) (ini v : Nat) : d.portEffect ini 0x301005 v = .ok (d.mdioCmd v) := by
  simp [Dev.portEffect]

/-- PORT_RUN 00h of a running port. -/
theorem Dev.hostPut_portStop {d : Dev} {p : Nat} {tm : Timing} (hp : p < 4) (h : d.hostTakes (portRunKey p) 0 tm = true)
    (hrun : d.rd (portRunKey p) = 1) :
    d.hostPut (portRunKey p) 0 tm = (((d.cutReceive p).wr (portRunKey p) 0).portHalt p 0).answered [] :=
  Dev.hostPut_port h (portRunKey_fields hp).2.2 (Dev.portEffect_stop hp hrun)

/-- PORT_RUN 01h of a stopped port. -/
theorem Dev.hostPut_portStart {d : Dev} {p : Nat} {tm : Timing} (hp : p < 4) (h : d.hostTakes (portRunKey p) 1 tm = true)
    (hrun : d.rd (portRunKey p) = 0) : d.hostPut (portRunKey p) 1 tm = ((d.wr (portRunKey p) 1).portStart p).answered [] :=
  Dev.hostPut_port h (portRunKey_fields hp).2.2 (Dev.portEffect_start hp hrun)

/-! #### The bring-up of a segment port (12 R401, R428, R431, R441) -/

/-- The self estimate formed anew leaves what objects do not make up. -/
theorem Dev.selfUpdate_keeps {β : Type} {g : Dev → β} (hwr : ∀ (d : Dev) (k v : Nat), g (d.wr k v) = g d) (d : Dev) (p : Nat) :
    g (d.selfUpdate p) = g d := by
  unfold Dev.selfUpdate
  dsimp only
  split
  · exact (Dev.fire_keeps hwr _ _).trans ((hwr _ _ _).trans ((hwr _ _ _).trans (hwr _ _ _)))
  · split
    · exact (hwr _ _ _).trans (hwr _ _ _)
    · exact hwr _ _ _

/-- The self estimate formed anew changes no object of the PLCA record. -/
theorem Dev.rd_selfUpdate_plca (d : Dev) {p s : Nat} (hp : p = 2 ∨ p = 3) (hs : s < 256) :
    (d.selfUpdate p).rd (segKey 0x3210 p s) = d.rd (segKey 0x3210 p s) := by
  have other (u : Nat) (hu : u < 256) : segKey 0x3210 p s ≠ segKey 0x3220 p u := by
    unfold segKey
    omega
  have below : segKey 0x3210 p s < 0x740000 := by
    unfold segKey
    omega
  unfold Dev.selfUpdate
  dsimp only
  split
  · rw [Dev.rd_fire_of_lt _ _ below, Dev.rd_inc_other _ (other 8 (by decide)), Dev.rd_wr_other _ _ (other 4 (by decide)),
      Dev.rd_wr_other _ _ (other 6 (by decide))]
  · split
    · rw [Dev.rd_wr_other _ _ (other 4 (by decide)), Dev.rd_wr_other _ _ (other 6 (by decide))]
    · exact Dev.rd_wr_other _ _ (other 6 (by decide))

/-- The drift estimates become unknown, and no object of the PLCA record changes. -/
theorem Dev.rd_driftReset_plca (d : Dev) {p s : Nat} (hp : p = 2 ∨ p = 3) (hs : s < 256) :
    (d.driftReset p).rd (segKey 0x3210 p s) = d.rd (segKey 0x3210 p s) := by
  have drifts (j : Nat) (hj : j ∈ List.range 32) (x : Dev) :
      (x.wr (segKey 0x3240 p (1 + j)) 0x8000).rd (segKey 0x3210 p s) = x.rd (segKey 0x3210 p s) := by
    have node := List.mem_range.1 hj
    exact Dev.rd_wr_other x _ (by unfold segKey; omega)
  rw [Dev.driftReset, Dev.rd_selfUpdate_plca _ hp hs, Dev.setSeg_rd]
  exact forEach_keeps (fun x : Dev => x.rd (segKey 0x3210 p s)) drifts d

/-- The drift estimates become unknown, and of the port's own state nothing else changes. -/
theorem Dev.driftReset_segs (d : Dev) (p : Nat) :
    (d.driftReset p).segs = updAt d.segs (p - 2) (fun s => { s with measured := List.replicate 32 none }) := by
  have drifts (j : Nat) (_ : j ∈ List.range 32) (x : Dev) : (x.wr (segKey 0x3240 p (1 + j)) 0x8000).segs = x.segs := x.wr_segs _ _
  rw [Dev.driftReset, Dev.selfUpdate_keeps (g := Dev.segs) Dev.wr_segs, Dev.setSeg_segs, forEach_keeps Dev.segs drifts d]

/-- The drift estimates become unknown, and a coordinator stopped by a foreign beacon stays so. -/
theorem Dev.coordOff_driftReset (d : Dev) (p : Nat) : ((d.driftReset p).seg p).coordOff = (d.seg p).coordOff := by
  rw [Dev.seg, Dev.driftReset_segs]
  exact getD_updAt_kept (g := Seg.coordOff) (f := fun s => { s with measured := List.replicate 32 none }) (fun _ => rfl) d.segs (p - 2) _

/-- A segment port that starts anew keeps the count of its yields and an ID conflict. -/
def Seg.restarted (s : Seg) : Seg := { Seg.idle with yieldRun := s.yieldRun, conflictAt := s.conflictAt }

/-- What every value of a change has, and the default too, an entry has after it. -/
theorem getD_updAt_of_all {α : Type} {P : α → Prop} {f : α → α} (hf : ∀ y, P (f y)) {x : α} (hx : P x) (l : List α) (i : Nat) :
    P ((updAt l i f).getD i x) := by
  induction l generalizing i with
  | nil => exact hx
  | cons a t ih =>
    cases i with
    | zero => exact hf a
    | succ i => exact ih i

/-- A segment port that is started forgets what it knew of the segment, but for its yields and an ID conflict; with PLCA it
waits for a beacon. -/
theorem Dev.portStart_segment (d : Dev) {p : Nat} (hp : p = 2 ∨ p = 3) :
    d.portStart p = (((((d.setSeg p Seg.restarted).plcaBit p 2 false).driftReset p).plcaBit p 0 false).plcaBit p 1 false).setLink p
      (if d.rd (segKey 0x3210 p 1) = 1 then 2 else 3) := by
  have started : ((d.setSeg p (fun s => { s with coordOff := false })).plcaBit p 2 false).setSeg p (fun s => { Seg.idle with
      yieldRun := s.yieldRun, coordOff := s.coordOff, conflictAt := s.conflictAt })
      = (d.setSeg p Seg.restarted).plcaBit p 2 false :=
    congrArg (fun segs => { (d.setSeg p id).plcaBit p 2 false with segs }) (updAt_updAt d.segs (p - 2) _ _)
  obtain ⟨x, hx⟩ : ∃ x, x = ((((d.setSeg p Seg.restarted).plcaBit p 2 false).driftReset p).plcaBit p 0 false).plcaBit p 1 false := ⟨_, rfl⟩
  have mode : x.rd (segKey 0x3210 p 1) = d.rd (segKey 0x3210 p 1) := by
    have status : segKey 0x3210 p 1 ≠ segKey 0x3210 p 7 := by
      unfold segKey
      omega
    rw [hx, Dev.plcaBit, Dev.rd_wr_other _ _ status, Dev.plcaBit, Dev.rd_wr_other _ _ status, Dev.rd_driftReset_plca _ hp (by decide),
      Dev.plcaBit, Dev.rd_wr_other _ _ status]
    rfl
  have mayBeacon : (x.seg p).coordOff = false := by
    have restarted : ((updAt d.segs (p - 2) Seg.restarted).getD (p - 2) Seg.idle).coordOff = false :=
      getD_updAt_of_all (P := fun s => s.coordOff = false) (fun _ => rfl) rfl d.segs (p - 2)
    rw [hx, Dev.seg, Dev.plcaBit, Dev.wr_segs, Dev.plcaBit, Dev.wr_segs]
    exact (Dev.coordOff_driftReset _ p).trans restarted
  have broughtUp : d.portStart p = x.setLink p (if x.rd (segKey 0x3210 p 1) = 1 then (if (x.seg p).coordOff then 5 else 2) else 3) := by
    rw [hx, ← started]
    obtain rfl | rfl := hp <;> rfl
  rw [broughtUp, mode, mayBeacon, ← hx]
  rfl

/-! #### The frames of the MDIO master (12 R407-R413) -/

/-- The fields of MDIO_CMD as the host writes it (12 Table 12.3). -/
theorem mdioWord_fields {op phy dev c45 data : Nat} (hop : op < 256) (hphy : phy < 32) (hdev : dev < 32) (hc45 : c45 < 2 ^ 16)
    (hdata : data < 2 ^ 16) : mdioWord op phy dev c45 data % 256 = op ∧ bits (mdioWord op phy dev c45 data) 12 8 = phy
      ∧ bits (mdioWord op phy dev c45 data) 20 16 = dev ∧ bits (mdioWord op phy dev c45 data) 47 32 = c45
      ∧ bits (mdioWord op phy dev c45 data) 63 48 = data := by
  simp only [bits, mdioWord, Nat.shiftRight_eq_div_pow]
  omega

/-- A clause 22 read is one frame. -/
theorem mdioFrames_c22Read {phy reg : Nat} (hphy : phy < 32) (hreg : reg < 32) :
    mdioFrames (mdioWord 1 phy reg 0 0) = [⟨.host true, false, phy, reg, 0⟩] := by
  obtain ⟨op, port, field, -, -⟩ := mdioWord_fields (op := 1) (c45 := 0) (data := 0) (by decide) hphy hreg (by decide) (by decide)
  simp only [mdioFrames, op, port, field]

/-- A clause 22 write is one frame. -/
theorem mdioFrames_c22Write {phy reg data : Nat} (hphy : phy < 32) (hreg : reg < 32) (hdata : data < 2 ^ 16) :
    mdioFrames (mdioWord 2 phy reg 0 data) = [⟨.host true, true, phy, reg, data⟩] := by
  obtain ⟨op, port, field, -, word⟩ := mdioWord_fields (op := 2) (c45 := 0) (by decide) hphy hreg (by decide) hdata
  simp only [mdioFrames, op, port, field, word]

/-- A clause 45 read is four frames through registers 13 and 14. -/
theorem mdioFrames_c45Read {phy dev reg : Nat} (hphy : phy < 32) (hdev : dev < 32) (hreg : reg < 2 ^ 16) :
    mdioFrames (mdioWord 3 phy dev reg 0) = [⟨.host false, true, phy, 13, dev⟩, ⟨.host false, true, phy, 14, reg⟩,
      ⟨.host false, true, phy, 13, 0x4000 + dev⟩, ⟨.host true, false, phy, 14, 0⟩] := by
  obtain ⟨op, port, field, address, -⟩ := mdioWord_fields (op := 3) (data := 0) (by decide) hphy hdev hreg (by decide)
  simp only [mdioFrames, op, port, field, address]
  rfl

/-- A clause 45 write is four frames through registers 13 and 14. -/
theorem mdioFrames_c45Write {phy dev reg data : Nat} (hphy : phy < 32) (hdev : dev < 32) (hreg : reg < 2 ^ 16) (hdata : data < 2 ^ 16) :
    mdioFrames (mdioWord 4 phy dev reg data) = [⟨.host false, true, phy, 13, dev⟩, ⟨.host false, true, phy, 14, reg⟩,
      ⟨.host false, true, phy, 13, 0x4000 + dev⟩, ⟨.host true, true, phy, 14, data⟩] := by
  obtain ⟨op, port, field, address, word⟩ := mdioWord_fields (op := 4) (by decide) hphy hdev hreg hdata
  simp only [mdioFrames, op, port, field, address, word]
  rfl

/-- A write of MDIO_CMD shows busy and queues the frames of its command (12 R413). -/
theorem Dev.hostPut_mdio {d : Dev} {v : Nat} {tm : Timing} {l : List MdioFrame} (h : d.hostTakes 0x301005 v tm = true)
    (hl : mdioFrames v = l) :
    d.hostPut 0x301005 v tm = (((d.wr 0x301006 1).setMdio (fun m => { m with hostq := l })).mdioKick).answered [] := by
  subst hl
  exact Dev.hostPut_port h (by decide) (d.portEffect_mdio 0 v)

/-- The last frame of a host's read gives its data (12 R412, R413). -/
theorem Dev.mdioDone_of_lastRead {d e : Dev} {data : Nat} {f : MdioFrame} (hcur : d.mdio.cur = some f) (hkind : f.kind = .host true)
    (hread : f.write = false) (he : e = d.advanceTo (d.mdio.curAt + 64 * d.rd 0x301002)) :
    d.mdioDone data = ((e.setMdio (fun m => { m with cur := none })).wr 0x301006 (2 + 65536 * data)).mdioKick := by
  subst he
  simp [Dev.mdioDone, hcur, hkind, hread]

/-- The poll timer asks for BMSR (12 R409). -/
theorem Dev.mdioPoll_of_runs {d e : Dev} (hon : d.on dMACT = true) (hrun : d.rd (portRunKey 0) = 1)
    (he : e = d.advanceTo (d.mdio.lastPoll + d.rd 0x301003 * 100000)) :
    d.mdioPoll = (e.setMdio (fun m => { m with
      lastPoll := e.ck, pollq := if m.pollq.isEmpty then [⟨.poll, false, e.rd 0x301001, 1, 0⟩] else m.pollq })).mdioKick := by
  subst he
  simp only [Dev.mdioPoll, hon, hrun, decide_true, Bool.and_self, if_true, Dev.afterMs]

/-- Settles O34: a host's command is a write of an object of 12 (`hostPut_portStop`, `hostPut_portStart`, `hostPut_mdio`), the rest
is `mdioDone_of_lastRead` and `mdioPoll_of_runs`. -/
theorem portRunAndMdioCommandsComplete : Obligations.PortRunAndMdioCommandsComplete := by
  unfold Obligations.PortRunAndMdioCommandsComplete
  refine ⟨?stop, ?trunk, ?longReach, ?plca, ?noPlca, ?lastRead, ?poll, ?c22Read, ?c22Write, ?c45Read, ?c45Write⟩
  case stop =>
    rintro q d0 d p tm rfl hp htakes hrun
    rw [exec_portStop]
    exact State.run_eq (decide_eq_true hp) (Dev.hostPut_portStop hp htakes hrun)
  case trunk =>
    rintro q d0 d tm rfl htakes hrun
    rw [exec_portStart]
    exact State.run_eq rfl (Dev.hostPut_portStart (by decide) htakes hrun)
  case longReach =>
    rintro q d0 d tm rfl htakes hrun
    rw [exec_portStart]
    exact State.run_eq rfl (Dev.hostPut_portStart (by decide) htakes hrun)
  case plca =>
    rintro q d0 d p tm rfl hlo hp htakes hrun hmode
    have mode : (d0.hostStart.wr (portRunKey p) 1).rd (segKey 0x3210 p 1) = 1 :=
      (Dev.rd_wr_other _ _ (by unfold segKey portRunKey; omega)).trans hmode
    rw [exec_portStart]
    refine State.run_eq (decide_eq_true hp) ?_
    rw [Dev.hostPut_portStart hp htakes hrun, Dev.portStart_segment _ (by omega), mode]
    rfl
  case noPlca =>
    rintro q d0 d p tm rfl hlo hp htakes hrun hmode
    have mode : (d0.hostStart.wr (portRunKey p) 1).rd (segKey 0x3210 p 1) = 0 :=
      (Dev.rd_wr_other _ _ (by unfold segKey portRunKey; omega)).trans hmode
    rw [exec_portStart]
    refine State.run_eq (decide_eq_true hp) ?_
    rw [Dev.hostPut_portStart hp htakes hrun, Dev.portStart_segment _ (by omega), mode]
    rfl
  case lastRead =>
    intro q d e data f hdata hcur hkind hread he
    rw [exec_mdioFrameDone]
    exact State.run_eq (decide_eq_true hdata) (Dev.mdioDone_of_lastRead hcur hkind hread he)
  case poll =>
    intro q d e hon hrun he
    rw [exec_mdioPoll]
    exact State.run_eq rfl (Dev.mdioPoll_of_runs hon hrun he)
  case c22Read =>
    rintro q d0 d phy reg tm rfl hphy hreg htakes
    rw [exec_mdioC22Read]
    exact State.run_eq (decide_and_decide hphy hreg) (Dev.hostPut_mdio htakes (mdioFrames_c22Read hphy hreg))
  case c22Write =>
    rintro q d0 d phy reg data tm rfl hphy hreg hdata htakes
    rw [exec_mdioC22Write]
    exact State.run_eq (Bool.and_eq_true_iff.2 ⟨decide_and_decide hphy hreg, decide_eq_true hdata⟩)
      (Dev.hostPut_mdio htakes (mdioFrames_c22Write hphy hreg hdata))
  case c45Read =>
    rintro q d0 d phy dev reg tm rfl hphy hdev hreg htakes
    rw [exec_mdioC45Read]
    exact State.run_eq (Bool.and_eq_true_iff.2 ⟨decide_and_decide hphy hdev, decide_eq_true hreg⟩)
      (Dev.hostPut_mdio htakes (mdioFrames_c45Read hphy hdev hreg))
  case c45Write =>
    rintro q d0 d phy dev reg data tm rfl hphy hdev hreg hdata htakes
    rw [exec_mdioC45Write]
    exact State.run_eq (Bool.and_eq_true_iff.2 ⟨Bool.and_eq_true_iff.2 ⟨decide_and_decide hphy hdev, decide_eq_true hreg⟩,
      decide_eq_true hdata⟩) (Dev.hostPut_mdio htakes (mdioFrames_c45Write hphy hdev hreg hdata))

end Sys2Proof.Machine
end

/-! ### The speed governor and the long-reach port (12 R414-R418, R423, R425, R444) -/

section
namespace Sys2Proof.Machine

/-- Taking claims leaves what claims do not make up. -/
theorem Dev.takeClaims_keeps {β : Type} {g : Dev → β} (hclaim : ∀ (d : Dev) (c : Claim), g (d.takeClaim c) = g d) (d : Dev)
    (want : List Claim) : g (d.takeClaims want) = g d := by
  refine forEach_unchanged g (fun w x => ?_) want d
  split
  · exact hclaim x w
  · rfl

/-- GOV_ENABLE 01h takes compare channel 3 and begins the windows anew (12 R414). -/
theorem Dev.portEffect_govTakes {d : Dev} (htime : d.domEff dTIME ≠ .off) (hfree : d.claimBlock [govClaim] = none)
    (hoff : d.rd 0x302001 = 0) :
    d.portEffect 0 0x302001 1 = .ok (((d.takeClaims [govClaim]).setGov (fun g =>
      { g with downRun := 0, upRun := 0, winStart := d.tm.clock, txOct := 0, rxOct := 0 })).wr 0x302001 1) := by
  have stillOff : (d.takeClaims [govClaim]).rd 0x302001 = 0 :=
    (Dev.takeClaims_keeps (g := fun x => x.rd 0x302001) (fun _ _ => rfl) d _).trans hoff
  have clock : (d.takeClaims [govClaim]).tm = d.tm := Dev.takeClaims_keeps (fun _ _ => rfl) d _
  have restarted : (d.takeClaims [govClaim]).govRestart = (d.takeClaims [govClaim]).setGov (fun g =>
      { g with downRun := 0, upRun := 0, winStart := d.tm.clock, txOct := 0, rxOct := 0 }) := by
    rw [← clock]
    rfl
  simp [Dev.portEffect, htime, hfree, stillOff, restarted]

/-- GOV_ENABLE 01h again lets a halted governor go on; without TIME there is no channel to take (12 R414, R444). -/
theorem Dev.portEffect_govGoesOn {d : Dev} (htime : d.domEff dTIME = .off) (hon : d.rd 0x302001 = 1) :
    d.portEffect 0 0x302001 1 = .ok (d.setGov (fun g => { g with halted := false })) := by
  simp [Dev.portEffect, htime, hon]

/-- GOV_ENABLE 00h gives compare channel 3 back (12 R414). -/
theorem Dev.portEffect_govGives (d : Dev) :
    d.portEffect 0 0x302001 0 = .ok ((d.wr 0x302001 0).dropClaims (fun c => c.kind == 2 && c.holder == 5)) := by
  simp [Dev.portEffect]

/-- A host's write of GOV_ENABLE. -/
theorem Dev.hostPut_gov {d e : Dev} {v : Nat} {tm : Timing} (h : d.hostTakes 0x302001 v tm = true)
    (he : d.portEffect 0 0x302001 v = .ok e) : d.hostPut 0x302001 v tm = e.answered [] :=
  Dev.hostPut_port h (by decide) he

/-- What a window that has ended leaves: its use, and the counts of the dwells (12 R415, R416, R420). -/
def Dev.govMeasured (e : Dev) (span u dn up : Nat) (run : Bool) : Dev :=
  (e.wr 0x302008 (min u 65535)).setGov (fun v => { v with
    txOct := 0, rxOct := 0, winStart := e.gov.winStart + (e.tm.clock - e.gov.winStart) / span * span,
    downRun := if run then 0 else dn, upRun := if run then 0 else up })

/-- A governor window ends at the clock that channel 3 compares with (12 R415, R416). -/
theorem Dev.govWindow_of_runs {d e : Dev} {u dn up span : Nat} {hi run : Bool} (hon : d.allOn [dMACT, dTIME] = true)
    (hgov : d.rd 0x302001 = 1) (hheld : d.govHolds = true) (hlink : d.linkState 0 = 3) (hjob : d.rateJob = none)
    (hspan : span = d.rd 0x302006 * 1000000 * 4194304) (he : e = d.clockReach (d.gov.winStart + span))
    (hu : u = max e.gov.txOct e.gov.rxOct * 8 / (100 * e.rd 0x302006)) (hhi : hi = decide (e.rd 0x300003 = 100))
    (hrun : run = e.gov.step.isSome) (hdn : dn = if hi && u < e.rd 0x302002 then e.gov.downRun + 1 else 0)
    (hup : up = if !hi && e.rd 0x302003 < u then e.gov.upRun + 1 else 0) :
    d.govWindow = (let x := e.govMeasured span u dn up run
      if x.gov.halted || run then x
      else if hi && x.dwellWindows 0x302004 ≤ dn then x.govStep 10 none
      else if !hi && x.dwellWindows 0x302005 ≤ up then x.govStep 100 none else x) := by
  have both : d.on dMACT = true ∧ d.on dTIME = true := by simpa [Dev.allOn] using hon
  have length : d.rd 0x302006 * 1000000 * clkUnit = span := hspan.symm
  have ended : d.clockReach (d.gov.winStart + span) = e := he.symm
  have steps : (e.wr 0x302008 (min u 65535)).gov.step.isSome = run := hrun.symm
  simp only [Dev.govWindow, both.1, both.2, hon, hgov, hheld, hlink, hjob, Bool.not_true, Bool.and_false, Bool.false_and,
    Bool.false_eq_true, if_false, Option.isNone_none, decide_true, Bool.and_self, if_true, length, ended, ← hu, ← hhi]
  simp only [steps, ← hdn, ← hup]
  rfl

/-- Without TIME a window is a fault of the engine (01 R17). -/
theorem Dev.govWindow_of_noTime {d : Dev} (hmac : d.on dMACT = true) (htime : d.on dTIME = false) (hgov : d.rd 0x302001 = 1) :
    d.govWindow = d.engineOff dMACT [dTIME] := by
  simp [Dev.govWindow, hmac, htime, hgov]

/-- A drained step writes the new advertisement and restarts auto-negotiation (12 R417). -/
theorem Dev.govDrained_of_step {d : Dev} {g : GovStep} (hstep : d.gov.step = some g) (hdrained : g.drained = false) (hbmcr : g.bmcrAt = none)
    (hidle : (d.mac 0).cur = .idle) (hmac : d.on dMACT = true) (hrun : d.rd (portRunKey 0) ≠ 0) :
    d.govDrained = (let e := d.setGov (fun v => { v with step := some { g with drained := true } })
      let e := match g.job with
        | some s => e.jobProgress s 1
        | none => e
      e.renegotiate (if g.target = 10 then 0x41 else e.anarFull) true) := by
  cases hjob : g.job <;> simp [Dev.govDrained, hstep, hdrained, hbmcr, hidle, hmac, hrun, hjob]

/-- A hold limit that passes halts the governor (12 R444). -/
theorem Dev.govHoldLimit_of_step {d e : Dev} {g : GovStep} {t : Nat} (hstep : d.gov.step = some g) (hbmcr : g.bmcrAt = some t)
    (he : e = d.advanceTo (t + d.rd 0x302007 * 100000)) :
    d.govHoldLimit = (let x := ((e.setGov (fun v => { v with step := none, halted := true, downRun := 0, upRun := 0 })).inc 0x30200A).fire 61
      let x := if x.rd (portRunKey 0) = 1 then x.renegotiate x.anarFull false else x
      match g.job with
      | some s => x.jobFail s 0x0203
      | none => x) := by
  have ended : d.afterMs t (d.rd 0x302007) = e := he.symm
  cases hjob : g.job <;> simp only [Dev.govHoldLimit, hstep, hbmcr, ended, hjob]

/-- A 10BASE-T1L link that comes up gives what auto-negotiation or T1L_FORCE says (12 R422, R423). -/
theorem Dev.t1lLink_up {d : Dev} {able req draw an hi ms : Bool} {far : Nat} (hon : d.on dMACL = true) (hrun : d.rd (portRunKey 1) ≠ 0)
    (hfree : d.linkState 1 ≠ 6) (han : an = decide (d.rd 0x311002 = 1))
    (hhi : hi = if an then d.flag 0x311001 0 && able && (d.flag 0x311001 1 || req) else d.flag 0x311003 0)
    (hms : ms = if an then t1lRole (d.rd 0x311004) far draw else d.flag 0x311003 1) :
    d.t1lLink true able req far draw = (let e := if d.linkState 1 = 3 then d else d.setMac 1 (fun m => { m with sqiAt := d.ck })
      (e.wr 0x311005 (b2n hi + 2 * b2n ms + 4 * b2n an)).setLink 1 3) := by
  subst han hhi hms
  by_cases hauto : d.rd 0x311002 = 1 <;> simp [Dev.t1lLink, hon, hrun, hfree, hauto, Dev.flag]

/-- A link that is lost reads DOWN (12 R423). -/
theorem Dev.t1lLink_down {d : Dev} {able req draw : Bool} {far : Nat} (hon : d.on dMACL = true) (hrun : d.rd (portRunKey 1) ≠ 0)
    (hup : d.linkState 1 = 3) : d.t1lLink false able req far draw = d.setLink 1 1 := by
  simp [Dev.t1lLink, hon, hrun, hup]

/-- T1L_SQI and T1L_MSE follow every ms while the link is up (12 R425). -/
theorem Dev.t1lSqi_of_up {d e : Dev} {sqi mse : Nat} (hon : d.on dMACL = true) (hup : d.linkState 1 = 3)
    (he : e = d.advanceTo ((d.mac 1).sqiAt + 100000)) :
    d.t1lSqi sqi mse = ((e.setMac 1 (fun m => { m with sqiAt := e.ck })).wr 0x311006 sqi).wr 0x311007 mse := by
  subst he
  simp only [Dev.t1lSqi, hon, hup, decide_true, Bool.and_self, if_true, Dev.afterMs, ckPerMs, Nat.one_mul]

/-- Settles O35: a write of GOV_ENABLE has one of the three effects above (`hostPut_gov`), each event of the governor and of the
long-reach port its lemma. -/
theorem governorAndT1lCommandsComplete : Obligations.GovernorAndT1lCommandsComplete := by
  unfold Obligations.GovernorAndT1lCommandsComplete
  refine ⟨?takes, ?goesOn, ?gives, ?window, ?noTime, ?drained, ?holdLimit, ?up, ?down, ?sqi⟩
  case takes =>
    rintro q d0 d tm rfl htakes htime hfree hoff
    rw [exec_govEnable]
    exact State.run_eq rfl (Dev.hostPut_gov htakes (Dev.portEffect_govTakes htime hfree hoff))
  case goesOn =>
    rintro q d0 d tm rfl htakes htime hon
    rw [exec_govEnable]
    exact State.run_eq rfl (Dev.hostPut_gov htakes (Dev.portEffect_govGoesOn htime hon))
  case gives =>
    rintro q d0 d tm rfl htakes
    rw [exec_govEnable]
    exact State.run_eq rfl (Dev.hostPut_gov htakes (Dev.portEffect_govGives _))
  case window =>
    intro q d e u dn up span hi run hon hgov hheld hlink hjob hspan he hu hhi hrun hdn hup
    rw [exec_govWindow]
    exact State.run_eq rfl (Dev.govWindow_of_runs hon hgov hheld hlink hjob hspan he hu hhi hrun hdn hup)
  case noTime =>
    intro q d hmac htime hgov
    rw [exec_govWindow]
    exact State.run_eq rfl (Dev.govWindow_of_noTime hmac htime hgov)
  case drained =>
    intro q d g hstep hdrained hbmcr hidle hmac hrun
    rw [exec_govStepDrained]
    exact State.run_eq rfl (Dev.govDrained_of_step hstep hdrained hbmcr hidle hmac hrun)
  case holdLimit =>
    intro q d e g t hstep hbmcr he
    rw [exec_govHoldLimitExpiry]
    exact State.run_eq rfl (Dev.govHoldLimit_of_step hstep hbmcr he)
  case up =>
    intro q d able req draw an hi ms far hfar hon hrun hfree han hhi hms
    rw [exec_t1lLinkChange]
    exact State.run_eq (decide_eq_true hfar) (Dev.t1lLink_up hon hrun hfree han hhi hms)
  case down =>
    intro q d able req draw far hfar hon hrun hup
    rw [exec_t1lLinkChange]
    exact State.run_eq (decide_eq_true hfar) (Dev.t1lLink_down hon hrun hup)
  case sqi =>
    intro q d e sqi mse hsqi hmse hon hup he
    rw [exec_t1lSqiUpdate]
    exact State.run_eq (decide_and_decide hsqi hmse) (Dev.t1lSqi_of_up hon hup he)

end Sys2Proof.Machine
end

/-! ### The segment ports (12 R427-R436, R441-R443) -/

section
namespace Sys2Proof.Machine

/-- Two changes of a segment port, one after the other. -/
theorem Dev.setSeg_setSeg (d : Dev) (p : Nat) (f g : Seg → Seg) : (d.setSeg p f).setSeg p g = d.setSeg p (fun s => g (f s)) :=
  congrArg (fun segs => { d with segs }) (updAt_updAt d.segs (p - 2) f g)

/-- A condition on a command's port that holds. -/
theorem segmentPort {p : Nat} (hp : p = 2 ∨ p = 3) : (p == 2 || p == 3) = true := by
  simpa using hp

/-- A segment port's link comes up (12 R402, R403). -/
theorem Dev.setLink_up (d : Dev) {p : Nat} (hp : p = 2 ∨ p = 3) :
    d.setLink p 3 = if d.linkState p = 3 then d
      else (((d.wr (0x300002 + 0x10000 * p) 3).inc (0x300004 + 0x10000 * p)).fire (56 + p)).wr (0x300003 + 0x10000 * p) 10 := by
  have state : ((((d.wr (0x300002 + 0x10000 * p) 3).inc (0x300004 + 0x10000 * p)).fire (56 + p)).wr (0x300003 + 0x10000 * p)
      10).linkState p = 3 := by
    rw [Dev.linkState, Dev.rd_wr_other _ _ (by omega), Dev.rd_fire_of_lt _ _ (by omega), Dev.rd_inc_other _ (by omega), Dev.rd_wr_same]
  have trunk : (p = 0) = False := eq_false (by omega)
  unfold Dev.setLink
  split
  · rfl
  · simp only [trunk, if_false, decide_true, Bool.true_or, if_true, Dev.linkUp, state, BEq.rfl, Bool.not_true, Bool.and_false,
      Bool.false_eq_true]

/-- A segment port's link comes up in no time. -/
theorem Dev.setLink_up_ck (d : Dev) {p : Nat} (hp : p = 2 ∨ p = 3) : (d.setLink p 3).ck = d.ck := by
  rw [Dev.setLink_up d hp]
  split
  · rfl
  · rw [Dev.wr_ck, Dev.fire_keeps Dev.wr_ck, Dev.inc_ck, Dev.wr_ck]

/-! #### Beacons (12 R428, R433, R434, R436, R441) -/

/-- The first beacon of a coordinator goes out at once, another one when the hold of the last node's successor ends, one that was
yielded behind the carrier. -/
theorem Dev.beaconSend_of_runs {d b e : Dev} {p : Nat} (hp : p = 2 ∨ p = 3) (hon : d.plcaOn p = true) (hid : d.plcaId p = 0)
    (hruns : (d.seg p).coordOff = false)
    (hb : b = if (d.seg p).yielded then d.setSeg p (fun s => { s with yielded := false })
      else (if (d.seg p).count.isSome then d.holdEnd p (d.oppStart p (d.rd (segKey 0x3210 p 3))) else d).yieldClear p)
    (he : e = ((b.plcaBit p 0 true).plcaBit p 1 true).setLink p 3) : d.beaconSend p = e.oppBegin p e.ck := by
  have moment : e.ck = b.ck := by
    rw [he, Dev.setLink_up_ck _ hp]
    rfl
  rw [moment, he, hb]
  simp only [Dev.beaconSend, hon, hid, hruns, decide_true, Bool.not_false, Bool.and_self, if_true]

/-- The opportunity the count places for a node, in bit times of ten CK (12 R428). -/
theorem Dev.oppStart_of_count {d : Dev} {p j c : Nat} (h : (d.seg p).count = some c) :
    d.oppStart p j = (d.seg p).countAt + (j - c) * (10 * d.rd (segKey 0x3210 p 4)) := by
  have interval : (d.sgT p).toNat = 10 * d.rd (segKey 0x3210 p 4) := by
    unfold Dev.sgT
    omega
  simp only [Dev.oppStart, h, Option.getD_some, interval]

/-- A beacon that a follower receives starts the count anew (12 R428). -/
theorem Dev.beaconRecv_of_follower {d : Dev} {p : Nat} (hon : d.plcaOn p = true) (hid : d.plcaId p ≠ 0) :
    d.beaconRecv p = ((d.setSeg p (fun s => { s with
      beaconAt := some d.ck, hadBeacon := true, opp := none, held := none, count := some 0, countAt := d.ck })).plcaBit p 0
        true).setLink p 3 := by
  simp only [Dev.beaconRecv, hon, hid, Bool.not_true, Bool.false_eq_true, if_false, Dev.countTo, Dev.setSeg_setSeg]

/-- A beacon that a coordinator hears stops its own (12 R441). -/
theorem Dev.beaconRecv_of_coordinator {d : Dev} {p : Nat} (hon : d.plcaOn p = true) (hid : d.plcaId p = 0)
    (hruns : (d.seg p).coordOff = false) :
    d.beaconRecv p = ((((((d.setSeg p (fun s =>
      { s with coordOff := true, opp := none, count := none, held := none, yielded := false })).plcaBit p 0 false).plcaBit p 1
      false).plcaBit p 2 true).inc (segKey 0x3210 p 8)).fire 63).setLink p 5 := by
  simp only [Dev.beaconRecv, hon, hid, hruns, Bool.not_true, Bool.false_eq_true, if_false, if_true]

/-- 4,000 bit times without a beacon lose the link (12 R428). -/
theorem Dev.beaconLoss_of_follower {d e : Dev} {p t : Nat} (hlast : (d.seg p).beaconAt = some t) (hon : d.plcaOn p = true)
    (hup : d.linkState p = 3) (hid : d.plcaId p ≠ 0) (he : e = d.advanceTo (t + 40000)) :
    d.beaconLoss p = ((e.setSeg p (fun s => { s with beaconAt := none, opp := none, count := none, held := none })).plcaBit p 0
      false).setLink p 5 := by
  subst he
  simp [Dev.beaconLoss, hlast, hon, hup, hid]

/-! #### ID conflicts (12 R442) -/

/-- A foreign carrier in the own opportunity is noted. -/
theorem Dev.idConflict_of_sending {d : Dev} {p : Nat} (hsends : d.plcaSends p = true) (hid : d.plcaId p ≠ 0) (hopp : (d.seg p).opp ≠ none)
    (hframe : d.sending p = true) :
    d.idConflict p = (((d.plcaBit p 3 true).setSeg p (fun s => { s with conflictAt := some d.ck })).inc (segKey 0x3210 p 8)).fire 63 := by
  have own : (d.seg p).opp.isSome = true := Option.isSome_iff_ne_none.2 hopp
  simp [Dev.idConflict, hsends, hid, own, hframe]

/-- Outside the own opportunity, or with nothing sent, a carrier is no conflict. -/
theorem Dev.idConflict_of_silent {d : Dev} {p : Nat} (h : (d.seg p).opp = none ∨ d.sending p = false) : d.idConflict p = d := by
  obtain h | h := h <;> simp [Dev.idConflict, h]

/-- A conflict is cleared after a second. -/
theorem Dev.idConflictClear_of_noted {d e : Dev} {p t : Nat} (h : (d.seg p).conflictAt = some t) (he : e = d.advanceTo (t + 100000000)) :
    d.idConflictClear p = (e.plcaBit p 3 false).setSeg p (fun s => { s with conflictAt := none }) := by
  have later : d.afterMs t 1000 = e := he.symm
  simp only [Dev.idConflictClear, h, later]

/-! #### The slot guard (12 R430-R436) -/

/-- A carrier measured moves the drift of its node, and the count to the next one (12 R430, R431, R435). -/
theorem Dev.sgMeasure_of_counted {d b : Dev} {p j v c : Nat} {o x n : Int} {late : Bool} (hj : j < d.rd (segKey 0x3210 p 3))
    (hon : d.plcaOn p = true) (hother : j ≠ d.plcaId p) (hcount : (d.seg p).count = some c) (hnext : c ≤ j ∨ j = d.predecessor p)
    (hlate : late = decide (j = d.predecessor p ∧ d.sgT p ≤ o))
    (hb : b = if late then d.setSeg p (fun s => { s with held := some (((d.seg p).held).getD (d.sgHold p)) }) else d)
    (hx : x = clampInt (-32767) 32767 o) (hv : v = d.rd (segKey 0x3240 p (1 + j)))
    (hn : n = if v = 0x8000 then x else toSigned 16 v + (x - toSigned 16 v).tdiv 8) :
    d.sgMeasure p j o = (let e := (b.wr (segKey 0x3240 p (1 + j)) (ofSigned 16 n)).setSeg p (fun s =>
        { s with measured := updAt s.measured j (fun _ => some d.ck) })
      ((if j = e.predecessor p && e.sgT p ≤ x then e.inc (segKey 0x3220 p 9) else e).selfUpdate p).setSeg p (fun s =>
        { s with count := some (if late && !d.sgWants p then j + 2 else j + 1), countAt := d.ck })) := by
  have counted : (d.seg p).count.any (fun c => c ≤ j || j == d.predecessor p) = true := by simpa [hcount] using hnext
  have asLate : (j == d.predecessor p && decide (d.sgT p ≤ o)) = late := by
    rw [hlate, Bool.decide_and]
    rfl
  have same : b.rd (segKey 0x3240 p (1 + j)) = v ∧ b.ck = d.ck := by
    rw [hb, hv]
    cases late <;> exact ⟨rfl, rfl⟩
  have measured : (if late then d.setSeg p (fun s => { s with held := some (d.heldFor p) }) else d) = b := hb.symm
  simp only [Dev.sgMeasure, hon, hj, hother, counted, decide_true, ne_eq, not_false_eq_true, Bool.and_self, if_true, asLate, measured,
    Dev.sgEstimate, ← hx, same.1, same.2, ← hn, Dev.countTo]

/-- The own opportunity, if the count has not passed it, starts as the hold ends (12 R433, R436). -/
theorem Dev.sgHoldExpiry_of_ahead {d e : Dev} {p c s t : Nat} (hsends : d.plcaSends p = true) (hid : d.plcaId p ≠ 0)
    (hcount : (d.seg p).count = some c) (hahead : c ≤ d.plcaId p)
    (ht : t = (d.seg p).countAt + (d.plcaId p - c) * (10 * d.rd (segKey 0x3210 p 4)))
    (hs : s = (((d.seg p).held).getD (d.sgHold p)).toNat) (he : e = ((d.wr (segKey 0x3220 p 7) s).advanceTo (t + s)).yieldClear p) :
    d.sgHoldExpiry p = e.oppBegin p t := by
  have ahead : d.ownAhead p = true := by simp [Dev.ownAhead, hsends, hcount, hahead]
  have moment : d.oppStart p (d.plcaId p) = t := (Dev.oppStart_of_count hcount).trans ht.symm
  subst he hs
  simp only [Dev.sgHoldExpiry, hid, decide_false, Bool.and_false, Bool.false_eq_true, if_false, ahead, if_true, moment, Dev.holdEnd,
    Dev.heldFor]

/-- A carrier inside the hold takes the opportunity or the beacon (12 R434, R436). -/
theorem Dev.sgYield_of_held {d b e f : Dev} {p s : Nat} {into : Option Nat} (hholds : d.sgHolds p = true)
    (hs : s = (((d.seg p).held).getD (d.sgHold p)).toNat) (hpos : 0 < s) (hinto : ∀ i, into = some i → i < s)
    (hb : b = (d.inc (segKey 0x3220 p 5)).wr (segKey 0x3220 p 7) s)
    (he : e = match into with | some i => b.sgEstimate p (b.predecessor p) (b.sgT p + i) | none => b)
    (hf : f = e.setSeg p (fun x => { x with
      yieldRun := (d.seg p).yieldRun + 1, yielded := e.plcaId p == 0, opp := none, held := none,
      count := some (if e.plcaId p = 0 then e.rd (segKey 0x3210 p 3) else e.plcaId p + 1), countAt := e.ck })) :
    d.sgYield p into = if f.rd (segKey 0x3220 p 3) ≤ (d.seg p).yieldRun + 1 && !(f.rd (segKey 0x3220 p 4)).testBit 0 then
        ((f.wr (segKey 0x3220 p 4) (setBit (f.rd (segKey 0x3220 p 4)) 0 true)).inc (segKey 0x3220 p 8)).fire 62
      else f := by
  have hold : (d.heldFor p).toNat = s := hs.symm
  subst hf hb
  cases into with
  | none =>
    subst he
    simp only [Dev.sgYield, hold, hholds, hpos, Option.all_none, decide_true, Bool.and_self, if_true, Dev.countTo, Dev.setSeg_setSeg]
  | some i =>
    have inside : i < s := hinto i rfl
    subst he
    simp only [Dev.sgYield, hold, hholds, hpos, Option.all_some, inside, decide_true, Bool.and_self, if_true, Dev.countTo,
      Dev.setSeg_setSeg]

/-- A coordinator that is stopped, and a follower that does not send by PLCA, have nothing to yield (12 R434). -/
theorem Dev.sgYield_of_nothing {d : Dev} {p : Nat} {into : Option Nat}
    (h : (d.plcaId p = 0 ∧ (d.seg p).coordOff = true) ∨ (d.plcaId p ≠ 0 ∧ d.plcaSends p = false)) : d.sgYield p into = d := by
  have nothing : d.sgHolds p = false := by
    obtain ⟨hid, hoff⟩ | ⟨hid, hoff⟩ := h
    · simp [Dev.sgHolds, hid, hoff]
    · simp [Dev.sgHolds, hid, Dev.ownAhead, hoff]
  simp [Dev.sgYield, nothing]

/-- A node unheard for a second is unknown (12 R431). -/
theorem Dev.sgDriftExpiry_of_measured {d e : Dev} {p j t : Nat} (h : (d.seg p).measured.getD j none = some t)
    (he : e = d.advanceTo (t + 100000000)) :
    d.sgDriftExpiry p j = ((e.setSeg p (fun s => { s with measured := updAt s.measured j (fun _ => none) })).wr (segKey 0x3240 p (1 + j))
      0x8000).selfUpdate p := by
  have later : d.afterMs t 1000 = e := he.symm
  simp only [Dev.sgDriftExpiry, h, later]

/-! #### Collisions (12 R427, R443) -/

/-- A draw changes no object below 74_0000h (01 R31). -/
theorem Dev.rd_draw_of_lt (d : Dev) (n : Nat) {k : Nat} (h : k < 0x740000) : (d.draw n).2.rd k = d.rd k := by
  unfold Dev.draw
  show (if _ then d.tick 1 else d).rd k = d.rd k
  split
  · exact d.rd_tick_of_lt 1 h
  · rfl

/-- A collision that is neither late nor the sixteenth draws a back-off (12 R427). -/
theorem Dev.collision_of_early {d e : Dev} {p r s n : Nat} {df : Bool} (hp : p = 2 ∨ p = 3) (hon : d.on (macDom p) = true)
    (hidle : (d.mac p).backoff = none) (hhold : (d.mac p).hold = false) (hcur : (d.mac p).cur = .chain r s ∨ (d.mac p).cur = .tow)
    (hn : n = (d.mac p).attempts + 1) (hfew : n < 16) (he : e = ((if df && n = 1 then d.cnt p 36 else d).oppEnd p).cnt p 33) :
    d.collision p false df = (e.draw (macDom p)).2.setMac p (fun m => { m with
      attempts := n, backoff := some (e.ck, (e.draw (macDom p)).1 % 2 ^ min n 10), hold := (e.draw (macDom p)).2.wakeListen p }) := by
  have listens : (e.draw (macDom p)).2.wakeListen p = e.wakeListen p := by
    rw [Dev.wakeListen, Dev.rd_draw_of_lt _ _ (by unfold macKey; omega)]
    rfl
  have notLast : (d.mac p).attempts + 1 ≠ 16 := by omega
  rw [listens]
  subst he hn
  obtain hcur | hcur := hcur <;> simp [Dev.collision, hon, hidle, hhold, hcur, notLast]

/-- The end of a back-off lets the MAC try again (12 R427). -/
theorem Dev.backoffEnd_of_running {d e : Dev} {p t n : Nat} (h : (d.mac p).backoff = some (t, n)) (he : e = d.advanceTo (t + n * 5120)) :
    d.backoffEnd p = e.setMac p (fun m => { m with backoff := none }) := by
  subst he
  simp only [Dev.backoffEnd, h]

/-- Settles O36: each event of a segment port by its lemma above, the three beacons by `beaconSend_of_runs`. -/
theorem segmentCommandsComplete : Obligations.SegmentCommandsComplete := by
  unfold Obligations.SegmentCommandsComplete
  refine ⟨?first, ?later, ?yielded, ?follower, ?coordinator, ?loss, ?conflict, ?noConflict, ?cleared, ?measure, ?opportunity, ?yield,
    ?nothing, ?drift, ?collision, ?backoff⟩
  case first =>
    intro q d e p hp hon hid hruns hyielded hcount he
    rw [exec_plcaBeaconSend]
    refine State.run_eq (segmentPort hp) (Dev.beaconSend_of_runs hp hon hid hruns (b := d.yieldClear p) ?_ he)
    simp [hyielded, hcount]
  case later =>
    intro q d b e p c s t hp hon hid hruns hyielded hcount ht hs hb he
    rw [exec_plcaBeaconSend]
    refine State.run_eq (segmentPort hp) (Dev.beaconSend_of_runs hp hon hid hruns (b := b.yieldClear p) ?_ he)
    have moment : d.oppStart p (d.rd (segKey 0x3210 p 3)) = t := (Dev.oppStart_of_count hcount).trans ht.symm
    subst hb hs
    simp only [hyielded, hcount, Option.isSome_some, Bool.false_eq_true, if_false, if_true, moment, Dev.holdEnd, Dev.heldFor]
  case yielded =>
    intro q d e p hp hon hid hruns hyielded he
    rw [exec_plcaBeaconSend]
    exact State.run_eq (segmentPort hp) (Dev.beaconSend_of_runs hp hon hid hruns (by rw [hyielded, if_pos rfl]) he)
  case follower =>
    intro q d p hp hon hid
    rw [exec_plcaBeaconReceived]
    exact State.run_eq (segmentPort hp) (Dev.beaconRecv_of_follower hon hid)
  case coordinator =>
    intro q d p hp hon hid hruns
    rw [exec_plcaBeaconReceived]
    exact State.run_eq (segmentPort hp) (Dev.beaconRecv_of_coordinator hon hid hruns)
  case loss =>
    intro q d e p t hp hlast hon hup hid he
    rw [exec_plcaBeaconLoss]
    exact State.run_eq (segmentPort hp) (Dev.beaconLoss_of_follower hlast hon hup hid he)
  case conflict =>
    intro q d p hp hsends hid hopp hframe
    rw [exec_plcaIdConflict]
    exact State.run_eq (segmentPort hp) (Dev.idConflict_of_sending hsends hid hopp hframe)
  case noConflict =>
    intro q d p hp h
    rw [exec_plcaIdConflict]
    exact State.run_eq (segmentPort hp) (Dev.idConflict_of_silent h)
  case cleared =>
    intro q d e p t hp h he
    rw [exec_plcaIdConflictClear]
    exact State.run_eq (segmentPort hp) (Dev.idConflictClear_of_noted h he)
  case measure =>
    intro q d b p j v c o x n late hp hj hnode hon hother hcount hnext hlate hb hx hv hn
    rw [exec_sgCarrierMeasure]
    exact State.run_eq (Bool.and_eq_true_iff.2 ⟨segmentPort hp, decide_eq_true hnode⟩)
      (Dev.sgMeasure_of_counted hj hon hother hcount hnext hlate hb hx hv hn)
  case opportunity =>
    intro q d e p c s t hp hsends hid hcount hahead ht hs he
    rw [exec_sgHoldExpiry]
    exact State.run_eq (segmentPort hp) (Dev.sgHoldExpiry_of_ahead hsends hid hcount hahead ht hs he)
  case yield =>
    intro q d b e f p s into hp hholds hs hpos hinto hb he hf
    rw [exec_sgYield]
    refine State.run_eq (segmentPort hp) (Dev.sgYield_of_held hholds hs hpos hinto hb ?_ hf)
    cases into <;> exact he
  case nothing =>
    intro q d p into hp h
    rw [exec_sgYield]
    exact State.run_eq (segmentPort hp) (Dev.sgYield_of_nothing h)
  case drift =>
    intro q d e p j t hp hnode h he
    rw [exec_sgDriftExpiry]
    exact State.run_eq (Bool.and_eq_true_iff.2 ⟨segmentPort hp, decide_eq_true hnode⟩) (Dev.sgDriftExpiry_of_measured h he)
  case collision =>
    intro q d e p r s n df hp hon hidle hhold hcur hn hfew he
    rw [exec_segCollision]
    exact State.run_eq (segmentPort hp) (Dev.collision_of_early hp hon hidle hhold hcur hn hfew he)
  case backoff =>
    intro q d e p t n hp h he
    rw [exec_backoffExpiry]
    exact State.run_eq (segmentPort hp) (Dev.backoffEnd_of_running h he)

end Sys2Proof.Machine
end

/-! ### Classification and generations (13 R447, R454-R458, R461, R463, R472-R480) -/

section
namespace Sys2Proof.Machine

/-- A host's write of an object of 13 that nothing refuses has its effect at once. -/
theorem Dev.hostPut_cls {d e : Dev} {k v : Nat} {tm : Timing} (h : d.hostTakes k v tm = true) (hk : k / 0x10000 = 0x40)
    (he : d.clsEffect 0 k v = .ok e) : d.hostPut k v tm = e.answered [] :=
  Dev.hostPut_effect h (by omega) (by simp only [Dev.writeEffect, hk, he])

/-! #### What an action does (13 R455, R461, R463, Table 13.6) -/

/-- The mark in a default of a port. -/
theorem bits_15_8 (v : Nat) : bits v 15 8 = v / 256 % 256 :=
  congrArg (· % 256) (Nat.shiftRight_eq_div_pow v 8)

/-- PATH without a kind drops the frame. -/
theorem Dev.clsPath_of_none {d : Dev} {j : Judged} {n : Nat} {brg tow : Dev → RxFrame → Nat → Dev} (h : d.rd (0x403001 + n) / 256 = 0) :
    d.clsPath j n brg tow = ((d.inc 0x40000A).freeBarges j.fr.barges).cnt j.fr.port 20 := by
  simp only [Dev.clsPath, h, if_true, Dev.clsDrop]

/-- PATH to the bridge hands the frame's barges to it. -/
theorem Dev.clsPath_of_bridge {d : Dev} {j : Judged} {n : Nat} {brg tow : Dev → RxFrame → Nat → Dev} (h : d.rd (0x403001 + n) / 256 = 1)
    (hon : d.allOn (d.pathNeeds 1 j.fr.port).2 = true) :
    d.clsPath j n brg tow = brg (d.handBarges j.fr.barges .brg j.fr.data.length) j.fr n := by
  simp [Dev.clsPath, h, hon]

/-- PATH to Towpath hands the frame's barges to the peer it names. -/
theorem Dev.clsPath_of_towpath {d : Dev} {j : Judged} {n : Nat} {brg tow : Dev → RxFrame → Nat → Dev} (h : d.rd (0x403001 + n) / 256 = 2)
    (hon : d.allOn d.towNeeds = true) :
    d.clsPath j n brg tow = tow (d.handBarges j.fr.barges (.tow (d.rd (0x403001 + n) % 16)) j.fr.data.length) j.fr
      (d.rd (0x403001 + n) % 16) := by
  have needs : d.allOn (d.pathNeeds 2 j.fr.port).2 = true := hon
  simp [Dev.clsPath, h, needs]

/-- HASH takes the ring or the path that the indirection table names. -/
theorem Dev.clsAct_hash {d e : Dev} {j : Judged} {key : Oct} {g r : Nat} {brg tow : Dev → RxFrame → Nat → Dev}
    (h : (r, e) = d.indirEntry key) :
    d.clsAct j key 3 g brg tow = (if r / 0x4000 = 0 then e.clsRing j (r % 16) 0 0 none
      else if r / 0x4000 = 1 then e.clsPath j (r % 8) brg tow else (e.freeBarges j.fr.barges).cnt j.fr.port 20) := by
  simp only [Dev.clsAct, ← h]
  split
  · next h0 => rw [if_pos h0]
  · next h1 => rw [if_neg (by omega), if_pos h1]
  · next h0 h1 => rw [if_neg h0, if_neg h1, Dev.clsDrop]

/-- A default applies with its own mark, or that of the frame's entry (13 R454, R456). -/
theorem Dev.clsDefault_eq {d : Dev} {j : Judged} {key : Oct} {v : Nat} {brg tow : Dev → RxFrame → Nat → Dev}
    (hv : v = d.rd (0x401002 + 256 * j.fr.port)) :
    d.clsDefault j key brg tow = d.clsAct { j with mark := if v / 256 % 256 = 0 then j.mark else v / 256 % 256 } key (v % 256)
      (v / 65536) brg tow := by
  simp only [Dev.clsDefault, ← hv, bits_15_8]

/-- A frame for a group that does not run is dropped (13 R464). -/
theorem Dev.clsGroup_of_stopped {d : Dev} {j : Judged} {key : Oct} {g : Nat} (h : d.rd (grpKey g 1) ≠ 1) :
    d.clsGroup g j key = ((d.inc (grpKey g 10)).freeBarges j.fr.barges).cnt j.fr.port 20 := by
  simp only [Dev.clsGroup, h, ne_eq, not_false_eq_true, if_true, Dev.clsDrop]

/-- A hashed group spreads its frames over its workers (13 R464). -/
theorem Dev.clsGroup_of_hashed {d e : Dev} {j : Judged} {key : Oct} {g h : Nat} (hrun : d.rd (grpKey g 1) = 1)
    (hmode : d.rd (grpKey g 2) = 1) (hhash : (h, e) = d.hash key) :
    d.clsGroup g j key = e.clsRing j ((d.workers g).getD (h % (d.workers g).length) 0) 0 0 none := by
  simp only [Dev.clsGroup, hrun, hmode, ← hhash, ne_eq, not_true_eq_false, if_false, if_true]

/-- A round-robin group that nothing holds back gives the frame its next number and its next worker (13 R464, R466). -/
theorem Dev.clsGroup_of_numbered {d e : Dev} {j : Judged} {key : Oct} {g s w : Nat} (hrun : d.rd (grpKey g 1) = 1)
    (hmode : d.rd (grpKey g 2) ≠ 1) (hbarrier : (d.grp g).barrier = none) (hheld : d.cls.held.any (fun e => e.1 == g) = false)
    (hworkers : d.workers g ≠ []) (hs : s = d.rd (grpKey g 6)) (hfew : sub16 s (d.rd (grpKey g 7)) < 256)
    (hw : w = (d.workers g).getD ((d.grp g).rot % (d.workers g).length) 0)
    (he : e = (d.wr (grpKey g 6) ((s + 1) % 65536)).setGrp g (fun x => { x with
      nums := x.nums ++ [⟨s, w, .out none⟩], rot := (x.rot + 1) % (d.workers g).length,
      headAt := if x.nums.isEmpty then d.ck else x.headAt })) :
    d.clsGroup g j key = e.clsRing j w (s % 256) 0 (some (g, s)) := by
  have room : ¬256 ≤ sub16 s (d.rd (grpKey g 7)) := Nat.not_le.2 hfew
  subst he hw
  simp [Dev.clsGroup, hrun, hmode, hbarrier, hheld, Dev.grpEnter, hworkers, ← hs, room]

/-! #### The frame at the head (13 R446-R448, R454, R457, R458, R472, R477) -/

/-- A frame in the classifier, with every domain it needs ON: the device as it looks at the frame, which is accepted 64 CK after the one
before it at the earliest. -/
structure Classifies (d b : Dev) (f : RxFrame) (t : List RxFrame) : Prop where
  front : d.cls.queue = f :: t
  on : d.on dCLS = true
  accepted : b = ((d.advanceTo d.cls.ready).setCls (fun c => { c with ready := (d.advanceTo d.cls.ready).ck + 64 })).setCls (fun c =>
    { c with queue := t })
  needs : b.allOn [dCLS, dCORE, dPM0] = true

@[simp] theorem Dev.tick_cls (d : Dev) (n : Nat) : (d.tick n).cls = d.cls :=
  Dev.tick_keeps (g := Dev.cls) Dev.wr_cls Dev.setMac_cls (fun _ _ => (apply_ite Dev.cls ..).trans (ite_self _)) d n

section
variable {d b : Dev} {f : RxFrame} {t : List RxFrame} (h : Classifies d b f t)
include h

/-- The frame at the head passes the stages on the device it is accepted in. -/
theorem Classifies.classify_eq (brg tow : Dev → RxFrame → Nat → Dev) :
    d.clsAccept.classify brg tow = if b.rd 0x400001 = 0 || b.framePoisoned f then
        (if b.rd (0x401002 + 256 * f.port) % 256 = 1 then
          b.clsRing ⟨f, none, bits (b.rd (0x401002 + 256 * f.port)) 15 8⟩ (b.rd (0x401002 + 256 * f.port) / 65536 % 16) 0 0 none
        else ((b.inc 0x40000A).freeBarges f.barges).cnt f.port 19)
      else match b.firstMatch b.clsActive (b.clsKey b.clsActive f) with
        | none => b.clsDefault ⟨f, none, 0⟩ (b.clsKey b.clsActive f) brg tow
        | some (n, e) =>
          if 2 ≤ b.clsState && (b.flag 0x400008 n || (3 ≤ b.clsState && octAt e 80 = 6)) then b.clsTransitRing ⟨f, some n, octAt e 81⟩
          else if octAt e 80 = 5 then b.clsDefault ⟨f, some n, octAt e 81⟩ (b.clsKey b.clsActive f) brg tow
          else if octAt e 80 = 6 then b.clsTree ⟨f, some n, octAt e 81⟩ (b.clsKey b.clsActive f) (leAt e 82 2) brg tow
          else b.clsAct ⟨f, some n, octAt e 81⟩ (b.clsKey b.clsActive f) (octAt e 80) (leAt e 82 2) brg tow := by
  obtain ⟨front, on, accepted, needs⟩ := h
  have accept : d.clsAccept = (d.advanceTo d.cls.ready).setCls (fun c => { c with ready := (d.advanceTo d.cls.ready).ck + 64 }) := by
    simp [Dev.clsAccept, front, on]
  have queued : d.clsAccept.cls.queue = f :: t := by
    rw [accept, Dev.setCls_cls, Dev.advanceTo, Dev.tick_cls]
    exact front
  have taken : d.clsAccept.setCls (fun c => { c with queue := t }) = b := by rw [accept, accepted]
  obtain ⟨hcls, hcore, hpm⟩ : b.on dCLS = true ∧ b.on dCORE = true ∧ b.on dPM0 = true := by simpa [Dev.allOn] using needs
  have rest : b.allOn [dCORE, dPM0] = true := by simp [Dev.allOn, hcore, hpm]
  simp only [Dev.classify, queued, taken, hcls, rest, Bool.not_true, Bool.false_eq_true, if_false] <;> rfl

/-- A frame is judged only while CLS_RUN is 01h and none of its barges is poisoned. -/
theorem Classifies.judged (hrun : b.rd 0x400001 = 1) (hclean : b.framePoisoned f = false) (brg tow : Dev → RxFrame → Nat → Dev) :
    d.clsAccept.classify brg tow = match b.firstMatch b.clsActive (b.clsKey b.clsActive f) with
        | none => b.clsDefault ⟨f, none, 0⟩ (b.clsKey b.clsActive f) brg tow
        | some (n, e) =>
          if 2 ≤ b.clsState && (b.flag 0x400008 n || (3 ≤ b.clsState && octAt e 80 = 6)) then b.clsTransitRing ⟨f, some n, octAt e 81⟩
          else if octAt e 80 = 5 then b.clsDefault ⟨f, some n, octAt e 81⟩ (b.clsKey b.clsActive f) brg tow
          else if octAt e 80 = 6 then b.clsTree ⟨f, some n, octAt e 81⟩ (b.clsKey b.clsActive f) (leAt e 82 2) brg tow
          else b.clsAct ⟨f, some n, octAt e 81⟩ (b.clsKey b.clsActive f) (octAt e 80) (leAt e 82 2) brg tow := by
  have judges : (decide (b.rd 0x400001 = 0) || b.framePoisoned f) = false := by simp [hrun, hclean]
  rw [h.classify_eq, judges]
  rfl

/-- Without a match the port's default applies (13 R454). -/
theorem Classifies.noMatch {key : Oct} (hrun : b.rd 0x400001 = 1) (hclean : b.framePoisoned f = false)
    (hkey : key = b.clsKey b.clsActive f) (hmatch : b.firstMatch b.clsActive key = none) (brg tow : Dev → RxFrame → Nat → Dev) :
    d.clsAccept.classify brg tow = b.clsDefault ⟨f, none, 0⟩ key brg tow := by
  subst hkey
  rw [h.judged hrun hclean]
  simp only [hmatch]

/-- A match whose entry the TRANSIT states leave alone is judged by its action (13 R454, R477, R478). -/
theorem Classifies.matched {key x : Oct} {n : Nat} (hrun : b.rd 0x400001 = 1) (hclean : b.framePoisoned f = false)
    (hkey : key = b.clsKey b.clsActive f) (hmatch : b.firstMatch b.clsActive key = some (n, x))
    (hstate : (decide (2 ≤ b.clsState) && (b.flag 0x400008 n || (decide (3 ≤ b.clsState) && decide (octAt x 80 = 6)))) = false)
    (brg tow : Dev → RxFrame → Nat → Dev) :
    d.clsAccept.classify brg tow = if octAt x 80 = 5 then b.clsDefault ⟨f, some n, octAt x 81⟩ key brg tow
      else if octAt x 80 = 6 then b.clsTree ⟨f, some n, octAt x 81⟩ key (leAt x 82 2) brg tow
      else b.clsAct ⟨f, some n, octAt x 81⟩ key (octAt x 80) (leAt x 82 2) brg tow := by
  subst hkey
  rw [h.judged hrun hclean]
  simp only [hmatch, hstate, Bool.false_eq_true, if_false]

/-- A match whose entry the TRANSIT states divert goes to the transit ring (13 R477, R478). -/
theorem Classifies.diverted {x : Oct} {n : Nat} (hrun : b.rd 0x400001 = 1) (hclean : b.framePoisoned f = false)
    (hmatch : b.firstMatch b.clsActive (b.clsKey b.clsActive f) = some (n, x)) (hstate : 2 ≤ b.clsState)
    (hentry : b.flag 0x400008 n = true ∨ (3 ≤ b.clsState ∧ octAt x 80 = 6)) (brg tow : Dev → RxFrame → Nat → Dev) :
    d.clsAccept.classify brg tow = b.clsTransitRing ⟨f, some n, octAt x 81⟩ := by
  have diverts : (decide (2 ≤ b.clsState) && (b.flag 0x400008 n || (decide (3 ≤ b.clsState) && decide (octAt x 80 = 6)))) = true := by
    obtain hentry | hentry := hentry <;> simp [hstate, hentry]
  rw [h.judged hrun hclean]
  simp only [hmatch, diverts, if_true]

/-- With CLS_RUN 00h, or with a poisoned barge, a default RING takes the frame and any other drops it (13 R472; 09 R312). -/
theorem Classifies.unjudged {v : Nat} (hrun : b.rd 0x400001 = 0 ∨ b.framePoisoned f = true) (hv : v = b.rd (0x401002 + 256 * f.port))
    (brg tow : Dev → RxFrame → Nat → Dev) :
    d.clsAccept.classify brg tow = if v % 256 = 1 then b.clsRing ⟨f, none, v / 256 % 256⟩ (v / 65536 % 16) 0 0 none
      else ((b.inc 0x40000A).freeBarges f.barges).cnt f.port 19 := by
  have passes : (decide (b.rd 0x400001 = 0) || b.framePoisoned f) = true := by
    obtain hrun | hrun := hrun <;> simp [hrun]
  rw [h.classify_eq, passes, if_pos rfl, ← hv, bits_15_8]

end

/-- No action but one of the TRANSIT states' stands in the way of an entry's. -/
theorem notDiverted {d : Dev} {n : Nat} {x : Oct} (h : d.clsState ≤ 1 ∨ d.flag 0x400008 n = false) (hact : octAt x 80 ≠ 6) :
    (decide (2 ≤ d.clsState) && (d.flag 0x400008 n || (decide (3 ≤ d.clsState) && decide (octAt x 80 = 6)))) = false := by
  obtain h | h := h
  · have early : ¬2 ≤ d.clsState := by omega
    simp [early]
  · simp [h, hact]

/-- A TREE action before the tree's release is not diverted. -/
theorem treeNotDiverted {d : Dev} {n : Nat} {x : Oct} (h : d.clsState ≤ 1 ∨ (d.clsState = 2 ∧ d.flag 0x400008 n = false)) :
    (decide (2 ≤ d.clsState) && (d.flag 0x400008 n || (decide (3 ≤ d.clsState) && decide (octAt x 80 = 6)))) = false := by
  obtain h | ⟨h, hflag⟩ := h
  · have early : ¬2 ≤ d.clsState := by omega
    simp [early]
  · simp [h, hflag]

/-- TREE takes the leaf of the walk, with the leaf's mark where it has one (13 R457). -/
theorem Dev.clsTree_of_leaf {d u : Dev} {j : Judged} {key l : Oct} {node o : Nat} {brg tow : Dev → RxFrame → Nat → Dev}
    (ho : (o, u) = if opensTest (d.clsBody d.clsActive 3) then d.free else (0, d))
    (hwalk : treeWalk (d.clsBody d.clsActive 3) key (d.treeNodes d.clsActive) o 32 node = some l) (hmark : octAt l 1 ≠ 5) :
    d.clsTree j key node brg tow = u.clsAct { j with mark := if octAt l 2 = 0 then j.mark else octAt l 2 } key (octAt l 1)
      (leAt l 4 2) brg tow := by
  simp only [Dev.clsTree, ← ho, hwalk, hmark, if_false]

/-- A walk without a leaf is counted, fires 67, and the port's default applies (13 R458). -/
theorem Dev.clsTree_of_none {d u : Dev} {j : Judged} {key : Oct} {node o : Nat} {brg tow : Dev → RxFrame → Nat → Dev}
    (ho : (o, u) = if opensTest (d.clsBody d.clsActive 3) then d.free else (0, d))
    (hwalk : treeWalk (d.clsBody d.clsActive 3) key (d.treeNodes d.clsActive) o 32 node = none) :
    d.clsTree j key node brg tow = ((u.inc 0x40000A).fire 67).clsDefault j key brg tow := by
  simp only [Dev.clsTree, ← ho, hwalk]

/-! #### Commits and TRANSIT (13 R473-R480) -/

/-- CLS_COMMIT is an object of 13 with an effect of its own. -/
theorem Dev.writeEffect_clsCommit (d : Dev) (v : Nat) : d.writeEffect 0 0x400005 v = d.clsCommit 0 v := by
  simp [Dev.writeEffect, Dev.clsEffect]

/-- A commit that switches waits for its check: RETRY (13 R474, R475). -/
theorem Dev.hostPut_clsSwitch {d : Dev} {s cmd : Nat} {tm : Timing} (h : d.hostTakes 0x400005 cmd tm = true)
    (hs : d.freeSlot = some s) (hcmd : switches d.clsState cmd = true) :
    d.hostPut 0x400005 cmd tm = (d.setCls (fun c => { c with commit := some (cmd, 0, d.ck) })).retry s 0x12 0xFF 0x4000 5 none := by
  refine Dev.hostPut_later h (by decide) hs ?_
  rw [Dev.writeEffect_clsCommit]
  exact if_pos hcmd

/-- A commit that does not switch takes effect at once (13 Table 13.9). -/
theorem Dev.hostPut_clsState {d e : Dev} {cmd : Nat} {tm : Timing} (h : d.hostTakes 0x400005 cmd tm = true)
    (he : d.clsCommit 0 cmd = .ok e) : d.hostPut 0x400005 cmd tm = e.answered [] :=
  Dev.hostPut_effect h (by decide) ((d.writeEffect_clsCommit cmd).trans he)

/-- TRANSIT ends by time, with a switch or by what its state has instead (13 R480). -/
theorem Dev.transitTimeout_of_transit {d e : Dev} {t : Nat} (ht : d.cls.transitAt = some t) (hon : d.on dCLS = true)
    (hstate : d.clsState = 2 ∨ d.clsState = 3) (he : e = d.advanceTo (t + d.rd 0x400007 * 100000)) :
    d.transitTimeout = (if e.genOk (1 - e.clsActive) then e.clsSwitch else if e.clsState = 2 then e.transitBack
      else (e.wr 0x400002 4).setCls (fun c => { c with transitAt := none })).fire 65 := by
  have ended : d.afterMs t (d.rd 0x400007) = e := he.symm
  have runs : (d.on dCLS && (decide (d.clsState = 2) || decide (d.clsState = 3))) = true := by
    obtain h | h := hstate <;> simp [hon, h]
  simp only [Dev.transitTimeout, ht, runs, if_true, ended]

/-- The check of a generation that passes switches and answers the write that waited, one that fails aborts it (13 R474, R475). -/
theorem Dev.genCheckDone_of_commit {d e : Dev} {cmd ini t n : Nat} (hcommit : d.cls.commit = some (cmd, ini, t))
    (he : e = (d.advanceTo (t + n)).setCls (fun c => { c with commit := none })) (hcmd : switches e.clsState cmd = true) :
    d.genCheckDone n = if e.genOk (1 - e.clsActive) then (e.clsSwitch).resolve ini 0x4000 5 (.ok [])
      else e.resolve ini 0x4000 5 (.abort 0x0702 0) := by
  cases hready : e.genOk (1 - e.clsActive) <;> simp [Dev.genCheckDone, Dev.clsCheckDone, hcommit, ← he, hcmd, hready]

/-- Settles O37: a frame is judged as `Classifies.matched` and its companions say, its action does what the lemmas on `clsAct` and
`clsGroup` say; a commit is a write of CLS_COMMIT (`hostPut_clsSwitch`, `hostPut_clsState`). -/
theorem classifierCommandsComplete : Obligations.ClassifierCommandsComplete := by
  unfold Obligations.ClassifierCommandsComplete
  refine ⟨?action, ?actions, ?groupStopped, ?groupHashed, ?groupNumbered, ?noMatch, ?mark, ?tree, ?transitRing, ?unjudged, ?commit, ?transitEnd,
    ?transit, ?release, ?abandon, ?timeBack, ?timeReleased, ?timeSwitch, ?checked⟩
  case action =>
    rintro q d e b f t n a x key front on rfl accepted needs hrun hclean hkey hmatch rfl hmark htree hstate
    rw [exec_classifyFrame]
    refine State.run_eq rfl ?_
    rw [(Classifies.mk front on accepted needs).matched hrun hclean hkey hmatch (notDiverted hstate htree), if_neg hmark, if_neg htree]
  case actions =>
    intro d j key g brg tow
    exact ⟨rfl, rfl, Dev.clsPath_of_none, Dev.clsPath_of_bridge, Dev.clsPath_of_towpath, fun r e h => Dev.clsAct_hash h, rfl⟩
  case groupStopped => exact fun d j key g h => Dev.clsGroup_of_stopped h
  case groupHashed => exact fun d e j key g h hrun hmode hhash => Dev.clsGroup_of_hashed hrun hmode hhash
  case groupNumbered =>
    intro d e j key g s w hrun hmode hbarrier hheld hworkers hs hfew hw he
    exact Dev.clsGroup_of_numbered hrun hmode hbarrier hheld hworkers hs hfew hw he
  case noMatch =>
    rintro q d e b f t v key front on rfl accepted needs hrun hclean hkey hmatch hv
    have mark : (if v / 256 % 256 = 0 then 0 else v / 256 % 256) = v / 256 % 256 := by split <;> omega
    rw [exec_classifyFrame]
    refine State.run_eq rfl ?_
    rw [(Classifies.mk front on accepted needs).noMatch hrun hclean hkey hmatch, Dev.clsDefault_eq hv]
    exact congrArg (fun m => b.clsAct ⟨f, none, m⟩ key (v % 256) (v / 65536) Dev.brgTake Dev.towPath) mark
  case mark =>
    rintro q d e b f t n v x key front on rfl accepted needs hrun hclean hkey hmatch hmark hstate hv
    rw [exec_classifyFrame]
    refine State.run_eq rfl ?_
    rw [(Classifies.mk front on accepted needs).matched hrun hclean hkey hmatch (notDiverted hstate (by omega)), if_pos hmark,
      Dev.clsDefault_eq hv]
  case tree =>
    rintro q d e b u f t n o v x key l front on rfl accepted needs hrun hclean hkey hmatch htree hstate ho hv
    have judged := (Classifies.mk front on accepted needs).matched hrun hclean hkey hmatch (treeNotDiverted hstate) (fun d f n => d.brgTake f n)
      (fun d f n => d.towPath f n)
    rw [if_neg (by omega), if_pos htree] at judged
    rw [exec_classifyFrame]
    exact ⟨fun hwalk hmark => State.run_eq rfl (judged.trans (Dev.clsTree_of_leaf ho hwalk hmark)),
      fun hwalk => State.run_eq rfl (judged.trans (Dev.clsTree_of_none ho hwalk))⟩
  case transitRing =>
    rintro q d e b f t n x front on rfl accepted needs hrun hclean hmatch hstate hentry
    rw [exec_classifyFrame]
    exact State.run_eq rfl ((Classifies.mk front on accepted needs).diverted hrun hclean hmatch hstate hentry _ _)
  case unjudged =>
    rintro q d e b f t v front on rfl accepted needs hrun hv
    rw [exec_classifyFrame]
    exact State.run_eq rfl ((Classifies.mk front on accepted needs).unjudged hrun hv _ _)
  case commit =>
    rintro q d0 d s tm rfl htakes hstate hs
    rw [exec_clsCommit]
    exact State.run_eq rfl (Dev.hostPut_clsSwitch htakes hs (by simp [switches, hstate]))
  case transitEnd =>
    rintro q d0 d s tm rfl htakes hstate hs
    rw [exec_clsEnd]
    exact State.run_eq rfl (Dev.hostPut_clsSwitch htakes hs (by simp [switches, hstate]))
  case transit =>
    rintro q d0 d tm rfl htakes hstate
    rw [exec_clsTransit]
    exact State.run_eq rfl (Dev.hostPut_clsState htakes (by rw [Dev.clsCommit, hstate]; rfl))
  case release =>
    rintro q d0 d tm rfl htakes hstate
    rw [exec_clsTransitRelease]
    exact State.run_eq rfl (Dev.hostPut_clsState htakes (by rw [Dev.clsCommit, hstate]; rfl))
  case abandon =>
    rintro q d0 d tm rfl htakes hstate
    rw [exec_clsAbandon]
    exact State.run_eq rfl (Dev.hostPut_clsState htakes (by simp [Dev.clsCommit, hstate, switches, Dev.transitBack]))
  case timeBack =>
    intro q d e t ht hon hstate he hnot hsame
    rw [exec_transitTimeout]
    refine State.run_eq rfl ((Dev.transitTimeout_of_transit ht hon (.inl hstate) he).trans ?_)
    rw [hnot, if_neg Bool.false_ne_true, if_pos hsame, Dev.transitBack]
  case timeReleased =>
    intro q d e t ht hon hstate he hnot hsame
    rw [exec_transitTimeout]
    refine State.run_eq rfl ((Dev.transitTimeout_of_transit ht hon (.inr hstate) he).trans ?_)
    rw [hnot, if_neg Bool.false_ne_true, if_neg (by omega)]
  case timeSwitch =>
    intro q d e t ht hon hstate he hready
    rw [exec_transitTimeout]
    refine State.run_eq rfl ((Dev.transitTimeout_of_transit ht hon hstate he).trans ?_)
    rw [hready, if_pos rfl]
  case checked =>
    intro q d e cmd ini t n hn hcommit he hcmd
    rw [exec_generationCheckDone]
    exact State.run_eq (decide_eq_true hn) (Dev.genCheckDone_of_commit hcommit he hcmd)

end Sys2Proof.Machine
end

/-! ### Reorder groups (13 R464-R471) -/

section
namespace Sys2Proof.Machine

/-- GRP_RUN of a group is an object of 13 with an effect of its own. -/
theorem grpKey_run {g : Nat} (hg : g < 4) : grpKey g 1 / 0x10000 = 0x40 ∧ grpKey g 1 ≠ 0x400005 ∧ grpKey g 1 ≠ 0x400001
    ∧ (0x4020 ≤ grpKey g 1 / 256 ∧ grpKey g 1 / 256 < 0x4024) ∧ grpKey g 1 % 256 = 1 ∧ grpKey g 1 / 256 - 0x4020 = g := by
  unfold grpKey
  omega

/-- GRP_RUN 01h starts a group (13 R465). -/
theorem Dev.clsEffect_grpStart (d : Dev) {g : Nat} (hg : g < 4) : d.clsEffect 0 (grpKey g 1) 1 = .ok (d.wr (grpKey g 1) 1) := by
  obtain ⟨-, commit, run, record, object, -⟩ := grpKey_run hg
  simp only [Dev.clsEffect, commit, run, record, object, decide_true, Bool.and_self, if_false, if_true]

/-- GRP_RUN 00h of a group with numbers outstanding leaves it stopping (13 R471). -/
theorem Dev.clsEffect_grpStop {d : Dev} {g : Nat} (hg : g < 4) (hrun : d.rd (grpKey g 1) = 1) (hnums : (d.grp g).nums ≠ []) :
    d.clsEffect 0 (grpKey g 1) 0 = .ok (d.wr (grpKey g 1) 2) := by
  obtain ⟨-, commit, run, record, object, group⟩ := grpKey_run hg
  have outstanding : ((d.wr (grpKey g 1) 2).grp g).nums.isEmpty = false :=
    List.isEmpty_eq_false_iff.2 hnums
  simp [Dev.clsEffect, commit, run, record, object, group, hrun, outstanding]

/-- With no late frames the merge stage has but the head's to look for (13 R467, R469). -/
theorem Dev.lateReleased_of_none {d : Dev} {g : Nat} (h : (d.grp g).late = []) :
    d.lateReleased g (fun _ => true) = d.setGrp g (fun y => { y with late := y.late.filter (fun z => !d.slotReleased z.1 z.2) }) := by
  simp only [Dev.lateReleased, h, Bool.true_and]
  rfl

/-- A released descriptor that reads without an error is kept, or its frame discarded (13 R467). -/
theorem Dev.mergeRead_of_good {e e' : Dev} {g slot : Nat} {n : SeqNum} {ss : List Strike} {x : Oct}
    (hreach : e.ringReach (rxRing n.ring) = true) (hread : e.readMem (e.slotAddr (rxRing n.ring) slot) 32 ss = (x, [], e')) :
    e.mergeRead g n slot ss = e'.setNum g n.seq (fun n => { n with
      st := if (octAt x 31).testBit 7 then .released x else .discarded }) := by
  simp [Dev.mergeRead, hreach, hread]

/-- The merge stage reads the descriptor of a group's one number, once its worker has released it (13 R467). -/
theorem Dev.mergeRelease_of_one {d e e' : Dev} {g slot t : Nat} {n : SeqNum} {ss : List Strike} {x : Oct} (hon : d.on dCLS = true)
    (hlate : (d.grp g).late = []) (hnums : (d.grp g).nums = [n]) (hst : n.st = .out (some (slot, t)))
    (he : e = d.setGrp g (fun y => { y with late := y.late.filter (fun z => !d.slotReleased z.1 z.2) }))
    (hreleased : e.slotReleased n.ring slot = true) (hreach : e.ringReach (rxRing n.ring) = true)
    (hread : e.readMem (e.slotAddr (rxRing n.ring) slot) 32 ss = (x, [], e')) :
    d.mergeRelease g ss = ((e'.setNum g n.seq (fun n => { n with
      st := if (octAt x 31).testBit 7 then .released x else .discarded })).grpAdvance g).heldRelease := by
  have read : d.releasedRead g (fun _ => true) ss = e.mergeRead g n slot ss := by
    rw [Dev.releasedRead, hnums, Dev.lateReleased_of_none hlate, ← he]
    simp only [forEach, List.foldl_cons, List.foldl_nil, hst, hreleased, Bool.and_self, if_true]
  simp only [Dev.mergeRelease, hon, Bool.not_true, Bool.false_eq_true, if_false, read, Dev.mergeRead_of_good hreach hread]

/-- The head's frame is written to the merge ring with its number and the gap bit (13 R468; 00 R10). -/
theorem Dev.mergeWrite_of_released {d e : Dev} {g r x : Nat} {n : SeqNum} {t : List SeqNum} {desc : Oct} (hnums : (d.grp g).nums = n :: t)
    (hst : n.st = .released desc) (hon : d.on dCLS = true) (hring : d.rd (grpKey g 4) < 16) (hr : r = rxRing (d.rd (grpKey g 4)))
    (haccepts : d.rxAccepts r = true) (hreach : d.ringReach r = true)
    (he : e = d.writeMem (d.slotAddr r (d.ringDev r)) (rxDescClean (patch (patch desc 29 [oct n.seq]) 30
      (leOct 2 (setBit (setBit (leAt desc 30 2) 15 true) 12 (d.grp g).gap)))))
    (hx : x = (e.ringDev r + 1) % 65536) :
    d.mergeWrite g = (((((e.wr (ringKey r 5) x).wr (ringKey r 6) x).setGrp g (fun x => { x with gap := false })).ringCount r
      false).headPast g 1 |>.grpAdvance g).heldRelease := by
  have named : ¬48 ≤ r := by
    rw [hr, rxRing]
    omega
  simp only [Dev.mergeWrite, hnums, hst, ← hr, hon, haccepts, hreach, named, decide_false, Bool.not_true, Bool.or_self, Bool.false_eq_true,
    if_false, ← he, ← hx]

/-- The head number that waits too long is skipped (13 R469). -/
theorem Dev.mergeTimeout_of_waiting {d e : Dev} {g slot t : Nat} {n : SeqNum} {l : List SeqNum} (hnums : (d.grp g).nums = n :: l)
    (hst : n.st = .out (some (slot, t))) (hon : d.on dCLS = true) (hheld : d.slotReleased n.ring slot = false)
    (he : e = d.advanceTo (max t (d.grp g).headAt + d.rd (grpKey g 5) * 100)) :
    d.mergeTimeout g = (((((e.setNum g n.seq (fun n => { n with st := .skipped })).setGrp g (fun x =>
      { x with late := x.late ++ [(n.ring, slot)] })).inc (grpKey g 8)).fire 66).grpAdvance g).heldRelease := by
  have waited : d.afterUs (max t (d.grp g).headAt) (d.rd (grpKey g 5)) = e := he.symm
  simp only [Dev.mergeTimeout, hnums, hst, hon, hheld, Bool.not_false, Bool.and_self, if_true, waited, Dev.numSkip]

/-- A stopping group whose last number has passed stops (13 R471). -/
theorem Dev.grpStopped_of_empty {d : Dev} {g : Nat} (hrun : d.rd (grpKey g 1) = 2) (hnums : (d.grp g).nums = []) :
    d.grpStopped g = (((d.wr (grpKey g 1) 0).wr (grpKey g 6) 0).wr (grpKey g 7) 0).setGrp g (fun x => { Grp.idle with late := x.late }) := by
  simp only [Dev.grpStopped, hrun, hnums, List.isEmpty_nil, decide_true, Bool.and_self, if_true]

/-- Settles O38: each event of the merge stage by its lemma above, a command by the effect of its write of GRP_RUN. -/
theorem mergeCommandsComplete : Obligations.MergeCommandsComplete := by
  unfold Obligations.MergeCommandsComplete
  refine ⟨?release, ?write, ?timeout, ?start, ?stop, ?stopped⟩
  case release =>
    intro q d e e' g slot t n ss x hg hss hon hlate hnums hst he _ hreleased hreach hread
    rw [exec_mergeRelease]
    exact State.run_eq (Bool.and_eq_true_iff.2 ⟨decide_eq_true hg, hss⟩)
      (Dev.mergeRelease_of_one hon hlate hnums hst he hreleased hreach hread)
  case write =>
    intro q d g n t desc hg hnums hst hon hring haccepts hreach
    rw [exec_mergeWrite]
    exact State.run_eq (decide_eq_true hg) (Dev.mergeWrite_of_released hnums hst hon hring rfl haccepts hreach rfl rfl)
  case timeout =>
    intro q d e g slot t n l hg hnums hst hon hheld he
    rw [exec_mergeTimeout]
    exact State.run_eq (decide_eq_true hg) (Dev.mergeTimeout_of_waiting hnums hst hon hheld he)
  case start =>
    rintro q d0 d g tm rfl hg htakes
    rw [exec_grpStart]
    exact State.run_eq (decide_eq_true hg) (Dev.hostPut_cls htakes (grpKey_run hg).1 (Dev.clsEffect_grpStart _ hg))
  case stop =>
    rintro q d0 d g tm rfl hg htakes hrun hnums
    rw [exec_grpStop]
    exact State.run_eq (decide_eq_true hg) (Dev.hostPut_cls htakes (grpKey_run hg).1 (Dev.clsEffect_grpStop hg hrun hnums))
  case stopped =>
    intro q d g hg hrun hnums
    rw [exec_grpStopped]
    exact State.run_eq (decide_eq_true hg) (Dev.grpStopped_of_empty hrun hnums)

end Sys2Proof.Machine
end

/-! ### CAN channels (14 R485-R493) -/

section
namespace Sys2Proof.Machine

/-- A host's write of an object of 14's channels that nothing refuses. -/
theorem Dev.hostPut_can {d : Dev} {k v : Nat} {tm : Timing} (h : d.hostTakes k v tm = true) (hk : k / 0x10000 = 0x50) :
    d.hostPut k v tm = (d.canEffect k v).answered [] :=
  Dev.hostPut_effect h (by omega) (by simp only [Dev.writeEffect, hk])

/-- The objects of a channel (14 Table 14.2). -/
theorem canKey_fields {c s : Nat} (hc : c < 2) (hs : s < 256) : canKey c s / 0x10000 = 0x50 ∧ canKey c s / 256 - 0x5000 = c
    ∧ canKey c s % 256 = s ∧ canKey c s < 0x740000 := by
  unfold canKey
  omega

/-- CAN_RUN 01h starts a stopped channel (14 R487). -/
theorem Dev.canEffect_start {d : Dev} {c : Nat} (hc : c < 2) (h : d.rd (canKey c 1) = 0) :
    d.canEffect (canKey c 1) 1 = (d.wr (canKey c 1) 1).canStart c := by
  obtain ⟨-, channel, object, -⟩ := canKey_fields hc (s := 1) (by decide)
  simp [Dev.canEffect, channel, object, h]

/-- CAN_RUN 00h stops a running channel once the frame on the bus has ended (14 R490). -/
theorem Dev.canEffect_stop {d : Dev} {c : Nat} (hc : c < 2) (h : d.rd (canKey c 1) = 1) :
    d.canEffect (canKey c 1) 0 = ((d.wr (canKey c 1) 0).setCan c (fun x => { x with stopping := true })).canStopNow c := by
  obtain ⟨-, channel, object, -⟩ := canKey_fields hc (s := 1) (by decide)
  simp [Dev.canEffect, channel, object, h]

/-- CAN_RECOVER starts recovery (14 R487). -/
theorem Dev.canEffect_recover (d : Dev) (v : Nat) {c : Nat} (hc : c < 2) : d.canEffect (canKey c 14) v = d.setCanState c 5 := by
  obtain ⟨-, channel, object, -⟩ := canKey_fields hc (s := 14) (by decide)
  simp [Dev.canEffect, channel, object]

/-! #### Transmission (14 R488-R491) -/

section
variable {d b : Dev} {c v : Nat} {t : CanTx} {ss : List Strike} {fail : Dev → Nat → Nat → Dev} (hsend : d.canCanSend c = true)
  (hfree : (d.can c).tx = none) (hb : b = (d.candOff (48 + 4 * c)).candOff (49 + 4 * c)) (hbest : bestCand (b.canCands c) = some (v, t))
  (hformat : t.msg.fdf = false ∨ b.rd (canKey c 6) ≠ 0)
include hsend hfree hb hbest hformat

/-- The frame of a ring that wins is sent with the data of its barges. -/
theorem Dev.canTxStart_of_ring {e : Dev} {x : Chain} {data : Oct} (hring : t.fromBridge = false) (hchain : b.chainOf t.ring t.start = some x)
    (hread : (b.strike ss).readPlaces (bargePlaces x.barges) = (data, [], e)) :
    d.canTxStart c ss fail = (let e := e.setChain t.ring t.start (fun x => { x with attempts := x.attempts + 1 })
      e.setCan c (fun x => { x with tx := some { t with
        msg := { t.msg with data := data }, ts := if e.on dTIME then some (e.stampAt 0 20) else none } })) := by
  have sendable : (t.msg.fdf && decide (b.rd (canKey c 6) = 0)) = false := by
    obtain h | h := hformat <;> simp [h]
  simp only [Dev.canTxStart, hsend, hfree, ← hb, hbest, sendable, hring, hchain, hread, Option.map_some, Option.getD_some,
    Option.isSome_none, List.isEmpty_nil, Bool.not_true, Bool.or_self, Bool.false_eq_true, if_false]

/-- The frame of the bridge that wins is sent, one attempt more made for it. -/
theorem Dev.canTxStart_of_bridge (hbridge : t.fromBridge = true) :
    d.canTxStart c ss fail = (b.setBrg (fun x => { x with outq := updAt x.outq c (fun q => updAt q 0 (fun m =>
      { m with attempts := m.attempts + 1 })) })).setCan c (fun x => { x with tx := some t }) := by
  have sendable : (t.msg.fdf && decide (b.rd (canKey c 6) = 0)) = false := by
    obtain h | h := hformat <;> simp [h]
  simp only [Dev.canTxStart, hsend, hfree, ← hb, hbest, sendable, hbridge, Option.isSome_none, Bool.not_true, Bool.or_self,
    Bool.false_eq_true, if_false, if_true]

end

/-- A classic frame of the bridge that is sent lowers the transmit count and leaves its queue (14 R487, R489). -/
theorem Dev.canTxEnd_of_sent {d : Dev} {c delay : Nat} {t : CanTx} {fail : Dev → Nat → Nat → Dev} (htx : (d.can c).tx = some t)
    (hbridge : t.fromBridge = true) (hclassic : t.msg.fdf = false) :
    d.canTxEnd c (.sent delay) fail = (let e := ((d.setCan c (fun x => { x with tx := none })).canCnt c 5).canCnt c 7 t.msg.data.length
      (((e.setErr c 11 (e.canTec c - 1)).errState c).popOut c).canStopNow c) := by
  simp only [Dev.canTxEnd, htx, hclassic, hbridge, Dev.canDelay, Bool.false_and, Bool.false_eq_true, if_false, if_true]

/-! #### Reception (14 R486, R492, R493) -/

/-- A frame received while the bridge runs waits for it (14 R492, R511). -/
theorem Dev.canRxFrame_of_bridge {d b x y e : Dev} {c : Nat} {f : CanFrame} {m : CanMsg} (hhears : d.canHears c f.sofAgo = true)
    (hformat : f.fdf = false ∨ d.rd (canKey c 6) ≠ 0) (hb : b = d.canRxGood c)
    (hm : m = ⟨f.id, f.ide, f.rtr, f.fdf, f.brs, f.esi, f.dlc, f.data, if b.on dTIME then some (b.stampAt f.sofAgo 20) else none⟩)
    (hx : x = (b.canCnt c 0).canCnt c 2 f.data.length) (hy : y = if f.fdf then x.canCnt c 1 else x)
    (he : e = if f.rtr then y.canCnt c 3 else y) (hruns : e.brgRuns = true) (hfew : e.canWaiting c < 4) :
    d.canRxFrame c f = e.setBrg (fun b => { b with inq := queueIn e.ck (.can c m) b.inq }) := by
  have readable : (f.fdf && decide (d.rd (canKey c 6) = 0)) = false := by
    obtain h | h := hformat <;> simp [h]
  have room : ¬4 ≤ e.canWaiting c := Nat.not_le.2 hfew
  simp only [Dev.canRxFrame, hhears, readable, ← hb, ← hm, ← hx, ← hy, ← he, hruns, room, Dev.brgEnter, Bool.not_true, Bool.false_eq_true,
    if_false, if_true]

/-! #### Fault confinement (14 R487) -/

/-- A change of CAN_STATE leaves what objects do not make up. -/
theorem Dev.setCanState_keeps {β : Type} {g : Dev → β} (hwr : ∀ (d : Dev) (k v : Nat), g (d.wr k v) = g d) (d : Dev) (c v : Nat) :
    g (d.setCanState c v) = g d := by
  unfold Dev.setCanState
  split
  · rfl
  · exact (Dev.fire_keeps hwr _ _).trans (hwr d _ _)

/-- A counter of a channel leaves what objects do not make up. -/
theorem Dev.canCnt_keeps {β : Type} {g : Dev → β} (hwr : ∀ (d : Dev) (k v : Nat), g (d.wr k v) = g d) (d : Dev) (c i n : Nat) :
    g (d.canCnt c i n) = g d := by
  unfold Dev.canCnt
  split
  · unfold Dev.halfFlag
    dsimp only
    split
    · exact (Dev.fire_keeps hwr _ _).trans ((hwr _ _ _).trans (hwr d _ _))
    · exact hwr d _ _
  · rfl

/-- A counter of a channel changes no object below 74_0000h. -/
theorem Dev.rd_canCnt_of_lt (d : Dev) (c i n : Nat) {k : Nat} (h : k < 0x740000) : (d.canCnt c i n).rd k = d.rd k := by
  unfold Dev.canCnt
  split
  · rw [Dev.rd_halfFlag_of_lt _ _ _ _ h, Dev.rd_wr_other _ _ (by omega)]
  · rfl

/-- A change of CAN_STATE changes no other object of the channels. -/
theorem Dev.rd_setCanState_other (d : Dev) (c v : Nat) {k : Nat} (hne : k ≠ canKey c 10) (h : k < 0x740000) :
    (d.setCanState c v).rd k = d.rd k := by
  unfold Dev.setCanState
  split
  · rfl
  · rw [Dev.rd_fire_of_lt _ _ h, Dev.rd_wr_other _ _ hne]

/-- Past the limit a channel with nothing to send enters bus-off, and stays there without automatic recovery. -/
theorem Dev.canBusOff_of_idle {d : Dev} {c : Nat} {fail : Dev → Nat → Nat → Dev} (hc : c < 2) (hlimit : (d.can c).pastLimit = true)
    (hon : d.on dCAN = true) (hring0 : (d.ring (48 + 4 * c)).chains = []) (hring1 : (d.ring (49 + 4 * c)).chains = [])
    (hout : d.brg.outq.getD c [] = []) (hstay : d.rd (canKey c 8) ≠ 1) :
    d.canBusOff c fail = (((d.setCan c (fun x => { x with pastLimit := false })).setCanState c 4).inc (canKey c 16)).canCnt c 15 := by
  obtain ⟨e, he⟩ : ∃ e, e = (((d.setCan c (fun x => { x with pastLimit := false })).setCanState c 4).inc (canKey c 16)).canCnt c 15 := ⟨_, rfl⟩
  have kept {β : Type} (g : Dev → β) (hwr : ∀ (d : Dev) (k v : Nat), g (d.wr k v) = g d)
      (hcan : ∀ (d : Dev) (f : Can → Can), g (d.setCan c f) = g d) : g e = g d := by
    rw [he, Dev.canCnt_keeps hwr, Dev.inc, Dev.add, hwr, Dev.setCanState_keeps hwr, hcan]
  have rings : e.rings = d.rings := kept Dev.rings Dev.wr_rings fun d f => d.setCan_rings c f
  have brg : e.brg = d.brg := kept Dev.brg Dev.wr_brg fun d f => d.setCan_brg c f
  have below := (canKey_fields hc (s := 8) (by decide)).2.2.2
  have recovery : e.rd (canKey c 8) = d.rd (canKey c 8) := by
    rw [he, Dev.rd_canCnt_of_lt _ _ _ _ below, Dev.rd_inc_other _ (by unfold canKey; omega), Dev.rd_setCanState_other _ _ _ (by unfold canKey; omega) below,
      Dev.setCan_rd]
  have noChain : e.openChain (48 + 4 * c) = none ∧ e.openChain (49 + 4 * c) = none := by
    simp only [Dev.openChain, Dev.ring, rings]
    exact ⟨congrArg _ hring0, congrArg _ hring1⟩
  have next : 48 + 4 * c + 1 = 49 + 4 * c := by omega
  rw [← he]
  simp only [Dev.canBusOff, hlimit, hon, Bool.not_true, Bool.or_self, Bool.false_eq_true, if_false, ← he, forEach, List.foldl_cons,
    List.foldl_nil, Nat.add_zero, next, noChain.1, noChain.2, brg, hout, recovery, hstay]

/-- Recovery ends error active with the counts at 0. -/
theorem Dev.canRecovered_of_recovering {d : Dev} {c : Nat} (hon : d.on dCAN = true) (hrun : d.canRun c = true) (hstate : d.canState c = 5) :
    d.canRecovered c = ((d.setErr c 11 0).setErr c 12 0).setCanState c 2 := by
  simp [Dev.canRecovered, hon, hrun, hstate]

/-- Integration ends error active. -/
theorem Dev.canIntegrated_of_integrating {d : Dev} {c : Nat} (hon : d.on dCAN = true) (hrun : d.canRun c = true) (hstate : d.canState c = 1) :
    d.canIntegrated c = d.setCanState c 2 := by
  simp [Dev.canIntegrated, hon, hrun, hstate]

/-- A receiver's error is noted and counted. -/
theorem Dev.canRxError_of_active {d : Dev} {c k : Nat} {p8 : Bool} (hon : d.on dCAN = true) (hstate : d.canState c = 2 ∨ d.canState c = 3) :
    d.canRxError c k p8 = ((d.noteErr c k).setErr c 12 (d.canRec c + if p8 then 8 else 1)).errState c := by
  have active : (d.on dCAN && (decide (d.canState c = 2) || decide (d.canState c = 3))) = true := by
    obtain h | h := hstate <;> simp [hon, h]
  simp only [Dev.canRxError, active, if_true]

/-- Settles O39: a host's command is a write of an object of its channel (`hostPut_can`), each event of the bus its lemma above. -/
theorem canCommandsComplete : Obligations.CanCommandsComplete := by
  unfold Obligations.CanCommandsComplete
  refine ⟨?start, ?stop, ?txRing, ?txBridge, ?sent, ?received, ?busOff, ?recover, ?recovered, ?integrated, ?rxError⟩
  case start =>
    rintro q d0 d c tm rfl hc htakes hrun
    rw [exec_canStart]
    refine State.run_eq (decide_eq_true hc) ?_
    rw [Dev.hostPut_can htakes (canKey_fields hc (by decide)).1, Dev.canEffect_start hc hrun, Dev.canStart]
  case stop =>
    rintro q d0 d c tm rfl hc htakes hrun
    rw [exec_canStop]
    refine State.run_eq (decide_eq_true hc) ?_
    rw [Dev.hostPut_can htakes (canKey_fields hc (by decide)).1, Dev.canEffect_stop hc hrun]
  case txRing =>
    intro q d b e c v t ss x data hc hss hsend hfree hb hbest hformat hring hchain hread
    rw [exec_canTxStart]
    exact State.run_eq (Bool.and_eq_true_iff.2 ⟨decide_eq_true hc, hss⟩)
      (Dev.canTxStart_of_ring hsend hfree hb hbest hformat hring hchain hread)
  case txBridge =>
    intro q d b c v t ss hc hss hsend hfree hb hbest hformat hbridge
    rw [exec_canTxStart]
    exact State.run_eq (Bool.and_eq_true_iff.2 ⟨decide_eq_true hc, hss⟩)
      (Dev.canTxStart_of_bridge hsend hfree hb hbest hformat hbridge)
  case sent =>
    intro q d c delay t hc htx hbridge hclassic
    rw [exec_canTxEnd]
    exact State.run_eq (Bool.and_eq_true_iff.2 ⟨decide_eq_true hc, rfl⟩) (Dev.canTxEnd_of_sent htx hbridge hclassic)
  case received =>
    intro q d b x y e c f m hc hok hhears hformat hb hm hx hy he hruns hfew
    rw [exec_canRxFrame]
    exact State.run_eq (Bool.and_eq_true_iff.2 ⟨decide_eq_true hc, hok⟩)
      (Dev.canRxFrame_of_bridge hhears hformat hb hm hx hy he hruns hfew)
  case busOff =>
    intro q d c hc hlimit hon hring0 hring1 hout hstay
    rw [exec_canBusOff]
    exact State.run_eq (decide_eq_true hc) (Dev.canBusOff_of_idle hc hlimit hon hring0 hring1 hout hstay)
  case recover =>
    rintro q d0 d c tm rfl hc htakes
    rw [exec_canRecover]
    refine State.run_eq (decide_and_decide hc (by decide)) ?_
    rw [Dev.hostPut_can htakes (canKey_fields hc (by decide)).1, Dev.canEffect_recover _ 1 hc]
  case recovered =>
    intro q d c hc hon hrun hstate
    rw [exec_canBusOffRecovered]
    exact State.run_eq (decide_eq_true hc) (Dev.canRecovered_of_recovering hon hrun hstate)
  case integrated =>
    intro q d c hc hon hrun hstate
    rw [exec_canIntegrationEnd]
    exact State.run_eq (decide_eq_true hc) (Dev.canIntegrated_of_integrating hon hrun hstate)
  case rxError =>
    intro q d c k p8 hc hok hon hstate
    rw [exec_canRxError]
    exact State.run_eq (Bool.and_eq_true_iff.2 ⟨decide_eq_true hc, hok⟩) (Dev.canRxError_of_active hon hstate)

end Sys2Proof.Machine
end

/-! ### The bridge (14 R494-R511) -/

section
namespace Sys2Proof.Machine

/-- A host's write of BRG_RUN that nothing refuses (14 R494). -/
theorem Dev.hostPut_brg {d : Dev} {k v : Nat} {tm : Timing} (h : d.hostTakes k v tm = true) (hk : k / 0x10000 = 0x54) :
    d.hostPut k v tm = (d.brgEffect k v).answered [] :=
  Dev.hostPut_effect h (by omega) (by simp only [Dev.writeEffect, hk])

@[simp] theorem Dev.tick_brg (d : Dev) (n : Nat) : (d.tick n).brg = d.brg :=
  Dev.tick_keeps (g := Dev.brg) Dev.wr_brg Dev.setMac_brg (fun _ _ => (apply_ite Dev.brg ..).trans (ite_self _)) d n

/-- A bridge that runs is ON. -/
theorem Dev.on_of_brgRuns {d : Dev} (h : d.brgRuns = true) : d.on dBRG = true :=
  (Bool.and_eq_true_iff.1 h).1

/-- A running bridge routes a CAN frame that waits (14 R494, R511). -/
theorem Dev.bridgeInput_of_can {d e : Dev} {c at_ : Nat} {m : CanMsg} {t : List (Nat × BrgIn)} (hruns : d.brgRuns = true)
    (hinq : d.brg.inq = (at_, .can c m) :: t) (he : e = ((d.advanceTo d.brg.ready).setBrg (fun b => { b with inq := t })).brgSpend 8) :
    d.bridgeInput = e.route c m (fun e => e.canDefault c m) := by
  simp only [Dev.bridgeInput, hinq, Dev.on_of_brgRuns hruns, hruns, Bool.true_or, Bool.not_true, Bool.or_self, Bool.false_eq_true, if_false, ← he]

/-- BRG_RUN 01h begins the periods (14 R506, R514). -/
theorem Dev.brgEffect_run {d : Dev} (h : d.rd 0x540001 = 0) :
    d.brgEffect 0x540001 1 = (d.wr 0x540001 1).setBrg (fun b => { b with oms := b.oms.map (fun o => { o with period := d.ck }) }) := by
  simp [Dev.brgEffect, h]

/-- BRG_RUN 00h drains the inputs (14 R493). -/
theorem Dev.brgEffect_stop {d : Dev} (h : d.rd 0x540001 = 1) : d.brgEffect 0x540001 0 = (d.wr 0x540001 0).brgDrain := by
  simp [Dev.brgEffect, h]

/-- An output message is sent at its period (14 R506). -/
theorem Dev.omPeriod_of_runs {d e : Dev} {o per : Nat} (hruns : d.brgRuns = true) (hper : leAt (d.outMsgs.getD o []) 8 2 = per) (hpos : per ≠ 0)
    (he : e = d.advanceTo ((d.om o).period + per * 100000)) :
    d.omPeriod o = (e.setOm o (fun x => { x with period := (d.om o).period + per * 100000 })).omSend o := by
  subst he
  simp only [Dev.omPeriod, hper, hruns, hpos, decide_false, Bool.not_true, Bool.or_self, Bool.false_eq_true, if_false, ckPerMs]

/-- A deferred output message is sent as its gap ends (14 R506). -/
theorem Dev.omGap_of_deferred {d e : Dev} {o t : Nat} (hruns : d.brgRuns = true) (hdeferred : (d.om o).deferred = true)
    (hlast : (d.om o).last = some t) (he : e = d.advanceTo (t + leAt (d.outMsgs.getD o []) 10 2 * 100000)) :
    d.omGap o = e.omNow o := by
  have ended : d.afterMs t (leAt (d.outMsgs.getD o []) 10 2) = e := he.symm
  simp only [Dev.omGap, hruns, hdeferred, Bool.and_self, if_true, hlast, Option.getD_some, ended]

/-- An old signal is stale (14 R508). -/
theorem Dev.sigStale_of_old {d e : Dev} {k : Nat} {s : SigC} (hsig : d.sigC k = some s) (htime : octAt (d.signals.getD k []) 13 ≠ 0)
    (hfresh : s.stale = false) (hon : d.on dBRG = true)
    (he : e = d.advanceTo (s.since + 10 * octAt (d.signals.getD k []) 13 * 100000)) :
    d.sigStale k = ((e.putSig { s with stale := true }).inc 0x581003).fire 73 := by
  have later : d.afterMs s.since (10 * octAt (d.signals.getD k []) 13) = e := he.symm
  simp only [Dev.sigStale, hsig, htime, hfresh, hon, decide_false, Bool.not_true, Bool.or_self, Bool.false_eq_true, if_false, later]

/-- A signal's entry of the cache lies among the objects of the cache, which are no table images. -/
theorem cache_range {k : Nat} (hk : k < 512) : cacheIdx k / 256 = 0x5A ∧ cacheSub k ≠ 0 ∧ 128 * (cacheIdx k - 0x5A00) + cacheSub k - 1 = k := by
  unfold cacheIdx cacheSub
  omega

theorem imgOf_cacheIdx : ∀ i < 4, imgOf (0x5A00 + i) = none := by decide +kernel

/-- A read of the cache that passes its checks goes on in the bridge (14 R509). -/
theorem Dev.dictRead_cache {d : Dev} {k : Nat} (hk : k < 512) (h : d.readAbort 0 (cacheIdx k) (cacheSub k) 0 0 = none) :
    d.dictRead 0 (cacheIdx k) (cacheSub k) 0 0 = .pend d := by
  have noImage : imgOf (cacheIdx k) = none := imgOf_cacheIdx (k / 128) (by omega)
  obtain ⟨cache, entry, -⟩ := cache_range hk
  simp [Dev.dictRead, h, Dev.readNow, noImage, cache, entry]

/-- A host's read of the cache is answered RETRY, and its slot is READY at once for a signal that no fetch brings (14 R509). -/
theorem Dev.hostRead_cache {d e : Dev} {k s : Nat} {tm : Timing} (hk : k < 512) (htakes : d.linkTakes tm = true) (hs : d.freeSlot = some s)
    (h : d.readAbort 0 (cacheIdx k) (cacheSub k) 0 0 = none) (he : e = d.retry s 0x11 0xFF (cacheIdx k) (cacheSub k) none)
    (hlocal : (leAt (e.signals.getD k []) 14 2).testBit 15 = false) :
    d.hostRead (cacheIdx k) (cacheSub k) 0 0 tm = e.resolve 0 (cacheIdx k) (cacheSub k) (.ok (leOct 2 16 ++ leOct 16 (e.cacheEntry k))) := by
  simp only [Dev.linkTakes, Bool.and_eq_true, Bool.not_eq_eq_eq_not, Bool.not_true] at htakes
  obtain ⟨⟨hup, hfree⟩, -⟩ := htakes
  simp only [Dev.hostRead, Dev.hostCmd_of_up _ hup, hfree, Bool.false_eq_true, if_false, Dev.dictRead_cache hk h, Dev.hostDict, hs, ← he,
    (cache_range hk).2.2, Dev.cacheRead, hlocal, Bool.not_false, if_true, Dev.cacheRes]

/-- A fetch that hears nothing ends with the abort of its readers (14 R510, Table 14.9). -/
theorem Dev.fetchTimeout_of_fetch {d e : Dev} {k : Nat} {f : Fetch} (hf : d.brg.fetches.find? (fun f => f.sig == k) = some f)
    (he : e = d.advanceTo (f.since + d.rd 0x540006 * 100000)) :
    d.fetchTimeout k = ((e.inc 0x581004).fire 74).fetchEnd k (.abort 0x0602 0x0601) := by
  have later : d.afterMs f.since (d.rd 0x540006) = e := he.symm
  have waits : e.brg.fetches.any (fun f => f.sig == k) = true := by
    rw [he, Dev.advanceTo, Dev.tick_brg]
    exact List.any_eq_true.2 ⟨f, List.mem_of_find?_eq_some hf, List.find?_some (p := fun f : Fetch => f.sig == k) hf⟩
  simp only [Dev.fetchTimeout, hf, later, Dev.fetchFail, waits, if_true]

/-- Settles O40: BRG_RUN is written by `hostPut_brg`, the cache read by `hostRead_cache`, each event of the bridge has its lemma. -/
theorem bridgeCommandsComplete : Obligations.BridgeCommandsComplete := by
  unfold Obligations.BridgeCommandsComplete
  refine ⟨?input, ?run, ?stop, ?period, ?gap, ?stale, ?cacheRead, ?fetchTimeout⟩
  case input =>
    intro q d e c at_ m t hruns hinq he
    rw [exec_bridgeInput]
    exact State.run_eq rfl (Dev.bridgeInput_of_can hruns hinq he)
  case run =>
    rintro q d0 d tm rfl htakes hrun
    rw [exec_brgRun]
    exact State.run_eq rfl (by rw [Dev.hostPut_brg htakes (by decide), Dev.brgEffect_run hrun])
  case stop =>
    rintro q d0 d tm rfl htakes hrun
    rw [exec_brgRun]
    exact State.run_eq rfl (by rw [Dev.hostPut_brg htakes (by decide), Dev.brgEffect_stop hrun])
  case period =>
    intro q d e o per ho hruns hper hpos he
    rw [exec_omPeriodExpiry]
    exact State.run_eq (decide_eq_true ho) (Dev.omPeriod_of_runs hruns hper hpos he)
  case gap =>
    intro q d e o t ho hruns hdeferred hlast he
    rw [exec_omGapExpiry]
    exact State.run_eq (decide_eq_true ho) (Dev.omGap_of_deferred hruns hdeferred hlast he)
  case stale =>
    intro q d e k s hk hsig htime hfresh hon he
    rw [exec_signalStale]
    exact State.run_eq (decide_eq_true hk) (Dev.sigStale_of_old hsig htime hfresh hon he)
  case cacheRead =>
    rintro q d0 d k s tm rfl hk htakes hs h e he hlocal
    rw [exec_brgCacheRead]
    exact State.run_eq (decide_eq_true hk) (Dev.hostRead_cache hk htakes hs h he hlocal)
  case fetchTimeout =>
    intro q d e k f hk hf he
    rw [exec_fetchTimeout]
    exact State.run_eq (decide_eq_true hk) (Dev.fetchTimeout_of_fetch hf he)

end Sys2Proof.Machine
end


/-! ### Writes of Towpath's objects, and its sessions (15 R522-R532, R535) -/
section
namespace Sys2Proof.Machine

/-! #### Writes of Towpath's objects -/

/-- A host's write of an object of Towpath is answered when its effect is there (15 Table 15.9). -/
theorem Dev.hostPut_tow {d e : Dev} {k v : Nat} {tm : Timing} (h : d.hostTakes k v tm = true) (hk : k / 0x10000 = 0x60)
    (he : d.towEffect 0 k v = .ok e) : d.hostPut k v tm = e.answered [] :=
  Dev.hostPut_effect h (by omega) (by simp only [Dev.writeEffect, hk, he])

/-- The objects of the peers lie in Towpath's unit (15 Table 15.9). -/
theorem peerKey_range {n s : Nat} (hn : n < 16) (hs : s < 256) :
    peerKey n s / 0x10000 = 0x60 ∧ peerKey n s / 256 = 0x6020 + n ∧ peerKey n s % 256 = s ∧ 0x602000 ≤ peerKey n s := by
  unfold peerKey
  omega

/-- TOW_RUN 01h claims the scratch barges and opens the sessions (15 R522, R535). -/
theorem Dev.towEffect_start {d : Dev} (hrun : d.rd 0x600001 = 0) (hfree : d.claimBlock d.scratchClaims = none) :
    d.towEffect 0 0x600001 1 = .ok (((d.takeClaims d.scratchClaims).wr 0x600001 1).sessStart) := by
  simp [Dev.towEffect, hrun, hfree]

/-- TOW_RUN 00h ends what runs (15 R535). -/
theorem Dev.towEffect_stop {d : Dev} (hrun : d.rd 0x600001 = 1) : d.towEffect 0 0x600001 0 = .ok d.towStop := by
  simp [Dev.towEffect, hrun]

/-- The write of PEER_ENABLE reaches its own branch. -/
theorem Dev.towEffect_peer (d : Dev) {n : Nat} (v : Nat) (hn : n < 16) :
    d.towEffect 0 (peerKey n 1) v = if v = d.rd (peerKey n 1) then .ok d
      else if v = 0 then .ok ((d.wr (peerKey n 1) 0).sessEnd n)
      else .ok (if (d.wr (peerKey n 1) 1).rd 0x600001 = 1 then (d.wr (peerKey n 1) 1).sessOpening n else d.wr (peerKey n 1) 1) := by
  obtain ⟨-, hidx, hsub, hlow⟩ := peerKey_range (s := 1) hn (by decide)
  have other : peerKey n 1 ≠ 0x600001 := by omega
  have low : 0x6020 ≤ 0x6020 + n := Nat.le_add_right ..
  have high : 0x6020 + n < 0x6030 := by omega
  simp only [Dev.towEffect, hidx, hsub, if_neg other, decide_eq_true low, decide_eq_true high, decide_true, Bool.and_self, if_true,
    Nat.add_sub_cancel_left]

/-- PEER_ENABLE 01h opens a session while Towpath runs (15 R522). -/
theorem Dev.towEffect_peerOn {d : Dev} {n : Nat} (hn : n < 16) (hoff : d.rd (peerKey n 1) = 0) (hrun : d.rd 0x600001 = 1) :
    d.towEffect 0 (peerKey n 1) 1 = .ok ((d.wr (peerKey n 1) 1).sessOpening n) := by
  have runs : (d.wr (peerKey n 1) 1).rd 0x600001 = 1 :=
    (Dev.rd_wr_other d 1 (by unfold peerKey; omega)).trans hrun
  rw [Dev.towEffect_peer d 1 hn, hoff, if_neg (by decide), if_neg (by decide), if_pos runs]

/-- PEER_ENABLE 00h ends the session (15 R522). -/
theorem Dev.towEffect_peerOff {d : Dev} {n : Nat} (hn : n < 16) (hon : d.rd (peerKey n 1) = 1) :
    d.towEffect 0 (peerKey n 1) 0 = .ok ((d.wr (peerKey n 1) 0).sessEnd n) := by
  rw [Dev.towEffect_peer d 0 hn, hon, if_neg (by decide), if_pos rfl]

/-! #### The timers of a session (15 R523, R525, R526, R530, R531) -/

/-- A session that is OPEN while Towpath runs. -/
theorem Dev.open_of_state {d : Dev} {n s : Nat} (hon : d.towOn = true) (hstate : d.peerState n = s) :
    (d.towOn && decide (d.peerState n = s)) = true := by
  rw [hon, decide_eq_true hstate, Bool.true_and]

/-- TOW_HELLO_MS passes in OPENING (15 R523). -/
theorem Dev.helloTimer_of_opening {d e : Dev} {n : Nat} (hon : d.towOn = true) (hstate : d.peerState n = 1)
    (he : e = d.advanceTo ((d.sess n).helloAt + d.rd 0x60000B * 100000)) :
    d.helloTimer n = (e.setSess n (fun s => { s with helloAt := e.ck })).sendHello n := by
  have ended : d.afterMs (d.sess n).helloAt (d.rd 0x60000B) = e := he.symm
  simp only [Dev.helloTimer, Dev.open_of_state hon hstate, if_true, ended]

/-- TOW_ACK_DELAY ends with an ACK frame (15 R530). -/
theorem Dev.ackDelay_of_due {d e : Dev} {n t : Nat} (hdue : (d.sess n).ackDue = some t) (hon : d.towOn = true)
    (hstate : d.peerState n = 2) (he : e = d.advanceTo (t + d.rd 0x60000C * 100)) : d.ackDelay n = e.sendAck n := by
  have ended : d.afterUs t (d.rd 0x60000C) = e := he.symm
  simp only [Dev.ackDelay, hdue, Dev.open_of_state hon hstate, if_true, ended]

/-- TOW_DEAD_MS without a frame loses the session (15 R525). -/
theorem Dev.deadTimeout_of_open {d e : Dev} {n : Nat} (hon : d.towOn = true) (hstate : d.peerState n = 2)
    (he : e = d.advanceTo ((d.sess n).lastRx + d.rd 0x60000A * 100000)) : d.deadTimeout n = e.sessLost n 3 := by
  have ended : d.afterMs (d.sess n).lastRx (d.rd 0x60000A) = e := he.symm
  simp only [Dev.deadTimeout, Dev.open_of_state hon hstate, if_true, ended]

/-- A quarter of TOW_DEAD_MS without a frame sent makes an ACK frame (15 R526). -/
theorem Dev.keepalive_of_open {d e : Dev} {n : Nat} (hon : d.towOn = true) (hstate : d.peerState n = 2)
    (he : e = d.advanceTo ((d.sess n).lastTx + d.rd 0x60000A * 100000 / 4)) : d.keepalive n = e.sendAck n := by
  simp only [Dev.keepalive, Dev.open_of_state hon hstate, if_true, ← he]

/-- TOW_RTO passes: the run of time-outs grows, the session is lost at the limit, or all is sent again (15 R525, R531). -/
theorem Dev.rtoExpiry_of_open {d b : Dev} {n : Nat} {f : TowFrame} {fs : List TowFrame} (hun : (d.sess n).unacked = f :: fs)
    (hon : d.towOn = true) (hstate : d.peerState n = 2) (hb : b = (d.advanceTo (f.sentAt + d.rd 0x600008 * 100)).towStat 1) :
    d.rtoExpiry n =
      (let e := b.setSess n (fun s => { s with run := (b.sess n).run + 1 })
       let e := if (b.sess n).run + 1 = (e.rd 0x600009 + 1) / 2 then e.fire 79 else e
       if e.rd 0x600009 ≤ (b.sess n).run + 1 then e.sessLost n 2
       else
         let g := forEach (e.sess n).unacked e (fun f e => e.resend n f)
         g.setSess n (fun s => { s with unacked := s.unacked.map (fun f => { f with sentAt := g.ck }) })) := by
  have waits : (!d.towOn || decide (d.peerState n ≠ 2)) = false := by simp [hon, hstate]
  have ended : (d.afterUs f.sentAt (d.rd 0x600008)).towStat 1 = b := hb.symm
  simp only [Dev.rtoExpiry, hun, waits, Bool.false_eq_true, if_false, ended]

/-! #### Received frames (15 R523, R524, R529-R534) -/

/-- The head of the inbox, when it is of the kind asked for (15 R529). -/
theorem Dev.towHead_of_kind {d : Dev} {kind p : Nat} {l : Oct} {t : List (Nat × Oct)} (hin : d.tow.inbox = (p, l) :: t)
    (hon : d.towOn = true) (hkind : d.towKind l = kind) (hpos : kind ≠ 0) :
    d.towHead kind = (some (p, l), d.setTow (fun x => { x with inbox := t })) := by
  simp only [Dev.towHead, hin, hon, hkind, hpos, Bool.not_true, Bool.false_eq_true, if_false, if_true]

/-- A change of Towpath's own state leaves the objects that name a peer. -/
@[simp] theorem Dev.peerOfNode_setTow (d : Dev) (f : TowU → TowU) (node : Nat) : (d.setTow f).peerOfNode node = d.peerOfNode node := rfl

/-- The own epoch stays when the peer's is written beside it (15 R523). -/
theorem Dev.ownEpoch_wr (d : Dev) (n src : Nat) : (d.wr (peerKey n 7) (d.ownEpoch n + 65536 * src)).ownEpoch n = d.ownEpoch n := by
  rw [Dev.ownEpoch, Dev.rd_wr_same, Nat.add_mul_mod_self_left, Dev.ownEpoch, Nat.mod_mod]

/-- A new state of a peer takes no time. -/
@[simp] theorem Dev.setPeer_ck (d : Dev) (n v : Nat) : (d.setPeer n v).ck = d.ck := by
  unfold Dev.setPeer
  split
  · rfl
  · rw [Dev.latch_keeps (g := Dev.ck) (fun _ _ => rfl) (fun _ _ _ _ => rfl) (fun _ => rfl) (fun _ _ => rfl), Dev.fire_keeps Dev.wr_ck, Dev.wr_ck]

/-- A HELLO that names the own epoch opens the session (15 R523). -/
theorem Dev.helloRx_of_own {d c : Dev} {p n : Nat} {l : Oct} {t : List (Nat × Oct)} (hin : d.tow.inbox = (p, l) :: t)
    (hon : d.towOn = true) (hkind : d.towKind l = 3) (hpeer : d.peerOfNode (octAt l (towAt l + 2)) = some n)
    (hc : c = (d.setTow (fun x => { x with inbox := t })).heard n) (hstate : c.peerState n = 1)
    (hepoch : leAt l (towAt l + 8) 2 = c.ownEpoch n) :
    d.helloRx = (((((c.wr (peerKey n 7) (c.ownEpoch n + 65536 * leAt l (towAt l + 6) 2)).setSeqs n 0 0).setPeer n 2).setSess n
      (fun s => { s with lastRx := c.ck, run := 0, ackDue := none })).sendHello n).towPump n 8 := by
  have stays : (if (decide (c.peerState n = 2) && decide (leAt l (towAt l + 6) 2 ≠ c.peerEpoch n)) = true then c.sessLost n 1 else c)
      = c := by simp [hstate]
  simp only [Dev.helloRx, Dev.towHead_of_kind hin hon hkind (by decide), Dev.peerOfNode_setTow, hpeer, ← hc, stays, Dev.ownEpoch_wr]
  simp only [hstate, hepoch, if_true, Dev.setPeer_ck]
  rfl

/-- The next DATA frame in order takes barges, its place in the lane and the next number (15 R529, R533, R534). -/
theorem Dev.dataRx_of_next {d c e d' : Dev} {p n : Nat} {l b : Oct} {t : List (Nat × Oct)} {bs : List Nat}
    (hin : d.tow.inbox = (p, l) :: t) (hon : d.towOn = true) (hkind : d.towKind l = 1)
    (hpeer : d.peerOfNode (octAt l (towAt l + 2)) = some n) (hc : c = (d.setTow (fun x => { x with inbox := t })).heard n)
    (hstate : c.peerState n = 2) (hepochs : c.epochsOk n l = true) (he : e = c.ackTaken n (leAt l (towAt l + 12) 2))
    (hb : b = sub l (towAt l + 16) (leAt l (towAt l + 14) 2)) (hseq : sub16 (leAt l (towAt l + 10) 2) (e.nextExp n) = 0)
    (hpm : e.on dPM0 = true) (hroom : (e.lane p).ops.length < 8) (halloc : e.towAlloc n (b.drop 16).length = (some bs, d')) :
    d.dataRx =
      (let f := (d'.fillBarges bs (b.drop 16)).scratchWrite p (sub l (towAt l) 32)
       let f := f.setLane p (fun x =>
         { x with ops := x.ops ++ [⟨n, f.ownEpoch n, b.take 16, b.drop 16, bs, (f.win (opWin b)).closing, false, none⟩] })
       let f := f.setSeqs n (f.nextSend n) (f.nextExp n + 1)
       f.setSess n (fun s => { s with ackDue := some (s.ackDue.getD f.ck) })) := by
  have taken : (decide (c.peerState n ≠ 2) || !c.epochsOk n l) = false := by simp [hstate, hepochs]
  simp only [Dev.dataRx, Dev.towHead_of_kind hin hon hkind (by decide), Dev.peerOfNode_setTow, hpeer, ← hc, taken, Bool.false_eq_true,
    if_false, ← he, ← hb, hseq, if_true, hpm, if_neg (Nat.not_le.2 hroom), halloc]

/-- An ACK frees what it acknowledges (15 R531). -/
theorem Dev.ackRx_of_open {d e : Dev} {p n : Nat} {l : Oct} {t : List (Nat × Oct)} (hin : d.tow.inbox = (p, l) :: t)
    (hon : d.towOn = true) (hkind : d.towKind l = 2) (hpeer : d.peerOfNode (octAt l (towAt l + 2)) = some n)
    (he : e = (d.setTow (fun x => { x with inbox := t })).heard n) (hstate : e.peerState n = 2) (hepochs : e.epochsOk n l = true) :
    d.ackRx = e.ackTaken n (leAt l (towAt l + 12) 2) := by
  have taken : (decide (e.peerState n ≠ 2) || !e.epochsOk n l) = false := by simp [hstate, hepochs]
  simp only [Dev.ackRx, Dev.towHead_of_kind hin hon hkind (by decide), Dev.peerOfNode_setTow, hpeer, ← he, taken, Bool.false_eq_true,
    if_false]

/-- Settles O41: TOW_RUN and PEER_ENABLE are writes whose effect is named; each frame and each timer of a session has its lemma. -/
theorem sessionCommandsComplete : Obligations.SessionCommandsComplete := by
  unfold Obligations.SessionCommandsComplete
  refine ⟨?start, ?stop, ?peerOn, ?peerOff, ?hello, ?helloRx, ?dataRx, ?ackRx, ?ackDelay, ?rto, ?dead, ?keepalive⟩
  case start =>
    rintro q d0 d tm rfl htakes hrun hfree
    rw [exec_towStart]
    exact State.run_eq rfl (Dev.hostPut_tow htakes (by decide) (Dev.towEffect_start hrun hfree))
  case stop =>
    rintro q d0 d tm rfl htakes hrun
    rw [exec_towStop]
    exact State.run_eq rfl (Dev.hostPut_tow htakes (by decide) (Dev.towEffect_stop hrun))
  case peerOn =>
    rintro q d0 d n tm rfl hn htakes hoff hrun
    rw [exec_peerEnable]
    exact State.run_eq (decide_and_decide hn (by decide))
      (Dev.hostPut_tow htakes (peerKey_range hn (by decide)).1 (Dev.towEffect_peerOn hn hoff hrun))
  case peerOff =>
    rintro q d0 d n tm rfl hn htakes hon
    rw [exec_peerEnable]
    exact State.run_eq (decide_and_decide hn (by decide))
      (Dev.hostPut_tow htakes (peerKey_range hn (by decide)).1 (Dev.towEffect_peerOff hn hon))
  case hello =>
    intro q d e n hn hon hstate he
    rw [exec_helloTimer]
    exact State.run_eq (decide_eq_true hn) (Dev.helloTimer_of_opening hon hstate he)
  case helloRx =>
    intro q d p n l t hin hon hkind hpeer hstate hepoch
    rw [exec_helloRx]
    exact State.run_eq rfl (Dev.helloRx_of_own hin hon hkind hpeer rfl hstate hepoch)
  case dataRx =>
    intro q d c e d' p n l b t bs hin hon hkind hpeer hc hstate hepochs he hb hseq hpm hroom halloc
    rw [exec_towDataRx]
    exact State.run_eq rfl (Dev.dataRx_of_next hin hon hkind hpeer hc hstate hepochs he hb hseq hpm hroom halloc)
  case ackRx =>
    intro q d p n l t hin hon hkind hpeer e he hstate hepochs
    rw [exec_towAckRx]
    exact State.run_eq rfl (Dev.ackRx_of_open hin hon hkind hpeer he hstate hepochs)
  case ackDelay =>
    intro q d e n t hn hdue hon hstate he
    rw [exec_towAckDelay]
    exact State.run_eq (decide_eq_true hn) (Dev.ackDelay_of_due hdue hon hstate he)
  case rto =>
    rintro q d b n r f fs hn hun hon hstate hb rfl
    rw [exec_towRetransmitTimeout]
    exact State.run_eq (decide_eq_true hn) (Dev.rtoExpiry_of_open hun hon hstate hb)
  case dead =>
    intro q d e n hn hon hstate he
    rw [exec_towDeadTimeout]
    exact State.run_eq (decide_eq_true hn) (Dev.deadTimeout_of_open hon hstate he)
  case keepalive =>
    intro q d e n hn hon hstate he
    rw [exec_towKeepalive]
    exact State.run_eq (decide_eq_true hn) (Dev.keepalive_of_open hon hstate he)

end Sys2Proof.Machine
end


/-! ### Slots, reservations, windows and forwarding (15 R539, R540, R548, R551-R553, R558, R561) -/
section
namespace Sys2Proof.Machine

/-! #### Operation slots and reservations (15 R548, R551-R553) -/

/-- TOW_SLOT_RELEASE (15 R548). -/
theorem Dev.towEffect_slotRelease (d : Dev) (v : Nat) : d.towEffect 0 0x606004 v = .ok (d.slotRelease v) := by
  simp [Dev.towEffect]

/-- TOW_RSV_RELEASE of a window whose reservation is local (15 R553). -/
theorem Dev.towEffect_rsvRelease {d : Dev} {w : Nat} (hlocal : d.rsv w = 0xFE) : d.towEffect 0 0x606005 w = .ok (d.rsvFree w) := by
  simp [Dev.towEffect, hlocal]

/-- A reservation held for TOW_RSV_HOLD_MS is released (15 R553). -/
theorem Dev.rsvExpiry_of_taken {d e : Dev} {w t : Nat} (ht : (d.win w).rsvAt = some t) (hon : d.on dTOW = true)
    (he : e = d.advanceTo (t + d.rd 0x60000E * 100000)) : d.rsvExpiry w = e.rsvFree w := by
  have ended : d.afterMs t (d.rd 0x60000E) = e := he.symm
  simp only [Dev.rsvExpiry, ht, hon, if_true, ended]

/-- A refused reserving write of an operation slot is sent again when its back-off ends (15 R552). -/
theorem Dev.backoffExpiry_of_slot {d e : Dev} {n tag : Nat} {y : OpSlot} {t : Nat × Nat} (htag : tag < 16) (hon : d.towOn = true)
    (hready : d.towReady = true) (hslot : d.opSlot tag = some y) (hback : y.backoff = some t)
    (hpeer : d.rd (opSlotKey tag) / 65536 % 256 = n) (he : e = d.advanceTo (t.1 + t.2)) :
    d.backoffExpiry n tag = (e.setOpSlot tag (some { y with backoff := none, tries := y.tries + 1 })).launch n y.op y.data := by
  have slot : tag ≠ 0xFF := by omega
  simp only [Dev.backoffExpiry, hon, hready, Bool.not_true, Bool.false_eq_true, if_false, if_neg slot, hslot, hback,
    if_neg (not_not_intro hpeer), ← he]

/-! #### Windows (15 R539, R540, R561) -/

/-- The objects of the windows lie in Towpath's unit, behind those of the peers (15 Table 15.9). -/
theorem winKey_range {w s : Nat} (hw : w < 8) (hs : s < 256) :
    winKey w s / 0x10000 = 0x60 ∧ winKey w s / 256 = 0x6040 + w ∧ winKey w s % 256 = s ∧ 0x604000 ≤ winKey w s := by
  unfold winKey
  omega

/-- The write of WIN_ENABLE reaches its own branch. -/
theorem Dev.towEffect_win (d : Dev) {w : Nat} (v : Nat) (hw : w < 8) :
    d.towEffect 0 (winKey w 1) v = .ok (if v = 1 then d.winEnable w else d.winDisable w) := by
  obtain ⟨-, hidx, hsub, hlow⟩ := winKey_range (s := 1) hw (by decide)
  have run : winKey w 1 ≠ 0x600001 := by omega
  have noPeer : ¬ 0x6040 + w < 0x6030 := by omega
  have low : 0x6040 ≤ 0x6040 + w := Nat.le_add_right ..
  have high : 0x6040 + w < 0x6048 := by omega
  simp only [Dev.towEffect, hidx, hsub, if_neg run, decide_eq_false noPeer, decide_eq_true low, decide_eq_true high, decide_true,
    Bool.and_false, Bool.false_and, Bool.and_self, Bool.false_eq_true, if_false, if_true, Nat.add_sub_cancel_left]

/-- The rest owner of a window of the host. -/
theorem Dev.winRest_host {d : Dev} {w : Nat} (h : d.rd (winKey w 4) = 1) : d.winRest w = .host := by
  rw [Dev.winRest, h]
  rfl

/-- The rest owner of a window of the owner TOW:m. -/
theorem Dev.winRest_tow {d : Dev} {w m : Nat} (hm : m < 16) (h : d.rd (winKey w 4) = 16 + m) : d.winRest w = .tow m := by
  have owner : (16 + m) % 16 = m := by omega
  simp only [Dev.winRest, h, if_neg (show 16 + m ≠ 1 by omega), owner]

/-- WIN_ENABLE beside another object of its window. -/
theorem Dev.rd_wr_winEnable (d : Dev) (w v : Nat) {s : Nat} (hs : s ≠ 1) : (d.wr (winKey w 1) v).rd (winKey w s) = d.rd (winKey w s) :=
  Dev.rd_wr_other d v (by unfold winKey; omega)

/-- A window that opens keeps its range. -/
theorem Dev.winBarges_wr (d : Dev) (w v : Nat) : (d.wr (winKey w 1) v).winBarges w = d.winBarges w := by
  simp only [Dev.winBarges, Dev.winRange, Dev.rd_wr_winEnable d w v (show 2 ≠ 1 by decide),
    Dev.rd_wr_winEnable d w v (show 3 ≠ 1 by decide)]

/-- A closed window of the host opens (15 R540). -/
theorem Dev.winEnable_host {d : Dev} {w : Nat} (hoff : d.rd (winKey w 1) = 0) (hrest : d.rd (winKey w 4) = 1) :
    d.winEnable w = d.wr (winKey w 1) 1 := by
  have rest : (d.wr (winKey w 1) 1).winRest w = .host := Dev.winRest_host ((Dev.rd_wr_winEnable d w 1 (by decide)).trans hrest)
  simp only [Dev.winEnable, hoff, if_neg Nat.zero_ne_one, rest]

/-- A closed window of TOW:m opens, its barges going there (15 R540). -/
theorem Dev.winEnable_tow {d : Dev} {w m : Nat} (hm : m < 16) (hoff : d.rd (winKey w 1) = 0) (hrest : d.rd (winKey w 4) = 16 + m) :
    d.winEnable w = forEach (d.winBarges w) (d.wr (winKey w 1) 1) (fun b e => e.requestLock b (.tow m) 256) := by
  have rest : (d.wr (winKey w 1) 1).winRest w = .tow m := Dev.winRest_tow hm ((Dev.rd_wr_winEnable d w 1 (by decide)).trans hrest)
  simp only [Dev.winEnable, hoff, if_neg Nat.zero_ne_one, rest, Dev.winBarges_wr]

/-- A window that is to close and has no operation in a lane closes (15 R561). -/
theorem Dev.winSettle_of_closing {d : Dev} {w : Nat} (hclosing : (d.win w).closing = true) (hlane : d.winInLane w = false) :
    d.winSettle w = (((match d.winRest w with
      | .tow _ => forEach (d.winBarges w) d (fun b d => d.requestLock b .host 256)
      | _ => d).wr (winKey w 1) 0).rsvFree w).setWin w (fun x => { x with closing := false }) := by
  simp only [Dev.winSettle, hclosing, hlane, Bool.not_false, Bool.and_self, if_true] <;> rfl

/-- A window with an operation in a lane waits for it (15 R561). -/
theorem Dev.winSettle_of_lane {d : Dev} {w : Nat} (hlane : d.winInLane w = true) : d.winSettle w = d := by
  simp only [Dev.winSettle, hlane, Bool.not_true, Bool.and_false, Bool.false_eq_true, if_false]

/-- An open window that closes: it is to close, and closes as soon as it can (15 R561). -/
theorem Dev.winDisable_of_open {d : Dev} {w : Nat} (hon : d.rd (winKey w 1) = 1) :
    d.winDisable w = (d.setWin w (fun x => { x with closing := true })).winSettle w := by
  simp only [Dev.winDisable, hon, if_neg Nat.one_ne_zero]

/-- A window that is to close, where the device has it. -/
theorem Dev.closing_setWin {d : Dev} {w : Nat} (hw : w < d.tow.wins.length) :
    ((d.setWin w (fun x => { x with closing := true })).win w).closing = true := by
  have updated := getD_updAt_same hw (fun x : Win => { x with closing := true }) Win.idle
  exact congrArg Win.closing updated

/-- A window of the host without operations closes at once (15 R561). -/
theorem Dev.winDisable_host {d : Dev} {w : Nat} (hw : w < d.tow.wins.length) (hon : d.rd (winKey w 1) = 1) (hlane : d.winInLane w = false)
    (hrest : d.rd (winKey w 4) = 1) :
    d.winDisable w = (((d.setWin w (fun x => { x with closing := true })).wr (winKey w 1) 0).rsvFree w).setWin w
      (fun x => { x with closing := false }) := by
  have rest : (d.setWin w (fun x => { x with closing := true })).winRest w = .host := Dev.winRest_host hrest
  rw [Dev.winDisable_of_open hon, Dev.winSettle_of_closing (Dev.closing_setWin hw) hlane, rest]

/-- A window of TOW:m without operations closes at once, its barges going back to the host (15 R540, R561). -/
theorem Dev.winDisable_tow {d : Dev} {w m : Nat} (hw : w < d.tow.wins.length) (hm : m < 16) (hon : d.rd (winKey w 1) = 1)
    (hlane : d.winInLane w = false) (hrest : d.rd (winKey w 4) = 16 + m) :
    d.winDisable w = (((forEach (d.winBarges w) (d.setWin w (fun x => { x with closing := true }))
      (fun b e => e.requestLock b .host 256)).wr (winKey w 1) 0).rsvFree w).setWin w (fun x => { x with closing := false }) := by
  have rest : (d.setWin w (fun x => { x with closing := true })).winRest w = .tow m := Dev.winRest_tow hm hrest
  rw [Dev.winDisable_of_open hon, Dev.winSettle_of_closing (Dev.closing_setWin hw) hlane, rest]
  rfl

/-- A window with an operation in a lane is to close (15 R561). -/
theorem Dev.winDisable_lane {d : Dev} {w : Nat} (hon : d.rd (winKey w 1) = 1) (hlane : d.winInLane w = true) :
    d.winDisable w = d.setWin w (fun x => { x with closing := true }) :=
  (Dev.winDisable_of_open hon).trans (Dev.winSettle_of_lane hlane)

/-! #### Forwarding (15 R558) -/

/-- The frame in its barges: the port of a peer stays what it was. -/
theorem Dev.rd_fillBarges_peerPort (d : Dev) (bs : List Nat) (data : Oct) {n : Nat} (hn : n < 16) :
    (d.fillBarges bs data).rd (peerKey n 4) = d.rd (peerKey n 4) := by
  obtain ⟨-, -, hsub, -⟩ := peerKey_range (s := 4) hn (by decide)
  have hlow : peerKey n 4 < 0x740000 := by unfold peerKey; omega
  have hfour : 3 < peerKey n 4 % 256 := by omega
  exact forEach_unchanged (fun e : Dev => e.rd (peerKey n 4)) (fun b e => Dev.rd_writeMem_other hlow hfour e _ _) _ d

/-- An enabled peer with a node number is one of the 16. -/
theorem Dev.peerOfNode_lt {d : Dev} {node n : Nat} (h : d.peerOfNode node = some n) : n < 16 :=
  List.mem_range.1 (List.mem_of_find?_eq_some h)

/-- A frame for another node that may be forwarded goes to the port of its peer (15 R558). -/
theorem Dev.forward_of_peer {d d' e : Dev} {p n : Nat} {l f : Oct} {t : List (Nat × Oct)} {bs : List Nat} (hin : d.tow.inbox = (p, l) :: t)
    (hon : d.towOn = true) (hkind : d.towKind l = 4) (hpeer : d.peerOfNode (octAt l (towAt l + 3)) = some n)
    (hfwd : d.rd 0x600007 = 1) (hfirst : (octAt l (towAt l + 4)).testBit 0 = false) (hvia : d.rd (peerKey n 5) = 0xFF)
    (he : e = d.setTow (fun x => { x with inbox := t }))
    (hf : f = leOct 6 (d.rd (peerKey n 3)) ++ leOct 6 (d.rd 0x600006) ++ beOct 2 (d.rd 0x600003)
      ++ patch (sub l (towAt l) (16 + leAt l (towAt l + 14) 2)) 4 [1]) (halloc : e.towAlloc n f.length = (some bs, d')) :
    d.forward = (let g := d'.fillBarges bs f
      (g.queueTow (g.rd (peerKey n 4)) f.length bs true 0xFF).towStat 6) := by
  have passes : (decide (d.rd 0x600007 ≠ 1) || (octAt l (towAt l + 4)).testBit 0 || decide (d.rd (peerKey n 5) ≠ 0xFF)) = false := by
    simp [hfwd, hfirst, hvia]
  have reads (k : Nat) : e.rd k = d.rd k := he ▸ rfl
  have peer : e.peerOfNode (octAt l (towAt l + 3)) = some n := he ▸ hpeer
  simp only [Dev.forward, Dev.towHead_of_kind hin hon hkind (by decide), ← he, peer, reads, passes, Bool.false_eq_true, if_false,
    ← hf, halloc, Dev.rd_fillBarges_peerPort d' bs f (Dev.peerOfNode_lt hpeer)]

/-- Settles O44: the writes of the slots, reservations and windows have their effects by name, the timers and the forwarded frame
their lemmas. -/
theorem windowCommandsComplete : Obligations.WindowCommandsComplete := by
  unfold Obligations.WindowCommandsComplete
  refine ⟨?slots, ?backoff, ?rsvRelease, ?rsvHold, ?openHost, ?openTow, ?closeHost, ?closeTow, ?closeLater, ?forward⟩
  case slots =>
    rintro q d0 d v tm rfl hv htakes
    rw [exec_towSlotRelease]
    exact State.run_eq (decide_eq_true hv) (Dev.hostPut_tow htakes (by decide) (Dev.towEffect_slotRelease _ v))
  case backoff =>
    intro q d e n tag y t hn htag hon hready hslot hback hpeer he
    rw [exec_reservationBackoffExpiry]
    exact State.run_eq (decide_and_decide hn (by omega)) (Dev.backoffExpiry_of_slot htag hon hready hslot hback hpeer he)
  case rsvRelease =>
    rintro q d0 d w tm rfl hw htakes hlocal
    rw [exec_towRsvRelease]
    exact State.run_eq (decide_eq_true (by omega)) (Dev.hostPut_tow htakes (by decide) (Dev.towEffect_rsvRelease hlocal))
  case rsvHold =>
    intro q d e w t hw ht hon he
    rw [exec_rsvHoldExpiry]
    exact State.run_eq (decide_eq_true hw) (Dev.rsvExpiry_of_taken ht hon he)
  case openHost =>
    rintro q d0 d w tm rfl hw htakes hoff hrest
    rw [exec_winEnable]
    refine State.run_eq (decide_eq_true hw) (Dev.hostPut_tow htakes (winKey_range hw (by decide)).1 ?_)
    rw [Dev.towEffect_win _ 1 hw, if_pos rfl, Dev.winEnable_host hoff hrest]
  case openTow =>
    rintro q d0 d w m tm rfl hw htakes hoff hm hrest
    rw [exec_winEnable]
    refine State.run_eq (decide_eq_true hw) (Dev.hostPut_tow htakes (winKey_range hw (by decide)).1 ?_)
    rw [Dev.towEffect_win _ 1 hw, if_pos rfl, Dev.winEnable_tow hm hoff hrest]
  case closeHost =>
    rintro q d0 d w tm rfl hlen hw htakes hon hlane hrest
    rw [exec_winDisable]
    refine State.run_eq (decide_eq_true hw) (Dev.hostPut_tow htakes (winKey_range hw (by decide)).1 ?_)
    rw [Dev.towEffect_win _ 0 hw, if_neg Nat.zero_ne_one, Dev.winDisable_host hlen hon hlane hrest]
  case closeTow =>
    rintro q d0 d w m tm rfl hlen hw hm htakes hon hlane hrest
    rw [exec_winDisable]
    refine State.run_eq (decide_eq_true hw) (Dev.hostPut_tow htakes (winKey_range hw (by decide)).1 ?_)
    rw [Dev.towEffect_win _ 0 hw, if_neg Nat.zero_ne_one, Dev.winDisable_tow hlen hm hon hlane hrest]
  case closeLater =>
    rintro q d0 d w tm rfl hw htakes hon hlane
    rw [exec_winDisable]
    refine State.run_eq (decide_eq_true hw) (Dev.hostPut_tow htakes (winKey_range hw (by decide)).1 ?_)
    rw [Dev.towEffect_win _ 0 hw, if_neg Nat.zero_ne_one, Dev.winDisable_lane hon hlane]
  case forward =>
    intro q d d' p n l t bs hin hon hkind hpeer hfwd hfirst hvia e f he hf halloc
    rw [exec_towForwardFrame]
    exact State.run_eq rfl (Dev.forward_of_peer hin hon hkind hpeer hfwd hfirst hvia he hf halloc)

end Sys2Proof.Machine
end


/-! ### Issuing operations (15 R546-R551; 01 R16, R17) -/
section
namespace Sys2Proof.Machine

/-! #### What packet memory does leaves Towpath's own state -/

@[simp] theorem Dev.inc_tow (d : Dev) (k : Nat) : (d.inc k).tow = d.tow := rfl

@[simp] theorem Dev.fire_tow (d : Dev) (s : Nat) : (d.fire s).tow = d.tow := Dev.fire_keeps Dev.wr_tow d s

@[simp] theorem Dev.advanceTo_tow (d : Dev) (t : Nat) : (d.advanceTo t).tow = d.tow :=
  Dev.tick_keeps (g := Dev.tow) Dev.wr_tow Dev.setMac_tow (fun _ _ => (apply_ite Dev.tow ..).trans (ite_self _)) d _

@[simp] theorem Dev.fault_tow (d : Dev) (kind block code whr detail ini : Nat) : (d.fault kind block code whr detail ini).tow = d.tow := by
  unfold Dev.fault
  split
  · exact Dev.fire_tow _ 94
  · rfl

@[simp] theorem Dev.engineOff_tow (d : Dev) (own : Nat) (need : List Nat) : (d.engineOff own need).tow = d.tow := Dev.fault_tow ..

@[simp] theorem Dev.requestLock_tow (d : Dev) (b len : Nat) (dst : Owner) : (d.requestLock b dst len).tow = d.tow := by
  unfold Dev.requestLock
  dsimp only
  split
  · rfl
  · exact (Dev.fire_tow _ 21).trans (Dev.fault_tow ..)

@[simp] theorem Dev.freeBarges_tow (d : Dev) (bs : List Nat) : (d.freeBarges bs).tow = d.tow :=
  forEach_unchanged Dev.tow (fun b (x : Dev) => x.requestLock_tow b 256 .zeroing) bs d

@[simp] theorem Dev.eccCorrect_tow (d : Dev) (bk : Nat) : (d.eccCorrect bk).tow = d.tow := by
  unfold Dev.eccCorrect
  dsimp only
  split
  · exact Dev.fire_tow ..
  · rfl

@[simp] theorem Dev.eccFail_tow (d : Dev) (w : Nat) : (d.eccFail w).tow = d.tow := by
  unfold Dev.eccFail
  dsimp only
  rw [Dev.fire_tow, Dev.inc_tow, Dev.wr_tow]
  rfl

@[simp] theorem Dev.eccScan_tow (d : Dev) (ws : List Nat) (ss : List Strike) : (d.eccScan ws ss).2.tow = d.tow := by
  have corrected (l : List Strike) (e : Dev) : (forEach l e (fun s d => d.eccCorrect (bankOfAddr s.addr))).tow = e.tow := by
    refine forEach_unchanged Dev.tow (fun s x => ?_) l e
    exact x.eccCorrect_tow (bankOfAddr s.addr)
  have failed (l : List Nat) (e : Dev) : (forEach l e (fun w d => d.eccFail w)).tow = e.tow := by
    refine forEach_unchanged Dev.tow (fun w x => ?_) l e
    exact x.eccFail_tow w
  exact (failed _ _).trans (corrected _ _)

@[simp] theorem Dev.readMem_tow (d : Dev) (a n : Nat) (ss : List Strike) : (d.readMem a n ss).2.2.tow = d.tow := Dev.eccScan_tow ..

@[simp] theorem Dev.writeMem_tow (d : Dev) (a : Nat) (v : Oct) : (d.writeMem a v).tow = d.tow := Dev.eccScan_tow ..

@[simp] theorem Dev.zeroMem_tow (d : Dev) (a n : Nat) (ss : List Strike) : (d.zeroMem a n ss).tow = d.tow := Dev.eccScan_tow ..

@[simp] theorem Dev.lockClose_tow (d : Dev) (bk : Nat) : (d.lockClose bk).tow = d.tow := by
  unfold Dev.lockClose
  split
  · split <;> rfl
  · rfl

@[simp] theorem Dev.lockOpen_tow (d : Dev) (bk : Nat) (ss : List Strike) : (d.lockOpen bk ss).tow = d.tow := by
  unfold Dev.lockOpen
  split
  · rename_i q _
    dsimp only
    split
    · exact Dev.advanceTo_tow d _
    · exact (Dev.zeroMem_tow ..).trans (Dev.advanceTo_tow d _)
  · rfl

@[simp] theorem Dev.bankCycle_tow (d : Dev) (bk : Nat) : (d.bankCycle bk).tow = d.tow :=
  (Dev.lockOpen_tow _ bk []).trans (d.lockClose_tow bk)

@[simp] theorem Dev.lockThrough_tow (d : Dev) (bk : Nat) (bs : List Nat) (n : Nat) : (d.lockThrough bk bs n).tow = d.tow := by
  induction n generalizing d with
  | zero => rfl
  | succ n ih =>
    unfold Dev.lockThrough
    split
    · exact (ih _).trans (d.bankCycle_tow bk)
    · rfl

@[simp] theorem Dev.awaitLocks_tow (d : Dev) (bs : List Nat) : (d.awaitLocks bs).tow = d.tow :=
  forEach_unchanged Dev.tow (fun bk (x : Dev) => x.lockThrough_tow bk bs _) _ d

@[simp] theorem Dev.watchPound_tow (d : Dev) (p : Nat) : (d.watchPound p).tow = d.tow := by
  unfold Dev.watchPound
  dsimp only
  split
  · exact Dev.fire_tow ..
  · split <;> rfl

/-- A barge allocated leaves Towpath's own state (09 R298). -/
theorem Dev.allocOne_tow {d e : Dev} {p b : Nat} {o : Owner} (h : d.allocOne p o = some (b, e)) : e.tow = d.tow := by
  unfold Dev.allocOne at h
  dsimp only at h
  split at h
  · cases h
  · split at h
    · cases h
    · cases h
      rfl

@[simp] theorem Dev.allocMany_tow (d : Dev) (p : Nat) (o : Owner) (n : Nat) : (d.allocMany p o n).2.tow = d.tow := by
  induction n generalizing d with
  | zero => rfl
  | succ n ih =>
    unfold Dev.allocMany
    split
    · rfl
    · rename_i b e h
      exact (ih e).trans (Dev.allocOne_tow h)

@[simp] theorem Dev.alloc_tow (d : Dev) (p : Nat) (o : Owner) (n : Nat) : (d.alloc p o n).2.tow = d.tow := by
  unfold Dev.alloc
  split
  · rfl
  · split
    · rfl
    · split
      · exact (Dev.watchPound_tow _ p).trans (d.allocMany_tow p o n)
      · exact Dev.fire_tow ..

@[simp] theorem Dev.fillBarges_tow (d : Dev) (bs : List Nat) (data : Oct) : (d.fillBarges bs data).tow = d.tow :=
  forEach_unchanged Dev.tow (fun _ (x : Dev) => x.writeMem_tow _ _) _ d

/-! #### An operation that begins leaves those that wait behind it (15 R546) -/

@[simp] theorem Dev.setSess_todo (d : Dev) (n : Nat) (f : Sess → Sess) : (d.setSess n f).tow.todo = d.tow.todo := rfl

@[simp] theorem Dev.setOpSlot_todo (d : Dev) (s : Nat) (x : Option OpSlot) : (d.setOpSlot s x).tow.todo = d.tow.todo := rfl

@[simp] theorem Dev.cacheTouch_todo (d : Dev) (peer win off len : Nat) : (d.cacheTouch peer win off len).tow.todo = d.tow.todo := rfl

@[simp] theorem Dev.sendTow_todo (d : Dev) (n subtype len : Nat) (bs : List Nat) (own : Bool) :
    (d.sendTow n subtype len bs own).tow.todo = d.tow.todo := by
  unfold Dev.sendTow
  dsimp only
  rw [Dev.setSess_todo]
  split
  · rfl
  · rw [Dev.engineOff_tow]
    split
    · rw [Dev.freeBarges_tow]
    · rfl

@[simp] theorem Dev.towPump_todo (d : Dev) (n k : Nat) : (d.towPump n k).tow.todo = d.tow.todo := by
  induction k generalizing d with
  | zero => rfl
  | succ k ih =>
    unfold Dev.towPump
    split
    · rfl
    · split
      · rfl
      · dsimp only
        split
        · rename_i bs e h
          have same : e.tow = d.tow := (congrArg (fun r => r.2.tow) h).symm.trans (d.alloc_tow _ _ _)
          rw [ih, Dev.sendTow_todo, Dev.setUnacked, Dev.wr_tow, Dev.setSeqs, Dev.wr_tow, Dev.setSess_todo, Dev.fillBarges_tow, same]
        · rename_i e h
          exact congrArg TowU.todo ((congrArg (fun r => r.2.tow) h).symm.trans (d.alloc_tow _ _ _))

@[simp] theorem Dev.launch_todo (d : Dev) (peer : Nat) (op data : Oct) : (d.launch peer op data).tow.todo = d.tow.todo := by
  unfold Dev.launch
  split
  · rfl
  · rw [Dev.towQueue, Dev.towPump_todo, Dev.setSess_todo]
    split
    · rfl
    · rw [Dev.towMacOff, Dev.engineOff_tow]

@[simp] theorem Dev.slotReturn_todo (d : Dev) (s : Nat) : (d.slotReturn s).tow.todo = d.tow.todo := by
  unfold Dev.slotReturn
  split
  · split
    · split
      · exact congrArg TowU.todo (Dev.requestLock_tow ..)
      · rw [Dev.requestLock_tow]
    · rfl
  · rfl

@[simp] theorem Dev.slotDone_todo (d : Dev) (s status len value : Nat) : (d.slotDone s status len value).tow.todo = d.tow.todo := by
  rw [Dev.slotDone, Dev.setOpSlot_todo, Dev.wr_tow, Dev.awaitLocks_tow, Dev.slotReturn_todo]

@[simp] theorem Dev.issueTake_todo (d : Dev) (v : Oct) : (d.issueTake v).tow.todo = d.tow.todo := by
  unfold Dev.issueTake
  split
  · rw [Dev.awaitLocks_tow, Dev.requestLock_tow]
  · rfl

/-! #### The fields of TOW_ISSUE (15 Table 15.6) -/

/-- Octets are those of the number they are. -/
theorem leOct_leNat (l : Oct) : leOct l.length (leNat l) = l := by
  induction l with
  | nil => rfl
  | cons b t ih =>
    have low : oct (b.toNat + 256 * leNat t) = b := BitVec.eq_of_toNat_eq (by simp only [oct, BitVec.toNat_ofNat]; omega)
    have high : (b.toNat + 256 * leNat t) / 256 = leNat t := by have := b.isLt; omega
    rw [List.length_cons, leNat, leOct, low, high, ih]

/-- TOW_ISSUE is written with the octets of the fields. -/
theorem leOct_issueOctets (c : Nat) (f : IssueFields) : leOct 32 (leNat (issueOctets c f)) = issueOctets c f :=
  leOct_leNat (issueOctets c f)

section
variable {c : Nat} {f : IssueFields}

@[simp] theorem isOp_issueOctets (hc : c < 256) : isOp (issueOctets c f) = c :=
  (BitVec.toNat_ofNat c 8).trans (Nat.mod_eq_of_lt hc)

variable (hok : f.ok = true)
include hok

@[simp] theorem isSlot_issueOctets : isSlot (issueOctets c f) = f.slot := by
  simp only [IssueFields.ok, Bool.and_eq_true, decide_eq_true_eq] at hok
  exact (BitVec.toNat_ofNat f.slot 8).trans (Nat.mod_eq_of_lt (by omega))

@[simp] theorem isPeer_issueOctets : isPeer (issueOctets c f) = f.peer := by
  simp only [IssueFields.ok, Bool.and_eq_true, decide_eq_true_eq] at hok
  exact (BitVec.toNat_ofNat f.peer 8).trans (Nat.mod_eq_of_lt (by omega))

@[simp] theorem isBarge_issueOctets : isBarge (issueOctets c f) = f.barge := by
  simp only [IssueFields.ok, Bool.and_eq_true, decide_eq_true_eq] at hok
  exact leNat_leOct 2 f.barge (by omega)

@[simp] theorem isOff_issueOctets : leAt (issueOctets c f) 8 4 = f.off := by
  simp only [IssueFields.ok, Bool.and_eq_true, decide_eq_true_eq] at hok
  exact leNat_leOct 4 f.off (by omega)

@[simp] theorem isLen_issueOctets : isLen (issueOctets c f) = f.len := by
  simp only [IssueFields.ok, Bool.and_eq_true, decide_eq_true_eq] at hok
  exact leNat_leOct 2 f.len (by omega)

@[simp] theorem rsvWin_issueOctets : octAt (issueOctets c f) 6 % 8 = f.rsvWin % 8 := by
  simp only [IssueFields.ok, Bool.and_eq_true, decide_eq_true_eq] at hok
  have octet : octAt (issueOctets c f) 6 = f.rsvWin := (BitVec.toNat_ofNat f.rsvWin 8).trans (Nat.mod_eq_of_lt (by omega))
  rw [octet]

/-- The octet of the window, the scope and the flags. -/
theorem flags_issueOctets : octAt (issueOctets c f) 3 = f.win + 16 * f.scope + 64 * b2n f.freeAfter + 128 * b2n f.release := by
  simp only [IssueFields.ok, Bool.and_eq_true, decide_eq_true_eq] at hok
  have one (b : Bool) : b2n b ≤ 1 := by cases b <;> decide
  have free := one f.freeAfter
  have release := one f.release
  exact (BitVec.toNat_ofNat _ 8).trans (Nat.mod_eq_of_lt (by omega))

@[simp] theorem win_issueOctets : octAt (issueOctets c f) 3 % 8 = f.win % 8 := by
  rw [flags_issueOctets hok]
  omega

@[simp] theorem scope_issueOctets : octAt (issueOctets c f) 3 / 16 % 4 = f.scope := by
  rw [flags_issueOctets hok]
  simp only [IssueFields.ok, Bool.and_eq_true, decide_eq_true_eq] at hok
  omega

@[simp] theorem freeAfter_issueOctets : (octAt (issueOctets c f) 3).testBit 6 = f.freeAfter := by
  rw [flags_issueOctets hok, Nat.testBit_eq_decide_div_mod_eq]
  simp only [IssueFields.ok, Bool.and_eq_true, decide_eq_true_eq] at hok
  cases f.freeAfter <;> simp only [b2n, Bool.false_eq_true, if_true, if_false, decide_eq_true_eq, decide_eq_false_iff_not] <;> omega

@[simp] theorem release_issueOctets : (octAt (issueOctets c f) 3).testBit 7 = f.release := by
  rw [flags_issueOctets hok, Nat.testBit_eq_decide_div_mod_eq]
  simp only [IssueFields.ok, Bool.and_eq_true, decide_eq_true_eq] at hok
  have one : b2n f.freeAfter ≤ 1 := by cases f.freeAfter <;> decide
  cases f.release <;> simp only [b2n, Bool.false_eq_true, if_true, if_false, decide_eq_true_eq, decide_eq_false_iff_not] <;>
    simp only [b2n] at one <;> omega

omit hok

/-- The operand of an atomic, and both operands of a CAS. -/
@[simp] theorem opA_issueOctets : sub (issueOctets c f) 16 8 = leOct 8 f.opA := rfl

@[simp] theorem opAB_issueOctets : sub (issueOctets c f) 16 16 = leOct 8 f.opA ++ leOct 8 f.opB := rfl

end

/-! #### A write of TOW_ISSUE that passes orders 1 to 9 (02 Table 2.5; 15 R546) -/

/-- A host's write that passes meets the state rules of its object. -/
theorem Dev.stateBad_of_passes {d : Dev} {k v : Nat} (h : d.passes k v = true) : d.stateBad 0 k v = false := by
  unfold Dev.passes at h
  split at h
  · cases h
  · rename_i r _
    simp only [Bool.and_eq_true, Option.isNone_iff_eq_none] at h
    obtain ⟨⟨⟨⟨hw, -⟩, -⟩, -⟩, -⟩ := h
    unfold Dev.writeAbort at hw
    split at hw
    · cases hw
    · split at hw
      · cases hw
      · split at hw
        · cases hw
        · rename_i hstate
          simp only [Dev.stateAbort, Bool.not_eq_true, Bool.or_eq_false_iff] at hstate
          exact hstate.2

/-- A host's write that passes meets the value rules of its object. -/
theorem Dev.valueOk_of_passes {d : Dev} {k v : Nat} (h : d.passes k v = true) : d.valueOk k v = true := by
  unfold Dev.passes at h
  split at h
  · cases h
  · rename_i r _
    simp only [Bool.and_eq_true, Option.isNone_iff_eq_none, decide_eq_true_eq] at h
    obtain ⟨⟨-, hv⟩, hva⟩ := h
    unfold Dev.writeValueAbort at hva
    rw [leNat_leOct _ _ hv] at hva
    dsimp only at hva
    split at hva
    · cases hva
    · split at hva
      · cases hva
      · rename_i hrange
        simp only [Dev.rangeOk, Bool.not_eq_true', Bool.not_eq_false, Bool.and_eq_true] at hrange
        exact hrange.2

/-- The value rules of TOW_ISSUE are those of its fields (15 R546). -/
theorem Dev.valueOk_issue (d : Dev) (v : Nat) : d.valueOk 0x606001 v = issueFieldsOk (leOct 32 v) := by
  simp [Dev.valueOk, Dev.towValue]

/-- The state rules of TOW_ISSUE (15 R546, R551). -/
theorem Dev.stateBad_issue (d : Dev) (v : Nat) : d.stateBad 0 0x606001 v = d.issueState 0 (leOct 32 v) := by
  simp [Dev.stateBad, Dev.towState]

section
variable {d : Dev} {c : Nat} {f : IssueFields} {tm : Timing}

/-- The barge of an operation that moves one belongs to the host and takes part in no lock cycle (15 R546). -/
theorem Dev.ownerAfter_of_takes (h : d.hostTakes 0x606001 (leNat (issueOctets c f)) tm = true) (hok : f.ok = true) (hc : 1 ≤ c ∧ c ≤ 4) :
    d.ownerAfter f.barge = .host := by
  obtain ⟨-, hpass⟩ := Bool.and_eq_true_iff.1 h
  have hop : isOp (issueOctets c f) = c := isOp_issueOctets (by omega)
  have moves : isMoves (issueOctets c f) = true := by
    rw [isMoves, hop, decide_eq_true hc.1, decide_eq_true hc.2]
    rfl
  have fields : issueFieldsOk (issueOctets c f) = true := by
    rw [← leOct_issueOctets, ← Dev.valueOk_issue]
    exact Dev.valueOk_of_passes hpass
  have state : d.issueState 0 (issueOctets c f) = false := by
    rw [← leOct_issueOctets, ← Dev.stateBad_issue]
    exact Dev.stateBad_of_passes hpass
  have hbarge : f.barge < nBarges := by
    simp only [issueFieldsOk, moves, if_true, Bool.and_eq_true, isBarge_issueOctets hok, decide_eq_true_eq] at fields
    exact fields.1.2.1.1.1
  simp only [Dev.issueState, moves, isBarge_issueOctets hok, decide_eq_true hbarge, Bool.true_and, Bool.or_eq_false_iff] at state
  obtain ⟨⟨-, ⟨howner, hbusy⟩, -⟩, -⟩ := state
  have free : d.locksOf f.barge = [] := by simpa [Dev.lockBusy] using hbusy
  rw [Dev.ownerAfter, free]
  simpa using howner

/-- A write of TOW_ISSUE is answered when its effect is there (15 R546). -/
theorem Dev.hostIssue_effect {e : Dev} (h : d.hostTakes 0x606001 (leNat (issueOctets c f)) tm = true)
    (he : d.issue (issueOctets c f) = .ok e) : d.hostIssue c f tm = e.answered [] := by
  have effect : d.towEffect 0 0x606001 (leNat (issueOctets c f)) = .ok e := by
    simp only [Dev.towEffect, leOct_issueOctets, he]
    rfl
  have put : d.hostIssue c f tm = d.hostPut 0x606001 (leNat (issueOctets c f)) tm :=
    congrArg (fun v => d.hostWrite 0x6060 1 0 0 v tm) (leOct_issueOctets c f).symm
  exact put.trans (Dev.hostPut_tow h (by decide) effect)

end

/-! #### The slot PENDING, and the operations that wait (15 R546, R551; 01 R16) -/

/-- The slot of an operation PENDING, and its window reserved for a reserving write. -/
def Dev.issuePending (d : Dev) (v : Oct) : Dev :=
  let e := d.wr (opSlotKey (isSlot v)) (1 + 256 * isOp v + 65536 * isPeer v)
  if isOp v = 4 then e.rsvTake (octAt v 6 % 8) 0xFE (isPeer v) else e

/-- TOW_ISSUE without a closed session: the slot is PENDING, the operation goes behind those that wait, and as many begin as can. -/
theorem Dev.issue_of_open {d : Dev} {v : Oct} (hopen : isPeer v < 16 → d.peerOpen (isPeer v) = true) :
    d.issue v = .ok ((((if d.towReady then d else d.towMacOff).issuePending v).setTow (fun x => { x with todo := x.todo ++ [v] })).issueRun 17) := by
  have taken : (decide (isPeer v < 16) && (decide (d.peerState (isPeer v) ≠ 2) || !d.towOn)) = false := by
    by_cases hpeer : isPeer v < 16
    · have opened := hopen hpeer
      simp only [Dev.peerOpen, Bool.and_eq_true, beq_iff_eq] at opened
      simp [opened.1, opened.2]
    · simp [hpeer]
  simp only [Dev.issue, taken, Bool.false_eq_true, if_false, Dev.issuePending]

/-- What decides whether Towpath can run an operation lies outside its slots and windows. -/
theorem Dev.towReady_wr (d : Dev) {k : Nat} (v : Nat) (hk : 0x600004 ≠ k) : (d.wr k v).towReady = d.towReady := by
  simp only [Dev.towReady, Dev.towMac, Dev.flag, Dev.wr_on, Dev.rd_wr_other d v hk]

theorem Dev.towReady_setTow (d : Dev) (f : TowU → TowU) : (d.setTow f).towReady = d.towReady := rfl

theorem Dev.towReady_rsvTake (d : Dev) (w v n : Nat) : (d.rsvTake w v n).towReady = d.towReady := by
  rw [Dev.rsvTake, Dev.setWin, Dev.towReady_setTow, Dev.towReady_wr d v (by unfold winKey; omega)]

theorem Dev.towReady_issuePending (d : Dev) (v : Oct) : (d.issuePending v).towReady = d.towReady := by
  have slot (x : Nat) : (d.wr (opSlotKey (isSlot v)) x).towReady = d.towReady :=
    d.towReady_wr x (by unfold opSlotKey; omega)
  unfold Dev.issuePending
  dsimp only
  split
  · rw [Dev.towReady_rsvTake, slot]
  · exact slot _

theorem Dev.issuePending_todo (d : Dev) (v : Oct) : (d.issuePending v).tow.todo = d.tow.todo := by
  unfold Dev.issuePending
  dsimp only
  split <;> rfl

/-- The one operation that waits is taken. -/
theorem Dev.setTow_todo_back {d : Dev} (v : Oct) (h : d.tow.todo = []) :
    (d.setTow (fun x => { x with todo := x.todo ++ [v] })).setTow (fun x => { x with todo := [] }) = d := by
  have same : { d.tow with todo := [] } = d.tow := by rw [← h]
  exact congrArg (fun t => { d with tow := t }) same

/-! #### How an operation begins (15 R547-R551) -/

/-- The octets a write takes from its barge when the barge has passed, and the device then. -/
def Dev.issueSource (d : Dev) (v : Oct) : Oct × List Nat × Dev :=
  if isOp v == 3 || isOp v == 4 then (d.issueTake v).readMem (256 * isBarge v) (isLen v) [] else ([], [], d.issueTake v)

/-- The rest of an operation that begins: the lines it drops, its slot and its record (15 R547, R549, R550). -/
def Dev.issueSend (d : Dev) (v src : Oct) : Dev :=
  let n := isPeer v
  let s := isSlot v
  let code := isOp v
  let w := octAt v 3 % 8
  let off := leAt v 8 4
  let d := if code = 2 then d.cacheDrop (fun c => c.peer == n) else d
  let d := if 3 ≤ code then d.cacheTouch n w off (if code ≤ 4 then isLen v else 8) else d
  let wide := code == 1 && n < 16 && d.rd 0x60000D == 1
  let o := if wide then off / 64 * 64 else off
  let len := if 5 ≤ code then (if code = 7 then 16 else 8) else if wide then (off + isLen v + 63) / 64 * 64 - o else isLen v
  let data := match code with
    | 3 | 4 => src
    | 5 | 6 => sub v 16 8
    | 7 => sub v 16 16
    | _ => []
  let flags := w + 16 * (octAt v 3 / 16 % 4) + 64 * b2n ((octAt v 3).testBit 7)
  let op := opRecord code s flags o len 0 0 0
  let d := d.setOpSlot s (some ⟨op, data, if isMoves v then some (isBarge v) else none,
    if code ≤ 2 then isLen v else 256, (code == 3 || code == 4) && (octAt v 3).testBit 6,
    if code = 4 then some (octAt v 6 % 8) else none, 1, none, off⟩)
  d.launch n op data

/-- An operation whose barge has left the host ends at once (log entry 81). -/
theorem Dev.issueBegin_left {d : Dev} {v : Oct} (hleft : (isMoves v && d.ownerAfter (isBarge v) != .host) = true) :
    d.issueBegin v = d.slotDone (isSlot v) 0x0203 0 0 := by
  rw [Dev.issueBegin, if_pos hleft]

/-- A READ whose lines the cache holds is answered from it (15 R549). -/
theorem Dev.issueBegin_hit {d : Dev} {v data : Oct} (hheld : (isMoves v && d.ownerAfter (isBarge v) != .host) = false)
    (hhit : d.cacheHit v = some data) :
    d.issueBegin v = ((((d.towStat 9).issueTake v).writeMem (256 * isBarge v) data).setOpSlot (isSlot v)
      (some ⟨[], [], some (isBarge v), isLen v, false, none, 1, none, leAt v 8 4⟩)).slotDone (isSlot v) 0 (isLen v) 0 := by
  rw [Dev.issueBegin, hheld, if_neg Bool.false_ne_true, hhit]

/-- Another operation takes its source and goes on with it, unless the source is poisoned (09 R312). -/
theorem Dev.issueBegin_miss {d : Dev} {v : Oct} (hheld : (isMoves v && d.ownerAfter (isBarge v) != .host) = false)
    (hmiss : d.cacheHit v = none) :
    d.issueBegin v =
      if (isOp v == 3 || isOp v == 4) && ((d.issueSource v).2.2.barge (isBarge v)).poison then
        ((d.issueSource v).2.2.setOpSlot (isSlot v) (some ⟨[], [], some (isBarge v), 256, (octAt v 3).testBit 6, none, 1, none,
          leAt v 8 4⟩)).slotDone (isSlot v) 0x0701 0 0
      else (d.issueSource v).2.2.issueSend v (d.issueSource v).1 := by
  rw [Dev.issueBegin, hheld, if_neg Bool.false_ne_true, hmiss]
  rfl

theorem Dev.issueSource_todo (d : Dev) (v : Oct) : (d.issueSource v).2.2.tow.todo = d.tow.todo := by
  unfold Dev.issueSource
  split
  · rw [Dev.readMem_tow, Dev.issueTake_todo]
  · exact Dev.issueTake_todo d v

theorem Dev.issueSend_todo (d : Dev) (v src : Oct) : (d.issueSend v src).tow.todo = d.tow.todo := by
  unfold Dev.issueSend
  dsimp only
  rw [Dev.launch_todo, Dev.setOpSlot_todo]
  split
  · rw [Dev.cacheTouch_todo]
    split <;> rfl
  · split <;> rfl

/-- An operation that begins adds none to those that wait. -/
theorem Dev.issueBegin_todo (d : Dev) (v : Oct) : (d.issueBegin v).tow.todo = d.tow.todo := by
  cases hheld : isMoves v && d.ownerAfter (isBarge v) != .host with
  | true => rw [Dev.issueBegin_left hheld, Dev.slotDone_todo]
  | false =>
    cases hhit : d.cacheHit v with
    | some data =>
      rw [Dev.issueBegin_hit hheld hhit, Dev.slotDone_todo, Dev.setOpSlot_todo, Dev.writeMem_tow, Dev.issueTake_todo]
      rfl
    | none =>
      rw [Dev.issueBegin_miss hheld hhit]
      split
      · rw [Dev.slotDone_todo, Dev.setOpSlot_todo, Dev.issueSource_todo]
      · rw [Dev.issueSend_todo, Dev.issueSource_todo]

/-- Without waiting operations nothing begins. -/
theorem Dev.issueRun_of_idle {d : Dev} (h : d.tow.todo = []) (k : Nat) : d.issueRun k = d := by
  cases k with
  | zero => rfl
  | succ k => simp only [Dev.issueRun, h]

/-- An operation that Towpath can run begins at once where none waits before it (01 R16). -/
theorem Dev.issue_of_ready {d : Dev} {v : Oct} (hopen : isPeer v < 16 → d.peerOpen (isPeer v) = true) (hready : d.towReady = true)
    (hidle : d.tow.todo = []) : d.issue v = .ok ((d.issuePending v).issueBegin v) := by
  have idle : (d.issuePending v).tow.todo = [] := (d.issuePending_todo v).trans hidle
  have waits : ((d.issuePending v).setTow (fun x => { x with todo := x.todo ++ [v] })).tow.todo = [v] := by
    rw [Dev.setTow_tow, idle]
    rfl
  have ready : ((d.issuePending v).setTow (fun x => { x with todo := x.todo ++ [v] })).towReady = true :=
    (d.towReady_issuePending v).trans hready
  rw [Dev.issue_of_open hopen, if_pos hready, Dev.issueRun, waits]
  dsimp only
  rw [if_pos ready, Dev.setTow_todo_back v idle, Dev.issueRun_of_idle ((Dev.issueBegin_todo ..).trans idle)]

/-- The fault entry of an operation that Towpath cannot run leaves what decides about it (01 R17). -/
theorem Dev.towReady_towMacOff (d : Dev) : d.towMacOff.towReady = d.towReady := by
  have logged (kind block code whr detail ini : Nat) : (d.fault kind block code whr detail ini).towReady = d.towReady := by
    unfold Dev.fault
    split
    · have hon (n : Nat) : ((d.inc 0x7C0006).fire 94).on n = d.on n := Dev.fire_keeps (g := fun e => e.on n) (fun e k v => e.wr_on k v n) _ 94
      have hports : ((d.inc 0x7C0006).fire 94).rd 0x600004 = d.rd 0x600004 :=
        (Dev.rd_fire_of_lt _ 94 (by decide)).trans (Dev.rd_inc_other d (by decide))
      simp only [Dev.towReady, Dev.towMac, Dev.flag, hon, hports]
    · rfl
  exact logged ..

/-- An operation that Towpath cannot run waits (01 R16; log entry 78). -/
theorem Dev.issue_of_waits {d : Dev} {v : Oct} (hopen : isPeer v < 16 → d.peerOpen (isPeer v) = true) (hready : d.towReady = false) :
    d.issue v = .ok ((d.towMacOff.issuePending v).setTow (fun x => { x with todo := x.todo ++ [v] })) := by
  have ready : ((d.towMacOff.issuePending v).setTow (fun x => { x with todo := x.todo ++ [v] })).towReady = false :=
    (Dev.towReady_issuePending ..).trans (d.towReady_towMacOff.trans hready)
  rw [Dev.issue_of_open hopen, if_neg (by simp [hready]), Dev.issueRun]
  split
  · rfl
  · rw [if_neg (by simp [ready])]

/-! #### What the fields decide (15 R547, R549) -/

section
variable {e b : Dev} {c : Nat} {f : IssueFields} {op data : Oct}

/-- The slot of an operation of known fields. -/
theorem Dev.issuePending_fields (d : Dev) (hc : c < 256) (hok : f.ok = true) :
    d.issuePending (issueOctets c f) = if c = 4 then (d.wr (opSlotKey f.slot) (1 + 256 * c + 65536 * f.peer)).rsvTake (f.rsvWin % 8) 0xFE f.peer
      else d.wr (opSlotKey f.slot) (1 + 256 * c + 65536 * f.peer) := by
  simp only [Dev.issuePending, isOp_issueOctets hc, isSlot_issueOctets hok, isPeer_issueOctets hok, rsvWin_issueOctets hok]

/-- Codes 1 to 4 move a barge, the atomics none (15 Table 15.6). -/
@[simp] theorem isMoves_issueOctets (hc : c < 256) : isMoves (issueOctets c f) = (decide (1 ≤ c) && decide (c ≤ 4)) := by
  rw [isMoves, isOp_issueOctets hc]

/-- The owner of the barge of an operation towards a peer (15 R547). -/
theorem Dev.issueOwner_peer (hok : f.ok = true) (hpeer : f.peer < 16) : e.issueOwner (issueOctets c f) = .tow f.peer := by
  simp only [Dev.issueOwner, isPeer_issueOctets hok, if_pos hpeer]

/-- Only a READ towards a peer is looked up in the cache, and only where it is enabled (15 R549). -/
theorem Dev.cacheHit_none (hc : c < 256) (hok : f.ok = true) (h : c ≠ 1 ∨ ¬ f.peer < 16 ∨ e.rd 0x60000D ≠ 1) :
    e.cacheHit (issueOctets c f) = none := by
  have missed : (decide (c = 1) && decide (f.peer < 16) && decide (e.rd 0x60000D = 1)) = false := by
    rcases h with h | h | h <;> simp [h]
  simp only [Dev.cacheHit, isOp_issueOctets hc, isPeer_issueOctets hok, missed, Bool.false_eq_true, if_false]

end

section
variable {d e b : Dev} {c : Nat} {f : IssueFields} {tm : Timing} {op data : Oct} {bad : List Nat}

/-! #### The rest of an operation, by its code (15 R547-R551) -/

/-- A READ asks for its octets where the cache is not in use (15 R547). -/
theorem Dev.issueSend_read (hok : f.ok = true) (hcache : ¬ (f.peer < 16 ∧ b.rd 0x60000D = 1))
    (hop : op = opRecord 1 f.slot (f.win % 8 + 16 * f.scope + 64 * b2n f.release) f.off f.len 0 0 0) (src : Oct) :
    b.issueSend (issueOctets 1 f) src =
      (b.setOpSlot f.slot (some ⟨op, [], some f.barge, f.len, false, none, 1, none, f.off⟩)).launch f.peer op [] := by
  simp [Dev.issueSend, hok, hcache, hop]

/-- A READ with the cache in use asks for the whole lines its octets touch (15 R549). -/
theorem Dev.issueSend_readLines (hok : f.ok = true) (hpeer : f.peer < 16) (hcache : b.rd 0x60000D = 1)
    (hop : op = opRecord 1 f.slot (f.win % 8 + 16 * f.scope + 64 * b2n f.release) (f.off / 64 * 64)
      ((f.off + f.len + 63) / 64 * 64 - f.off / 64 * 64) 0 0 0) (src : Oct) :
    b.issueSend (issueOctets 1 f) src =
      (b.setOpSlot f.slot (some ⟨op, [], some f.barge, f.len, false, none, 1, none, f.off⟩)).launch f.peer op [] := by
  simp [Dev.issueSend, hok, hpeer, hcache, hop]

/-- A READ_ACQUIRE drops the peer's lines first (15 R550). -/
theorem Dev.issueSend_acquire (hok : f.ok = true)
    (hop : op = opRecord 2 f.slot (f.win % 8 + 16 * f.scope + 64 * b2n f.release) f.off f.len 0 0 0) (src : Oct) :
    b.issueSend (issueOctets 2 f) src = ((b.cacheDrop (fun c => c.peer == f.peer)).setOpSlot f.slot
      (some ⟨op, [], some f.barge, f.len, false, none, 1, none, f.off⟩)).launch f.peer op [] := by
  simp [Dev.issueSend, hok, hop]

/-- A WRITE drops the lines it touches and sends its octets (15 R547, R550). -/
theorem Dev.issueSend_write (hok : f.ok = true)
    (hop : op = opRecord 3 f.slot (f.win % 8 + 16 * f.scope + 64 * b2n f.release) f.off f.len 0 0 0) :
    b.issueSend (issueOctets 3 f) data = ((b.cacheTouch f.peer (f.win % 8) f.off f.len).setOpSlot f.slot
      (some ⟨op, data, some f.barge, 256, f.freeAfter, none, 1, none, f.off⟩)).launch f.peer op data := by
  simp [Dev.issueSend, hok, hop]

/-- A WRITE_RESERVE keeps the window whose reservation it took (15 R551). -/
theorem Dev.issueSend_reserve (hok : f.ok = true)
    (hop : op = opRecord 4 f.slot (f.win % 8 + 16 * f.scope + 64 * b2n f.release) f.off f.len 0 0 0) :
    b.issueSend (issueOctets 4 f) data = ((b.cacheTouch f.peer (f.win % 8) f.off f.len).setOpSlot f.slot
      (some ⟨op, data, some f.barge, 256, f.freeAfter, some (f.rsvWin % 8), 1, none, f.off⟩)).launch f.peer op data := by
  simp [Dev.issueSend, hok, hop]

/-- FETCH_ADD and SWAP send their operand (15 R544, R547). -/
theorem Dev.issueSend_operand (hc : c = 5 ∨ c = 6) (hok : f.ok = true)
    (hop : op = opRecord c f.slot (f.win % 8 + 16 * f.scope + 64 * b2n f.release) f.off 8 0 0 0) (src : Oct) :
    b.issueSend (issueOctets c f) src = ((b.cacheTouch f.peer (f.win % 8) f.off 8).setOpSlot f.slot
      (some ⟨op, leOct 8 f.opA, none, 256, false, none, 1, none, f.off⟩)).launch f.peer op (leOct 8 f.opA) := by
  rcases hc with rfl | rfl <;> simp [Dev.issueSend, hok, hop]

/-- CAS sends both operands (15 R544, R547). -/
theorem Dev.issueSend_cas (hok : f.ok = true)
    (hop : op = opRecord 7 f.slot (f.win % 8 + 16 * f.scope + 64 * b2n f.release) f.off 16 0 0 0) (src : Oct) :
    b.issueSend (issueOctets 7 f) src = ((b.cacheTouch f.peer (f.win % 8) f.off 8).setOpSlot f.slot
      (some ⟨op, leOct 8 f.opA ++ leOct 8 f.opB, none, 256, false, none, 1, none, f.off⟩)).launch f.peer op
        (leOct 8 f.opA ++ leOct 8 f.opB) := by
  simp [Dev.issueSend, hok, hop]

/-! #### The beginning of an operation, by its code (15 R547, R549) -/

/-- An operation that moves its barge waits for its lock cycle (15 R547). -/
theorem Dev.issueTake_moves (hok : f.ok = true) (hc : 1 ≤ c ∧ c ≤ 4) :
    e.issueTake (issueOctets c f) = (e.requestLock f.barge (e.issueOwner (issueOctets c f)) 256).awaitLocks [f.barge] := by
  rw [Dev.issueTake, isMoves_issueOctets (by omega), decide_and_decide hc.1 hc.2, if_pos rfl, isBarge_issueOctets hok]

/-- An atomic moves none. -/
theorem Dev.issueTake_atomic (hc : 5 ≤ c ∧ c < 256) : e.issueTake (issueOctets c f) = e := by
  rw [Dev.issueTake, isMoves_issueOctets hc.2, decide_eq_false (Nat.not_le.2 hc.1), Bool.and_false, if_neg Bool.false_ne_true]

/-- The slot PENDING leaves packet memory. -/
theorem Dev.ownerAfter_issuePending (d : Dev) (v : Oct) (b : Nat) : (d.issuePending v).ownerAfter b = d.ownerAfter b := by
  unfold Dev.issuePending
  dsimp only
  split <;> rfl

/-- An operation that the state rules let pass still has its barge when its slot is PENDING (15 R546). -/
theorem Dev.issue_holds (htakes : d.hostTakes 0x606001 (leNat (issueOctets c f)) tm = true) (hok : f.ok = true) (hc : 1 ≤ c ∧ c < 256) :
    (isMoves (issueOctets c f) && (d.issuePending (issueOctets c f)).ownerAfter (isBarge (issueOctets c f)) != .host) = false := by
  by_cases moves : c ≤ 4
  · rw [Dev.ownerAfter_issuePending, isBarge_issueOctets hok, Dev.ownerAfter_of_takes htakes hok ⟨hc.1, moves⟩]
    exact Bool.and_false _
  · rw [isMoves_issueOctets hc.2, decide_eq_false moves, Bool.and_false, Bool.false_and]

/-- An operation other than a write takes no octets from its barge. -/
theorem Dev.issueBegin_asks (hc : (c = 1 ∨ c = 2) ∨ 5 ≤ c) (hlow : c < 256)
    (hheld : (isMoves (issueOctets c f) && e.ownerAfter (isBarge (issueOctets c f)) != .host) = false)
    (hmiss : e.cacheHit (issueOctets c f) = none) :
    e.issueBegin (issueOctets c f) = (e.issueTake (issueOctets c f)).issueSend (issueOctets c f) [] := by
  have reads : (isOp (issueOctets c f) == 3 || isOp (issueOctets c f) == 4) = false := by
    rw [isOp_issueOctets hlow, Bool.or_eq_false_iff, beq_eq_false_iff_ne, beq_eq_false_iff_ne]
    omega
  have source : e.issueSource (issueOctets c f) = ([], [], e.issueTake (issueOctets c f)) := by
    rw [Dev.issueSource, reads, if_neg Bool.false_ne_true]
  rw [Dev.issueBegin_miss hheld hmiss, reads, Bool.false_and, if_neg Bool.false_ne_true, source]

/-- A write takes its octets from its barge, which is not poisoned (09 R312). -/
theorem Dev.issueBegin_writes (hc : c = 3 ∨ c = 4) (hok : f.ok = true)
    (hheld : (isMoves (issueOctets c f) && e.ownerAfter (isBarge (issueOctets c f)) != .host) = false)
    (hread : ((e.requestLock f.barge (e.issueOwner (issueOctets c f)) 256).awaitLocks [f.barge]).readMem (256 * f.barge) f.len []
      = (data, bad, b)) (hclean : (b.barge f.barge).poison = false) :
    e.issueBegin (issueOctets c f) = b.issueSend (issueOctets c f) data := by
  have writes : (isOp (issueOctets c f) == 3 || isOp (issueOctets c f) == 4) = true := by
    rw [isOp_issueOctets (by omega), Bool.or_eq_true, beq_iff_eq, beq_iff_eq]
    exact hc
  have source : e.issueSource (issueOctets c f) = (data, bad, b) := by
    rw [Dev.issueSource, writes, if_pos rfl, Dev.issueTake_moves hok (by omega), isBarge_issueOctets hok, isLen_issueOctets hok, hread]
  rw [Dev.issueBegin_miss hheld (Dev.cacheHit_none (by omega) hok (.inl (by omega))), source, isBarge_issueOctets hok]
  dsimp only
  rw [hclean, Bool.and_false, if_neg Bool.false_ne_true]

/-- An operation of the own node enters the LOCAL lane (15 R547). -/
theorem Dev.launch_own (b : Dev) (op data : Oct) :
    b.launch 0xFF op data = b.setLane 4 (fun l => { l with ops := l.ops ++ [⟨0xFF, 0, op, data, [], (b.win (opWin op)).closing, false, none⟩] }) :=
  rfl

/-! #### TOW_ISSUE of the host -/

/-- A write of TOW_ISSUE that Towpath can run at once. -/
theorem Dev.hostIssue_begins (hok : f.ok = true) (hopen : f.peer < 16 → d.peerOpen f.peer = true)
    (htakes : d.hostTakes 0x606001 (leNat (issueOctets c f)) tm = true) (hready : d.towReady = true) (hidle : d.tow.todo = [])
    (he : d.issuePending (issueOctets c f) = e) (hb : e.issueBegin (issueOctets c f) = b) : d.hostIssue c f tm = b.answered [] := by
  have opened : isPeer (issueOctets c f) < 16 → d.peerOpen (isPeer (issueOctets c f)) = true := by rwa [isPeer_issueOctets hok]
  exact Dev.hostIssue_effect htakes ((Dev.issue_of_ready opened hready hidle).trans (by rw [he, hb]))

/-- A write of TOW_ISSUE that Towpath cannot run waits (01 R16, R17; log entry 78). -/
theorem Dev.hostIssue_waits (hok : f.ok = true) (hopen : d.peerOpen f.peer = true)
    (htakes : d.hostTakes 0x606001 (leNat (issueOctets c f)) tm = true) (hready : d.towReady = false)
    (he : d.towMacOff.issuePending (issueOctets c f) = e) :
    d.hostIssue c f tm = (e.setTow (fun x => { x with todo := x.todo ++ [issueOctets c f] })).answered [] := by
  have opened : isPeer (issueOctets c f) < 16 → d.peerOpen (isPeer (issueOctets c f)) = true := by
    rw [isPeer_issueOctets hok]
    exact fun _ => hopen
  exact Dev.hostIssue_effect htakes ((Dev.issue_of_waits opened hready).trans (by rw [he]))

end

section
variable {d e b : Dev} {c : Nat} {f : IssueFields} {tm : Timing} {op data : Oct} {bad : List Nat}

/-- The slot of an operation other than a reserving write. -/
theorem Dev.issuePending_plain (hok : f.ok = true) (hc : c < 256) (hplain : c ≠ 4)
    (he : e = d.wr (opSlotKey f.slot) (1 + 256 * c + 65536 * f.peer)) : d.issuePending (issueOctets c f) = e := by
  rw [d.issuePending_fields hc hok, if_neg hplain, he]

/-- An operation that reads, with its barge passed to its owner. -/
theorem Dev.hostIssue_reads (hc : c = 1 ∨ c = 2) (hok : f.ok = true) (hopen : f.peer < 16 → d.peerOpen f.peer = true)
    (htakes : d.hostTakes 0x606001 (leNat (issueOctets c f)) tm = true) (hready : d.towReady = true) (hidle : d.tow.todo = [])
    (he : e = d.wr (opSlotKey f.slot) (1 + 256 * c + 65536 * f.peer)) (hmiss : e.cacheHit (issueOctets c f) = none)
    (hb : b = (e.requestLock f.barge (e.issueOwner (issueOctets c f)) 256).awaitLocks [f.barge]) :
    d.hostIssue c f tm = (b.issueSend (issueOctets c f) []).answered [] := by
  have pending := Dev.issuePending_plain hok (by omega) (by omega) he
  have held := Dev.issue_holds htakes hok (by omega)
  rw [pending] at held
  refine Dev.hostIssue_begins hok hopen htakes hready hidle pending ?_
  rw [Dev.issueBegin_asks (.inl hc) (by omega) held hmiss, Dev.issueTake_moves hok (by omega), ← hb]

/-- A READ that the cache answers. -/
theorem Dev.hostIssue_hit (hok : f.ok = true) (hpeer : f.peer < 16) (hopen : d.peerOpen f.peer = true)
    (htakes : d.hostTakes 0x606001 (leNat (issueOctets 1 f)) tm = true) (hready : d.towReady = true) (hidle : d.tow.todo = [])
    (he : e = d.wr (opSlotKey f.slot) (1 + 256 * 1 + 65536 * f.peer)) (hhit : e.cacheHit (issueOctets 1 f) = some data) :
    d.hostIssue 1 f tm = ((((((e.towStat 9).requestLock f.barge (.tow f.peer) 256).awaitLocks [f.barge]).writeMem (256 * f.barge)
      data).setOpSlot f.slot (some ⟨[], [], some f.barge, f.len, false, none, 1, none, f.off⟩)).slotDone f.slot 0 f.len 0).answered [] := by
  have pending := Dev.issuePending_plain hok (by decide) (by decide) he
  have held := Dev.issue_holds htakes hok (by decide)
  rw [pending] at held
  refine Dev.hostIssue_begins hok (fun _ => hopen) htakes hready hidle pending ?_
  rw [Dev.issueBegin_hit held hhit, Dev.issueTake_moves hok (by decide), Dev.issueOwner_peer hok hpeer, isBarge_issueOctets hok,
    isSlot_issueOctets hok, isLen_issueOctets hok, isOff_issueOctets hok]

/-- An operation that writes, with its octets read from its barge. -/
theorem Dev.hostIssue_writes (hc : c = 3 ∨ c = 4) (hok : f.ok = true) (hopen : f.peer < 16 → d.peerOpen f.peer = true)
    (htakes : d.hostTakes 0x606001 (leNat (issueOctets c f)) tm = true) (hready : d.towReady = true) (hidle : d.tow.todo = [])
    (he : d.issuePending (issueOctets c f) = e)
    (hread : ((e.requestLock f.barge (e.issueOwner (issueOctets c f)) 256).awaitLocks [f.barge]).readMem (256 * f.barge) f.len []
      = (data, bad, b)) (hclean : (b.barge f.barge).poison = false) :
    d.hostIssue c f tm = (b.issueSend (issueOctets c f) data).answered [] := by
  have held := Dev.issue_holds htakes hok (by omega)
  rw [he] at held
  exact Dev.hostIssue_begins hok hopen htakes hready hidle he (Dev.issueBegin_writes hc hok held hread hclean)

/-- An atomic moves no barge. -/
theorem Dev.hostIssue_atomic (hc : 5 ≤ c ∧ c < 256) (hok : f.ok = true) (hopen : d.peerOpen f.peer = true)
    (htakes : d.hostTakes 0x606001 (leNat (issueOctets c f)) tm = true) (hready : d.towReady = true) (hidle : d.tow.todo = []) :
    d.hostIssue c f tm =
      ((d.wr (opSlotKey f.slot) (1 + 256 * c + 65536 * f.peer)).issueSend (issueOctets c f) []).answered [] := by
  have pending := Dev.issuePending_plain (d := d) hok hc.2 (by omega) rfl
  have held := Dev.issue_holds htakes hok (by omega)
  rw [pending] at held
  refine Dev.hostIssue_begins hok (fun _ => hopen) htakes hready hidle pending ?_
  rw [Dev.issueBegin_asks (.inr hc.1) hc.2 held (Dev.cacheHit_none hc.2 hok (.inl (by omega))), Dev.issueTake_atomic hc]

end

/-- Settles O43: `hostIssue_reads`, `_hit`, `_writes`, `_atomic` and `_waits` say how an operation begins, `issueSend_…` what each code
sends. -/
theorem issueCommandsComplete : Obligations.IssueCommandsComplete := by
  unfold Obligations.IssueCommandsComplete
  refine ⟨?read, ?hit, ?readLines, ?write, ?atomic, ?ownRead, ?ownWrite, ?waits⟩
  case read =>
    rintro q d0 d e b f tm code op rfl hok hpeer hopen htakes hready hidle he hcache hb hoff hop
    have owner (c : Nat) : b = (e.requestLock f.barge (e.issueOwner (issueOctets c f)) 256).awaitLocks [f.barge] := by
      rw [Dev.issueOwner_peer hok hpeer, hb]
    constructor <;> rintro rfl
    · rw [exec_issueRead]
      refine State.run_eq hok ?_
      rw [Dev.hostIssue_reads (.inl rfl) hok (fun _ => hopen) htakes hready hidle he
        (Dev.cacheHit_none (by decide) hok (.inr (.inr hcache))) (owner 1), Dev.issueSend_read hok (fun h => hoff h.2) hop]
    · rw [exec_issueReadAcquire]
      refine State.run_eq hok ?_
      rw [Dev.hostIssue_reads (.inr rfl) hok (fun _ => hopen) htakes hready hidle he
        (Dev.cacheHit_none (by decide) hok (.inl (by decide))) (owner 2), Dev.issueSend_acquire hok hop]
  case hit =>
    rintro q d0 d e f tm data rfl hok hpeer hopen htakes hready hidle he hhit
    rw [exec_issueRead]
    exact State.run_eq hok (Dev.hostIssue_hit hok hpeer hopen htakes hready hidle he hhit)
  case readLines =>
    rintro q d0 d e b f tm o op rfl hok hpeer hopen htakes hready hidle he hmiss hb hcache rfl hop
    rw [← Dev.issueOwner_peer (c := 1) hok hpeer] at hb
    rw [exec_issueRead]
    refine State.run_eq hok ?_
    rw [Dev.hostIssue_reads (.inl rfl) hok (fun _ => hopen) htakes hready hidle he hmiss hb, Dev.issueSend_readLines hok hpeer hcache hop]
  case write =>
    rintro q d0 d y e b f tm code op data bad rfl hok hpeer hopen htakes hready hidle rfl he hread hclean hop
    have pending (hc : code < 256) := (Dev.issuePending_fields d0.hostStart hc hok).trans he.symm
    rw [← Dev.issueOwner_peer (c := code) hok hpeer] at hread
    constructor <;> rintro rfl
    · rw [exec_issueWrite]
      refine State.run_eq hok ?_
      rw [Dev.hostIssue_writes (.inl rfl) hok (fun _ => hopen) htakes hready hidle (pending (by decide)) hread hclean,
        Dev.issueSend_write hok hop]
    · rw [exec_issueWriteReserve]
      refine State.run_eq hok ?_
      rw [Dev.hostIssue_writes (.inr rfl) hok (fun _ => hopen) htakes hready hidle (pending (by decide)) hread hclean,
        Dev.issueSend_reserve hok hop]
  case atomic =>
    rintro q d0 d e f tm code op rfl hok hpeer hopen htakes hready hidle rfl hop
    refine ⟨?_, ?_, ?_⟩ <;> rintro rfl
    · rw [exec_issueFetchAdd]
      refine State.run_eq hok ?_
      rw [Dev.hostIssue_atomic (by decide) hok hopen htakes hready hidle, Dev.issueSend_operand (.inl rfl) hok hop]
    · rw [exec_issueSwap]
      refine State.run_eq hok ?_
      rw [Dev.hostIssue_atomic (by decide) hok hopen htakes hready hidle, Dev.issueSend_operand (.inr rfl) hok hop]
    · rw [exec_issueCas]
      refine State.run_eq hok ?_
      rw [Dev.hostIssue_atomic (by decide) hok hopen htakes hready hidle, Dev.issueSend_cas hok hop]
  case ownRead =>
    rintro q d0 d e b f tm op rfl hok hpeer htakes hready hidle he hb hop
    have own : ¬ f.peer < 16 := by omega
    rw [exec_issueRead]
    refine State.run_eq hok ?_
    rw [Dev.hostIssue_reads (.inl rfl) hok (fun h => absurd h own) htakes hready hidle (by rw [hpeer, he])
      (Dev.cacheHit_none (by decide) hok (.inr (.inl own))) hb, Dev.issueSend_read hok (fun h => own h.1) hop, hpeer, Dev.launch_own]
    rfl
  case ownWrite =>
    rintro q d0 d e b f tm op data bad rfl hok hpeer htakes hready hidle he hread hclean hop
    have own : ¬ f.peer < 16 := by omega
    have pending := Dev.issuePending_plain (c := 3) (d := d0.hostStart) (e := e) hok (by decide) (by decide) (by rw [hpeer, he])
    rw [exec_issueWrite]
    refine State.run_eq hok ?_
    rw [Dev.hostIssue_writes (.inl rfl) hok (fun h => absurd h own) htakes hready hidle pending hread hclean,
      Dev.issueSend_write hok hop, hpeer, Dev.launch_own]
    rfl
  case waits =>
    rintro q d0 d y e f tm code rfl hok hpeer hopen htakes hready rfl he
    rw [leOct_issueOctets] at he
    have waits (hc : code < 256) : d0.hostStart.hostIssue code f tm = e.answered [] := by
      rw [he, ← Dev.issuePending_fields _ hc hok]
      exact Dev.hostIssue_waits hok hopen htakes hready rfl
    refine ⟨?_, ?_, ?_, ?_⟩ <;> rintro rfl
    · rw [exec_issueRead]
      exact State.run_eq hok (waits (by decide))
    · rw [exec_issueWrite]
      exact State.run_eq hok (waits (by decide))
    · rw [exec_issueWriteReserve]
      exact State.run_eq hok (waits (by decide))
    · rw [exec_issueFetchAdd]
      exact State.run_eq hok (waits (by decide))

end Sys2Proof.Machine
end

/-! ### Dictionary transactions that nothing refuses (02 R54, R55, R61, R70) -/

section
namespace Sys2Proof.Machine

/-- What an object too large for one request is: the whole of a table image (02 Table 2.7). -/
theorem row_small_or_image {idx sb : Nat} {r : ObjRow} (h : rowAt idx sb = some r) (himg : imgOf idx = none) : r.ty.size < 2 ^ 16 := by
  have large : allRows (fun r => decide (r.ty.size < 2 ^ 16) || (r.nIdx == 1 && (imgOf r.idx).isSome)) = true := by decide +kernel
  have hr := row_of_allRows large h
  have hcov := (row_mem h).2
  simp only [Bool.or_eq_true, decide_eq_true_eq, Bool.and_eq_true, beq_iff_eq] at hr
  rcases hr with small | ⟨one, image⟩
  · exact small
  · simp only [ObjRow.covers, ObjRow.hasIdx, one, if_true, Bool.and_eq_true, beq_iff_eq] at hcov
    rw [← hcov.1, himg] at image
    exact absurd image (by decide)

/-- A read of an object whose value is no image, no cached signal and no INT_CLAIM, when orders 1 to 8 let it pass (02 R55). -/
theorem Dev.dictRead_of_value {d : Dev} {ini idx sb off len : Nat} {r : ObjRow} (hr : rowAt idx sb = some r)
    (hok : d.readAbort ini idx sb off len = none) (himg : imgOf idx = none) (hcache : idx / 256 ≠ 0x5A ∨ sb = 0)
    (hclaim : claimObj (objKey idx sb) = false) :
    d.dictRead ini idx sb off len = .ok (leOct 2 r.ty.size ++ leOct r.ty.size (d.readObj ini (objKey idx sb))) d := by
  have stored : (decide (idx / 256 = 0x5A) && decide (sb ≠ 0)) = false := by
    rcases hcache with h | h <;> simp [h]
  simp only [Dev.dictRead, hok, Dev.readNow, himg, stored, if_false, hr, Option.map_some, Option.getD_some, hclaim,
    Bool.false_eq_true]

theorem wf_dictRead {idx sb off len : Nat} {tm : Timing} (hidx : idx < 2 ^ 16) (hsb : sb < 2 ^ 8) (hoff : off < 2 ^ 32)
    (hlen : len < 2 ^ 16) : (Instr.dictRead idx sb off len tm).wf = true := by
  simp only [Instr.wf, hidx, hsb, hoff, hlen, decide_true, Bool.and_self]

theorem wf_dictWrite {idx sb ty off : Nat} {data : Oct} {tm : Timing} (hidx : idx < 2 ^ 16) (hsb : sb < 2 ^ 8) (hty : ty < 2 ^ 8)
    (hoff : off < 2 ^ 32) (hlen : data.length < 2 ^ 16) : (Instr.dictWrite idx sb ty off data tm).wf = true := by
  simp only [Instr.wf, hidx, hsb, hty, hoff, hlen, decide_true, Bool.and_self]

theorem wf_domainSegment {n off : Nat} {data : Oct} {tm : Timing} (hn : n < 14) (hoff : off < 2 ^ 32) (hlen : data.length < 2 ^ 16) :
    (Instr.domainSegment n off data tm).wf = true := by
  simp only [Instr.wf, hn, hoff, hlen, decide_true, Bool.and_self]

/-- Settles O10: the read is answered by `hostRead_ok` with the value of `dictRead_of_value`. -/
theorem dictReadCompletes : Obligations.DictReadCompletes := by
  unfold Obligations.DictReadCompletes
  rintro q d0 d idx sb off len tm r rfl hidx hsb hoff hlen htakes hr hok himg hcache hclaim
  rw [exec_dictRead]
  exact State.run_completes (wf_dictRead hidx hsb hoff hlen)
    (Dev.hostRead_ok htakes (Dev.dictRead_of_value hr hok himg hcache hclaim))

/-- The length of an object whose write passes orders 1 to 9. -/
theorem objSize_lt_of_passes {d : Dev} {k v : Nat} (h : d.passes k v = true) : objSize k < 2 ^ 16 := by
  unfold Dev.passes at h
  split at h
  · exact absurd h Bool.false_ne_true
  · rename_i r hr
    simp only [Bool.and_eq_true, Option.isNone_iff_eq_none] at h
    obtain ⟨⟨⟨⟨_, himg⟩, _⟩, _⟩, hva⟩ := h
    have hsize := row_small_or_image (Dev.row_of_findAt hr) himg
    have hlen : objSize k = r.ty.size := by
      by_contra hne
      simp [Dev.writeValueAbort, hne] at hva
    omega

/-- A DICT_WRITE that hostTakes lets pass is a command: its fields fit. -/
theorem wf_dictWrite_of_takes {d : Dev} {k v : Nat} {tm tm' : Timing} (hk : k < 2 ^ 24) (h : d.hostTakes k v tm' = true) :
    (Instr.dictWrite (k / 256) (k % 256) 0 0 (leOct (objSize k) v) tm).wf = true := by
  simp only [Dev.hostTakes, Bool.and_eq_true] at h
  have hsize := objSize_lt_of_passes h.2
  have hidx : k / 256 < 2 ^ 16 := by omega
  have hsub : k % 256 < 2 ^ 8 := by omega
  exact wf_dictWrite hidx hsub (by decide) (by decide) (by rwa [leOct_length])

/-- The objects of the table images (02 Table 2.7): none in the signal cache, each kept across a reset. -/
theorem image_object : ∀ n < 14, imgOf (imgIdx n) = some n ∧ objKey (imgIdx n) 0 / 0x10000 ≠ 0x5A ∧ objKey (imgIdx n) 0 ≠ 0x180003 ∧
    (rowAt (imgIdx n) 0).map (·.per) = some .p := by
  decide +kernel

/-- A segment that is too short to end its image's transfer is answered OK at once (02 R61; 03 R95). -/
theorem Dev.hostWrite_segment {d e : Dev} {n off : Nat} {data : Oct} {tm : Timing} {r : ObjRow} (hn : n < 14) (htakes : d.linkTakes tm = true)
    (hr : rowAt (imgIdx n) 0 = some r) (hw : d.writeAbort r 0 (imgIdx n * 256) 0x0B (leNat data) = none)
    (hseg : d.imgSegment n 0 off data = .ok e) : d.hostWrite (imgIdx n) 0 0x0B off data tm = e.answered [] := by
  obtain ⟨himg, hcache, hreset, hper⟩ := image_object n hn
  simp only [Dev.linkTakes, Bool.and_eq_true, Bool.not_eq_eq_eq_not, Bool.not_true] at htakes
  obtain ⟨⟨hup, hfree⟩, hlate⟩ := htakes
  obtain ⟨s, hs⟩ := Dev.freeSlot_of_taken hfree
  have hres : d.dictWrite 0 (imgIdx n) 0 0x0B off data = .ok [] e := by
    have hkey : imgIdx n * 256 = objKey (imgIdx n) 0 := (Nat.add_zero _).symm
    rw [hkey] at hw
    simp only [Dev.dictWrite, d.findAt_of_row hr hcache, hw, himg, hseg, WRes.toDRes]
  simp [Dev.hostWrite, Dev.hostCmd_of_up _ hup, hfree, hres, hper, hlate, hreset, Dev.hostDict, hs, Dev.settleTxn, Dev.sayRes,
    Dev.answered]

/-- Two changes of an image, the second of which looks at nothing the first has set. -/
theorem Dev.setImg_setImg (d : Dev) (n : Nat) (f g : Img → Img) : (d.setImg n f).setImg n g = d.setImg n (fun x => g (f x)) := by
  simp only [Dev.setImg, updAt_updAt]

/-- A discarded transfer is gone. -/
theorem Dev.img_imgDrop_xfer (d : Dev) (n : Nat) : ((d.imgDrop n).img n).xfer = none := by
  simp only [Dev.img, Dev.imgDrop, Dev.setImg_images]
  generalize d.images = l
  induction l generalizing n with
  | nil => rfl
  | cons i t ih =>
    cases n with
    | zero => rfl
    | succ n => exact ih n

/-- The first segment of an image, shorter than the header, opens a transfer (02 R61). -/
theorem Dev.imgSegment_first {d : Dev} {n ini : Nat} {data : Oct} (h0 : 0 < data.length) (h16 : data.length < 16) :
    d.imgSegment n ini 0 data =
      .ok ((d.imgCheckDone n).setImg n (fun i => { i with xfer := some ⟨ini, data, (d.imgCheckDone n).ck⟩ })) := by
  have nonempty : data.isEmpty = false := by cases data <;> simp_all
  have hlong : ¬1024 < data.length := by omega
  have hwhole : ¬16 ≤ data.length := by omega
  simp only [Dev.imgSegment, if_true, Dev.img_imgDrop_xfer, List.nil_append, nonempty, hlong, hwhole, Bool.or_false,
    List.length_nil, bne_self_eq_false, Bool.false_and, Bool.and_false, decide_false, Bool.false_eq_true, if_false]
  simp only [Dev.imgDrop, Dev.setImg_setImg, Dev.setImg_ck]

/-- A later segment, after which the image is not complete yet, extends the transfer (02 R61). -/
theorem Dev.imgSegment_later {d : Dev} {n ini : Nat} {data : Oct} {x : Xfer} (hx : ((d.imgCheckDone n).img n).xfer = some x)
    (hold : 16 ≤ x.data.length) (h0 : 0 < data.length) (h1024 : data.length ≤ 1024)
    (hpart : (x.data ++ data).length < leAt (x.data ++ data) 4 4) :
    d.imgSegment n ini x.data.length data =
      .ok ((d.imgCheckDone n).setImg n (fun i => { i with xfer := some ⟨ini, x.data ++ data, (d.imgCheckDone n).ck⟩ })) := by
  have nonempty : data.isEmpty = false := by cases data <;> simp_all
  have hoff : ¬x.data.length = 0 := by omega
  have hlong : ¬1024 < data.length := by omega
  have hhead : ¬x.data.length < 16 := by omega
  have hover : ¬leAt (x.data ++ data) 4 4 < (x.data ++ data).length := by omega
  have hends : ¬leAt (x.data ++ data) 4 4 = (x.data ++ data).length := by omega
  simp only [Dev.imgSegment, hoff, if_false, hx, nonempty, hlong, hhead, hover, hends, bne_self_eq_false, decide_false, Option.isNone_some,
    Bool.false_or, Bool.and_false, Bool.false_and, Bool.false_eq_true]

/-- Settles O11: a write is answered as `hostPut_ok` says, a segment as `hostWrite_segment` says of `imgSegment_first` and
`imgSegment_later`. -/
theorem dictWritesComplete : Obligations.DictWritesComplete := by
  unfold Obligations.DictWritesComplete
  refine ⟨?effect, ?stored, ?query, ?first, ?later⟩
  case effect =>
    rintro q d0 d d' k v tm rfl hk hreset htakes he
    rw [exec_dictWrite]
    exact State.run_completes (wf_dictWrite_of_takes hk htakes) (Dev.hostPut_ok htakes hreset he)
  case stored =>
    rintro q d0 d k v tm rfl hk htakes
    have he : (d0.hostStart.noteRx k).writeEffect 0 k v = .ok (d0.hostStart.wr k v) := by
      rw [Dev.noteRx_of_unit _ (by omega) (by omega)]
      have unit : k / 0x10000 = 0x20 := hk
      simp only [Dev.writeEffect, unit]
    rw [exec_dictWrite]
    exact State.run_completes (wf_dictWrite_of_takes (by omega) htakes) (Dev.hostPut_ok htakes (by omega) he)
  case query =>
    rintro q d0 d v tm rfl hv htakes
    rw [exec_queryAddr]
    refine State.run_completes (decide_eq_true hv) (Dev.hostPut_ok htakes (by decide) ?_)
    rw [Dev.noteRx_of_unit _ (by decide) (by decide)]
    rfl
  case first =>
    rintro q d0 d e n data tm r rfl rfl hn htakes hr hw h0 h16
    rw [exec_domainSegment]
    exact State.run_completes (wf_domainSegment hn (by decide) (by omega)) (Dev.hostWrite_segment hn htakes hr hw (Dev.imgSegment_first h0 h16))
  case later =>
    rintro q d0 d e n data tm r x rfl rfl hn htakes hr hw hx hold hmax h0 h1024 hpart
    rw [exec_domainSegment]
    exact State.run_completes (wf_domainSegment hn hmax (by omega))
      (Dev.hostWrite_segment hn htakes hr hw (Dev.imgSegment_later hx hold h0 h1024 hpart))

end Sys2Proof.Machine
end

/-! ### The events of a table image (02 R64-R66; 13 R459, R460; 20 R663) -/

section
namespace Sys2Proof.Machine

/-- The device at the end of the check of image `n`'s transfer `x`, at 8 octets for each CK (02 R64). -/
def Dev.imgChecked (d : Dev) (n : Nat) (x : Xfer) : Dev :=
  (d.advanceTo (x.last + (x.data.length + 7) / 8)).setImg n (fun i => { i with check := none })

section
variable {d e : Dev} {n : Nat} {x : Xfer} (hx : (d.img n).check = some x) (he : e = d.imgChecked n x)
include hx he

/-- An image that fails its check is discarded (02 R65). -/
theorem Dev.imgCheckDone_of_bad (hbad : imageOk n x.data = false) :
    d.imgCheckDone n = e.resolve x.ini (imgIdx n) 0 (.abort 0x0702 0) := by
  subst he
  simp only [Dev.imgCheckDone, hx, hbad, Bool.not_false, if_true]
  rfl

/-- A good image of the bridge or the sluice is staged (02 R64). -/
theorem Dev.imgCheckDone_staged (hok : imageOk n x.data = true) (hn : 10 ≤ n) :
    d.imgCheckDone n = (e.setImg n (fun i => { i with staged := some x.data })).resolve x.ini (imgIdx n) 0 (.ok []) := by
  subst he
  have other : decide (n < 10) = false := decide_eq_false (by omega)
  simp only [Dev.imgCheckDone, hx, hok, Dev.imgActive, Dev.imgInactive, other, Bool.not_true, Bool.false_and, Bool.false_eq_true, if_false]
  rfl

/-- A good image of the classifier's active generation is refused (13 R459). -/
theorem Dev.imgCheckDone_active (hok : imageOk n x.data = true) (hn : n < 10) (hgen : n / 5 = e.clsActive) :
    d.imgCheckDone n = e.resolve x.ini (imgIdx n) 0 (.abort 0x0203 0) := by
  subst he
  have active : (d.imgChecked n x).imgActive n = true := by simp [Dev.imgActive, hn, hgen]
  rw [Dev.imgChecked] at active
  simp only [Dev.imgCheckDone, hx, hok, active, Bool.not_true, Bool.false_eq_true, if_false, if_true]
  rfl

/-- A good image of the inactive generation is judged against the generation's other tables (13 R459, R460). -/
theorem Dev.imgCheckDone_inactive (hok : imageOk n x.data = true) (hn : n < 10) (hgen : n / 5 ≠ e.clsActive) :
    d.imgCheckDone n = (match e.genClash n x.data with
      | some c => (if c = 0x0501 then e.probeRefused n x.ini x.data else e).resolve x.ini (imgIdx n) 0 (.abort c 0)
      | none => (e.genPut n x.data).resolve x.ini (imgIdx n) 0 (.ok [])) := by
  subst he
  have passive : (d.imgChecked n x).imgActive n = false := by simp [Dev.imgActive, hgen]
  have inactive : (d.imgChecked n x).imgInactive n = true := by simp [Dev.imgInactive, hn, hgen]
  rw [Dev.imgChecked] at passive inactive
  simp only [Dev.imgCheckDone, hx, hok, passive, inactive, Bool.not_true, Bool.false_eq_true, if_false, if_true]
  rfl

end

/-- A transfer that hears nothing for 1 s is discarded and counted (02 R66). -/
theorem Dev.imgTimeout_of_open {d : Dev} {n : Nat} {x : Xfer} (hx : (d.img n).xfer = some x) :
    d.imgTimeout n = ((d.advanceTo (x.last + 100000000)).setImg n (fun i => { i with xfer := none })).inc 0x1E1003 := by
  simp only [Dev.imgTimeout, hx]
  rfl

/-- Settles O12: the check ends as `imgCheckDone_of_bad` and its companions say, the time-out as `imgTimeout_of_open` says. -/
theorem imageEventsComplete : Obligations.ImageEventsComplete := by
  unfold Obligations.ImageEventsComplete
  simp only [exec_imageCheckDone, exec_domainTransferTimeout]
  refine ⟨?staged, ?bad, ?active, ?taken, ?clash, ?timeout⟩
  case staged =>
    intro q d n x h10 hn hx hok
    exact State.run_completes (decide_eq_true hn) (Dev.imgCheckDone_staged hx rfl hok h10)
  case bad =>
    rintro q d e n x hn hx hbad he
    exact State.run_completes (decide_eq_true hn) (Dev.imgCheckDone_of_bad hx he hbad)
  case active =>
    rintro q d e n x hn hx hok he hgen
    exact State.run_completes (decide_eq_true (by omega)) (Dev.imgCheckDone_active hx he hok hn hgen)
  case taken =>
    rintro q d e n x hn hx hok he hgen hfree
    exact State.run_completes (decide_eq_true (by omega)) (by rw [Dev.imgCheckDone_inactive hx he hok hn hgen, hfree])
  case clash =>
    rintro q d e n c x hn hx hok he hgen hclash
    exact State.run_completes (decide_eq_true (by omega)) (by rw [Dev.imgCheckDone_inactive hx he hok hn hgen, hclash])
  case timeout =>
    intro q d n x hn hx
    exact State.run_completes (decide_eq_true hn) (Dev.imgTimeout_of_open hx)

end Sys2Proof.Machine
end

/-! ### Slots that expire, framing errors and HOST_LINK_RESET (02 R60, R80; 03 R105, R120, R123, R126) -/

section
namespace Sys2Proof.Machine

/-- A READY slot that nobody has collected is freed and counted, and its abort is logged (03 R105). -/
theorem Dev.slotExpiry_of_ready {d e : Dev} {s : Nat} {x : Slot} {r : Res} (hs : d.slot s = some x) (hr : x.res = some r)
    (he : e = ((d.advanceTo (x.since + 1000000)).setSlot s none).inc 0x181003) :
    d.slotExpiry s = (match r with
      | .abort c p => e.slotAbort x.cmd x.idx x.sub c p
      | .ok _ => e) := by
  subst he
  simp only [Dev.slotExpiry, hs, hr]
  cases r <;> rfl

/-- What a PENDING slot waited for goes on without it (03 R105; log entry 7). -/
def Dev.slotForgotten (d : Dev) (s : Nat) (x : Slot) : Dev :=
  if x.peer = 0xFF then d.setLk (fun l => { l with orphans := l.orphans ++ [(x.cmd, x.idx, x.sub, false)] })
  else d.setLk (fun l => { l with remotes := l.remotes.map (fun (y : Remote) =>
    if y.peer == x.peer && y.slot == s && y.fate == 0 then { y with fate := 2 } else y) })

/-- A slot PENDING for 1 s becomes READY with ABORT 0601h, which is counted (02 R60, R80; 03 R105). -/
theorem Dev.slotTimeout_of_pending {d : Dev} {s : Nat} {x : Slot} (hs : d.slot s = some x) (hr : x.res = none) :
    d.slotTimeout s = ((((d.advanceTo (x.since + 100000000)).slotForgotten s x).settleTxn 0 x.cmd x.idx x.sub (some 0x0601)).slotReady s
      (.abort 0x0601 0)) := by
  simp only [Dev.slotTimeout, hs, hr, Option.isSome_none, Bool.false_eq_true, if_false]
  rfl

/-- A framing error counts, sets LINK_ERR, and nothing answers (03 R120, R123). -/
theorem Dev.framing_of_answers {d : Dev} (h : d.linkAnswers = true) :
    d.framing = (d.inc 0x181004).setLk (fun l => { l with linkErr := true, lead := 0, response := [] }) := by
  simp only [Dev.framing, h, if_true]
  rfl

/-- HOST_LINK_RESET takes effect after its answer (03 R126). -/
theorem Dev.hostPut_linkReset {d : Dev} {tm : Timing} (h : d.hostTakes 0x180003 0xA5 tm = true) :
    d.hostPut 0x180003 0xA5 tm = (d.answered []).linkReset := by
  have effect : (d.noteRx 0x180003).writeEffect 0 0x180003 0xA5 = .ok d := by
    rw [d.noteRx_of_unit (by decide) (by decide)]
    rfl
  simp only [Dev.hostTakes, Dev.linkTakes, Bool.and_eq_true, Bool.not_eq_eq_eq_not, Bool.not_true] at h
  obtain ⟨⟨⟨hup, hfree⟩, hlate⟩, hpass⟩ := h
  obtain ⟨s, hs⟩ := Dev.freeSlot_of_taken hfree
  simp only [Dev.hostPut, Dev.hostWrite, Dev.hostCmd_of_up _ hup, hfree, Dev.dictWrite_passes hpass, effect, WRes.toDRes,
    Dev.not_pw_of_passes hpass, hlate, objKey_split, if_true, Bool.false_eq_true, if_false, Dev.hostDict, hs, Bool.or_false, Dev.settleTxn,
    Dev.sayRes, Dev.answered]

/-- Settles O16: each event of a slot as `slotExpiry_of_ready` and `slotTimeout_of_pending` say, a framing error as
`framing_of_answers` says, HOST_LINK_RESET by `hostPut_linkReset`. -/
theorem linkEventsComplete : Obligations.LinkEventsComplete := by
  unfold Obligations.LinkEventsComplete
  simp only [exec_slotReadyExpiry, exec_slotPendingTimeout, exec_csEarlyRise, exec_unknownCommand, exec_hostLinkReset]
  refine ⟨?collected, ?aborted, ?here, ?remote, ?rise, ?unknown, ?reset⟩
  case collected =>
    intro q d s x body hs hx hr
    exact State.run_completes (decide_eq_true hs) (Dev.slotExpiry_of_ready hx hr rfl)
  case aborted =>
    intro q d s x c p hs hx hr
    exact State.run_completes (decide_eq_true hs) (Dev.slotExpiry_of_ready hx hr rfl)
  case here =>
    intro q d s x hs hx hr hpeer
    exact State.run_completes (decide_eq_true hs) (by rw [Dev.slotTimeout_of_pending hx hr, Dev.slotForgotten, if_pos hpeer])
  case remote =>
    intro q d s x hs hx hr hpeer
    exact State.run_completes (decide_eq_true hs) (by rw [Dev.slotTimeout_of_pending hx hr, Dev.slotForgotten, if_neg hpeer])
  case rise =>
    intro q d h
    exact State.run_completes rfl (Dev.framing_of_answers h)
  case unknown =>
    intro q d code hcode hnone h
    have known : [0x11, 0x12, 0x21, 0x22, 0x23, 0x31, 0x41, 0x51, 0x61, 0x62].contains (code % 128) = false := by
      simpa only [List.contains_eq_mem, decide_eq_false_iff_not] using hnone
    have hwf : (Instr.unknownCommand code).wf = true := by
      simp only [Instr.wf, hcode, known, decide_true, Bool.not_false, Bool.and_self]
    exact State.run_completes hwf (Dev.framing_of_answers h)
  case reset =>
    rintro q d0 d tm rfl htakes
    exact State.run_completes rfl (Dev.hostPut_linkReset htakes)

end Sys2Proof.Machine
end

/-! ### Bank tests, table loads and cable diagnoses (04 R138, R710; 09 R319, R320; 12 R438, R439; 13 R459, R460) -/

section
namespace Sys2Proof.Machine

/-! #### What time and the unit's own writes leave of a slot -/

@[simp] theorem Dev.advanceTo_jobs (d : Dev) (t : Nat) : (d.advanceTo t).jobs = d.jobs :=
  have passed (e : Dev) (n : Nat) : (e.pass n).jobs = e.jobs := (apply_ite Dev.jobs ..).trans (ite_self _)
  Dev.tick_keeps Dev.wr_jobs Dev.setMac_jobs passed d _

@[simp] theorem Dev.jobU_advanceTo (d : Dev) (t n : Nat) : (d.advanceTo t).jobU n = d.jobU n := by
  rw [Dev.jobU, Dev.advanceTo_jobs, Dev.jobU]

@[simp] theorem Dev.jobU_wr (d : Dev) (k v n : Nat) : (d.wr k v).jobU n = d.jobU n := rfl

/-- A moment that has passed is now. -/
theorem Dev.advanceTo_max (d : Dev) (t : Nat) : d.advanceTo (max d.ck t) = d.advanceTo t := by
  have same : max d.ck t - d.ck = t - d.ck := by omega
  simp only [Dev.advanceTo, same]

/-- Two changes of a slot that agree on what it holds do the same. -/
theorem Dev.setJobU_congr {d : Dev} {n : Nat} {f g : JobU → JobU} (h : f (d.jobU n) = g (d.jobU n)) : d.setJobU n f = d.setJobU n g := by
  rw [Dev.setJobU, Dev.setJobU, updAt_congr (x := JobU.idle) h]

/-- The last unit of a RUNNING job that is not asked to leave ends it (04 R143). -/
theorem Dev.jobLast_of_unasked {d : Dev} {n : Nat} (h : d.jobAsked n = false) (f : Dev → Dev) : d.jobLast n f = f d := by
  simp only [Dev.jobLast, h, Bool.false_and, Bool.false_eq_true, if_false]

/-- A RUNNING job without a cause to suspend is not asked to leave (04 R133). -/
theorem Dev.jobAsked_of_running {d : Dev} {n : Nat} (hst : d.jobState n = 1) (hcause : (d.jobU n).cause = 0) : d.jobAsked n = false := by
  simp [Dev.jobAsked, hst, hcause]

/-- A RUNNING job carries its unit out (04 R143). -/
theorem Dev.jobUnit_of_running {d : Dev} {n kind : Nat} (hkind : d.jobKind n = kind) (hst : d.jobState n = 1)
    (hcause : (d.jobU n).cause = 0) (t : Nat) (last : Bool) : d.jobUnit n kind t last = true := by
  simp [Dev.jobUnit, hkind, hst, Dev.jobAsked_of_running hst hcause]

/-! #### The passes of a bank test (09 R319, R320) -/

/-- Watching a pound changes no object below 74_0000h (09 R302). -/
theorem Dev.rd_watchPound_of_lt (d : Dev) (p : Nat) {k : Nat} (h : k < 0x740000) : (d.watchPound p).rd k = d.rd k := by
  unfold Dev.watchPound
  dsimp only
  split
  · exact Dev.rd_fire_of_lt _ _ h
  · split <;> rfl

/-- The end of a bank test changes no object below 25_0000h: the slot's are among those (09 R320). -/
theorem Dev.rd_bankTestEnd_of_lt (d : Dev) (n : Nat) (full : Bool) {k : Nat} (h : k < 0x250000) : (d.bankTestEnd n full).rd k = d.rd k := by
  have retires (b : Nat) (x : Dev) : (if (x.barge b).retired then x else
      ((x.setBarge b (fun r => { r with retired := true })).inc 0x250002).fire 20).rd k = x.rd k := by
    split
    · rfl
    · rw [Dev.rd_fire_of_lt _ _ (by omega), Dev.rd_inc_other _ (by omega)]
      rfl
  have lists (bk : Nat) (x : Dev) : (x.rebuildFrees bk).rd k = x.rd k := by
    unfold Dev.rebuildFrees
    refine forEach_unchanged (fun x : Dev => x.rd k) (fun p x => ?_) _ x
    split <;> rfl
  have watches (x : Dev) : x.watchPounds.rd k = x.rd k :=
    forEach_unchanged (fun x : Dev => x.rd k) (fun p x => Dev.rd_watchPound_of_lt x p (by omega)) _ x
  unfold Dev.bankTestEnd
  dsimp only
  rw [watches, lists]
  split
  · rw [Dev.rd_wr_other _ _ (by omega)]
    refine (forEach_unchanged (fun x : Dev => x.rd k) ?_ _ _).trans (forEach_unchanged (fun x : Dev => x.rd k) retires _ _)
    exact fun b x => rfl
  · exact forEach_unchanged (fun x : Dev => x.rd k) retires _ _

/-- The words of a pass that failed to verify, counted and noted with their barges (09 R319). -/
def Dev.bankFails (d : Dev) (n : Nat) (bad : List Nat) : Dev :=
  forEach bad d (fun a x =>
    (if x.rd 0x255001 = 0xFFFFFFFF then (x.inc 0x255002).wr 0x255001 a else x.inc 0x255002).setJobU n (fun u =>
      { u with failed := if u.failed.contains (a / 256) then u.failed else u.failed ++ [a / 256] }))

/-- The end of a pass whose words have been judged: progress, and the pattern the next pass verifies (09 R319; log entry 64). -/
def Dev.bankPassed (d : Dev) (n m bk : Nat) : Dev :=
  ((d.wr (jobKey n 4) (m + 65536)).setJobU n (fun u => { u with items := if d.jobAsked n then [0] else [], since := d.ck })).setPm
    (fun x => { x with
      mem := memZero x.mem (0x80000 * bk) 0x80000,
      filled := x.filled.filter (fun y => y.1 != bk) ++ (if m / 65536 + 1 < 4 then [(bk, m / 65536 + 1)] else []) })

/-- How a bank test ends: FAILED where a word failed to verify, unless it is cancelled (09 R320). -/
def Dev.bankTestOver (n : Nat) (d : Dev) : Dev :=
  if !(d.jobU n).failed.isEmpty && (d.bankTestEnd n true).jobState n ≠ 4 then (d.bankTestEnd n true).jobFail n 0x0701
  else (d.bankTestEnd n true).jobDone n

/-- A pass of a RUNNING bank test (09 R319). -/
theorem Dev.bankTestPass_of_running {d : Dev} {n m : Nat} (bad : List Nat) (hkind : d.jobKind n = 6) (hst : d.jobState n = 1)
    (hitems : (d.jobU n).items = []) (hcause : (d.jobU n).cause = 0) (hm : m = d.rd (jobKey n 4)) (hleft : m < 262144) :
    d.bankTestPass n bad =
      (let f := ((d.advanceTo ((d.jobU n).since + 131072)).bankFails n
        (if m = 0 then [] else (bad.map (fun a => a / 8 * 8)).filter (fun a => bankOfAddr a == d.jobParam n 0))).bankPassed n m (d.jobParam n 0)
       if m / 65536 + 1 < 4 then f else f.jobLast n (Dev.bankTestOver n)) := by
  subst hm
  have unit : d.jobUnit n 6 (max d.ck ((d.jobU n).since + 131072)) (d.jobState n != 4) = true :=
    Dev.jobUnit_of_running hkind hst hcause _ _
  have more : ¬262144 ≤ d.rd (jobKey n 4) := by omega
  have counted (x : Dev) : (x.inc 0x255002).rd 0x255001 = x.rd 0x255001 := Dev.rd_inc_other x (by decide)
  simp only [Dev.bankTestPass, unit, hitems, more, counted, Dev.bankFails, Dev.bankPassed, List.isEmpty_nil, Bool.not_true, Bool.or_self,
    Bool.false_eq_true, if_false]
  rfl

/-- The last pass of a RUNNING bank test, in which no word failed (09 R319, R320). -/
theorem Dev.bankTestPass_last {d f : Dev} {n : Nat} (hn : n < 4) (hkind : d.jobKind n = 6) (hst : d.jobState n = 1)
    (hitems : (d.jobU n).items = []) (hcause : (d.jobU n).cause = 0) (hm : d.rd (jobKey n 4) = 196608)
    (hf : f = (d.advanceTo ((d.jobU n).since + 131072)).bankPassed n 196608 (d.jobParam n 0)) :
    d.bankTestPass n [] =
      if (d.jobU n).failed = [] then (f.bankTestEnd n true).jobDone n else (f.bankTestEnd n true).jobFail n 0x0701 := by
  have kept {β : Type} {g : JobU → β} (hg : ∀ (u : JobU) (l : List Nat) (t : Nat), g { u with items := l, since := t } = g u) :
      g (f.jobU n) = g (d.jobU n) := by
    rw [hf]
    exact (getD_updAt_kept (fun u => hg u _ _) _ _ _).trans (congrArg g (d.jobU_advanceTo _ n))
  have below {i : Nat} (hi : i < 256) : jobKey n i < 0x240000 := jobKey_lt hn hi
  have state : f.jobState n = 1 := by
    rw [hf]
    exact (Dev.rd_wr_other _ _ (jobKey_ne n (by decide))).trans ((Dev.jobState_advanceTo d _ hn).trans hst)
  have stateEnd : (f.bankTestEnd n true).jobState n ≠ 4 := by
    rw [Dev.jobState, Dev.rd_bankTestEnd_of_lt _ _ _ (Nat.lt_trans (below (by decide)) (by decide))]
    exact state.trans_ne (by decide)
  have unasked : f.jobAsked n = false := Dev.jobAsked_of_running state ((kept (g := JobU.cause) fun _ _ _ => rfl).trans hcause)
  have failed : (f.jobU n).failed = (d.jobU n).failed := kept (g := JobU.failed) fun _ _ _ => rfl
  rw [Dev.bankTestPass_of_running [] hkind hst hitems hcause hm.symm (by decide)]
  simp only [Nat.reduceDiv, Nat.reduceAdd, Nat.reduceLT, Nat.reduceEqDiff, if_false, List.map_nil, List.filter_nil]
  rw [Dev.bankFails, forEach, List.foldl_nil, ← hf, Dev.jobLast_of_unasked unasked, Dev.bankTestOver, failed]
  cases (d.jobU n).failed <;> simp [stateEnd]

/-! #### The end of a table load (04 R138, R710; 13 R459, R460) -/

section
variable {d e : Dev} {n i c : Nat} {l : Oct} {ok : Bool} (hc : c = d.loadCount n) (hl : l = (d.jobU n).data)
  (hunit : d.jobUnit n 4 (max d.ck ((d.jobU n).since + c)) false = true) (hi : d.jobImage n = some i)
  (he : e = (d.advanceTo ((d.jobU n).since + c)).wr (jobKey n 4) c)
include hc hl hunit hi he

/-- A load that passes its checks is in effect (04 R138). -/
theorem Dev.tableLoadDone_of_good (hclash : i < 10 → e.genClash i l = none)
    (hstored : d.jobParam n 2 = 1 → 16 ≤ l.length ∧ headerOk i l = true ∧ leAt l 4 4 = l.length ∧ ok = true ∧ imageOk i l = true) :
    d.tableLoadDone n ok = (e.tablePut i l).jobDone n := by
  subst hc hl he
  have free : (if i < 10 then ((d.advanceTo ((d.jobU n).since + d.loadCount n)).wr (jobKey n 4) (d.loadCount n)).genClash i (d.jobU n).data
      else none) = none := by
    split
    · exact hclash ‹_›
    · rfl
  simp only [Dev.tableLoadDone, hunit, hi, Dev.jobProgress, free, Option.isSome_none, Bool.or_false]
  by_cases hsrc : d.jobParam n 2 = 1
  · obtain ⟨hlen, hhead, hwhole, hread, himage⟩ := hstored hsrc
    simp [hlen, hhead, hwhole, hread, himage]
  · simp [hsrc]

/-- A load of a stored image that fails its checks, or of one that clashes with the other generation, ends FAILED (04 R138, R710;
13 R459, R460; log entries 64, 65). -/
theorem Dev.tableLoadDone_of_bad (hn : n < 4) (hst : d.jobState n ≠ 4)
    (hbad : (i < 10 ∧ e.genClash i l ≠ none) ∨ (d.jobParam n 2 = 1 ∧ (ok = false ∨ imageOk i l = false))) :
    d.tableLoadDone n ok = ((if i = 13 then e.fire 83 else e).jobUnclaim n).jobFail n 0x0702 := by
  have state : e.jobState n ≠ 4 := by
    rw [he, Dev.jobState, Dev.rd_wr_other _ _ (jobKey_ne n (by decide))]
    exact (Dev.jobState_advanceTo d _ hn).trans_ne hst
  subst hc hl he
  simp only [Dev.tableLoadDone, hunit, hi, Dev.jobProgress]
  refine (if_pos ?_).trans (if_neg state)
  rcases hbad with ⟨hgen, hclash⟩ | ⟨hsrc, hfails⟩
  · simp [hgen, Option.isSome_iff_ne_none.2 hclash]
  · rcases hfails with h | h <;> simp [hsrc, h]

end

/-! #### The phases of a cable diagnosis (12 R438, R439; log entry 93) -/

section
variable {d f : Dev} {n t : Nat} (e : Echo) (hunit : d.jobUnit n 7 (max d.ck t) false = true) (hf : f = d.advanceTo t)
include hunit hf

/-- The first phase looks for foreign energy. -/
theorem Dev.cablePhase_energy (ht : t = (d.jobU n).since + 1000000) (h0 : d.rd (jobKey n 4) = 0) (hcode : (d.jobU n).code ≠ 4) :
    d.cablePhase n e = (f.wr (jobKey n 4) 1).setJobU n (fun x => { x with since := f.ck, code := if e.energy then 4 else x.code }) := by
  subst ht hf
  have due : 10 * ckPerMs = 1000000 := rfl
  simp only [Dev.cablePhase, h0, hcode, due, hunit, Dev.advanceTo_max, Dev.jobProgress, decide_false, Nat.reduceLeDiff, Bool.or_self,
    Bool.not_true, Bool.false_eq_true, if_false]
  cases e.energy <;> rfl

/-- The second phase captures the echoes. -/
theorem Dev.cablePhase_echoes (ht : t = (d.jobU n).since + e.us * 100) (h1 : d.rd (jobKey n 4) = 1) (hcode : (d.jobU n).code ≠ 4) :
    d.cablePhase n e = (f.wr (jobKey n 4) 2).setJobU n (fun x => { x with since := f.ck, echoes := e.echoes }) := by
  subst ht hf
  have due : ckPerUs = 100 := rfl
  simp only [Dev.cablePhase, h1, hcode, due, hunit, Dev.advanceTo_max, Dev.jobProgress, decide_false, Nat.reduceLeDiff, Bool.or_self,
    Bool.not_true, Bool.false_eq_true, if_false]

/-- The third phase chooses the first echo above 200 permille, and its class. -/
theorem Dev.cablePhase_choice (ht : t = (d.jobU n).since + min e.us 1000 * 100) (h2 : d.rd (jobKey n 4) = 2)
    (hcode : (d.jobU n).code ≠ 4) {x : Option (Nat × Int)} (hx : x = (d.jobU n).echoes.find? (fun y => 200 < y.2.natAbs)) :
    d.cablePhase n e = (f.wr (jobKey n 4) 3).setJobU n (fun u =>
      { u with since := f.ck, echoes := x.toList, code := cableResult x e.result }) := by
  subst ht hf hx
  have due : ckPerUs = 100 := rfl
  simp only [Dev.cablePhase, h2, hcode, due, hunit, Dev.advanceTo_max, Dev.jobProgress, decide_false, Nat.reduceLeDiff, Bool.or_self,
    Bool.not_true, Bool.false_eq_true, if_false]
  refine Dev.setJobU_congr ?_
  rw [Dev.jobU_wr, Dev.jobU_advanceTo]
  rfl

/-- The last phase writes the results and leaves the port stopped. -/
theorem Dev.cablePhase_results (ht : t = (d.jobU n).since + 1) (hlast : 3 ≤ d.rd (jobKey n 4) ∨ (d.jobU n).code = 4) {p : Nat}
    (hp : p = d.jobParam n 0) :
    d.cablePhase n e = ((((f.wr (0x305002 + 0x10000 * p) (d.jobU n).code).wr (0x305003 + 0x10000 * p)
      (cableDistance (f.rd (0x305001 + 0x10000 * p)) ((d.jobU n).echoes.head?.map (·.1)))).wr (0x305004 + 0x10000 * p)
        (ofSigned 16 (((d.jobU n).echoes.head?.map (·.2)).getD 0))).setLink p 0).jobDone n := by
  subst ht hf hp
  have writes : (decide ((d.jobU n).code = 4) || decide (3 ≤ d.rd (jobKey n 4))) = true := by
    rcases hlast with h | h <;> simp [h]
  have key (i : Nat) : (0x3050 + 0x100 * d.jobParam n 0) * 256 + i = 0x305000 + i + 0x10000 * d.jobParam n 0 := by omega
  simp only [Dev.cablePhase, writes, if_true, hunit, Dev.advanceTo_max, key, Bool.not_true, Bool.false_eq_true, if_false]

end

theorem wf_bankTestPass {n : Nat} {bad : List Nat} (hn : n < 4) (hbad : ∀ w ∈ bad, w < 2 ^ 21) : (Instr.bankTestPass n bad).wf = true := by
  simp only [Instr.wf, hn, decide_true, Bool.true_and]
  exact List.all_eq_true.2 fun w hw => decide_eq_true (hbad w hw)

theorem wf_cableDiagPhase {n : Nat} {e : Echo} (hn : n < 4) (hecho : echoOk e = true) : (Instr.cableDiagPhase n e).wf = true := by
  simp only [Instr.wf, hn, hecho, decide_true, Bool.and_self]

/-- Settles O19: a pass of a bank test by `bankTestPass_of_running` and `bankTestPass_last`, the end of a load by
`tableLoadDone_of_good` and `tableLoadDone_of_bad`, a phase of a diagnosis by `cablePhase_energy` and the lemmas after it. -/
theorem jobUnitEventsComplete : Obligations.JobUnitEventsComplete := by
  unfold Obligations.JobUnitEventsComplete
  simp only [exec_bankTestPass, exec_tableLoadDone, exec_cableDiagPhase]
  refine ⟨?pass, ?lastPass, ?loaded, ?failed, ?energy, ?echoes, ?choice, ?results⟩
  case pass =>
    rintro q d e f n m bad hn hbad hkind hst hitems hcause hm hleft rfl rfl
    refine State.run_completes (wf_bankTestPass hn hbad) ?_
    have more : m / 65536 + 1 < 4 := by omega
    rw [Dev.bankTestPass_of_running bad hkind hst hitems hcause hm (by omega), Dev.bankPassed, if_pos more, if_pos more]
    rfl
  case lastPass =>
    intro q d e f n hn hkind hst hitems hcause hm he hf
    have none_bad : ∀ w ∈ ([] : List Nat), w < 2 ^ 21 := fun w hw => absurd hw List.not_mem_nil
    refine State.run_completes (wf_bankTestPass hn none_bad) ?_
    have whole : ¬196608 / 65536 + 1 < 4 := by decide
    rw [Dev.bankTestPass_last hn hkind hst hitems hcause hm rfl, hf, he]
    simp only [Dev.bankPassed, if_neg whole, List.append_nil, Nat.reduceAdd]
  case loaded =>
    intro q d e n i c l ok hn hc hl hunit hi he hclash hstored
    exact State.run_completes (decide_eq_true hn) (Dev.tableLoadDone_of_good hc hl hunit hi he hclash hstored)
  case failed =>
    intro q d e n i c l ok hn hc hl hunit hi hst he hbad
    exact State.run_completes (decide_eq_true hn) (Dev.tableLoadDone_of_bad hc hl hunit hi he hn hst hbad)
  case energy =>
    intro q d f n e hn hecho hunit h0 hcode hf
    exact State.run_completes (wf_cableDiagPhase hn hecho) (Dev.cablePhase_energy e hunit hf rfl h0 hcode)
  case echoes =>
    intro q d f n e hn hecho hunit h1 hcode hf
    exact State.run_completes (wf_cableDiagPhase hn hecho) (Dev.cablePhase_echoes e hunit hf rfl h1 hcode)
  case choice =>
    intro q d f n e x hn hecho hunit h2 hcode hf hx
    exact State.run_completes (wf_cableDiagPhase hn hecho) (Dev.cablePhase_choice e hunit hf rfl h2 hcode hx)
  case results =>
    intro q d f n p e hn hecho hunit hlast hp hf
    exact State.run_completes (wf_cableDiagPhase hn hecho) (Dev.cablePhase_results e hunit hf rfl hlast hp)

end Sys2Proof.Machine
end

/-! ### Pounds, allocation and the query (09 R293, R296-R300, R313, R325) -/

section
namespace Sys2Proof.Machine

/-- A host's write of an object of 09 that nothing refuses has its effect at once. -/
theorem Dev.hostPut_pm {d e : Dev} {k v : Nat} {tm : Timing} (h : d.hostTakes k v tm = true) (hk : k / 0x10000 = 0x25)
    (he : d.pmEffect 0 k v = .ok e) : d.hostPut k v tm = e.answered [] := by
  refine Dev.hostPut_ok h (by omega) ?_
  rw [d.noteRx_of_unit (by omega) (by omega)]
  simp only [Dev.writeEffect, hk, he]

/-- A write of POUND_ENABLE goes to the pound (09 R296, R297). -/
theorem Dev.pmEffect_poundEnable (d : Dev) (ini v : Nat) {p : Nat} (hp : p < 16) :
    d.pmEffect ini (0x252003 + 256 * p) v = .ok (d.poundEnable p v) := by
  have range : (decide (0x252000 ≤ 0x252003 + 256 * p) && decide (0x252003 + 256 * p < 0x253000)
      && decide ((0x252003 + 256 * p) % 256 = 3)) = true := by simp; omega
  have pound : (0x252003 + 256 * p) / 256 - 0x2520 = p := by omega
  simp only [Dev.pmEffect, range, pound, if_true, if_neg (show ¬0x252003 + 256 * p = 0x250801 by omega),
    if_neg (show ¬0x252003 + 256 * p = 0x250803 by omega), if_neg (show ¬0x252003 + 256 * p = 0x250901 by omega)]

/-- Enabling a DISABLED pound makes it ENABLING (09 R296). -/
theorem Dev.poundEnable_of_disabled {d : Dev} {p : Nat} (h : d.poundState p = 0) :
    d.poundEnable p 1 = (d.wr (0x252003 + 256 * p) 1).wr (0x252007 + 256 * p) 1 := by
  simp only [Dev.poundEnable, h, if_true]

/-- Disabling a DISABLED pound does nothing further (09 R297). -/
theorem Dev.poundDisable_of_disabled {d : Dev} {p : Nat} (h : d.poundState p = 0) :
    d.poundEnable p 0 = d.wr (0x252003 + 256 * p) 0 := by
  simp only [Dev.poundEnable, h, if_true, Nat.zero_ne_one, if_false]

/-- Disabling a pound makes its FREE barges the host's (09 R297). -/
theorem Dev.poundDisable_of_enabled {d : Dev} {p : Nat} (h : d.poundState p ≠ 0) :
    d.poundEnable p 0 = (((Dev.setPm (forEach ((d.poundKnown p).filter (fun b => (d.barge b).owner == .free))
      (d.wr (0x252003 + 256 * p) 0) (fun b e => e.setBarge b (fun r => { r with owner := .host, valid := 0 })))
        (fun m => { m with frees := m.frees.filter (fun e => e.1 != p) })).wr (0x252007 + 256 * p) 0).watchPound p) := by
  simp only [Dev.poundEnable, h, Nat.zero_ne_one, if_false]
  rfl

/-- An ENABLING pound zeroes its HOST barges one after the other (09 R296; log entry 36). -/
theorem Dev.poundMove_of_host {d : Dev} {p b : Nat} (hst : d.poundState p = 1) (hon : d.on dPM0 = true)
    (hidle : (d.poundOnBarges p).any d.moving = false)
    (hb : (d.poundOnBarges p).find? (fun b => (d.barge b).owner == .host && !d.lockBusy b) = some b) :
    d.poundMove p = (d.setBarge b (fun r => { r with owner := .zeroing })).zeroFrom b := by
  simp [Dev.poundMove, hst, hon, hidle, hb]

/-- What is left of an ENABLING pound zeroed, it is ENABLED (09 R296, R301, R313). -/
theorem Dev.poundEnabled_of_ready {d e : Dev} {p since : Nat} (stuck : List Nat) {left : List Nat} (hst : d.poundState p = 1)
    (hon : d.on dPM0 = true)
    (hleft : left = (d.poundOnBarges p).filter (fun b => d.moving b || ((d.barge b).owner == .host && !d.lockBusy b)))
    (hall : (d.poundOnBarges p).all (fun b => d.moved b || left.contains b) = true)
    (hsince : since = ((d.pm.zeroAt.find? (fun x => left.contains x.1)).map (·.2)).getD d.ck)
    (he : e = d.advanceTo (since + (left.map (fun b => if (d.barge b).poison then 64 else 32)).sum)) :
    d.poundEnabled p stuck =
      (forEach (List.range 4)
        (forEach left (e.setPm (fun m => { m with zeroAt := m.zeroAt.filter (fun x => !left.contains x.1) })) (fun b e =>
          ((e.zeroBarge b).verified b (stuck.any (fun w => w / 256 == b))).setBarge b
            (fun r => { r with owner := if r.retired then .zeroing else .free, valid := 0 })))
        (fun k e => e.addFree p k (left.filter (fun b => bankOf b == k && !(e.barge b).retired)))).poundReady p := by
  subst hsince he
  simp only [Dev.poundEnabled, ← hleft, hst, hon, hall, decide_true, Bool.and_self, if_true]

/-- ALLOC_REQ of one barge of an enabled pound that has one to give (09 R298, R299). -/
theorem Dev.allocReq_one {d d' : Dev} {p b : Nat} (hp : p < 16) (hon : d.on dPM0 = true) (hst : d.poundState p = 2)
    (hfree : 1 ≤ d.poundFree p) (hone : d.allocOne p .host = some (b, d')) :
    d.allocReq 0 (256 + p) = .ok ((d'.watchPound p).wr 0x250802 (leNat (leOct 2 b ++ List.replicate 14 (oct 0xFF)))) := by
  have pound : bits (256 + p) 3 0 = p := by simp only [bits, Nat.shiftRight_zero]; omega
  have count : bits (256 + p) 15 8 = 1 := by simp only [bits, Nat.shiftRight_eq_div_pow]; omega
  have key : iniKey 0 0x250802 = 0x250802 := rfl
  have given : d.alloc p .host 1 = (some [b], d'.watchPound p) := by
    simp [Dev.alloc, Dev.allocMany, hon, hst, hfree, hone]
  simp only [Dev.allocReq, pound, count, given, key, List.map_cons, List.map_nil, List.flatten_cons, List.flatten_nil, List.append_nil,
    List.length_cons, List.length_nil, Nat.reduceAdd, Nat.reduceMul, Nat.reduceSub]

/-- FREE_REQ of a barge of a pound asks for its zeroing (09 R300, R301). -/
theorem Dev.freeReq_of_pooled {d : Dev} {b : Nat} (hpool : d.pooled b = true) (hidle : d.locksOf b = [])
    (hown : (d.barge b).owner = .host) : d.freeReq b = d.pushLock b .host .zeroing 256 := by
  have own : d.ownerAfter b = .host := by simp [Dev.ownerAfter, hidle, hown]
  have dest : d.lockDest b .zeroing = .zeroing := by simp [Dev.lockDest, hpool]
  simp only [Dev.freeReq, hpool, if_true, Dev.freeBarge, Dev.freeWith, Dev.requestLock, own, dest, transferOk]

/-- FREE_REQ of a barge outside the pounds leaves it the host's (09 R293, R300; log entry 37). -/
theorem Dev.freeReq_of_unpooled {d : Dev} {b : Nat} (hpool : d.pooled b = false) : d.freeReq b = d.pushLock b .host .host 256 := by
  simp only [Dev.freeReq, hpool, Bool.false_eq_true, if_false]

theorem wf_poundEnabled {p : Nat} {stuck : List Nat} (hp : p < 16) (hstuck : ∀ w ∈ stuck, w < 2 ^ 21) :
    (Instr.poundEnabled p stuck).wf = true := by
  simp only [Instr.wf, hp, decide_true, Bool.true_and]
  exact List.all_eq_true.2 fun w hw => decide_eq_true (hstuck w hw)

/-- Settles O29: a host's command is a write of an object of 09 (`hostPut_pm`) with the effect its lemma names, POUND_ENABLED by
`poundEnabled_of_ready`. -/
theorem poundCommandsComplete : Obligations.PoundCommandsComplete := by
  unfold Obligations.PoundCommandsComplete
  refine ⟨?enable, ?move, ?disable, ?again, ?enabled, ?alloc, ?freePooled, ?freeHost, ?query⟩
  case enable =>
    rintro q d0 d p tm rfl hp htakes hst
    rw [exec_poundEnable]
    exact State.run_completes (decide_eq_true hp)
      (Dev.hostPut_pm htakes (by omega) (by rw [Dev.pmEffect_poundEnable _ 0 1 hp, Dev.poundEnable_of_disabled hst]))
  case move =>
    intro d p b
    exact Dev.poundMove_of_host
  case disable =>
    rintro q d0 d p tm rfl hp htakes hst
    rw [exec_poundDisable]
    exact State.run_completes (decide_eq_true hp)
      (Dev.hostPut_pm htakes (by omega) (by rw [Dev.pmEffect_poundEnable _ 0 0 hp, Dev.poundDisable_of_enabled hst]))
  case again =>
    rintro q d0 d p tm rfl hp htakes hst
    rw [exec_poundDisable]
    exact State.run_completes (decide_eq_true hp)
      (Dev.hostPut_pm htakes (by omega) (by rw [Dev.pmEffect_poundEnable _ 0 0 hp, Dev.poundDisable_of_disabled hst]))
  case enabled =>
    rintro q d e p since stuck bs left hp hstuck hst hon rfl hleft hall hsince he
    rw [exec_poundEnabled]
    exact State.run_completes (wf_poundEnabled hp hstuck) (Dev.poundEnabled_of_ready stuck hst hon hleft hall hsince he)
  case alloc =>
    rintro q d0 d d' p b tm rfl hp htakes hon hfree hone
    have enabled : d0.hostStart.poundState p = 2 := by
      have value := Dev.valueOk_of_passes (Bool.and_eq_true_iff.1 htakes).2
      have pound : bits (256 + p) 3 0 = p := by simp only [bits, Nat.shiftRight_zero]; omega
      simp [Dev.valueOk, Dev.pmValue, pound] at value
      exact value.2
    rw [exec_allocReq]
    exact State.run_completes (decide_eq_true (by omega)) (Dev.hostPut_pm htakes (by decide) (Dev.allocReq_one hp hon enabled hfree hone))
  case freePooled =>
    rintro q d0 d b tm rfl hb htakes hpool hidle hown
    rw [exec_freeReq]
    exact State.run_completes (decide_eq_true (by omega))
      (Dev.hostPut_pm htakes (by decide) (congrArg WRes.ok (Dev.freeReq_of_pooled hpool hidle hown)))
  case freeHost =>
    rintro q d0 d b tm rfl hb htakes hpool
    rw [exec_freeReq]
    exact State.run_completes (decide_eq_true (by omega))
      (Dev.hostPut_pm htakes (by decide) (congrArg WRes.ok (Dev.freeReq_of_unpooled hpool)))
  case query =>
    rintro q d0 d b tm rfl hb htakes
    rw [exec_bargeQuery]
    exact State.run_completes (decide_eq_true (by omega)) (Dev.hostPut_pm htakes (by decide) rfl)

end Sys2Proof.Machine
end

/-! ### Lock cycles (09 R301, R305-R307, R313) -/

section
namespace Sys2Proof.Machine

/-- Time leaves packet memory alone (01 R21). -/
@[simp] theorem Dev.advanceTo_pm (d : Dev) (t : Nat) : (d.advanceTo t).pm = d.pm :=
  have passed (e : Dev) (n : Nat) : (e.pass n).pm = e.pm := (apply_ite Dev.pm ..).trans (ite_self _)
  Dev.tick_keeps Dev.wr_pm Dev.setMac_pm passed d _

@[simp] theorem Dev.barge_advanceTo (d : Dev) (t b : Nat) : (d.advanceTo t).barge b = d.barge b := by
  rw [Dev.barge, Dev.advanceTo_pm, Dev.barge]

/-- A record put that is not the initial one is the one found. -/
theorem find?_putBarge_same (l : List (Nat × Barge)) (b : Nat) {r : Barge} (hr : r ≠ Barge.init) :
    (putBarge l b r).find? (fun e => e.1 == b) = some (b, r) := by
  induction l with
  | nil => simp [putBarge, hr]
  | cons e t ih =>
    obtain ⟨k, v⟩ := e
    simp only [putBarge, hr, if_false]
    split
    · simp
    · split
      · simp
      · rw [List.find?_cons_of_neg (by simpa using ‹¬k = b›), ih]

/-- A barge whose record is changed, to one that is not the initial one, has that record. -/
theorem Dev.barge_setBarge_same {d : Dev} {b : Nat} {f : Barge → Barge} (h : f (d.barge b) ≠ Barge.init) :
    (d.setBarge b f).barge b = f (d.barge b) := by
  simp only [Dev.setBarge, Dev.barge] at h ⊢
  rw [find?_putBarge_same _ b h]
  rfl

/-- CLOSE takes the bank's oldest request and notes the new owner (09 R305). -/
theorem Dev.lockClose_of_request {d : Dev} {k : Nat} {r : LockReq} {t : List LockReq} (hidle : d.pm.cycle.getD k none = none)
    (hr : d.pm.lockq.getD k [] = r :: t) (hon : d.bankOn k = true) :
    d.lockClose k = (d.setBarge r.barge (fun x => { x with next := some r.dest })).setPm (fun m =>
      { m with lockq := updAt m.lockq k (fun _ => t), cycle := updAt m.cycle k (fun _ => some { r with at_ := d.ck }) }) := by
  simp only [Dev.lockClose, hidle, hr, hon, if_true]
  rfl

section
variable {d e : Dev} {k : Nat} {r : LockReq} (ss : List Strike) (hr : d.pm.cycle.getD k none = some r)
include hr

/-- OPEN after a ZERO phase: the barge is zeroed beyond its valid length and has its owner (09 R306, R307). -/
theorem Dev.lockOpen_zeroes (hdest : r.dest ≠ .zeroing)
    (he : e = d.advanceTo (r.at_ + 1 + (32 - (r.len + 7) / 8 + (if r.len % 8 = 0 then 0 else 3)))) :
    d.lockOpen k ss = ((e.setPm (fun m => { m with cycle := updAt m.cycle k (fun _ => none) })).zeroMem
      (256 * r.barge + r.len) (256 - r.len) ss).setBarge r.barge (fun x => { x with owner := r.dest, valid := r.len, next := none }) := by
  subst he
  simp only [Dev.lockOpen, hr, zeroCk, if_neg hdest]
  rfl

/-- OPEN towards ZEROING has no ZERO phase (09 R306). -/
theorem Dev.lockOpen_frees (hdest : r.dest = .zeroing) (he : e = d.advanceTo (r.at_ + 1)) :
    d.lockOpen k ss = ((e.setPm (fun m => { m with cycle := updAt m.cycle k (fun _ => none) })).zeroFrom r.barge).setBarge r.barge
      (fun x => { x with owner := .zeroing, valid := r.len, next := none }) := by
  subst he
  simp only [Dev.lockOpen, hr, zeroCk, hdest, if_true, Nat.add_zero]
  rfl

end

/-- A barge whose zeroing ends clean joins its free list, or is the host's (09 R293, R301, R313). -/
theorem Dev.zeroingDone_of_clean {d e : Dev} {b since : Nat} (hown : (d.barge b).owner = .zeroing) (hnext : (d.barge b).next = none)
    (hkept : (d.barge b).retired = false) (hon : d.bankOn (bankOf b) = true)
    (hsince : d.pm.zeroAt.find? (fun x => x.1 == b) = some (b, since))
    (he : e = d.advanceTo (since + (if (d.barge b).poison then 64 else 32))) :
    d.zeroingDone b [] = ((e.setPm (fun m => { m with
      mem := memZero m.mem (256 * b) 256, bad := m.bad.filter (fun w => w / 256 != b),
      upsets := m.upsets.filter (fun s => strikeWord s / 256 != b), zeroAt := m.zeroAt.filter (fun x => x.1 != b) })).setBarge b
        (fun r => { r with poison := false })).joinFree b := by
  subst he
  have ready : ((d.barge b).owner = .zeroing && (d.barge b).next.isNone && !(d.barge b).retired && d.bankOn (bankOf b)) = true := by
    simp [hown, hnext, hkept, hon]
  set x := (((d.advanceTo (since + (if (d.barge b).poison then 64 else 32))).zeroBarge b).setPm
    (fun m => { m with zeroAt := m.zeroAt.filter (fun e => e.1 != b) })) with hx
  have record : x.barge b = d.barge b := d.barge_advanceTo _ b
  have verified : x.verified b false = x.setBarge b (fun r => { r with poison := false }) := by
    simp only [Dev.verified, Bool.and_false, Bool.false_eq_true, if_false]
  have sound : ((x.setBarge b (fun r => { r with poison := false })).barge b).retired = false := by
    have own : ({ x.barge b with poison := false } : Barge) ≠ Barge.init := fun h => by
      have zeroing := congrArg Barge.owner h
      rw [record] at zeroing
      exact absurd (hown.symm.trans zeroing) (by decide)
    rw [Dev.barge_setBarge_same own, record, hkept]
  simp only [Dev.zeroingDone, ready, if_true, hsince, Option.map_some, Option.getD_some, List.any_nil, ← hx, verified, sound,
    Bool.false_eq_true, if_false]
  rfl

theorem wf_lockCycleOpen {k : Nat} {ss : List Strike} (hk : k < 4) (hss : strikesOk ss = true) : (Instr.lockCycleOpen k ss).wf = true := by
  simp only [Instr.wf, hk, hss, decide_true, Bool.and_self]

/-- Settles O30: CLOSE by `lockClose_of_request`, OPEN by `lockOpen_zeroes` and `lockOpen_frees`, the end of a zeroing by
`zeroingDone_of_clean`. -/
theorem lockCycleCommandsComplete : Obligations.LockCycleCommandsComplete := by
  unfold Obligations.LockCycleCommandsComplete
  simp only [exec_lockCycleClose, exec_lockCycleOpen, exec_zeroingDone]
  refine ⟨?close, ?zeroes, ?frees, ?zeroed⟩
  case close =>
    intro q d k r t hk hidle hr hon
    exact State.run_completes (decide_eq_true hk) (Dev.lockClose_of_request hidle hr hon)
  case zeroes =>
    intro q d e k r ss hk hss hr hdest he
    exact State.run_completes (wf_lockCycleOpen hk hss) (Dev.lockOpen_zeroes ss hr hdest he)
  case frees =>
    intro q d e k r ss hk hss hr hdest he
    exact State.run_completes (wf_lockCycleOpen hk hss) (Dev.lockOpen_frees ss hr hdest he)
  case zeroed =>
    intro q d e b since hb hown hnext hkept hon hsince he
    have hwf : (Instr.zeroingDone b []).wf = true := by
      simp only [Instr.wf, hb, decide_true, List.all_nil, Bool.and_self]
    exact State.run_completes hwf (Dev.zeroingDone_of_clean hown hnext hkept hon hsince he)

end Sys2Proof.Machine
end

/-! ### Refusals of the dictionary and the object query (02 R41-R43, R46, R68-R71; 18 R642; 19 R661; 20 R675) -/

section
namespace Sys2Proof.Machine

/-! #### What the object tables hold (02 Tables 2.6, 2.8) -/

/-- Every row covers a subindex, and none beyond FFh. -/
theorem row_sub_range {h : Nat} {r : ObjRow} (hr : r ∈ objRowsOf h) : 0 < r.nSub ∧ r.sub + r.nSub ≤ 256 := by
  have every : allRows (fun r => decide (0 < r.nSub) && decide (r.sub + r.nSub ≤ 256)) = true := by decide +kernel
  by_cases hh : h < 256
  · have hp := List.all_eq_true.1 (List.all_eq_true.1 every h (List.mem_range.2 hh)) r hr
    simpa using hp
  · rw [objRowsOf_high (by omega)] at hr
    exact absurd hr List.not_mem_nil

/-- An index with a row has an object. -/
theorem exists_row_of_hasIdx {idx : Nat} {r : ObjRow} (hr : r ∈ objRowsOf (idx / 256)) (hidx : r.hasIdx idx = true) :
    ∃ s r', rowAt idx s = some r' := by
  have covers : r.covers idx r.sub = true := by
    have := (row_sub_range hr).1
    simp only [ObjRow.covers, hidx, Bool.true_and, Bool.and_eq_true, decide_eq_true_eq]
    omega
  exact ⟨r.sub, Option.isSome_iff_exists.1 (List.find?_isSome.2 ⟨r, hr, covers⟩)⟩

/-- The signal cache is read only (14 Table 14.11). -/
theorem cache_readOnly {idx sb : Nat} {r : ObjRow} (hr : rowAt idx sb = some r) (hcache : objKey idx sb / 0x10000 = 0x5A) :
    r.acc = .ro ∨ r.acc = .const := by
  have cache : (objRowsOf 0x5A).all (fun r => r.acc == .ro || r.acc == .const) = true := by decide +kernel
  obtain ⟨hmem, hcov⟩ := row_mem hr
  have hsub := (row_sub_range hmem).2
  simp only [ObjRow.covers, Bool.and_eq_true, decide_eq_true_eq] at hcov
  have unit : idx / 256 = 0x5A := by
    unfold objKey at hcache
    omega
  rw [unit] at hmem
  simpa using List.all_eq_true.1 cache r hmem

/-- Two rows of a table that cover subindices 0 and 1 of one index: the first is read only (02 R46). -/
theorem record_head_readOnly {idx : Nat} {r r1 : ObjRow} (h0 : rowAt idx 0 = some r) (h1 : rowAt idx 1 = some r1) :
    r.acc = .ro ∨ r.acc = .const := by
  have records : (List.range 256).all (fun h => (objRowsOf h).all fun r => (objRowsOf h).all fun r1 =>
      r.acc == .ro || r.acc == .const || r.sub != 0 || decide (1 < r1.sub) || decide (r1.sub + r1.nSub ≤ 1)
        || decide (r.idx + (if r.nIdx = 1 then 1 else r.nIdx * r.step) ≤ r1.idx)
        || decide (r1.idx + (if r1.nIdx = 1 then 1 else r1.nIdx * r1.step) ≤ r.idx)) = true := by decide +kernel
  obtain ⟨hm, hc⟩ := row_mem h0
  obtain ⟨hm1, hc1⟩ := row_mem h1
  have hh : idx / 256 < 256 := Nat.lt_of_not_le fun h => by
    rw [objRowsOf_high h] at hm
    exact List.not_mem_nil hm
  have range {x : ObjRow} (hx : x.hasIdx idx = true) : x.idx ≤ idx ∧ idx < x.idx + (if x.nIdx = 1 then 1 else x.nIdx * x.step) := by
    unfold ObjRow.hasIdx at hx
    split at hx
    · have same : idx = x.idx := by simpa using hx
      rw [if_pos ‹_›]
      omega
    · simp only [Bool.and_eq_true, decide_eq_true_eq] at hx
      rw [if_neg ‹_›]
      exact hx.1
  have hp := List.all_eq_true.1 (List.all_eq_true.1 (List.all_eq_true.1 records _ (List.mem_range.2 hh)) r hm) r1 hm1
  simp only [ObjRow.covers, Bool.and_eq_true, decide_eq_true_eq] at hc hc1
  have hr := range hc.1
  have hr1 := range hc1.1
  simp only [Bool.or_eq_true, beq_iff_eq, bne_iff_ne, decide_eq_true_eq] at hp
  rcases hp with (((((hro | hconst) | hsub) | hlow) | hhigh) | hbelow) | habove
  · exact .inl hro
  · exact .inr hconst
  · omega
  · omega
  · omega
  · omega
  · omega

/-- The unassigned ranges of Table 2.8 hold no row. -/
theorem rowAt_of_unassigned {idx : Nat} (s : Nat) (h : objRowsOf (idx / 256) = []) : rowAt idx s = none := by
  rw [rowAt, h]
  rfl

/-- A BOOL8 is no table image, and its range is 00h to 01h (02 R41). -/
theorem bool8_row {idx sb : Nat} {r : ObjRow} (hr : rowAt idx sb = some r) (hty : r.ty = .bool8) :
    imgOf idx = none ∧ r.lo = 0 ∧ r.hi = 1 ∧ r.zeroOk = false := by
  have every : allRows (fun r => r.ty != .bool8 || (r.lo == 0 && r.hi == 1 && !r.zeroOk)) = true := by decide +kernel
  have images : ∀ e ∈ imageObjs, ∀ r ∈ objRowsOf (e.1 / 256), r.hasIdx e.1 = true → r.ty ≠ .bool8 := by decide +kernel
  have hp := row_of_allRows every hr
  simp only [hty, bne_self_eq_false, Bool.false_or, Bool.and_eq_true, beq_iff_eq, Bool.not_eq_true'] at hp
  obtain ⟨hmem, hcov⟩ := row_mem hr
  refine ⟨?_, hp.1.1, hp.1.2, hp.2⟩
  refine List.findIdx?_eq_none_iff.2 fun e he => ?_
  by_contra hne
  have same : e.1 = idx := by simpa using hne
  subst same
  exact images e he r hmem (Bool.and_eq_true_iff.1 hcov).1 hty

/-! #### Transactions that are refused -/

/-- An object that orders 1 to 7 let be written is found (02 Table 2.5). -/
theorem Dev.findAt_of_writable {d : Dev} {ini idx sb ty v : Nat} {r : ObjRow} (hr : rowAt idx sb = some r)
    (hw : d.writeAbort r ini (objKey idx sb) ty v = none) : d.findAt idx sb = .inr r := by
  refine d.findAt_of_row hr fun hcache => ?_
  have readOnly : (decide (r.acc = .ro) || decide (r.acc = .const)) = true := by
    rcases cache_readOnly hr hcache with h | h <;> simp [h]
  rw [Dev.writeAbort, if_pos readOnly] at hw
  exact absurd hw (by simp)

/-- An index without an object is unknown (02 R42). -/
theorem findObj_of_no_row {idx : Nat} (h : ∀ s, rowAt idx s = none) (sb : Nat) : findObj idx sb = .inl 0x0101 := by
  have unknown : ¬(objRowsOf (idx / 256)).any (fun r => r.hasIdx idx) = true := by
    simp only [List.any_eq_true, not_exists, not_and]
    intro r hr hidx
    obtain ⟨s, r', hs⟩ := exists_row_of_hasIdx hr hidx
    exact absurd (h s) (hs ▸ Option.some_ne_none r')
  rw [findObj, h sb]
  exact if_neg unknown

/-- What orders 1 and 2 refuse: 0101h an index without an object, 0102h a subindex its index has none at (02 R42). -/
theorem findObj_refuses {idx sb c : Nat} (h : findObj idx sb = .inl c) :
    rowAt idx sb = none ∧ ((c = 0x0101 ∧ ∀ s, rowAt idx s = none) ∨ (c = 0x0102 ∧ ∃ s r, rowAt idx s = some r)) := by
  cases hr : rowAt idx sb with
  | some r =>
    rw [findObj, hr] at h
    exact absurd h (by simp)
  | none =>
    refine ⟨rfl, ?_⟩
    by_cases hall : ∀ s, rowAt idx s = none
    · rw [findObj_of_no_row hall] at h
      exact .inl ⟨(Sum.inl.inj h).symm, hall⟩
    · obtain ⟨s, hs⟩ := not_forall.1 hall
      obtain ⟨r, hrow⟩ := Option.ne_none_iff_exists'.1 hs
      obtain ⟨hmem, hcov⟩ := row_mem hrow
      have known : (objRowsOf (idx / 256)).any (fun r => r.hasIdx idx) = true :=
        List.any_eq_true.2 ⟨r, hmem, (Bool.and_eq_true_iff.1 hcov).1⟩
      rw [findObj, hr] at h
      exact .inr ⟨(Sum.inl.inj ((if_pos known).symm.trans h)).symm, s, r, hrow⟩

/-- Orders 1 and 2 refuse a transaction of either kind, and it changes nothing (02 R42, R56). -/
theorem Dev.refused_of_findAt {d : Dev} {idx sb c : Nat} (h : d.findAt idx sb = .inl c) (ini ty off len : Nat) (data : Oct) :
    d.dictRead ini idx sb off len = .abort c d ∧ d.dictWrite ini idx sb ty off data = .abort c d := by
  simp only [Dev.dictRead, Dev.readAbort, Dev.dictWrite, h, and_self]

/-- Orders 3 to 7 refuse a write with a code of their own, other than those of a PW object without energy (02 Table 2.5). -/
theorem Dev.dictWrite_of_writeAbort {d : Dev} {ini idx sb ty off c : Nat} {data : Oct} {r : ObjRow} (hf : d.findAt idx sb = .inr r)
    (hw : d.writeAbort r ini (objKey idx sb) ty (leNat data) = some c) (hc : c ≠ 0x0203) :
    d.dictWrite ini idx sb ty off data = .abort c d := by
  simp [Dev.dictWrite, hf, hw, hc]

/-- A write with another type than its object's is refused at order 7 (02 R68). -/
theorem Dev.writeAbort_of_type {d : Dev} {r : ObjRow} {ini k ty v : Nat} (hw : d.writeAbort r ini k 0 v = none) (hty : ty ≠ 0)
    (hcode : ty ≠ r.ty.code) : d.writeAbort r ini k ty v = some 0x0303 := by
  unfold Dev.writeAbort at hw ⊢
  split
  · rw [if_pos ‹_›] at hw
    exact absurd hw (by simp)
  · rw [if_neg ‹_›] at hw
    split at hw
    · exact absurd hw (by simp)
    · split at hw
      · exact absurd hw (by simp)
      · split at hw
        · exact absurd hw (by simp)
        · simp [*]

/-- A write that a host gives and the engine refuses is answered with its code and counted (02 R60, R80; 03 R95). -/
theorem Dev.hostWrite_aborts {d : Dev} {idx sb ty off c : Nat} {data : Oct} {tm : Timing} (htakes : d.linkTakes tm = true)
    (hper : ∀ r, rowAt idx sb = some r → r.per ≠ .pw) (hres : d.dictWrite 0 idx sb ty off data = .abort c d) :
    d.hostWrite idx sb ty off data tm = (d.settleTxn 0 0x12 idx sb (some c)).sayAbort c 0 := by
  simp only [Dev.linkTakes, Bool.and_eq_true, Bool.not_eq_eq_eq_not, Bool.not_true] at htakes
  obtain ⟨⟨hup, hfree⟩, hlate⟩ := htakes
  obtain ⟨s, hs⟩ := Dev.freeSlot_of_taken hfree
  have plain : (((rowAt idx sb).map (·.per)) == some Persist.pw) = false := by
    cases hr : rowAt idx sb with
    | none => rfl
    | some r => simpa using hper r hr
  simp only [Dev.hostWrite, Dev.hostCmd_of_up _ hup, hfree, hres, plain, hlate, Dev.hostDict, hs, Bool.or_self, Bool.false_eq_true, if_false,
    Dev.sayRes]

/-- Settles O50: an index without an object by `findObj_of_no_row`, a record's head by `record_head_readOnly`, a type by
`writeAbort_of_type`, a length at order 8, the host's answer by `hostWrite_aborts`. -/
theorem dictionaryRefusals : Obligations.DictionaryRefusals := by
  unfold Obligations.DictionaryRefusals
  refine ⟨?unknown, ?unassigned, ?record, ?type, ?length, ?answer⟩
  case unknown =>
    intro d ini idx sb ty off len data h
    have found : d.findAt idx sb = .inl 0x0101 := by rw [Dev.findAt, findObj_of_no_row h]
    exact Dev.refused_of_findAt found ini ty off len data
  case unassigned =>
    intro idx s h
    have tables : (List.range 256).all (fun x => !(x < 0x10 || (0x19 ≤ x && x < 0x1E) || (0x27 ≤ x && x < 0x30) || (0x34 ≤ x && x < 0x38)
        || (0x39 ≤ x && x < 0x40) || (0x48 ≤ x && x < 0x50) || (0x5C ≤ x && x < 0x60) || (0x6C ≤ x && x < 0x70) || 0x80 ≤ x)
        || (objRowsOf x).isEmpty) = true := by decide +kernel
    refine rowAt_of_unassigned s ?_
    by_cases hh : idx / 256 < 256
    · have hp := List.all_eq_true.1 tables _ (List.mem_range.2 hh)
      simp only [Bool.or_eq_true, Bool.not_eq_true', Bool.or_eq_false_iff, Bool.and_eq_false_iff, decide_eq_false_iff_not,
        List.isEmpty_iff] at hp
      exact hp.resolve_left (by omega)
    · exact objRowsOf_high (by omega)
  case record =>
    intro d ini idx ty off data r r1 h0 h1
    have present : d.findAt idx 0 = .inr r := by
      have whole : d.cacheAbsent (objKey idx 0) = false := by simp [Dev.cacheAbsent, objKey]
      simp [Dev.findAt, findObj_of_row h0, whole]
    have readOnly : (decide (r.acc = .ro) || decide (r.acc = .const)) = true := by
      rcases record_head_readOnly h0 h1 with h | h <;> simp [h]
    exact Dev.dictWrite_of_writeAbort present (if_pos readOnly) (by decide)
  case type =>
    intro d ini idx sb ty off data r hr hw hty hcode
    exact Dev.dictWrite_of_writeAbort (Dev.findAt_of_writable hr hw) (Dev.writeAbort_of_type hw hty hcode) (by decide)
  case length =>
    intro d ini idx sb ty off data r hr himg hw hlen
    have badLength : d.writeValueAbort r (objKey idx sb) off data = some 0x0302 := by simp [Dev.writeValueAbort, hlen]
    simp only [Dev.dictWrite, Dev.findAt_of_writable hr hw, hw, himg, badLength]
  case answer =>
    rintro q d0 d idx sb ty off c data tm rfl hidx hsb hty hoff hlen htakes hper hres
    rw [exec_dictWrite]
    exact State.run_completes (wf_dictWrite hidx hsb hty hoff hlen) (Dev.hostWrite_aborts htakes hper hres)

/-! #### Values outside their range -/

/-- A write that orders 1 to 7 let pass, of an object that is no image, is judged by its value (02 Table 2.5). -/
theorem Dev.dictWrite_of_writable {d : Dev} {ini idx sb ty off : Nat} {data : Oct} {r : ObjRow} (hr : rowAt idx sb = some r)
    (himg : imgOf idx = none) (hw : d.writeAbort r ini (objKey idx sb) ty (leNat data) = none) :
    d.dictWrite ini idx sb ty off data = (match d.writeValueAbort r (objKey idx sb) off data with
      | some c => .abort c d
      | none => ((d.noteRx (objKey idx sb)).writeEffect ini (objKey idx sb) (leNat data)).toDRes) := by
  simp only [Dev.dictWrite, Dev.findAt_of_writable hr hw, hw, himg] <;> rfl

/-- The fault counters of the interrupt controller, the fault log and the claims. -/
def faultCounters : List Nat := [0x780001, 0x7C0005, 0x7C0006, 0x7F0001, 0x7F0003]

/-- The fault counters are objects of 4 octets from 00h to FFFF_FFFFh, and no images. -/
theorem faultCounter_row : ∀ k ∈ faultCounters,
    (rowOf k).map (fun r => (r.ty.size, r.lo, r.hi)) = some (4, 0, 0xFFFFFFFF) ∧ rowAt (k / 256) (k % 256) = rowOf k
      ∧ imgOf (k / 256) = none ∧ maxOf k = 0xFFFFFFFF := by
  decide +kernel

/-- A fault counter takes zero alone (18 R642; 19 R661; 20 R675). -/
theorem Dev.valueOk_faultCounter (d : Dev) {k : Nat} (hk : k ∈ faultCounters) (v : Nat) : d.valueOk k v = (v == 0) := by
  simp only [faultCounters, List.mem_cons, List.not_mem_nil, or_false] at hk
  rcases hk with rfl | rfl | rfl | rfl | rfl <;> rfl

/-- A write of zero to a fault counter stores it. -/
theorem Dev.writeEffect_faultCounter (d : Dev) {k : Nat} (hk : k ∈ faultCounters) (ini v : Nat) :
    (d.noteRx k).writeEffect ini k v = .ok (d.wr k v) := by
  have unit : k / 0x10000 ≠ 0x26 ∧ k / 0x10000 ≠ 0x38 := (by decide : ∀ k ∈ faultCounters, k / 0x10000 ≠ 0x26 ∧ k / 0x10000 ≠ 0x38) k hk
  rw [d.noteRx_of_unit unit.1 unit.2]
  simp only [faultCounters, List.mem_cons, List.not_mem_nil, or_false] at hk
  rcases hk with rfl | rfl | rfl | rfl | rfl <;> rfl

/-- Settles O51: a BOOL8's range by `bool8_row`, a counter's by `valueOk_faultCounter`; a counter stops at the greatest value of its type. -/
theorem booleansAndFaultCounters : Obligations.BooleansAndFaultCounters := by
  unfold Obligations.BooleansAndFaultCounters
  refine ⟨?bool, ?zero, ?saturates⟩
  case bool =>
    intro d ini idx sb ty data r hr hty hw hlen hv
    obtain ⟨himg, hlo, hhi, hz⟩ := bool8_row hr hty
    have beyond : ¬leNat data ≤ 1 := by omega
    have outside : d.rangeOk r (objKey idx sb) (leNat data) = false := by
      simp [Dev.rangeOk, hlo, hhi, hz, hty, beyond]
    have badValue : d.writeValueAbort r (objKey idx sb) 0 data = some 0x0301 := by
      simp [Dev.writeValueAbort, hty, ObjType.size, hlen, outside]
    rw [Dev.dictWrite_of_writable hr himg hw, badValue]
  case zero =>
    intro k hk d ini ty data r hr hw hlen
    obtain ⟨hrow, hat, himg, -⟩ := faultCounter_row k hk
    rw [hr] at hrow hat
    simp only [Option.map_some, Option.some.injEq, Prod.mk.injEq] at hrow
    obtain ⟨hsize, hlo, hhi⟩ := hrow
    have query : k ≠ 0x1F0001 := (by decide : ∀ k ∈ faultCounters, k ≠ 0x1F0001) k hk
    have value : d.writeValueAbort r k 0 data = if leNat data = 0 then none else some 0x0301 := by
      by_cases h0 : leNat data = 0 <;>
        simp [Dev.writeValueAbort, hlen, hsize, Dev.rangeOk, hlo, hhi, d.valueOk_faultCounter hk, query, h0]
    have hw' : d.writeAbort r ini (objKey (k / 256) (k % 256)) ty (leNat data) = none := by rwa [objKey_split]
    rw [Dev.dictWrite_of_writable hat himg hw', objKey_split, value, d.writeEffect_faultCounter hk]
    by_cases h0 : leNat data = 0
    · rw [if_pos h0, if_pos h0, h0]
      rfl
    · rw [if_neg h0, if_neg h0]
  case saturates =>
    intro k hk d
    refine ⟨?_, fun x hx => Dev.rd_inc_other d hx⟩
    have full : maxOf k = 0xFFFFFFFF := (faultCounter_row k hk).2.2.2
    exact (Dev.rd_wr_same d k _).trans (congrArg (min (d.rd k + 1)) full)

/-! #### The object query (02 R69-R71) -/

/-- QUERY_ADDR is held for each initiator (02 R69). -/
theorem Dev.readObj_queryAddr (d : Dev) (ini : Nat) : d.readObj ini 0x1F0001 = d.rd (iniKey ini 0x1F0001) := by
  have stored : d.computed ini 0x1F0001 = none := by simp [Dev.computed]
  have separate : perIni 0x1F0001 = true := by decide
  rw [Dev.readObj, stored, separate, Option.getD_none, if_pos rfl]

/-- QUERY_RESULT is computed from the initiator's QUERY_ADDR (02 R70). -/
theorem Dev.readObj_queryResult (d : Dev) (ini : Nat) :
    d.readObj ini 0x1F0002 = if d.rd (iniKey ini 0x1F0001) = 0 then 0 else queryResult (d.rd (iniKey ini 0x1F0001)) := by
  have computed : d.computed ini 0x1F0002 =
      some (if d.rd (iniKey ini 0x1F0001) = 0 then 0 else queryResult (d.rd (iniKey ini 0x1F0001))) := by simp [Dev.computed]
  rw [Dev.readObj, computed, Option.getD_some]

/-- QUERY_ADDR is an object of 4 octets, of full range. -/
theorem queryAddr_row {r : ObjRow} (hr : rowAt 0x1F00 1 = some r) :
    r.ty.size = 4 ∧ r.lo = 0 ∧ r.hi = 0xFFFFFFFF ∧ imgOf 0x1F00 = none := by
  have row : (rowAt 0x1F00 1).map (fun r => (r.ty.size, r.lo, r.hi)) = some (4, 0, 0xFFFFFFFF) := by decide +kernel
  rw [hr] at row
  simp only [Option.map_some, Option.some.injEq, Prod.mk.injEq] at row
  exact ⟨row.1, row.2.1, row.2.2, rfl⟩

/-- Settles O52: a write of QUERY_ADDR is judged by its value and then as an access to what it names (`findAt`), refusals by
`findObj_refuses`, results by `readObj_queryAddr` and `readObj_queryResult`. -/
theorem objectQuery : Obligations.ObjectQuery := by
  unfold Obligations.ObjectQuery
  refine ⟨?write, fun idx sb c => findObj_refuses, ?own, ?other⟩
  case write =>
    intro d ini ty data r hr hw hlen
    obtain ⟨hsize, hlo, hhi, himg⟩ := queryAddr_row hr
    have hbound : leNat data < 2 ^ 32 := by simpa [hlen] using leNat_lt data
    have range : d.rangeOk r 0x1F0001 (leNat data) = decide (leNat data < 2 ^ 24) := by
      have fits : leNat data ≤ 0xFFFFFFFF := by omega
      simp [Dev.rangeOk, hlo, hhi, fits, Dev.valueOk]
    have effect : (d.noteRx 0x1F0001).writeEffect ini 0x1F0001 (leNat data) = .ok (d.wr (iniKey ini 0x1F0001) (leNat data)) := by
      rw [d.noteRx_of_unit (by decide) (by decide)]
      rfl
    rw [Dev.dictWrite_of_writable hr himg hw, show objKey 0x1F00 1 = 0x1F0001 from rfl, effect]
    by_cases hv : leNat data < 2 ^ 24
    · have address : leNat data / 256 % 65536 = leNat data / 256 := by omega
      rw [if_neg (by omega)]
      simp only [Dev.writeValueAbort, hlen, hsize, range, hv, address]
      cases d.findAt (leNat data / 256) (leNat data % 256) <;> rfl
    · rw [if_pos (by omega)]
      simp only [Dev.writeValueAbort, hlen, hsize, range, hv]
      rfl
  case own =>
    intro d ini v r hv hr
    have named : v ≠ 0 := by
      rintro rfl
      have nothing : rowAt (0 / 256) (0 % 256) = none := by decide +kernel
      exact absurd (hr.symm.trans nothing) (Option.some_ne_none r)
    rw [Dev.readObj_queryAddr, Dev.readObj_queryResult, Dev.rd_wr_same, if_neg named]
    exact ⟨rfl, rfl⟩
  case other =>
    intro d ini j v hj
    have other : (d.wr (iniKey ini 0x1F0001) v).rd (iniKey j 0x1F0001) = d.rd (iniKey j 0x1F0001) := Dev.rd_wr_other d v (iniKey_ne _ hj)
    simp only [Dev.readObj_queryAddr, Dev.readObj_queryResult, other, and_self]

end Sys2Proof.Machine
end

/-! ### Owners and refused transfers (03 R109; 09 R303, R304, R308) -/

section
namespace Sys2Proof.Machine

/-- A destination that needs no pound stays the one asked for (09 R293, R303). -/
theorem Dev.lockDest_of_pooled {d : Dev} {b : Nat} {dst : Owner} (h : dst = .zeroing → d.pooled b = true) : d.lockDest b dst = dst := by
  unfold Dev.lockDest
  by_cases hz : dst = .zeroing
  · simp [hz, h hz]
  · simp [hz]

/-- A transfer of Table 9.3 waits for its lock cycle (09 R308). -/
theorem Dev.requestLock_of_ok {d : Dev} {b len : Nat} {dst : Owner} (hdst : dst = .zeroing → d.pooled b = true)
    (hok : transferOk (d.ownerAfter b) dst = true) : d.requestLock b dst len = d.pushLock b (d.ownerAfter b) dst len := by
  simp only [Dev.requestLock, Dev.lockDest_of_pooled hdst, hok, if_true]

/-- Another transfer is refused (09 R303). -/
theorem Dev.requestLock_of_refused {d : Dev} {b len : Nat} {dst : Owner} (hdst : dst = .zeroing → d.pooled b = true)
    (hno : transferOk (d.ownerAfter b) dst = false) : d.requestLock b dst len = d.ownerRefusedAs (d.ownerAfter b) b dst.code := by
  simp only [Dev.requestLock, Dev.lockDest_of_pooled hdst, hno, Bool.false_eq_true, if_false]

/-! #### What a refusal leaves (09 R303; 19 R655) -/

/-- A fault put into the queue makes it longer by one. -/
theorem enqueueFault_length (f : FaultRec) (l : List FaultRec) : (enqueueFault f l).length = l.length + 1 := by
  induction l with
  | nil => rfl
  | cons g t ih =>
    unfold enqueueFault
    split
    · exact congrArg (· + 1) ih
    · rfl

/-- A fault leaves what neither an object nor the fault log's queue is part of. -/
theorem Dev.fault_keeps {β : Type} {g : Dev → β} (hwr : ∀ (d : Dev) (k v : Nat), g (d.wr k v) = g d)
    (hfl : ∀ (d : Dev) (f : FaultLog → FaultLog), g (d.setFl f) = g d) (d : Dev) (kind block code whr detail ini : Nat) :
    g (d.fault kind block code whr detail ini) = g d := by
  unfold Dev.fault
  split
  · exact (Dev.fire_keeps hwr _ _).trans (hwr d _ _)
  · exact hfl d (fun l => { l with queue := enqueueFault _ l.queue })

/-- A refusal leaves what neither an object nor the fault log's queue is part of. -/
theorem Dev.ownerRefusedAs_keeps {β : Type} {g : Dev → β} (hwr : ∀ (d : Dev) (k v : Nat), g (d.wr k v) = g d)
    (hfl : ∀ (d : Dev) (f : FaultLog → FaultLog), g (d.setFl f) = g d) (d : Dev) (o : Owner) (b req ini : Nat) :
    g (d.ownerRefusedAs o b req ini) = g d :=
  ((Dev.fire_keeps hwr _ _).trans (hwr _ _ _)).trans (Dev.fault_keeps hwr hfl d _ _ _ _ _ _)

/-- A fault changes no object but FL_LOST and SRC_STATE of source 94 (19 R657). -/
theorem Dev.rd_fault_other (d : Dev) (kind block code whr detail ini : Nat) {k : Nat} (hlost : k ≠ 0x7C0006) (h94 : k ≠ srcStateKey 94) :
    (d.fault kind block code whr detail ini).rd k = d.rd k := by
  unfold Dev.fault
  split
  · rw [Dev.rd_fire_other _ h94, Dev.rd_inc_other _ hlost]
  · rfl

/-- A fault waits in the queue while that has a place (19 R655). -/
theorem Dev.fault_queued {d : Dev} (h : d.fl.queue.length < 16) (kind block code whr detail ini : Nat) :
    (d.fault kind block code whr detail ini).fl.queue.length = d.fl.queue.length + 1 := by
  unfold Dev.fault
  rw [if_neg (by omega)]
  exact enqueueFault_length _ _

/-- OWNER_REFUSALS counts a refusal (09 R303). -/
theorem Dev.rd_ownerRefusals (d : Dev) (o : Owner) (b req ini : Nat) :
    (d.ownerRefusedAs o b req ini).rd 0x250003 = min (d.rd 0x250003 + 1) (maxOf 0x250003) := by
  rw [Dev.ownerRefusedAs, Dev.rd_fire_other _ (by decide), Dev.inc, Dev.add, Dev.rd_wr_same, Dev.rd_fault_other _ _ _ _ _ _ _ (by decide) (by decide)]

/-- A refusal makes source 21 pending (09 R303; 18 R623). -/
theorem Dev.ownerRefusedAs_pending {d : Dev} (hon : d.on dCORE = true) (hcfg : (d.rd (srcCfgKey 21)).testBit 8 = false) (o : Owner)
    (b req ini : Nat) : (d.ownerRefusedAs o b req ini).isPending 21 = true := by
  obtain ⟨e, he⟩ : ∃ e, e = (d.fault 0x0A dPM0 0x0203 b (o.code + 256 * req) ini).inc 0x250003 := ⟨_, rfl⟩
  have stillOn : e.on dCORE = true := by
    rw [he]
    exact (Dev.fault_keeps (g := fun x : Dev => x.on dCORE) (fun _ _ _ => rfl) (fun _ _ => rfl) d _ _ _ _ _ _).trans hon
  have plain : (e.rd (srcCfgKey 21)).testBit 8 = false := by
    rw [he, Dev.rd_inc_other _ (by decide), Dev.rd_fault_other _ _ _ _ _ _ _ (by decide) (by decide), hcfg]
  rw [Dev.ownerRefusedAs, ← he, Dev.fire_of_on stillOn, Dev.srcEvent_of_plain plain, Dev.isPending_setPending]

/-! #### A host's access to a barge it may not touch (03 R109) -/

/-- A memory command refused for a barge's owner (03 R109; 09 R304). -/
theorem Dev.memFail_owner (d : Dev) (a b : Nat) :
    d.memFail a (0x0203, b) = (d.ownerRefusedAs (d.barge b).owner b 0xFF 0).sayAbort 0x0203 0 := by
  simp only [Dev.memFail, Dev.ownerRefused, if_true, if_neg (show ¬0x0203 = 0 by decide)]

/-- MEM_WRITE to a barge the host may not write (03 R109). -/
theorem Dev.hostMemWrite_of_owner {d : Dev} {a b : Nat} {data : Oct} (ss : List Strike) (hup : d.hostUp = true)
    (hopen : (bargesOf a (min data.length 4096)).all (fun x => !d.lockClosed x) = true)
    (hc : d.memCheck a data.length true = some (0x0203, b)) :
    d.hostMemWrite a data ss = (d.ownerRefusedAs (d.barge b).owner b 0xFF 0).sayAbort 0x0203 0 := by
  simp only [Dev.hostMemWrite, Dev.hostCmd_of_up _ hup, Dev.awaitOpen_of_open hopen, hc, Dev.memFail_owner]

/-- MEM_READ of a barge the host may not read (03 R109). -/
theorem Dev.hostMemRead_of_owner {d : Dev} {a n b : Nat} (ss : List Strike) (left : Option Nat) {tm : Timing} (hup : d.hostUp = true)
    (hlate : d.late 72 tm = false) (hopen : (bargesOf a (min n 4096)).all (fun x => !d.lockClosed x) = true)
    (hc : d.memCheck a n false = some (0x0203, b)) :
    d.hostMemRead a n ss left tm = (d.ownerRefusedAs (d.barge b).owner b 0xFF 0).sayAbort 0x0203 0 := by
  simp only [Dev.hostMemRead, Dev.hostCmd_of_up _ hup, hlate, Bool.false_eq_true, if_false, Dev.memReadNow, Dev.awaitOpen_of_open hopen, hc,
    Dev.memFail_owner]

theorem wf_memWrite_of_short {a : Nat} {data : Oct} {ss : List Strike} (ha : a < 2 ^ 24) (hlen : data.length < 2 ^ 16)
    (hss : strikesOk ss = true) : (Instr.memWrite a data ss).wf = true := by
  simp only [Instr.wf, ha, hlen, hss, decide_true, Bool.and_self]

theorem wf_memRead_of_short {a n : Nat} {ss : List Strike} {left : Option Nat} {tm : Timing} (ha : a < 2 ^ 24) (hlen : n < 2 ^ 16)
    (hss : strikesOk ss = true) : (Instr.memRead a n ss left tm).wf = true := by
  simp only [Instr.wf, ha, hlen, hss, decide_true, Bool.and_self]

/-- Settles O56: transfers by `requestLock_of_ok` and `requestLock_of_refused`, what a refusal leaves by the lemmas on `ownerRefusedAs`,
the host's accesses by `hostMemWrite_of_owner` and `hostMemRead_of_owner`. -/
theorem ownersAndRefusals : Obligations.OwnersAndRefusals := by
  unfold Obligations.OwnersAndRefusals
  refine ⟨?waits, ?refused, ?leaves, ?write, ?read⟩
  case waits =>
    intro d b len dst hdst hok
    exact Dev.requestLock_of_ok hdst hok
  case refused =>
    intro d b len dst hdst hno
    exact Dev.requestLock_of_refused hdst hno
  case leaves =>
    intro d o b req ini
    refine ⟨Dev.ownerRefusedAs_keeps Dev.wr_pm Dev.setFl_pm d o b req ini, d.rd_ownerRefusals o b req ini, fun h => ?_,
      fun hon hcfg => Dev.ownerRefusedAs_pending hon hcfg o b req ini⟩
    exact (congrArg (fun f : FaultLog => f.queue.length) (Dev.fire_keeps Dev.wr_fl _ _)).trans (Dev.fault_queued h _ _ _ _ _ _)
  case write =>
    rintro q d0 d a b data ss rfl ha hlen hss hup hopen hc
    rw [exec_memWrite]
    exact State.run_completes (wf_memWrite_of_short ha hlen hss) (Dev.hostMemWrite_of_owner ss hup hopen hc)
  case read =>
    rintro q d0 d a n b ss left tm rfl ha hlen hss hup hlate hopen hc
    rw [exec_memRead]
    exact State.run_completes (wf_memRead_of_short ha hlen hss) (Dev.hostMemRead_of_owner ss left hup hlate hopen hc)

end Sys2Proof.Machine
end

/-! ### The frame of a host's transactions (02 R55, R80; 03 R119; 11 R362; 18 R623) -/

section
namespace Sys2Proof.Machine

/-- A write notes an earlier receive setting at the ports, and changes nothing else (11 R362). -/
theorem Dev.noteRx_eq (d : Dev) (k : Nat) : d.noteRx k = { d with macs := (d.noteRx k).macs } := by
  have noted (l : List Nat) (e : Dev) : ∃ ms, forEach l e (fun p d => if rxSetting p k then d.setMac p (fun m =>
      { m with was := (d.ck, k, d.rd k) :: m.was }) else d) = { e with macs := ms } := by
    induction l generalizing e with
    | nil => exact ⟨e.macs, rfl⟩
    | cons p t ih =>
      by_cases hp : rxSetting p k = true
      · obtain ⟨ms, h⟩ := ih (e.setMac p (fun m => { m with was := (e.ck, k, e.rd k) :: m.was }))
        refine ⟨ms, ?_⟩
        rw [forEach, List.foldl_cons, if_pos hp]
        exact h
      · obtain ⟨ms, h⟩ := ih e
        refine ⟨ms, ?_⟩
        rw [forEach, List.foldl_cons, if_neg hp]
        exact h
  obtain ⟨ms, h⟩ := noted (List.range 4) d
  rw [show d.noteRx k = { d with macs := ms } from h]

/-- The link after a transaction answered OK (03 R119). -/
theorem Dev.answered_link (d : Dev) (body : Oct) :
    (d.answered body).link = { d.link with seq := (d.link.seq + 1) % 65536, response := 0 :: body } := rfl

/-- DICT_TRANSACTIONS counts a transaction, which changes no other object (02 R80). -/
theorem Dev.rd_answered (d : Dev) (body : Oct) (x : Nat) :
    (d.answered body).rd x = if x = 0x1E1001 then min (d.rd x + 1) (maxOf x) else d.rd x := by
  have counted : (d.answered body).rd x = (d.inc 0x1E1001).rd x := rfl
  rw [counted]
  split
  · rename_i h
    rw [h, Dev.inc, Dev.add, Dev.rd_wr_same]
  · exact Dev.rd_inc_other d ‹_›

/-- A transaction answered OK in a device that is quiet then: after what follows, the link's record and objects have changed, and of the
objects DICT_TRANSACTIONS and SRC_STATE of the level sources (02 R80; 03 R119; 18 R623). -/
theorem Dev.settle_answered {d : Dev} {body : Oct} (hquiet : (d.answered body).quiet = true) :
    (d.answered body).settle = { d with link := (d.answered body).settle.link, store := (d.answered body).settle.store }
      ∧ (d.answered body).settle.link = { d.link with seq := (d.link.seq + 1) % 65536, response := 0 :: body }
      ∧ ∀ x, x ≠ srcStateKey 3 → x ≠ srcStateKey 77 → x ≠ srcStateKey 92 →
        (d.answered body).settle.rd x = if x = 0x1E1001 then min (d.rd x + 1) (maxOf x) else d.rd x := by
  rw [Dev.settle_of_quiet hquiet]
  obtain ⟨st, hst⟩ := (d.answered body).levels_store
  refine ⟨?_, ?_, fun x h3 h77 h92 => (Dev.rd_levels_other _ h3 h77 h92).trans (d.rd_answered body x)⟩
  · rw [hst]
    rfl
  · rw [hst]
    exact d.answered_link body

/-- Settles O59: a write is answered by `hostPut_ok`, a read by `hostRead_ok`; what each changes is `settle_answered`. -/
theorem transactionFrame : Obligations.TransactionFrame := by
  unfold Obligations.TransactionFrame
  refine ⟨?write, ?read⟩
  case write =>
    rintro q d0 d k v tm rfl hk hreset htakes he hquiet
    obtain ⟨hrest, hlink, hrd⟩ := Dev.settle_answered hquiet
    refine ⟨_, ?_, hrest.trans ?_, hlink.trans ?_, fun x h3 h77 h92 => (hrd x h3 h77 h92).trans ?_⟩
    · rw [exec_dictWrite]
      exact State.run_completes (wf_dictWrite_of_takes hk htakes) (Dev.hostPut_ok htakes hreset he)
    · generalize ((((d0.hostStart.noteRx k).wr k v).answered []).settle).store = st
      generalize ((((d0.hostStart.noteRx k).wr k v).answered []).settle).link = lk
      rw [Dev.wr, Dev.noteRx_eq]
    · rw [Dev.wr_link, Dev.noteRx_eq]
    · have same (y : Nat) : ((d0.hostStart.noteRx k).wr k v).rd y = (d0.hostStart.wr k v).rd y := by
        rw [Dev.noteRx_eq]
        rfl
      have stored (y : Nat) : (d0.hostStart.wr k v).rd y = if y = k then v else d0.hostStart.rd y := by
        split
        · rename_i h
          rw [h, Dev.rd_wr_same]
        · exact Dev.rd_wr_other _ _ ‹_›
      simp only [same]
      split
      · rfl
      · exact stored x
  case read =>
    rintro q d0 d idx sb off len tm r rfl hidx hsb hoff hlen htakes hr hok himg hcache hclaim body rfl hquiet
    obtain ⟨hrest, hlink, hrd⟩ := Dev.settle_answered hquiet
    refine ⟨_, ?_, hrest, hlink, hrd⟩
    rw [exec_dictRead]
    exact State.run_completes (wf_dictRead hidx hsb hoff hlen)
      (Dev.hostRead_ok htakes (Dev.dictRead_of_value hr hok himg hcache hclaim))

end Sys2Proof.Machine
end


/-! ### An atomic at the head of a lane whose window moves while its barges pass to the peer (15 R542) -/

section
namespace Sys2Proof.Machine

/-- A barge beyond the banks, whose count of uncorrectable errors (25_40xxh) has the key of WIN_BASE of window 0. -/
def strayBarge : Nat := 0x3B00 * 2048

/-- A FETCH_ADD of PLANT scope, from peer 2, on the first word of window 0: it adds 1. -/
def addOne : LaneOp :=
  ⟨2, 5, opRecord 5 3 32 0 8 0 0 0, [1, 0, 0, 0, 0, 0, 0, 0], [], false, false, none⟩

/-- A device whose window 0 of peer 2 stands over barges 16 to 19 with the host, and whose lane 1 holds `addOne`. The lock queue
of bank 0 holds a request for `strayBarge`, the word of which that a cycle reads being uncorrectable. -/
def strayDevice : Dev :=
  let objects := [(0x600001, 1), (0x600002, 1), (0x600004, 1), (peerKey 2 1, 1), (peerKey 2 2, 7), (peerKey 2 6, 2),
    (peerKey 2 7, 5 + 65536 * 6), (winKey 0 1, 1), (winKey 0 2, 16), (winKey 0 3, 4), (winKey 0 4, 1), (winKey 0 5, 2 ^ 64 - 1)]
  let d := objects.foldl (fun d e => d.wr e.1 e.2) governedDevice
  (d.setPm (fun p => { p with lockq := [[⟨strayBarge, .host, 4, 0, 0⟩]], bad := [256 * strayBarge] })).setLane 1
    (fun l => { l with ops := [addOne] })

/-- The octet at an address that a step leaves. -/
def octetOf (a : Nat) : Host.Outcome State Fault Refusal → Oct
  | .next s => memRead s.dev.pm.mem a 1
  | _ => []

/-- A device whose locks `addOne` has awaited, that has its data, and that has read its word. -/
def Dev.afterLocks (d : Dev) : Dev := d.awaitLocks (d.opBarges addOne)
def Dev.afterData (d : Dev) : Dev := ((d.afterLocks.strike []).laneData addOne).2.2
def Dev.afterRead (d : Dev) : Dev :=
  ((d.afterData.winHand addOne (opOwner addOne)).readMem (d.afterLocks.opAddr addOne) 8 []).2.2

/-- Refutes O42: its fourth clause stores a PLANT atomic's value where the window stood before its barges passed to the peer. In
`strayDevice` the cycles that pass them count an error at WIN_BASE, and the model stores the value at the window's new place. -/
theorem not_laneCommandsComplete : ¬ Obligations.LaneCommandsComplete := by
  unfold Obligations.LaneCommandsComplete
  rintro ⟨-, -, -, atomic, -⟩
  have stored := (atomic [] strayDevice strayDevice.afterLocks strayDevice.afterData strayDevice.afterRead 1 addOne [] []
    [1, 0, 0, 0, 0, 0, 0, 0] (zeros 8) (by decide) rfl (by decide +kernel) (by decide +kernel) rfl rfl (by decide +kernel)
    (by decide +kernel) rfl (by decide +kernel) (by decide +kernel) rfl).1 rfl
  have untouched : octetOf 4096 (exec (.opFetchAdd 1 []) ⟨[], strayDevice⟩) = [0] := by decide +kernel
  rw [stored] at untouched
  exact absurd untouched (by decide +kernel)

end Sys2Proof.Machine
end


/-! ### The canonical forms and the free lists: what each change of the state keeps of them (02 R52, 09 R324) -/

section
namespace Sys2Proof.Machine

/-- `e` has what `d` has of these: the canonical forms of packet memory and of the object store, and the free lists (09 R324). -/
structure FormsKept (d e : Dev) : Prop where
  mem : memWf d.pm.mem = true → memWf e.pm.mem = true
  store : storeWf d.store = true → storeWf e.store = true
  frees : d.freesKept → e.freesKept

theorem FormsKept.refl (d : Dev) : FormsKept d d := ⟨id, id, id⟩

theorem FormsKept.trans {d e f : Dev} (h : FormsKept d e) (k : FormsKept e f) : FormsKept d f :=
  ⟨k.mem ∘ h.mem, k.store ∘ h.store, k.frees ∘ h.frees⟩

/-! #### The object store -/

theorem storeWf_cons (k v : Nat) (t : Store) :
    storeWf ((k, v) :: t) = true ↔ v ≠ dflt k ∧ (∀ e ∈ t, k < e.1) ∧ storeWf t = true := by
  induction t generalizing k v with
  | nil => simp [storeWf]
  | cons e t ih =>
    obtain ⟨k', v'⟩ := e
    simp only [storeWf, Bool.and_eq_true, bne_iff_ne, ne_eq, decide_eq_true_eq, List.mem_cons, forall_eq_or_imp]
    exact ⟨fun ⟨⟨hv, hk⟩, hw⟩ => ⟨hv, ⟨hk, fun c hc => Nat.lt_trans hk (((ih k' v').1 hw).2.1 c hc)⟩, hw⟩,
      fun ⟨hv, ⟨hk, _⟩, hw⟩ => ⟨⟨hv, hk⟩, hw⟩⟩

/-- The canonical form: keys rising, no entry equal to its object's default. -/
theorem storeWf_iff (s : Store) : storeWf s = true ↔ s.Pairwise (·.1 < ·.1) ∧ ∀ e ∈ s, e.2 ≠ dflt e.1 := by
  induction s with
  | nil => simp [storeWf]
  | cons e t ih =>
    rw [storeWf_cons, ih, List.pairwise_cons, List.forall_mem_cons]
    tauto

theorem storeWf_filter {s : Store} (h : storeWf s = true) (p : Nat × Nat → Bool) : storeWf (s.filter p) = true := by
  obtain ⟨rising, listed⟩ := (storeWf_iff s).1 h
  exact (storeWf_iff _).2 ⟨rising.filter p, fun e he => listed e (List.mem_of_mem_filter he)⟩

theorem storeWf_put {s : Store} (h : storeWf s = true) {k v : Nat} (hv : v ≠ dflt k) : storeWf (s.put k v) = true := by
  induction s with
  | nil => simpa [Store.put, storeWf] using hv
  | cons e t ih =>
    obtain ⟨x, w⟩ := e
    obtain ⟨hw, rising, ht⟩ := (storeWf_cons x w t).1 h
    simp only [Store.put]
    split
    · subst x
      exact (storeWf_cons ..).2 ⟨hv, rising, ht⟩
    · split
      · refine (storeWf_cons ..).2 ⟨hv, ?_, h⟩
        exact List.forall_mem_cons.2 ⟨‹k < x›, fun e he => Nat.lt_trans ‹k < x› (rising e he)⟩
      · refine (storeWf_cons ..).2 ⟨hw, fun e he => ?_, ih ht⟩
        rcases Store.put_mem he with hk | he
        · omega
        · exact rising e he

theorem storeWf_wr {d : Dev} (h : storeWf d.store = true) (k v : Nat) : storeWf (d.wr k v).store = true := by
  simp only [Dev.wr]
  split
  · exact storeWf_filter h _
  · exact storeWf_put h ‹_›

/-! #### The free lists -/

theorem putBarge_mem {l : List (Nat × Barge)} {b : Nat} {r : Barge} {e : Nat × Barge} (h : e ∈ putBarge l b r) :
    e.1 = b ∨ e ∈ l := by
  induction l with
  | nil =>
    simp only [putBarge] at h
    split at h
    · exact absurd h List.not_mem_nil
    · exact .inl (List.mem_singleton.1 h ▸ rfl)
  | cons x t ih =>
    obtain ⟨k, v⟩ := x
    simp only [putBarge] at h
    split at h
    · split at h
      · exact .inr (List.mem_cons_of_mem _ h)
      · exact (List.mem_cons.1 h).imp (congrArg Prod.fst) (List.mem_cons_of_mem _)
    · split at h
      · split at h
        · exact .inr h
        · exact (List.mem_cons.1 h).imp (congrArg Prod.fst) id
      · rcases List.mem_cons.1 h with rfl | h
        · exact .inr List.mem_cons_self
        · exact (ih h).imp id (List.mem_cons_of_mem _)

theorem putBarge_pairwise {l : List (Nat × Barge)} (h : l.Pairwise (fun a b => a.1 < b.1)) (b : Nat) (r : Barge) :
    (putBarge l b r).Pairwise (fun a b => a.1 < b.1) := by
  induction l with
  | nil =>
    simp only [putBarge]
    split
    · exact List.Pairwise.nil
    · exact List.pairwise_singleton ..
  | cons x t ih =>
    obtain ⟨k, v⟩ := x
    obtain ⟨rising, ht⟩ := List.pairwise_cons.1 h
    simp only [putBarge]
    split
    · subst k
      split
      · exact ht
      · exact List.pairwise_cons.2 ⟨rising, ht⟩
    · split
      · split
        · exact h
        · refine List.pairwise_cons.2 ⟨List.forall_mem_cons.2 ⟨‹b < k›, fun e he => ?_⟩, h⟩
          exact Nat.lt_trans ‹b < k› (rising e he)
      · refine List.pairwise_cons.2 ⟨fun e he => ?_, ih ht⟩
        rcases putBarge_mem he with hb | he
        · show k < e.1
          omega
        · exact rising e he

theorem find?_putBarge_other (l : List (Nat × Barge)) {b c : Nat} (hc : c ≠ b) (r : Barge) :
    (putBarge l b r).find? (fun e => e.1 == c) = l.find? (fun e => e.1 == c) := by
  have hbc : (b == c) = false := by simpa using hc.symm
  induction l with
  | nil =>
    simp only [putBarge]
    split
    · rfl
    · simp [hbc]
  | cons x t ih =>
    obtain ⟨k, v⟩ := x
    simp only [putBarge]
    split
    · subst k
      split
      · simp [hbc]
      · simp [hbc]
    · split
      · split
        · rfl
        · rw [List.find?_cons_of_neg (by simp [hbc])]
      · rw [List.find?_cons, List.find?_cons, ih]

/-- A key below every listed one is not found. -/
theorem find?_barge_of_lt {l : List (Nat × Barge)} {b : Nat} (h : ∀ e ∈ l, b < e.1) : l.find? (fun e => e.1 == b) = none :=
  List.find?_eq_none.2 fun e he => by simpa using (Nat.ne_of_lt (h e he)).symm

/-- The initial record put leaves none. -/
theorem find?_putBarge_init {l : List (Nat × Barge)} (h : l.Pairwise (fun a b => a.1 < b.1)) (b : Nat) :
    (putBarge l b Barge.init).find? (fun e => e.1 == b) = none := by
  induction l with
  | nil => rfl
  | cons x t ih =>
    obtain ⟨k, v⟩ := x
    obtain ⟨rising, ht⟩ := List.pairwise_cons.1 h
    simp only [putBarge, if_true]
    split
    · subst k
      exact find?_barge_of_lt rising
    · split
      · refine find?_barge_of_lt (List.forall_mem_cons.2 ⟨‹b < k›, fun e he => ?_⟩)
        exact Nat.lt_trans ‹b < k› (rising e he)
      · rw [List.find?_cons_of_neg (by simpa using ‹¬k = b›), ih ht]

/-- Another barge's record stays. -/
theorem Dev.barge_setBarge_other (d : Dev) {b c : Nat} (hc : c ≠ b) (f : Barge → Barge) : (d.setBarge b f).barge c = d.barge c := by
  simp only [Dev.setBarge, Dev.barge, find?_putBarge_other _ hc]

/-- A barge whose record is changed has that record, where packet memory lists each barge once. -/
theorem Dev.barge_setBarge {d : Dev} (h : d.freesKept) (b : Nat) (f : Barge → Barge) :
    (d.setBarge b f).barge b = f (d.barge b) := by
  by_cases hr : f (d.barge b) = Barge.init
  · rw [Dev.barge, Dev.setBarge, hr]
    simp only [find?_putBarge_init h.1]
    rfl
  · exact Dev.barge_setBarge_same hr

/-- Free lists that come from kept ones, of barges whose records stay. -/
theorem Dev.freesKept.of_lists {d e : Dev} (h : d.freesKept) (hp : e.pm.barges.Pairwise (fun a b => a.1 < b.1))
    (hl : ∀ x ∈ e.pm.frees, ∃ y ∈ d.pm.frees, x.2.1 = y.2.1 ∧ x.2.2.Sublist y.2.2 ∧
      ∀ b ∈ x.2.2, (d.barge b).owner = .free → (e.barge b).owner = .free) : e.freesKept := by
  refine ⟨hp, fun x hx => ?_⟩
  obtain ⟨y, hy, bank, sub, owners⟩ := hl x hx
  obtain ⟨nodup, each⟩ := h.2 y hy
  refine ⟨nodup.sublist sub, fun b hb => ?_⟩
  obtain ⟨hbank, hfree⟩ := each b (sub.subset hb)
  exact ⟨hbank.trans bank.symm, owners b hb hfree⟩

/-- An entry of the lists without a barge is an entry without that barge. -/
theorem mem_unlisted {l : List (Nat × Nat × List Nat)} {b : Nat} {x : Nat × Nat × List Nat} (h : x ∈ unlisted l b) :
    ∃ y ∈ l, x.2.1 = y.2.1 ∧ x.2.2 = y.2.2.filter (· != b) := by
  obtain ⟨hx, -⟩ := List.mem_filter.1 h
  obtain ⟨y, hy, rfl⟩ := List.mem_map.1 hx
  exact ⟨y, hy, rfl, rfl⟩

theorem Dev.freesKept_setBarge {d : Dev} (h : d.freesKept) (b : Nat) (f : Barge → Barge) : (d.setBarge b f).freesKept := by
  refine h.of_lists (putBarge_pairwise h.1 ..) fun x hx => ?_
  have other {c : Nat} (hc : c ≠ b) (hfree : (d.barge c).owner = .free) : ((d.setBarge b f).barge c).owner = .free := by
    rw [Dev.barge_setBarge_other d hc, hfree]
  by_cases hr : (f (d.barge b)).owner = .free
  · refine ⟨x, by simpa [Dev.setBarge, hr] using hx, rfl, List.Sublist.refl _, fun c _ hfree => ?_⟩
    by_cases hc : c = b
    · rw [hc, Dev.barge_setBarge h, hr]
    · exact other hc hfree
  · obtain ⟨y, hy, bank, list⟩ := mem_unlisted (by simpa [Dev.setBarge, hr] using hx)
    refine ⟨y, hy, bank, list ▸ List.filter_sublist, fun c hc => other ?_⟩
    rw [list] at hc
    simpa using (List.mem_filter.1 hc).2

/-- The free list of a pound in a bank is one of the lists, or empty. -/
theorem Dev.freeList_kept {d : Dev} (h : d.freesKept) (p bk : Nat) :
    (d.freeList p bk).Nodup ∧ ∀ b ∈ d.freeList p bk, bankOf b = bk ∧ (d.barge b).owner = .free := by
  simp only [Dev.freeList]
  cases hf : d.pm.frees.find? (fun e => e.1 == p && e.2.1 == bk) with
  | none => simp
  | some e =>
    have key := List.find?_some hf
    simp only [Bool.and_eq_true, beq_iff_eq] at key
    exact key.2 ▸ h.2 e (List.mem_of_find?_eq_some hf)

theorem Dev.freesKept_setFree {d : Dev} (h : d.freesKept) {p bk : Nat} {l : List Nat} (hn : l.Nodup)
    (hl : ∀ b ∈ l, bankOf b = bk ∧ (d.barge b).owner = .free) : (d.setFree p bk l).freesKept := by
  refine ⟨h.1, fun e he => ?_⟩
  have rest (he : e ∈ d.pm.frees.filter (fun e => !(e.1 == p && e.2.1 == bk))) := h.2 e (List.mem_of_mem_filter he)
  simp only [Dev.setFree] at he
  split at he
  · exact rest he
  · rcases List.mem_append.1 he with he | he
    · exact rest he
    · rw [List.mem_singleton.1 he]
      exact ⟨hn, hl⟩

/-- Lists left out, and records that stay. -/
theorem Dev.freesKept.filter {d e : Dev} (h : d.freesKept) {p : Nat × Nat × List Nat → Bool} (hb : e.pm.barges = d.pm.barges)
    (hf : e.pm.frees = d.pm.frees.filter p) : e.freesKept := by
  refine h.of_lists (hb ▸ h.1) fun x hx => ⟨x, List.mem_of_mem_filter (hf ▸ hx), rfl, List.Sublist.refl _, fun b _ => ?_⟩
  rw [Dev.barge, Dev.barge, hb]
  exact id

theorem Dev.freesKept.eq {d e : Dev} (h : d.freesKept) (hb : e.pm.barges = d.pm.barges) (hf : e.pm.frees = d.pm.frees) :
    e.freesKept := by
  refine h.of_lists (hb ▸ h.1) fun x hx => ⟨x, hf ▸ hx, rfl, List.Sublist.refl _, fun b _ => ?_⟩
  rw [Dev.barge, Dev.barge, hb]
  exact id

section
variable {d₀ d e : Dev}

/-- The store, the memory, the owner records and the free lists stay. -/
theorem FormsKept.same (h : FormsKept d₀ d)
    (hs : (e.store, e.pm.mem, e.pm.barges, e.pm.frees) = (d.store, d.pm.mem, d.pm.barges, d.pm.frees)) : FormsKept d₀ e := by
  simp only [Prod.mk.injEq] at hs
  obtain ⟨store, mem, barges, frees⟩ := hs
  exact h.trans ⟨fun w => mem ▸ w, fun w => store ▸ w, fun w => w.eq barges frees⟩

/-- Some free lists are left out, all else stays. -/
theorem FormsKept.listsOut (h : FormsKept d₀ d) {p : Nat × Nat × List Nat → Bool}
    (hs : (e.store, e.pm.mem, e.pm.barges) = (d.store, d.pm.mem, d.pm.barges)) (hf : e.pm.frees = d.pm.frees.filter p) :
    FormsKept d₀ e := by
  simp only [Prod.mk.injEq] at hs
  obtain ⟨store, mem, barges⟩ := hs
  exact h.trans ⟨fun w => mem ▸ w, fun w => store ▸ w, fun w => w.filter barges hf⟩

/-- Some octets are zeroed, all else stays. -/
theorem FormsKept.zeroed (h : FormsKept d₀ d) {a n : Nat}
    (hs : (e.store, e.pm.barges, e.pm.frees) = (d.store, d.pm.barges, d.pm.frees)) (hm : e.pm.mem = memZero d.pm.mem a n) :
    FormsKept d₀ e := by
  simp only [Prod.mk.injEq] at hs
  obtain ⟨store, barges, frees⟩ := hs
  exact h.trans ⟨fun w => hm ▸ memZero_wf w a n, fun w => store ▸ w, fun w => w.eq barges frees⟩

/-- Some objects go to their defaults, all else stays. -/
theorem FormsKept.objectsOut (h : FormsKept d₀ d) {p : Nat × Nat → Bool} (hp : e.pm = d.pm) (hs : e.store = d.store.filter p) :
    FormsKept d₀ e :=
  h.trans ⟨fun w => hp ▸ w, fun w => hs ▸ storeWf_filter w p, fun w => w.eq (by rw [hp]) (by rw [hp])⟩

protected theorem FormsKept.ite {c : Prop} [Decidable c] (h : FormsKept d₀ d) (k : FormsKept d₀ e) :
    FormsKept d₀ (if c then d else e) := by
  split
  · exact h
  · exact k

protected theorem FormsKept.forEach {α : Type} {l : List α} {f : α → Dev → Dev} (h : FormsKept d₀ d)
    (hf : ∀ x e, FormsKept d₀ e → FormsKept d₀ (f x e)) : FormsKept d₀ (forEach l d f) := by
  unfold Sys2Proof.Machine.forEach
  induction l generalizing d with
  | nil => exact h
  | cons x t ih => exact ih (hf x d h)

/-- A path of the classifier or the bridge, which takes two more values, keeps the forms. -/
def HookKept {α β : Type} (d₀ : Dev) (f : Dev → α → β → Dev) : Prop := ∀ e, FormsKept d₀ e → ∀ x y, FormsKept d₀ (f e x y)

/-- The device of a pair that is known by an equation. -/
theorem FormsKept.ofPair {α : Type} {p q : α × Dev} (h : FormsKept d₀ p.2) (heq : p = q) : FormsKept d₀ q.2 := heq ▸ h

/-- The device that the effect of a write leaves, or a transaction. -/
def WRes.dev : WRes → Dev
  | .ok d | .abort _ d | .pend d => d

def DRes.dev : DRes → Dev
  | .ok _ d | .abort _ d | .pend d => d

theorem FormsKept.ofTxn {p q : DRes} (h : FormsKept d₀ p.dev) (heq : p = q) : FormsKept d₀ q.dev := heq ▸ h

theorem FormsKept.snd {α : Type} {a : α} (h : FormsKept d₀ e) : FormsKept d₀ (a, e).2 := h

theorem FormsKept.snd2 {α β : Type} {a : α} {b : β} (h : FormsKept d₀ e) : FormsKept d₀ (a, b, e).2.2 := h

theorem FormsKept.ok (h : FormsKept d₀ e) : FormsKept d₀ (WRes.ok e).dev := h
theorem FormsKept.abort {c : Nat} (h : FormsKept d₀ e) : FormsKept d₀ (WRes.abort c e).dev := h
theorem FormsKept.pend (h : FormsKept d₀ e) : FormsKept d₀ (WRes.pend e).dev := h
theorem FormsKept.txnOk {body : Oct} (h : FormsKept d₀ e) : FormsKept d₀ (DRes.ok body e).dev := h
theorem FormsKept.txnAbort {c : Nat} (h : FormsKept d₀ e) : FormsKept d₀ (DRes.abort c e).dev := h
theorem FormsKept.txnPend (h : FormsKept d₀ e) : FormsKept d₀ (DRes.pend e).dev := h

theorem FormsKept.toDRes {w : WRes} (h : FormsKept d₀ w.dev) : FormsKept d₀ w.toDRes.dev := by
  cases w <;> exact h

/-! #### Changes of the store, of memory and of owner records -/

theorem FormsKept.wr (h : FormsKept d₀ d) {k v : Nat} : FormsKept d₀ (d.wr k v) :=
  h.trans ⟨id, fun w => storeWf_wr w k v, fun w => w.eq rfl rfl⟩

theorem FormsKept.setBarge (h : FormsKept d₀ d) {b : Nat} {f : Barge → Barge} : FormsKept d₀ (d.setBarge b f) :=
  h.trans ⟨id, id, fun w => Dev.freesKept_setBarge w b f⟩

theorem FormsKept.zeroBarge (h : FormsKept d₀ d) {b : Nat} : FormsKept d₀ (d.zeroBarge b) := .zeroed h rfl rfl

/-- Barges join a free list that lie in its bank and are FREE. -/
theorem FormsKept.addFree (h : FormsKept d₀ d) {p bk : Nat} {bs : List Nat} (hn : d₀.freesKept → bs.Nodup)
    (hbs : d₀.freesKept → ∀ b ∈ bs, bankOf b = bk ∧ (d.barge b).owner = .free) : FormsKept d₀ (d.addFree p bk bs) where
  mem := h.mem
  store := h.store
  frees w := by
    obtain ⟨nodup, listed⟩ := Dev.freeList_kept (h.frees w) p bk
    refine Dev.freesKept_setFree (h.frees w) (List.nodup_append.2 ⟨nodup, (hn w).filter _, ?_⟩) ?_
    · rintro a ha b hb rfl
      simpa [ha] using (List.mem_filter.1 hb).2
    · intro b hb
      rcases List.mem_append.1 hb with hb | hb
      · exact listed b hb
      · exact hbs w b (List.mem_of_mem_filter hb)

/-- A free list is replaced by barges that lie in its bank and are FREE. -/
theorem FormsKept.setFree (h : FormsKept d₀ d) {p bk : Nat} {l : List Nat} (hn : d₀.freesKept → l.Nodup)
    (hl : d₀.freesKept → ∀ b ∈ l, bankOf b = bk ∧ (d.barge b).owner = .free) : FormsKept d₀ (d.setFree p bk l) where
  mem := h.mem
  store := h.store
  frees w := Dev.freesKept_setFree (h.frees w) (hn w) (hl w)

end

/-! #### Owner records by their place -/

theorem forEach_memZero_wf {m : List Host.Cell} (h : memWf m = true) (ws : List Nat) :
    memWf (forEach ws m (fun w m => memZero m w 8)) = true := by
  unfold forEach
  induction ws generalizing m with
  | nil => exact h
  | cons w t ih => exact ih (memZero_wf h w 8)

/-- The record listed for a barge is its record. -/
theorem Dev.barge_of_mem {d : Dev} (h : d.pm.barges.Pairwise (fun a b => a.1 < b.1)) {x : Nat × Barge} (hx : x ∈ d.pm.barges) :
    d.barge x.1 = x.2 := by
  have found : d.pm.barges.find? (fun e => e.1 == x.1) = some x := by
    generalize d.pm.barges = l at h hx
    induction l with
    | nil => exact absurd hx List.not_mem_nil
    | cons y t ih =>
      obtain ⟨rising, ht⟩ := List.pairwise_cons.1 h
      rcases List.mem_cons.1 hx with rfl | hx
      · simp
      · rw [List.find?_cons_of_neg (by simpa using Nat.ne_of_lt (rising x hx)), ih ht hx]
  rw [Dev.barge, found]
  rfl

/-- A FREE barge has a record listed: the record of others is HOST. -/
theorem Dev.barge_mem_of_free {d : Dev} {b : Nat} (h : (d.barge b).owner = .free) : (b, d.barge b) ∈ d.pm.barges := by
  unfold Dev.barge at h ⊢
  cases hf : d.pm.barges.find? (fun e => e.1 == b) with
  | none => simp [hf, Barge.init] at h
  | some x =>
    have hb : x.1 = b := by simpa using List.find?_some hf
    simpa [hb] using hb ▸ List.mem_of_find?_eq_some hf

/-- The records and lists of a bank's barges are replaced, those of the other banks stay. -/
theorem Dev.freesKept.replaceBank {d e : Dev} (h : d.freesKept) {bk : Nat} (hp : e.pm.barges.Pairwise (fun a b => a.1 < b.1))
    (hb : ∀ x ∈ d.pm.barges, bankOf x.1 ≠ bk → x ∈ e.pm.barges) (hf : e.pm.frees = d.pm.frees.filter (fun e => e.2.1 != bk)) :
    e.freesKept := by
  refine h.of_lists hp fun x hx => ?_
  rw [hf] at hx
  obtain ⟨hx, away⟩ := List.mem_filter.1 hx
  refine ⟨x, hx, rfl, List.Sublist.refl _, fun b hb' hfree => ?_⟩
  have bank : bankOf b ≠ bk := by
    rw [((h.2 x hx).2 b hb').1]
    simpa using away
  rw [Dev.barge_of_mem hp (hb _ (Dev.barge_mem_of_free hfree) bank)]
  exact hfree

theorem Dev.freesKept.withoutBank {d e : Dev} (h : d.freesKept) {bk : Nat}
    (hb : e.pm.barges = d.pm.barges.filter (fun e => bankOf e.1 != bk))
    (hf : e.pm.frees = d.pm.frees.filter (fun e => e.2.1 != bk)) : e.freesKept := by
  refine h.replaceBank (hb ▸ h.1.filter _) (fun x hx away => ?_) hf
  rw [hb]
  exact List.mem_filter.2 ⟨hx, by simpa using away⟩

theorem Dev.pooledIn_sublist (d : Dev) (bk : Nat) : (d.pooledIn bk).Sublist ((List.range 2048).map (· + 2048 * bk)) := by
  unfold Dev.pooledIn
  extract_lets ps
  split
  · exact List.nil_sublist _
  · exact List.filter_sublist

/-- The barges of a bank that lie in enabled pounds are listed in rising order. -/
theorem Dev.pooledIn_rising (d : Dev) (bk : Nat) :
    (d.pooledIn bk).Pairwise (· < ·) ∧ ∀ b ∈ d.pooledIn bk, 2048 * bk ≤ b ∧ b < 2048 * bk + 2048 := by
  have sub := d.pooledIn_sublist bk
  refine ⟨List.Pairwise.sublist sub (List.pairwise_map.2 (List.pairwise_lt_range.imp ?_)), fun b hb => ?_⟩
  · omega
  · obtain ⟨i, hi, rfl⟩ := List.mem_map.1 (sub.subset hb)
    have := List.mem_range.1 hi
    omega

theorem Dev.freesKept.bankInit {d : Dev} (h : d.freesKept) (bk : Nat) : (d.bankInit bk).freesKept := by
  obtain ⟨rising, within⟩ := d.pooledIn_rising bk
  refine h.replaceBank (bk := bk) ?rising (fun x hx away => ?others) rfl
  case rising =>
    simp only [Dev.bankInit, List.pairwise_append, List.mem_append, List.mem_filter, List.mem_map, List.filter_filter]
    refine ⟨⟨h.1.filter _, List.pairwise_map.2 rising, ?_⟩, h.1.filter _, ?_⟩
    · rintro x ⟨-, hx⟩ y ⟨b, hb, rfl⟩
      have := within b hb
      simp only [Bool.and_eq_true, decide_eq_true_eq] at hx
      omega
    · rintro x hx y ⟨-, hy⟩
      simp only [Bool.and_eq_true, decide_eq_true_eq, bne_iff_ne, bankOf] at hy
      rcases hx with ⟨-, hx⟩ | ⟨b, hb, rfl⟩
      · simp only [Bool.and_eq_true, decide_eq_true_eq] at hx
        omega
      · have := within b hb
        show b < y.1
        omega
  case others =>
    have kept : x ∈ d.pm.barges.filter (fun e => bankOf e.1 != bk) := List.mem_filter.2 ⟨hx, by simpa using away⟩
    rw [show (d.bankInit bk).pm.barges = _ from rfl]
    by_cases below : x.1 < 2048 * bk
    · exact List.mem_append_left _ (List.mem_append_left _ (List.mem_filter.2 ⟨kept, by simpa using below⟩))
    · exact List.mem_append_right _ (List.mem_filter.2 ⟨kept, by simpa using below⟩)

theorem Dev.barge_congr {d e : Dev} (h : e.pm.barges = d.pm.barges) (b : Nat) : e.barge b = d.barge b := by
  rw [Dev.barge, Dev.barge, h]

theorem Dev.barge_requestLock (d : Dev) (b : Nat) (dst : Owner) (len c : Nat) : (d.requestLock b dst len).barge c = d.barge c := by
  refine Dev.barge_congr ?_ c
  simp only [Dev.requestLock]
  split
  · rfl
  · exact congrArg Pmem.barges (Dev.ownerRefusedAs_keeps Dev.wr_pm Dev.setFl_pm ..)

theorem Dev.barge_scanFrees_other (d : Dev) {b c : Nat} (hc : c ≠ b) : (d.scanFrees b).barge c = d.barge c := by
  refine Eq.trans ?_ (d.barge_setBarge_other hc fun r => { r with next := none })
  refine Dev.barge_congr ?_ c
  simp only [Dev.scanFrees]
  split
  · rfl
  · rfl

theorem Dev.barge_verified_other (d : Dev) {b c : Nat} (hc : c ≠ b) (bad : Bool) : (d.verified b bad).barge c = d.barge c := by
  unfold Dev.verified
  split
  · refine Eq.trans (Dev.barge_congr ?_ c) (d.barge_setBarge_other hc fun r => { r with retired := true })
    exact congrArg Pmem.barges (Dev.fire_keeps Dev.wr_pm _ _)
  · exact d.barge_setBarge_other hc _

theorem Dev.poundOnBarges_nodup (d : Dev) (p : Nat) : (d.poundOnBarges p).Nodup :=
  (List.nodup_range.map fun _ _ h => Nat.add_right_cancel h).filter _

/-- What each step keeps holds after a run. -/
theorem forEach_invariant {α σ : Type} {I : σ → Prop} {l : List α} {f : α → σ → σ} {s : σ} (h : I s)
    (hf : ∀ x s, I s → I (f x s)) : I (forEach l s f) :=
  List.foldlRecOn l _ h fun s hs x _ => hf x s hs

/-- What the step of each element brings about, and the steps of the others keep, holds of each after a run. -/
theorem forEach_establishes {α σ : Type} {I : σ → Prop} {P : α → σ → Prop} {f : α → σ → σ} (hI : ∀ x s, I s → I (f x s))
    (hx : ∀ x s, I s → P x (f x s)) (hother : ∀ x y s, y ≠ x → P y s → P y (f x s)) {l : List α} {s : σ} (h : I s) :
    ∀ x ∈ l, P x (forEach l s f) := by
  have kept {t : List α} {y : α} {s : σ} (hi : I s) (hy : P y s) : P y (forEach t s f) := by
    refine (forEach_invariant (I := fun s => I s ∧ P y s) ⟨hi, hy⟩ fun x s hs => ⟨hI x s hs.1, ?_⟩).2
    by_cases hyx : y = x
    · exact hyx ▸ hx y s hs.1
    · exact hother x y s hyx hs.2
  induction l generalizing s with
  | nil => exact fun _ hx => absurd hx List.not_mem_nil
  | cons x t ih =>
    intro y hy
    rcases List.mem_cons.1 hy with rfl | hy
    · exact kept (s := f y s) (hI y s h) (hx y s h)
    · exact ih (hI x s h) y hy

/-- A run over records of packet memory, each with its own key: each step finds its record as it was, where it leaves the other barges'
alone. -/
theorem FormsKept.forEach_records {d₀ d : Dev} {l : List (Nat × Barge)} {f : Nat × Barge → Dev → Dev} (h : FormsKept d₀ d)
    (hf : ∀ x e, x ∈ l → FormsKept d₀ e → (d₀.freesKept → e.barge x.1 = x.2) → FormsKept d₀ (f x e))
    (hother : ∀ x e c, c ≠ x.1 → (f x e).barge c = e.barge c)
    (hl : d₀.freesKept → l.Pairwise (fun a b => a.1 < b.1) ∧ ∀ x ∈ l, d.barge x.1 = x.2) :
    FormsKept d₀ (Sys2Proof.Machine.forEach l d f) := by
  unfold Sys2Proof.Machine.forEach
  induction l generalizing d with
  | nil => exact h
  | cons x t ih =>
    refine ih (hf x d List.mem_cons_self h fun w => (hl w).2 x List.mem_cons_self)
      (fun y e hy => hf y e (List.mem_cons_of_mem x hy)) fun w => ?_
    obtain ⟨rising, records⟩ := hl w
    obtain ⟨above, ht⟩ := List.pairwise_cons.1 rising
    refine ⟨ht, fun y hy => ?_⟩
    rw [hother x d y.1 (Nat.ne_of_lt (above y hy)).symm, records y (List.mem_cons_of_mem x hy)]


/-! #### The functions of the model, each after those it uses: a proof follows the body, call by call and branch by branch -/

section
variable {d₀ d e : Dev}

theorem FormsKept.setBrg (h : FormsKept d₀ d) {f : BrgU → BrgU} : FormsKept d₀ (d.setBrg f) := .same h rfl

theorem FormsKept.brgCredits (h : FormsKept d₀ d) : FormsKept d₀ d.brgCredits := by
  unfold Dev.brgCredits
  exact h.setBrg

theorem FormsKept.dropClaims (h : FormsKept d₀ d) {p : Claim → Bool} : FormsKept d₀ (d.dropClaims p) := .same h rfl

theorem FormsKept.takeClaim (h : FormsKept d₀ d) {c : Claim} : FormsKept d₀ (d.takeClaim c) := .same h rfl

theorem FormsKept.takeClaims (h : FormsKept d₀ d) {want : List Claim} :
    FormsKept d₀ (d.takeClaims want) := h.forEach fun _ _ h1 => .ite h1.takeClaim h1

theorem FormsKept.chanClaims (h : FormsKept d₀ d) : FormsKept d₀ d.chanClaims := by
  unfold Dev.chanClaims
  split
  · exact h
  · extract_lets +onlyGivenNames d1
    have h1 : FormsKept d₀ d1 := .ite h.dropClaims h.takeClaims
    exact .ite h1.takeClaims h1.dropClaims

theorem FormsKept.setAon (h : FormsKept d₀ d) {f : Aon → Aon} : FormsKept d₀ (d.setAon f) := .same h rfl

theorem FormsKept.clockGate (h : FormsKept d₀ d) : FormsKept d₀ d.clockGate := by
  unfold Dev.clockGate
  extract_lets +onlyGivenNames d1
  have h1 : FormsKept d₀ d1 := .ite h h.setAon
  exact .ite h1 h1.setAon

theorem FormsKept.add (h : FormsKept d₀ d) {k n : Nat} : FormsKept d₀ (d.add k n) := h.wr

theorem FormsKept.inc (h : FormsKept d₀ d) {k : Nat} : FormsKept d₀ (d.inc k) := h.add

theorem FormsKept.setDom (h : FormsKept d₀ d) {n : Nat} {f : Dom → Dom} : FormsKept d₀ (d.setDom n f) := .same h rfl

theorem FormsKept.placeReq (h : FormsKept d₀ d) {n : Nat} {t : DSt} : FormsKept d₀ (d.placeReq n t) := by
  unfold Dev.placeReq
  extract_lets +onlyGivenNames o d1
  have h1 : FormsKept d₀ d1 := h.wr
  split
  · exact .ite h1 h1.setDom.inc
  · exact .ite h1 h1.setDom

theorem FormsKept.coreStep (h : FormsKept d₀ d) : FormsKept d₀ d.coreStep := h.setAon.placeReq

theorem FormsKept.pllRun (h : FormsKept d₀ d) : FormsKept d₀ d.pllRun := .ite h h.setAon

theorem FormsKept.pllStep (h : FormsKept d₀ d) : FormsKept d₀ d.pllStep := .ite h.coreStep h.setAon.pllRun

theorem FormsKept.setPending (h : FormsKept d₀ d) {s : Nat} : FormsKept d₀ (d.setPending s) := h.wr

theorem FormsKept.srcEvent (h : FormsKept d₀ d) {s : Nat} : FormsKept d₀ (d.srcEvent s) := .ite h.wr h.setPending

theorem FormsKept.fire (h : FormsKept d₀ d) {s : Nat} : FormsKept d₀ (d.fire s) := .ite h.srcEvent h

theorem FormsKept.watchPound (h : FormsKept d₀ d) {p : Nat} : FormsKept d₀ (d.watchPound p) := by
  unfold Dev.watchPound
  extract_lets +onlyGivenNames low
  split
  · refine .fire ?_
    exact .same h rfl
  · exact .ite (.same h rfl) h

theorem FormsKept.watchPounds (h : FormsKept d₀ d) : FormsKept d₀ d.watchPounds := h.forEach fun _ _ h1 => h1.watchPound

theorem FormsKept.bankLost (h : FormsKept d₀ d) {bk : Nat} : FormsKept d₀ (d.bankLost bk) := by
  unfold Dev.bankLost
  extract_lets +onlyGivenNames lost retired d1 d2 _ d3
  have h1 : FormsKept d₀ d1 := .ite h h.add.fire
  have h2 : FormsKept d₀ d2 := h1.wr
  have h3 : FormsKept d₀ d3 := h2.trans ⟨fun w => memZero_wf w _ _, id, fun w => w.withoutBank rfl rfl⟩
  exact h3.watchPounds

theorem FormsKept.noteClock (h : FormsKept d₀ d) {rate : Nat} : FormsKept d₀ (d.noteClock rate) := .same h rfl

theorem FormsKept.chPinsOff (h : FormsKept d₀ d) : FormsKept d₀ d.chPinsOff := by
  unfold Dev.chPinsOff
  extract_lets +onlyGivenNames d1
  have h1 : FormsKept d₀ d1 := h.noteClock
  clear_value d1
  exact .same h1 rfl

theorem FormsKept.claimsOff (h : FormsKept d₀ d) {n : Nat} : FormsKept d₀ (d.claimsOff n) := h.dropClaims

theorem FormsKept.rebuildFrees (h : FormsKept d₀ d) {bk : Nat} : FormsKept d₀ (d.rebuildFrees bk) := by
  unfold Dev.rebuildFrees
  extract_lets recs
  have listed (w : d₀.freesKept) : recs.Nodup ∧ ∀ b ∈ recs, bankOf b = bk ∧ (d.barge b).owner = .free := by
    have rising := (h.frees w).1
    refine ⟨List.pairwise_map.2 ((rising.filter _).imp Nat.ne_of_lt), fun b hb => ?_⟩
    obtain ⟨x, hx, rfl⟩ := List.mem_map.1 hb
    obtain ⟨hx, key⟩ := List.mem_filter.1 hx
    simp only [Bool.and_eq_true, beq_iff_eq] at key
    exact ⟨key.1.1, Dev.barge_of_mem rising hx ▸ key.1.2⟩
  refine And.left (forEach_invariant (I := fun e => FormsKept d₀ e ∧ e.pm.barges = d.pm.barges) ⟨h, rfl⟩ fun p e he => ?_)
  obtain ⟨kept, same⟩ := he
  split
  · refine ⟨kept.setFree (fun w => (listed w).1.filter _) fun w b hb => ?_, same⟩
    rw [Dev.barge_congr same]
    exact (listed w).2 b (List.mem_of_mem_filter hb)
  · exact ⟨kept, same⟩

theorem FormsKept.bankTestEnd (h : FormsKept d₀ d) {s : Nat} {full : Bool} : FormsKept d₀ (d.bankTestEnd s full) := by
  unfold Dev.bankTestEnd
  extract_lets +onlyGivenNames bk failed _ d1
  have h1 : FormsKept d₀ d1 := .zeroed h rfl rfl
  extract_lets +onlyGivenNames d3
  have h3 : FormsKept d₀ d3 := h1.forEach fun _ _ h4 => .ite h4 h4.setBarge.inc.fire
  extract_lets +onlyGivenNames ret d9
  have h9 : FormsKept d₀ d9 := h3.forEach fun _ _ h10 => h10.setBarge
  extract_lets +onlyGivenNames d11
  have h11 : FormsKept d₀ d11 := .ite h9.wr h3
  exact h11.rebuildFrees.watchPounds

theorem FormsKept.jobUnclaim (h : FormsKept d₀ d) {s : Nat} : FormsKept d₀ (d.jobUnclaim s) := by
  unfold Dev.jobUnclaim
  split
  · exact h.dropClaims
  · exact h

theorem FormsKept.setNv (h : FormsKept d₀ d) {f : Nv → Nv} : FormsKept d₀ (d.setNv f) := .same h rfl

theorem FormsKept.nvRelease (h : FormsKept d₀ d) : FormsKept d₀ d.nvRelease := h.setNv

theorem FormsKept.govRestart (h : FormsKept d₀ d) : FormsKept d₀ d.govRestart := .same h rfl

theorem FormsKept.setMdio (h : FormsKept d₀ d) {f : Mdio → Mdio} : FormsKept d₀ (d.setMdio f) := .same h rfl

theorem FormsKept.mdioKick (h : FormsKept d₀ d) : FormsKept d₀ d.mdioKick := by
  unfold Dev.mdioKick
  split
  · exact h
  · split
    · exact h.setMdio
    · exact h.setMdio
    · exact h.setMdio
    · exact h

theorem FormsKept.setGov (h : FormsKept d₀ d) {f : Gov → Gov} : FormsKept d₀ (d.setGov f) := .same h rfl

theorem FormsKept.rateUndo (h : FormsKept d₀ d) : FormsKept d₀ d.rateUndo := by
  unfold Dev.rateUndo
  extract_lets +onlyGivenNames e1
  have h1 : FormsKept d₀ e1 := h.setGov.govRestart
  split
  · exact .ite h1 (.ite h1.setMdio.setMdio.mdioKick h1.setMdio)
  · exact h1

theorem FormsKept.setMac (h : FormsKept d₀ d) {p : Nat} {f : Mac → Mac} : FormsKept d₀ (d.setMac p f) := .same h rfl

theorem FormsKept.cutReceive (h : FormsKept d₀ d) {p : Nat} : FormsKept d₀ (d.cutReceive p) := .ite h.setMac h

theorem FormsKept.fault (h : FormsKept d₀ d) {kind block code whr detail ini : Nat} :
    FormsKept d₀ (d.fault kind block code whr detail ini) := .ite h.inc.fire (.same h rfl)

theorem FormsKept.ownerRefusedAs (h : FormsKept d₀ d) {own : Owner} {b req ini : Nat} :
    FormsKept d₀ (d.ownerRefusedAs own b req ini) := h.fault.inc.fire

theorem FormsKept.pushLock (h : FormsKept d₀ d) {b : Nat} {own dst : Owner} {len : Nat} :
    FormsKept d₀ (d.pushLock b own dst len) := .same h rfl

theorem FormsKept.requestLock (h : FormsKept d₀ d) {b : Nat} {dst : Owner} {len : Nat} :
    FormsKept d₀ (d.requestLock b dst len) := .ite h.pushLock h.ownerRefusedAs

theorem FormsKept.freeWith (h : FormsKept d₀ d) {b len : Nat} : FormsKept d₀ (d.freeWith b len) := h.requestLock

theorem FormsKept.returnBarges (h : FormsKept d₀ d) {bs : List (Nat × Nat × Bool)} :
    FormsKept d₀ (d.returnBarges bs) := h.forEach fun _ _ h1 => .ite (.ite h1.freeWith h1.requestLock) h1

theorem FormsKept.setRing (h : FormsKept d₀ d) {r : Nat} {f : Ring → Ring} : FormsKept d₀ (d.setRing r f) := .same h rfl

theorem FormsKept.setChain (h : FormsKept d₀ d) {r start : Nat} {f : Chain → Chain} : FormsKept d₀ (d.setChain r start f) := h.setRing

theorem FormsKept.endChain (h : FormsKept d₀ d) {r start code : Nat} : FormsKept d₀ (d.endChain r start code) := by
  unfold Dev.endChain
  split
  · exact .ite h h.setChain.returnBarges
  · exact h

theorem FormsKept.chainsLost (h : FormsKept d₀ d) {p : Nat} :
    FormsKept d₀ (d.chainsLost p) := h.forEach fun _ _ h1 => h1.forEach fun _ _ h2 => h2.setChain.endChain

theorem FormsKept.macLost (h : FormsKept d₀ d) {p : Nat} : FormsKept d₀ (d.macLost p) := h.setMac

theorem FormsKept.linkLost (h : FormsKept d₀ d) {p : Nat} : FormsKept d₀ (d.linkLost p) := h.chainsLost.macLost

theorem FormsKept.setLink (h : FormsKept d₀ d) {p v : Nat} : FormsKept d₀ (d.setLink p v) := by
  unfold Dev.setLink
  split
  · exact h
  · extract_lets +onlyGivenNames was d1 d2 d3 d4
    have h1 : FormsKept d₀ d1 := .ite h h.cutReceive
    have h2 : FormsKept d₀ d2 := h1.wr.inc.fire
    have h3 : FormsKept d₀ d3 := .ite (.ite h2 h2.wr) h2.wr
    have h4 : FormsKept d₀ d4 := .ite h3.govRestart h3
    exact .ite (.ite h4.macLost h4.linkLost) h4

theorem FormsKept.jobUndo (h : FormsKept d₀ d) {s : Nat} : FormsKept d₀ (d.jobUndo s) := by
  unfold Dev.jobUndo
  split
  · exact .ite h h.bankTestEnd
  · exact h.setLink
  · exact h.rateUndo
  · exact h.nvRelease
  · exact h.nvRelease
  · exact h.nvRelease
  · exact h.jobUnclaim
  · exact h

theorem FormsKept.jobsReset (h : FormsKept d₀ d) : FormsKept d₀ d.jobsReset := by
  unfold Dev.jobsReset
  extract_lets -underBinder +onlyGivenNames d1
  have h1 : FormsKept d₀ d1 := by
    unfold d1
    refine h.forEach fun x2 d2 h2 => ?_
    extract_lets +onlyGivenNames d3
    have h3 : FormsKept d₀ d3 := .ite h2.jobUndo h2
    exact h3.forEach fun _ _ h4 => h4.wr
  clear_value d1
  exact .same h1 rfl

theorem FormsKept.setImg (h : FormsKept d₀ d) {n : Nat} {f : Img → Img} : FormsKept d₀ (d.setImg n f) := .same h rfl

theorem FormsKept.imgDrop (h : FormsKept d₀ d) {n : Nat} : FormsKept d₀ (d.imgDrop n) := h.setImg

theorem FormsKept.imgReset (h : FormsKept d₀ d) {ini : Nat} :
    FormsKept d₀ (d.imgReset ini) := h.forEach fun _ _ h1 => .ite h1.imgDrop h1

theorem FormsKept.setLk (h : FormsKept d₀ d) {f : Link → Link} : FormsKept d₀ (d.setLk f) := .same h rfl

theorem FormsKept.linkReset (h : FormsKept d₀ d) : FormsKept d₀ d.linkReset := by
  unfold Dev.linkReset
  exact h.imgReset.setLk

theorem FormsKept.orphansLive (h : FormsKept d₀ d) : FormsKept d₀ d.orphansLive := h.setLk

theorem FormsKept.setGrp (h : FormsKept d₀ d) {g : Nat} {f : Grp → Grp} : FormsKept d₀ (d.setGrp g f) := .same h rfl

theorem FormsKept.headPast (h : FormsKept d₀ d) {g n : Nat} : FormsKept d₀ (d.headPast g n) := .ite h h.wr.setGrp

theorem FormsKept.grpAdvance (h : FormsKept d₀ d) {g : Nat} : FormsKept d₀ (d.grpAdvance g) := h.setGrp.headPast

theorem FormsKept.setNum (h : FormsKept d₀ d) {g q : Nat} {f : SeqNum → SeqNum} : FormsKept d₀ (d.setNum g q f) := h.setGrp

theorem FormsKept.numSkip (h : FormsKept d₀ d) {g : Nat} {n : SeqNum} : FormsKept d₀ (d.numSkip g n) := by
  unfold Dev.numSkip
  extract_lets +onlyGivenNames d1 d2
  have h1 : FormsKept d₀ d1 := h.setNum
  have h2 : FormsKept d₀ d2 := by
    unfold d2
    split
    · exact h1.setGrp
    · exact h1
  exact h2.inc.fire

theorem FormsKept.ringSkip (h : FormsKept d₀ d) {r : Nat} : FormsKept d₀ (d.ringSkip r) := by
  unfold Dev.ringSkip
  refine h.forEach fun x1 d1 h1 => ?_
  extract_lets +onlyGivenNames hit d2
  have h2 : FormsKept d₀ d2 := .grpAdvance (h1.forEach fun _ _ h3 => h3.numSkip)
  exact h2.setGrp

theorem FormsKept.ringsOff (h : FormsKept d₀ d) : FormsKept d₀ d.ringsOff := .same h rfl

theorem FormsKept.ringsGone (h : FormsKept d₀ d) : FormsKept d₀ d.ringsGone := by
  unfold Dev.ringsGone
  extract_lets +onlyGivenNames d2
  have h2 : FormsKept d₀ d2 := h.forEach fun _ _ h3 => h3.ringSkip
  clear_value d2
  extract_lets +onlyGivenNames d4
  have h4 : FormsKept d₀ d4 := .objectsOut h2 rfl rfl
  extract_lets +onlyGivenNames keep d7
  have h7 : FormsKept d₀ d7 := h4.forEach fun _ _ h8 => h8.setMac
  clear_value d7
  extract_lets +onlyGivenNames d9
  have h9 : FormsKept d₀ d9 := .same h7 rfl
  exact h9.ringsOff

theorem FormsKept.setTow (h : FormsKept d₀ d) {f : TowU → TowU} : FormsKept d₀ (d.setTow f) := .same h rfl

theorem FormsKept.setSlu (h : FormsKept d₀ d) {f : Sluice → Sluice} : FormsKept d₀ (d.setSlu f) := .same h rfl

theorem FormsKept.setSluOut (h : FormsKept d₀ d) {k : Nat} {f : SluOut → SluOut} : FormsKept d₀ (d.setSluOut k f) := h.setSlu

theorem FormsKept.sluBefore (h : FormsKept d₀ d) {k : Nat} {e : SluEv} : FormsKept d₀ (d.sluBefore k e) := h.wr.wr.setSluOut

theorem FormsKept.sluEvent (h : FormsKept d₀ d) {k rank : Nat} {admits : Nat → Bool} {act : Dev → Dev}
    (hact : ∀ e, FormsKept d₀ e → FormsKept d₀ (act e)) : FormsKept d₀ (d.sluEvent k rank admits act) := by
  unfold Dev.sluEvent
  split
  · exact .ite h (.setSluOut (hact _ h.sluBefore))
  · exact .ite (.setSluOut (hact _ h)) h

theorem FormsKept.wakeRequests (h : FormsKept d₀ d) {ls : Nat} : FormsKept d₀ (d.wakeRequests ls) := h.forEach fun _ _ h1 => h1.placeReq

theorem FormsKept.latch (h : FormsKept d₀ d) {n : Nat} : FormsKept d₀ (d.latch n) := by
  unfold Dev.latch
  split
  · extract_lets +onlyGivenNames d1
    have h1 : FormsKept d₀ d1 := h.wr
    clear_value d1
    exact .ite h1.wakeRequests (.same h1 rfl)
  · exact h

theorem FormsKept.setTacho (h : FormsKept d₀ d) {t : Nat} {f : Tacho → Tacho} : FormsKept d₀ (d.setTacho t f) := h.setSlu

theorem FormsKept.setLevel (h : FormsKept d₀ d) {k v : Nat} : FormsKept d₀ (d.setLevel k v) := h.wr.forEach fun _ _ h1 => h1.setTacho

theorem FormsKept.sluGo (h : FormsKept d₀ d) {k st : Nat} {cause : Option Nat} : FormsKept d₀ (d.sluGo k st cause) := by
  unfold Dev.sluGo
  extract_lets +onlyGivenNames d1 d2
  have h1 : FormsKept d₀ d1 := h.wr
  have h2 : FormsKept d₀ d2 := by
    unfold d2
    split
    · exact h1.wr
    · exact h1
  extract_lets +onlyGivenNames d3 d4
  have h3 : FormsKept d₀ d3 := h2.setSluOut
  have h4 : FormsKept d₀ d4 := .ite h3.setLevel h3
  exact .latch (.ite h4 h4.fire)

theorem FormsKept.sluCoreOff1 (h : FormsKept d₀ d) {k : Nat} : FormsKept d₀ (d.sluCoreOff1 k) := h.sluEvent (fun _ h1 => h1.sluGo)

theorem FormsKept.sluCoast (h : FormsKept d₀ d) {k cause : Nat} : FormsKept d₀ (d.sluCoast k cause) := by
  unfold Dev.sluCoast
  split
  · exact h.sluGo.setSluOut
  · exact h.sluGo

theorem FormsKept.sluSupply1 (h : FormsKept d₀ d) {cause k : Nat} :
    FormsKept d₀ (d.sluSupply1 cause k) := h.sluEvent (fun _ h1 => h1.sluCoast)

theorem FormsKept.sluExternal (h : FormsKept d₀ d) {cause : Nat} :
    FormsKept d₀ (d.sluExternal cause) := .ite h (.ite h.setSlu (h.forEach fun _ _ h1 => .ite h1.sluCoreOff1 h1.sluSupply1))

theorem FormsKept.sluCoreOff (h : FormsKept d₀ d) : FormsKept d₀ d.sluCoreOff := h.sluExternal

theorem FormsKept.coreOff (h : FormsKept d₀ d) : FormsKept d₀ d.coreOff := by
  unfold Dev.coreOff
  extract_lets +onlyGivenNames d1
  have h1 : FormsKept d₀ d1 := h.sluCoreOff.jobsReset.linkReset
  clear_value d1
  extract_lets +onlyGivenNames _ d2
  have h2 : FormsKept d₀ d2 := .same h1 rfl
  exact h2.setLk.setTow.orphansLive.ringsGone

theorem FormsKept.imgLost (h : FormsKept d₀ d) {dom : Nat} : FormsKept d₀ (d.imgLost dom) := h.forEach fun _ _ h1 => h1.setImg

theorem FormsKept.setPm (h : FormsKept d₀ d) {f : Pmem → Pmem}
    (hf : ((f d.pm).mem, (f d.pm).barges, (f d.pm).frees) = (d.pm.mem, d.pm.barges, d.pm.frees)) : FormsKept d₀ (d.setPm f) :=
  .same h (congrArg (Prod.mk d.store) hf)

theorem FormsKept.lockOff (h : FormsKept d₀ d) : FormsKept d₀ d.lockOff :=
  .listsOut h rfl (p := fun _ => false) (List.filter_false _).symm

theorem FormsKept.freeBarge (h : FormsKept d₀ d) {b : Nat} : FormsKept d₀ (d.freeBarge b) := h.freeWith

theorem FormsKept.freeBarges (h : FormsKept d₀ d) {bs : List Nat} :
    FormsKept d₀ (d.freeBarges bs) := h.forEach fun _ _ h1 => h1.freeBarge

theorem FormsKept.setSeg (h : FormsKept d₀ d) {p : Nat} {f : Seg → Seg} : FormsKept d₀ (d.setSeg p f) := .same h rfl

theorem FormsKept.macOff (h : FormsKept d₀ d) {p : Nat} : FormsKept d₀ (d.macOff p) := by
  unfold Dev.macOff
  extract_lets +onlyGivenNames d1
  have h1 : FormsKept d₀ d1 := h.forEach fun _ _ h2 => h2.freeBarges
  exact .ite h1.setMac.setMdio.setGov.govRestart (.ite h1.setMac.setSeg h1.setMac)

theorem FormsKept.raDrop (h : FormsKept d₀ d) {bk : Nat} : FormsKept d₀ (d.raDrop bk) := h.setLk

theorem FormsKept.setChan (h : FormsKept d₀ d) {k : Nat} {f : Chan → Chan} : FormsKept d₀ (d.setChan k f) := .same h rfl

theorem FormsKept.pass (h : FormsKept d₀ d) {n : Nat} : FormsKept d₀ (d.pass n) := by
  unfold Dev.pass
  extract_lets +onlyGivenNames d1
  have h1 : FormsKept d₀ d1 := .same h rfl
  clear_value d1
  exact .ite (.same h1 rfl) h1

theorem FormsKept.halfFlag (h : FormsKept d₀ d) {b x y : Nat} : FormsKept d₀ (d.halfFlag b x y) := .ite h.wr.fire h

theorem FormsKept.cntRaise (h : FormsKept d₀ d) {p i n : Nat} : FormsKept d₀ (d.cntRaise p i n) := h.wr.halfFlag

theorem FormsKept.cnt (h : FormsKept d₀ d) {p i n : Nat} : FormsKept d₀ (d.cnt p i n) := .ite h.cntRaise h

theorem FormsKept.tickPort (h : FormsKept d₀ d) {n p : Nat} :
    FormsKept d₀ (d.tickPort n p) := .ite (.ite (.ite h.setMac h.setMac.cnt) (.cnt (.ite h.setMac h.setMac.cnt))) h

theorem FormsKept.tickPorts (h : FormsKept d₀ d) {n : Nat} :
    FormsKept d₀ (d.tickPorts n) := .ite (h.forEach fun _ _ h1 => h1.tickPort) h

theorem FormsKept.tick (h : FormsKept d₀ d) {n : Nat} : FormsKept d₀ (d.tick n) := .ite h h.pass.tickPorts

theorem FormsKept.evt1Give (h : FormsKept d₀ d) : FormsKept d₀ d.evt1Give := .ite h.tick.dropClaims.setChan h

theorem FormsKept.sluOff (h : FormsKept d₀ d) : FormsKept d₀ d.sluOff := h.setSlu.evt1Give

theorem FormsKept.goesOff (h : FormsKept d₀ d) {n : Nat} : FormsKept d₀ (d.goesOff n) := by
  unfold Dev.goesOff
  extract_lets +onlyGivenNames d1
  have h1 : FormsKept d₀ d1 := by
    unfold d1
    split
    · exact h.sluOff
    · exact h.coreOff
    · exact h.lockOff.raDrop
    · exact h.raDrop
    · exact h.raDrop
    · exact h.raDrop
    · exact h.macOff
    · exact h.macOff
    · exact h.macOff
    · exact h.macOff
    · exact .same h rfl
    · exact h.setTow
    · exact h
  exact h1.imgLost.claimsOff

theorem FormsKept.setCls (h : FormsKept d₀ d) {f : ClsU → ClsU} : FormsKept d₀ (d.setCls f) := .same h rfl

theorem FormsKept.crashes (h : FormsKept d₀ d) {n : Nat} : FormsKept d₀ (d.crashes n) := by
  unfold Dev.crashes
  extract_lets +onlyGivenNames d1 d2
  have h1 : FormsKept d₀ d1 := h.forEach fun _ _ h3 => h3.setImg
  have h2 : FormsKept d₀ d2 := by
    unfold d2
    split
    · exact h1.setNv
    · exact h1.bankLost
    · exact h1.bankLost
    · exact h1.bankLost
    · exact h1.bankLost
    · exact .setCls (h1.forEach fun _ _ h4 => h4.wr.wr.setGrp)
    · exact h1.setBrg
    · exact h1.setLk
    · exact h1.chPinsOff
    · exact h1
  exact h2.orphansLive.goesOff

theorem FormsKept.lockClose (h : FormsKept d₀ d) {bk : Nat} : FormsKept d₀ (d.lockClose bk) := by
  unfold Dev.lockClose
  split
  · split
    · extract_lets +onlyGivenNames d1
      have h1 : FormsKept d₀ d1 := h.setBarge
      clear_value d1
      exact .same h1 rfl
    · exact h
  · exact h

theorem FormsKept.advanceTo (h : FormsKept d₀ d) {due : Nat} : FormsKept d₀ (d.advanceTo due) := h.tick

theorem FormsKept.zeroFrom (h : FormsKept d₀ d) {b : Nat} : FormsKept d₀ (d.zeroFrom b) := .setPm h rfl

theorem FormsKept.eccCorrect (h : FormsKept d₀ d) {bk : Nat} : FormsKept d₀ (d.eccCorrect bk) := .ite h.inc.fire h.inc

theorem FormsKept.eccFail (h : FormsKept d₀ d) {w : Nat} : FormsKept d₀ (d.eccFail w) := h.setBarge.wr.inc.fire

theorem FormsKept.eccScan (h : FormsKept d₀ d) {ws : List Nat} {ss : List Strike} : FormsKept d₀ (d.eccScan ws ss).2 := by
  unfold Dev.eccScan
  extract_lets +onlyGivenNames all hit new bad _ d1 failed singles
  have h1 : FormsKept d₀ d1 := .same h rfl
  exact .snd (.forEach (h1.forEach fun _ _ h2 => h2.eccCorrect) fun _ _ h3 => h3.eccFail)

theorem FormsKept.mergeScan (h : FormsKept d₀ d) {a n : Nat} {ss : List Strike} : FormsKept d₀ (d.mergeScan a n ss) :=
  (h.eccScan (ws := partWords a n) (ss := ss)).trans ⟨fun w => forEach_memZero_wf w _, id, fun w => w.eq rfl rfl⟩

theorem FormsKept.zeroMem (h : FormsKept d₀ d) {a n : Nat} {ss : List Strike} : FormsKept d₀ (d.zeroMem a n ss) :=
  .zeroed h.mergeScan rfl rfl

theorem FormsKept.lockOpen (h : FormsKept d₀ d) {bk : Nat} {ss : List Strike} : FormsKept d₀ (d.lockOpen bk ss) := by
  unfold Dev.lockOpen
  split
  · extract_lets +onlyGivenNames d1
    have h1 : FormsKept d₀ d1 := h.advanceTo
    clear_value d1
    extract_lets +onlyGivenNames _ d2 d3
    have h2 : FormsKept d₀ d2 := .same h1 rfl
    have h3 : FormsKept d₀ d3 := .ite h2.zeroFrom h2.zeroMem
    exact h3.setBarge
  · exact h

theorem FormsKept.bankCycle (h : FormsKept d₀ d) {bk : Nat} : FormsKept d₀ (d.bankCycle bk) := h.lockClose.lockOpen

theorem FormsKept.lockThrough (h : FormsKept d₀ d) {bk : Nat} {bs : List Nat} {n : Nat} : FormsKept d₀ (d.lockThrough bk bs n) := by
  induction n generalizing d with
  | zero => exact h
  | succ n ih => exact .ite (ih h.bankCycle) h

theorem FormsKept.awaitLocks (h : FormsKept d₀ d) {bs : List Nat} :
    FormsKept d₀ (d.awaitLocks bs) := h.forEach fun _ _ h1 => h1.lockThrough

theorem FormsKept.setOpSlot (h : FormsKept d₀ d) {s : Nat} {x : Option OpSlot} : FormsKept d₀ (d.setOpSlot s x) := h.setTow

theorem FormsKept.slotReturn (h : FormsKept d₀ d) {s : Nat} : FormsKept d₀ (d.slotReturn s) := by
  unfold Dev.slotReturn
  split
  · split
    · exact .ite h.freeBarge h.requestLock
    · exact h
  · exact h

theorem FormsKept.slotDone (h : FormsKept d₀ d) {s status len value : Nat} :
    FormsKept d₀ (d.slotDone s status len value) := h.slotReturn.awaitLocks.wr.setOpSlot

theorem FormsKept.setSess (h : FormsKept d₀ d) {n : Nat} {f : Sess → Sess} : FormsKept d₀ (d.setSess n f) := h.setTow

theorem FormsKept.engineOff (h : FormsKept d₀ d) {own : Nat} {need : List Nat} : FormsKept d₀ (d.engineOff own need) := h.fault

theorem FormsKept.towMacOff (h : FormsKept d₀ d) : FormsKept d₀ d.towMacOff := h.engineOff

theorem FormsKept.writeMem (h : FormsKept d₀ d) {a : Nat} {v : Oct} : FormsKept d₀ (d.writeMem a v) :=
  (h.mergeScan (a := a) (n := v.length) (ss := [])).trans ⟨fun w => memWrite_wf w a v, id, fun w => w.eq rfl rfl⟩

theorem FormsKept.fillBarges (h : FormsKept d₀ d) {bs : List Nat} {data : Oct} :
    FormsKept d₀ (d.fillBarges bs data) := h.forEach fun _ _ h1 => h1.writeMem

theorem FormsKept.queueTow (h : FormsKept d₀ d) {p len : Nat} {bs : List Nat} {own : Bool} {peer : Nat} :
    FormsKept d₀ (d.queueTow p len bs own peer) := h.setMac

theorem FormsKept.sendTow (h : FormsKept d₀ d) {n subtype len : Nat} {bs : List Nat} {own : Bool} :
    FormsKept d₀ (d.sendTow n subtype len bs own) := by
  unfold Dev.sendTow
  extract_lets +onlyGivenNames p d1
  have h1 : FormsKept d₀ d1 := .ite h.queueTow (.engineOff (.ite h.freeBarges h))
  exact h1.setSess

theorem FormsKept.setSeqs (h : FormsKept d₀ d) {n snd exp : Nat} : FormsKept d₀ (d.setSeqs n snd exp) := h.wr

theorem FormsKept.setUnacked (h : FormsKept d₀ d) {n : Nat} : FormsKept d₀ (d.setUnacked n) := h.wr

theorem FormsKept.allocOne (h : FormsKept d₀ d) {p b : Nat} {o : Owner} (hb : d.allocOne p o = some (b, e)) : FormsKept d₀ e := by
  simp only [Dev.allocOne] at hb
  split at hb
  · exact absurd hb (Option.some_ne_none _).symm
  · rename_i bk hbk
    split at hb
    · exact absurd hb (Option.some_ne_none _).symm
    · rename_i c t hlist
      obtain ⟨-, rfl⟩ := Prod.mk.inj (Option.some.inj hb)
      have listed (w : d₀.freesKept) := hlist ▸ Dev.freeList_kept (h.frees w) p bk
      have taken : FormsKept d₀ (d.setFree p bk t) := h.setFree (fun w => (List.nodup_cons.1 (listed w).1).2)
        fun w x hx => (listed w).2 x (List.mem_cons_of_mem _ hx)
      have moved : FormsKept d₀ ((d.setFree p bk t).setBarge c fun x => { x with owner := o, valid := 0 }) := taken.setBarge
      exact .same moved rfl

theorem FormsKept.allocMany (h : FormsKept d₀ d) {p : Nat} {o : Owner} {n : Nat} : FormsKept d₀ (d.allocMany p o n).2 := by
  induction n generalizing d with
  | zero => exact h
  | succ n ih =>
    rw [Dev.allocMany]
    split
    · exact h
    · exact ih (h.allocOne ‹_›)

theorem FormsKept.alloc (h : FormsKept d₀ d) {p : Nat} {o : Owner} {n : Nat} : FormsKept d₀ (d.alloc p o n).2 := by
  unfold Dev.alloc
  split
  · exact .snd h
  · split
    · exact .snd h
    · split
      · extract_lets +onlyGivenNames r1
        have h1 : FormsKept d₀ r1.2 := h.allocMany
        exact .snd h1.watchPound
      · exact .snd h.inc.fire

theorem FormsKept.towAlloc (h : FormsKept d₀ d) {n len : Nat} : FormsKept d₀ (d.towAlloc n len).2 := h.alloc

theorem FormsKept.towPump (h : FormsKept d₀ d) {n k : Nat} : FormsKept d₀ (d.towPump n k) := by
  induction k generalizing d with
  | zero => exact h
  | succ k ih =>
    rw [Dev.towPump]
    split
    · exact h
    split
    · exact h
    extract_lets +onlyGivenNames q f
    split
    · rename_i d1 eq1
      have h1 : FormsKept d₀ d1 := h.towAlloc.ofPair eq1
      exact ih h1.fillBarges.setSess.setSeqs.setUnacked.sendTow
    · rename_i d1 eq1
      exact h.towAlloc.ofPair eq1

theorem FormsKept.towQueue (h : FormsKept d₀ d) {n : Nat} {body : Oct} :
    FormsKept d₀ (d.towQueue n body) := .towPump (.setSess (.ite h h.towMacOff))

theorem FormsKept.respond (h : FormsKept d₀ d) {x : LaneOp} {status : Nat} {data : Oct} {conflict : Bool} :
    FormsKept d₀ (d.respond x status data conflict) := by
  unfold Dev.respond
  split
  · extract_lets +onlyGivenNames s rd d1
    have h1 : FormsKept d₀ d1 := by
      unfold d1
      split
      · split
        · exact .ite h.writeMem h
        · exact h
      · exact h
    exact h1.slotDone
  · exact .ite h.towQueue h

theorem FormsKept.dictAnswer (h : FormsKept d₀ d) {n epoch : Nat} {op : Oct} {r : Res} : FormsKept d₀ (d.dictAnswer n epoch op r) := by
  unfold Dev.dictAnswer
  extract_lets +onlyGivenNames x
  split
  · exact h.respond
  · exact h.respond

theorem FormsKept.slotAbort (h : FormsKept d₀ d) {cmd idx sb code peer : Nat} :
    FormsKept d₀ (d.slotAbort cmd idx sb code peer) := h.fault

theorem FormsKept.setSlot (h : FormsKept d₀ d) {s : Nat} {x : Option Slot} : FormsKept d₀ (d.setSlot s x) := h.setLk

theorem FormsKept.slotReady (h : FormsKept d₀ d) {s : Nat} {r : Res} : FormsKept d₀ (d.slotReady s r) := by
  unfold Dev.slotReady
  split
  · exact h.setSlot
  · exact h

theorem FormsKept.hostDone (h : FormsKept d₀ d) {idx sb : Nat} {r : Res} : FormsKept d₀ (d.hostDone idx sb r) := by
  unfold Dev.hostDone
  split
  · extract_lets +onlyGivenNames o d1
    have h1 : FormsKept d₀ d1 := h.setLk
    split
    · exact .ite h1.slotAbort h1
    · exact h1
  · split
    · exact h.slotReady
    · exact h

theorem FormsKept.countTxn (h : FormsKept d₀ d) : FormsKept d₀ d.countTxn := h.inc

theorem FormsKept.noteAbort (h : FormsKept d₀ d) {ini cmd idx sb code : Nat} :
    FormsKept d₀ (d.noteAbort ini cmd idx sb code) := h.wr.inc

theorem FormsKept.settleTxn (h : FormsKept d₀ d) {ini cmd idx sb : Nat} {x : Option Nat} :
    FormsKept d₀ (d.settleTxn ini cmd idx sb x) := by
  unfold Dev.settleTxn
  split
  · exact h.countTxn
  · exact h.countTxn.noteAbort

theorem FormsKept.resolve (h : FormsKept d₀ d) {ini idx sb : Nat} {r : Res} : FormsKept d₀ (d.resolve ini idx sb r) := by
  unfold Dev.resolve
  split
  · extract_lets +onlyGivenNames d1
    have h1 : FormsKept d₀ d1 := by
      unfold d1
      split
      · exact h.settleTxn
      · exact h
    exact h1.hostDone
  · split
    · exact h.settleTxn
    · exact h.setTow.settleTxn.dictAnswer

theorem FormsKept.imgLeaves (h : FormsKept d₀ d) {dom code : Nat} : FormsKept d₀ (d.imgLeaves dom code) := by
  unfold Dev.imgLeaves
  refine h.forEach fun x1 d1 h1 => ?_
  extract_lets +onlyGivenNames x d2
  have h2 : FormsKept d₀ d2 := h1.setImg
  clear_value x
  split
  · exact h2.resolve
  · exact h2

theorem FormsKept.chainsBank (h : FormsKept d₀ d) {bk : Nat} :
    FormsKept d₀ (d.chainsBank bk) := h.forEach fun _ _ h1 => h1.forEach fun _ _ h2 => h2.endChain

theorem FormsKept.numDropped (h : FormsKept d₀ d) {num : Option (Nat × Nat)} : FormsKept d₀ (d.numDropped num) := by
  unfold Dev.numDropped
  split
  · exact h.setNum.grpAdvance
  · exact h

theorem FormsKept.storeLost (h : FormsKept d₀ d) {p : Nat} {bs : List Nat} : FormsKept d₀ (d.storeLost p bs) := h.freeBarges.cnt

theorem FormsKept.towBank (h : FormsKept d₀ d) {bk : Nat} : FormsKept d₀ (d.towBank bk) := by
  unfold Dev.towBank
  extract_lets -underBinder +onlyGivenNames gone rest d1
  have h1 : FormsKept d₀ d1 := by
    unfold d1
    refine h.forEach fun x2 d2 h2 => ?_
    split
    · extract_lets +onlyGivenNames d3
      have h3 : FormsKept d₀ d3 := by
        unfold d3
        split
        · exact h2.setOpSlot
        · exact h2
      exact .ite h3.slotDone h3
    · exact h2
  extract_lets -underBinder +onlyGivenNames d4 drops d5
  have h4 : FormsKept d₀ d4 := h1.forEach fun _ _ h6 => h6.setMac.freeBarges
  have h5 : FormsKept d₀ d5 := by
    unfold d5
    refine h4.forEach fun x7 d7 h7 => ?_
    extract_lets +onlyGivenNames d8
    have h8 : FormsKept d₀ d8 := .ite h7.inc h7
    exact h8.setSess.freeBarges
  exact h5.setTow

theorem FormsKept.bankPaths (h : FormsKept d₀ d) {bk : Nat} : FormsKept d₀ (d.bankPaths bk) := by
  unfold Dev.bankPaths
  extract_lets -underBinder +onlyGivenNames hit d1 d2 d3 d4 d5
  have h1 : FormsKept d₀ d1 := h.chainsBank.towBank
  have h2 : FormsKept d₀ d2 := h1.forEach fun _ _ h6 => h6.storeLost
  have h3 : FormsKept d₀ d3 := h2.forEach fun _ _ h7 => h7.storeLost
  have h4 : FormsKept d₀ d4 := h3.setCls
  have h5 : FormsKept d₀ d5 := by
    unfold d5
    refine h4.forEach fun x8 d8 h8 => ?_
    extract_lets +onlyGivenNames gone d9
    have h9 : FormsKept d₀ d9 := h8.forEach fun _ _ h10 => .numDropped (.ite h10.freeBarges h10.storeLost)
    exact h9.setRing
  exact h5.add.setBrg

theorem FormsKept.handBarges (h : FormsKept d₀ d) {bs : List Nat} {dst : Owner} {len : Nat} :
    FormsKept d₀ (d.handBarges bs dst len) := h.forEach fun _ _ h1 => h1.requestLock

theorem FormsKept.deliverRx (h : FormsKept d₀ d) {r : Nat} {desc : Oct} {bs : List Nat} {len : Nat} {num : Option (Nat × Nat)} :
    FormsKept d₀ (d.deliverRx r desc bs len num).2 := by
  unfold Dev.deliverRx
  split
  · extract_lets +onlyGivenNames d1
    have h1 : FormsKept d₀ d1 := h.handBarges
    exact .snd h1.setRing
  · exact .snd h.freeBarges.inc.numDropped

theorem FormsKept.canDeliver (h : FormsKept d₀ d) {c k : Nat} {m : CanMsg} : FormsKept d₀ (d.canDeliver c k m) := by
  unfold Dev.canDeliver
  extract_lets +onlyGivenNames r
  split
  · exact h.engineOff
  · split
    · exact h.deliverRx
    · split
      · rename_i d1 eq1
        have h1 : FormsKept d₀ d1 := h.alloc.ofPair eq1
        exact h1.writeMem.deliverRx
      · rename_i d2 _ eq2
        have h2 : FormsKept d₀ d2 := h.alloc.ofPair eq2
        exact h2.inc

theorem FormsKept.canDefault (h : FormsKept d₀ d) {c : Nat} {m : CanMsg} : FormsKept d₀ (d.canDefault c m) := .ite h h.canDeliver

theorem FormsKept.brgDrain (h : FormsKept d₀ d) : FormsKept d₀ d.brgDrain := by
  unfold Dev.brgDrain
  extract_lets +onlyGivenNames q
  refine h.setBrg.forEach fun x1 d1 h1 => ?_
  split
  · exact h1.canDefault
  · exact h1.freeBarges
  · exact h1

theorem FormsKept.brgLeaves (h : FormsKept d₀ d) {toOff : Bool} :
    FormsKept d₀ (d.brgLeaves toOff) := .ite h.brgDrain.setBrg.setBrg h.brgDrain.setBrg

theorem FormsKept.setCanState (h : FormsKept d₀ d) {c v : Nat} : FormsKept d₀ (d.setCanState c v) := .ite h h.wr.fire

theorem FormsKept.canLeaves (h : FormsKept d₀ d) : FormsKept d₀ d.canLeaves := by
  unfold Dev.canLeaves
  extract_lets +onlyGivenNames d1
  have h1 : FormsKept d₀ d1 := h.forEach fun _ _ h2 => h2.forEach fun _ _ h3 => h3.endChain
  clear_value d1
  extract_lets +onlyGivenNames d4 d5
  have h4 : FormsKept d₀ d4 := .same h1 rfl
  have h5 : FormsKept d₀ d5 := h4.forEach fun _ _ h6 => h6.setCanState
  exact h5.setBrg

theorem FormsKept.clsLeaves (h : FormsKept d₀ d) : FormsKept d₀ d.clsLeaves := by
  unfold Dev.clsLeaves
  extract_lets +onlyGivenNames d1 d2 d3
  have h1 : FormsKept d₀ d1 := h.forEach fun _ _ h4 => h4.freeBarges.cnt
  have h2 : FormsKept d₀ d2 := h1.forEach fun _ _ h5 => h5.freeBarges
  have h3 : FormsKept d₀ d3 := h2.forEach fun _ _ h6 => h6.wr.wr.setGrp
  exact h3.setCls

theorem FormsKept.commitLeaves (h : FormsKept d₀ d) {code : Nat} : FormsKept d₀ (d.commitLeaves code) := by
  unfold Dev.commitLeaves
  split
  · exact h.setCls.resolve
  · exact h

theorem FormsKept.govHalt (h : FormsKept d₀ d) : FormsKept d₀ d.govHalt := h.setGov

theorem FormsKept.oppEnd (h : FormsKept d₀ d) {p : Nat} : FormsKept d₀ (d.oppEnd p) := .ite h.setSeg h

theorem FormsKept.portHalt (h : FormsKept d₀ d) {p ls : Nat} : FormsKept d₀ (d.portHalt p ls) := by
  unfold Dev.portHalt
  extract_lets +onlyGivenNames d1
  have h1 : FormsKept d₀ d1 := .ite h.setMdio.govHalt h.oppEnd
  exact h1.linkLost.setLink

theorem FormsKept.macLeaves (h : FormsKept d₀ d) {p : Nat} : FormsKept d₀ (d.macLeaves p) := .ite h.portHalt.setMdio.wr h.portHalt

theorem FormsKept.nvOpen (h : FormsKept d₀ d) : FormsKept d₀ d.nvOpen := .ite h.setNv.fire h.setNv

theorem FormsKept.nvPut (h : FormsKept d₀ d) {q n : Nat} : FormsKept d₀ (d.nvPut q n) := .ite h h.setNv

theorem FormsKept.nvPlaceCut (h : FormsKept d₀ d) {q n w : Nat} : FormsKept d₀ (d.nvPlaceCut q n w) := .ite h.nvPut h.nvPut.nvOpen.nvPut

theorem FormsKept.nvCut (h : FormsKept d₀ d) : FormsKept d₀ d.nvCut := by
  unfold Dev.nvCut
  split
  · exact h
  · extract_lets +onlyGivenNames t w
    split
    · exact h.nvPlaceCut
    · exact h.nvPlaceCut
    · exact .ite h.nvPlaceCut.setNv h.nvPlaceCut
    · exact .ite h.setNv h
    · exact .ite h h.setNv
    · exact h
    · exact h

theorem FormsKept.pwAbort (h : FormsKept d₀ d) {p : PwReq} {code : Nat} : FormsKept d₀ (d.pwAbort p code) := h.resolve

theorem FormsKept.pwCurAbort (h : FormsKept d₀ d) {w : NvWrite} {code : Nat} : FormsKept d₀ (d.pwCurAbort w code) := by
  unfold Dev.pwCurAbort
  split
  · exact h.resolve
  · exact h

theorem FormsKept.nvLeaves (h : FormsKept d₀ d) {code : Nat} : FormsKept d₀ (d.nvLeaves code) := by
  unfold Dev.nvLeaves
  extract_lets +onlyGivenNames d1 ps d2
  have h1 : FormsKept d₀ d1 := h.nvCut
  have h2 : FormsKept d₀ d2 := by
    unfold d2
    split
    · exact h1.pwCurAbort
    · exact h1
  exact h2.setNv.forEach fun _ _ h3 => h3.pwAbort

theorem FormsKept.ringEvent (h : FormsKept d₀ d) {r : Nat} : FormsKept d₀ (d.ringEvent r) := h.setRing.fire

theorem FormsKept.ringFault (h : FormsKept d₀ d) {r code : Nat} : FormsKept d₀ (d.ringFault r code) := .ite h h.wr.fault.ringEvent

theorem FormsKept.ringsFault (h : FormsKept d₀ d) {p : Nat → Bool} {code : Nat} :
    FormsKept d₀ (d.ringsFault p code) := h.forEach fun _ _ h1 => h1.ringFault

theorem FormsKept.remoteDone (h : FormsKept d₀ d) {peer slot : Nat} {r : Res} : FormsKept d₀ (d.remoteDone peer slot r) := by
  unfold Dev.remoteDone
  split
  · exact h
  · split
    · exact h
    · extract_lets +onlyGivenNames d1 d2
      have h1 : FormsKept d₀ d1 := h.setLk
      have h2 : FormsKept d₀ d2 := .ite h1 h1.settleTxn
      split
      · exact h2.slotReady
      · split
        · exact .ite h2.slotAbort h2
        · exact h2

theorem FormsKept.remotesLost (h : FormsKept d₀ d) {peer : Nat} :
    FormsKept d₀ (d.remotesLost peer) := h.forEach fun _ _ h1 => h1.remoteDone

theorem FormsKept.cacheDrop (h : FormsKept d₀ d) {p : CacheLine → Bool} : FormsKept d₀ (d.cacheDrop p) := h.setTow

theorem FormsKept.pathEnd (h : FormsKept d₀ d) {x : PathOp} : FormsKept d₀ (d.pathEnd x) := h.freeBarges

theorem FormsKept.setWin (h : FormsKept d₀ d) {w : Nat} {f : Win → Win} : FormsKept d₀ (d.setWin w f) := h.setTow

theorem FormsKept.rsvFree (h : FormsKept d₀ d) {w : Nat} : FormsKept d₀ (d.rsvFree w) := h.wr.setWin

theorem FormsKept.towGive (h : FormsKept d₀ d) {bs : List Nat} : FormsKept d₀ (d.towGive bs) := by
  unfold Dev.towGive
  extract_lets +onlyGivenNames hit busy d1
  have h1 : FormsKept d₀ d1 := h.forEach fun _ _ h2 => h2.setMac
  exact h1.freeBarges

theorem FormsKept.sessDrop (h : FormsKept d₀ d) {n : Nat} : FormsKept d₀ (d.sessDrop n) := by
  unfold Dev.sessDrop
  extract_lets +onlyGivenNames d1 d2 d3 d4 d5 mine d6 d7 d8 d9
  have h1 : FormsKept d₀ d1 := h.add
  have h2 : FormsKept d₀ d2 := h1.imgReset.towGive
  have h3 : FormsKept d₀ d3 := h2.setTow
  have h4 : FormsKept d₀ d4 := h3.forEach fun _ _ h10 => .ite h10.slotDone h10
  have h5 : FormsKept d₀ d5 := h4.remotesLost
  have h6 : FormsKept d₀ d6 := h5.forEach fun _ _ h11 => h11.pathEnd
  have h7 : FormsKept d₀ d7 := h6.setTow
  have h8 : FormsKept d₀ d8 := h7.cacheDrop
  have h9 : FormsKept d₀ d9 := h8.forEach fun _ _ h12 => .ite h12.rsvFree h12
  exact h9.setSess.setUnacked

theorem FormsKept.setLane (h : FormsKept d₀ d) {i : Nat} {f : Lane → Lane} : FormsKept d₀ (d.setLane i f) := h.setTow

theorem FormsKept.setPeer (h : FormsKept d₀ d) {n v : Nat} : FormsKept d₀ (d.setPeer n v) := .ite h h.wr.fire.latch

theorem FormsKept.winSettle (h : FormsKept d₀ d) {w : Nat} : FormsKept d₀ (d.winSettle w) := by
  unfold Dev.winSettle
  split
  · extract_lets +onlyGivenNames d1
    have h1 : FormsKept d₀ d1 := by
      unfold d1
      split
      · exact h.forEach fun _ _ h2 => h2.requestLock
      · exact h
    exact h1.wr.rsvFree.setWin
  · exact h

theorem FormsKept.towLeaves (h : FormsKept d₀ d) : FormsKept d₀ d.towLeaves := by
  unfold Dev.towLeaves
  extract_lets -underBinder +onlyGivenNames d1 d2
  have h1 : FormsKept d₀ d1 := h.forEach fun _ _ h3 => .ite h3 h3.inc.fault.sessDrop.setPeer
  have h2 : FormsKept d₀ d2 := by
    unfold d2
    refine h1.forEach fun x4 d4 h4 => ?_
    extract_lets +onlyGivenNames d5
    have h5 : FormsKept d₀ d5 := h4.forEach fun _ _ h6 => h6.freeBarges
    exact h5.setLane
  extract_lets +onlyGivenNames d7 d8 d9
  have h7 : FormsKept d₀ d7 := h2.setTow
  have h8 : FormsKept d₀ d8 := h7.forEach fun _ _ h10 => .ite h10.slotDone h10
  have h9 : FormsKept d₀ d9 := h8.forEach fun _ _ h11 => h11.winSettle
  exact h9.remotesLost.setTow

theorem FormsKept.tsoReturn (h : FormsKept d₀ d) {p : Nat} : FormsKept d₀ (d.tsoReturn p) := .ite h.requestLock h

theorem FormsKept.tsoLeaves (h : FormsKept d₀ d) {p : Nat} : FormsKept d₀ (d.tsoLeaves p) := .ite h.tsoReturn h

theorem FormsKept.leaves (h : FormsKept d₀ d) {n : Nat} {toOff isReset : Bool} : FormsKept d₀ (d.leaves n toOff isReset) := by
  unfold Dev.leaves
  extract_lets +onlyGivenNames code
  split
  · exact h.setLk
  · exact h.nvLeaves
  · exact .ite h.raDrop (.bankLost (.ite h.raDrop.bankPaths.ringsGone h.raDrop.bankPaths.ringsFault))
  · exact .ite h.raDrop (.bankLost (.ite h.raDrop.bankPaths.ringsGone h.raDrop.bankPaths.ringsFault))
  · exact .ite h.raDrop (.bankLost (.ite h.raDrop.bankPaths.ringsGone h.raDrop.bankPaths.ringsFault))
  · exact .ite h.raDrop (.bankLost (.ite h.raDrop.bankPaths.ringsGone h.raDrop.bankPaths.ringsFault))
  · exact .macLeaves (.ite h.tsoLeaves h)
  · exact .macLeaves (.ite h.tsoLeaves h)
  · exact h.macLeaves
  · exact h.macLeaves
  · exact h.commitLeaves.clsLeaves
  · exact h.canLeaves
  · exact h.brgLeaves
  · exact h.towLeaves
  · exact h.chPinsOff
  · exact h

theorem FormsKept.forceOne (h : FormsKept d₀ d) {n : Nat} {crash : Bool} : FormsKept d₀ (d.forceOne n crash) := by
  unfold Dev.forceOne
  extract_lets +onlyGivenNames was left d1 d2
  have h1 : FormsKept d₀ d1 := .ite h.setAon h
  have h2 : FormsKept d₀ d2 := h1.setDom.wr
  split
  · exact h2
  · extract_lets +onlyGivenNames d3 d4
    have h3 : FormsKept d₀ d3 := .ite h2 h2.imgLeaves.leaves
    have h4 : FormsKept d₀ d4 := .ite h2.setDom h3.setDom
    exact .ite h4.crashes h4.goesOff

theorem FormsKept.forceOff (h : FormsKept d₀ d) {ns : List Nat} {crash : Bool} :
    FormsKept d₀ (d.forceOff ns crash) := h.forEach fun _ _ h1 => h1.forceOne

theorem FormsKept.imagesForced (h : FormsKept d₀ d) {gone : List Nat} {crash : Bool} : FormsKept d₀ (d.imagesForced gone crash) := by
  unfold Dev.imagesForced
  split
  · exact h
  · extract_lets +onlyGivenNames d1
    have h1 : FormsKept d₀ d1 := h.forEach fun _ _ h2 => h2.imgLeaves
    exact .ite (h1.forEach fun _ _ h3 => h3.imgReset) h1

theorem FormsKept.jobProgress (h : FormsKept d₀ d) {s n : Nat} : FormsKept d₀ (d.jobProgress s n) := h.wr

theorem FormsKept.setJob (h : FormsKept d₀ d) {s st : Nat} : FormsKept d₀ (d.setJob s st) := .ite h.wr.fire h.wr

theorem FormsKept.setJobU (h : FormsKept d₀ d) {s : Nat} {f : JobU → JobU} : FormsKept d₀ (d.setJobU s f) := .same h rfl

theorem FormsKept.jobDone (h : FormsKept d₀ d) {s : Nat} : FormsKept d₀ (d.jobDone s) := h.setJobU.jobProgress.wr.setJob

theorem FormsKept.jobFail (h : FormsKept d₀ d) {s code : Nat} : FormsKept d₀ (d.jobFail s code) := by
  unfold Dev.jobFail
  exact h.setJobU.wr.inc.setJob

theorem FormsKept.loadStops (h : FormsKept d₀ d) {s : Nat} : FormsKept d₀ (d.loadStops s) := .ite h.jobProgress h

theorem FormsKept.jobForce (h : FormsKept d₀ d) {s code : Nat} :
    FormsKept d₀ (d.jobForce s code) := .ite h.jobProgress.nvRelease.jobDone h.loadStops.jobUndo.jobFail

theorem FormsKept.jobsForced (h : FormsKept d₀ d) {ns : List Nat} :
    FormsKept d₀ (d.jobsForced ns) := h.forEach fun _ _ h1 => .ite h1.jobForce h1

theorem FormsKept.keepBank (h : FormsKept d₀ d) {n : Nat} : FormsKept d₀ (d.keepBank n) := by
  unfold Dev.keepBank
  extract_lets +onlyGivenNames d1
  have h1 : FormsKept d₀ d1 := h.setDom.wr
  split
  · exact .ite h1.setAon h1
  · exact h1

theorem FormsKept.jobLast (h : FormsKept d₀ d) {s : Nat} {fin : Dev → Dev} (hfin : ∀ e, FormsKept d₀ e → FormsKept d₀ (fin e)) :
    FormsKept d₀ (d.jobLast s fin) := .ite h (hfin _ h)

theorem FormsKept.nvPlace (h : FormsKept d₀ d) {q n : Nat} : FormsKept d₀ (d.nvPlace q n) := .ite h.nvPut h.nvPut.nvOpen.nvPut

theorem FormsKept.nvWrote (h : FormsKept d₀ d) {n : Nat} : FormsKept d₀ (d.nvWrote n) := by
  unfold Dev.nvWrote
  exact h.nvPlace.setNv

theorem FormsKept.nvCommitted (h : FormsKept d₀ d) : FormsKept d₀ d.nvCommitted := by
  unfold Dev.nvCommitted
  extract_lets +onlyGivenNames cur q d1 d2
  have h1 : FormsKept d₀ d1 := h.nvWrote
  have h2 : FormsKept d₀ d2 := h1.setNv
  clear_value cur
  split
  · exact h2
  · split
    · split
      · exact h2.jobProgress.nvRelease.jobDone
      · exact .ite (h2.setJobU.jobProgress.jobLast (fun _ h3 => h3.nvRelease.jobDone)) h2.setJobU.jobProgress
    · split
      · exact h2.wr.inc.resolve
      · exact h2

theorem FormsKept.nvDefaultsAt (h : FormsKept d₀ d) {n : Nat} : FormsKept d₀ (d.nvDefaultsAt n) := by
  unfold Dev.nvDefaultsAt
  split
  · split
    · exact .ite h.jobProgress h
    · exact h
  · exact h

theorem FormsKept.afterUs (h : FormsKept d₀ d) {since us : Nat} : FormsKept d₀ (d.afterUs since us) := h.advanceTo

theorem FormsKept.nvDue (h : FormsKept d₀ d) : FormsKept d₀ d.nvDue := by
  unfold Dev.nvDue
  split
  · exact h.afterUs
  · exact h

theorem FormsKept.nvErased (h : FormsKept d₀ d) {s : Nat} : FormsKept d₀ (d.nvErased s) := .ite h.setNv.fire h.setNv

theorem FormsKept.setComp (h : FormsKept d₀ d) {f : Compact → Compact} : FormsKept d₀ (d.setComp f) := h.setNv

theorem FormsKept.setHome (h : FormsKept d₀ d) {b : Nat} {f : NvHome → NvHome} : FormsKept d₀ (d.setHome b f) := h.setNv

theorem FormsKept.nvHomeWrote (h : FormsKept d₀ d) {n : Nat} : FormsKept d₀ (d.nvHomeWrote n) := by
  unfold Dev.nvHomeWrote
  split
  · exact h
  · extract_lets +onlyGivenNames all d1
    have h1 : FormsKept d₀ d1 := h.jobProgress
    split
    · exact h1
    · exact .ite h1.setHome.setComp h1.setComp

theorem FormsKept.nvMarked (h : FormsKept d₀ d) : FormsKept d₀ d.nvMarked := by
  unfold Dev.nvMarked
  split
  · exact h
  · exact .ite h.setHome.setComp h.setHome.setNv

theorem FormsKept.nvFinish (h : FormsKept d₀ d) {pass : Bool} : FormsKept d₀ (d.nvFinish pass) := by
  unfold Dev.nvFinish
  split
  · exact h
  · extract_lets +onlyGivenNames d1
    have h1 : FormsKept d₀ d1 := h.nvDue
    split
    · exact h1
    · extract_lets +onlyGivenNames d2
      have h2 : FormsKept d₀ d2 := h1.setNv
      split
      · extract_lets +onlyGivenNames d3
        have h3 : FormsKept d₀ d3 := h2.nvWrote
        split
        · exact .ite h3.nvDefaultsAt h3
        · exact h3
      · exact h2.nvWrote.nvDefaultsAt
      · exact h2.nvCommitted
      · exact h2.nvHomeWrote
      · exact h2.nvMarked
      · exact h2.nvErased
      · exact h2.setNv

theorem FormsKept.workLost (h : FormsKept d₀ d) : FormsKept d₀ d.workLost := by
  unfold Dev.workLost
  extract_lets +onlyGivenNames d1 d2 d3 d4
  have h1 : FormsKept d₀ d1 := h.forEach fun _ _ h5 => .ite h5.wr h5
  have h2 : FormsKept d₀ d2 := h1.setTow
  have h3 : FormsKept d₀ d3 := h2.forEach fun _ _ h6 => h6.setUnacked
  have h4 : FormsKept d₀ d4 := h3.forEach fun _ _ h7 => h7.setMac
  exact h4.setCls.setBrg.setLk

theorem FormsKept.resetDomains (h : FormsKept d₀ d) {ns : List Nat} : FormsKept d₀ (d.resetDomains ns) := by
  unfold Dev.resetDomains
  extract_lets +onlyGivenNames core crash kept gone d1 d2 d3 d4 d5 d6
  have h1 : FormsKept d₀ d1 := .ite h.setAon h.jobsForced.imagesForced
  have h2 : FormsKept d₀ d2 := .ite h1.workLost h1
  have h3 : FormsKept d₀ d3 := h2.forEach fun _ _ h7 => h7.keepBank
  have h4 : FormsKept d₀ d4 := h3.forceOff
  have h5 : FormsKept d₀ d5 := .ite (.forceOff (.ite h4.nvFinish h4)) h4
  have h6 : FormsKept d₀ d6 := .ite h5.ringsGone h5
  exact .ite (.setPm h6 rfl) h6

theorem FormsKept.startupBegin (h : FormsKept d₀ d) {cause : Nat} {st : Startup} :
    FormsKept d₀ (d.startupBegin cause st) := h.wr.setAon.setLk

theorem FormsKept.softReset (h : FormsKept d₀ d) : FormsKept d₀ d.softReset := .ite h.resetDomains.startupBegin.pllStep h.resetDomains

theorem FormsKept.coreRequest (h : FormsKept d₀ d) : FormsKept d₀ d.coreRequest := by
  unfold Dev.coreRequest
  split
  · exact h
  · exact .ite h (.ite h.setAon.softReset h.setAon.placeReq)

theorem FormsKept.clsDrop (h : FormsKept d₀ d) {f : RxFrame} : FormsKept d₀ (d.clsDrop f) := h.freeBarges.cnt

theorem FormsKept.clsRing (h : FormsKept d₀ d) {j : Judged} {r seq extra : Nat} {num : Option (Nat × Nat)} :
    FormsKept d₀ (d.clsRing j r seq extra num) := .ite h.deliverRx h.deliverRx.cnt

theorem FormsKept.grpEnter (h : FormsKept d₀ d) {g : Nat} {j : Judged} :
    FormsKept d₀ (d.grpEnter g j) := .ite h.inc.clsDrop h.wr.setGrp.clsRing

theorem FormsKept.heldRelease (h : FormsKept d₀ d) : FormsKept d₀ d.heldRelease := .ite h (h.setCls.forEach fun _ _ h1 => h1.grpEnter)

theorem FormsKept.cacheTouch (h : FormsKept d₀ d) {peer win off len : Nat} : FormsKept d₀ (d.cacheTouch peer win off len) := h.cacheDrop

theorem FormsKept.issueTake (h : FormsKept d₀ d) {v : Oct} : FormsKept d₀ (d.issueTake v) := .ite h.requestLock.awaitLocks h

theorem FormsKept.launch (h : FormsKept d₀ d) {peer : Nat} {op data : Oct} :
    FormsKept d₀ (d.launch peer op data) := .ite h.setLane h.towQueue

theorem FormsKept.readMem (h : FormsKept d₀ d) {a n : Nat} {ss : List Strike} : FormsKept d₀ (d.readMem a n ss).2.2 := by
  unfold Dev.readMem
  extract_lets +onlyGivenNames r1
  have h1 : FormsKept d₀ r1.2 := h.eccScan
  exact .snd2 h1

theorem FormsKept.towStat (h : FormsKept d₀ d) {i : Nat} : FormsKept d₀ (d.towStat i) := h.inc

theorem FormsKept.issueBegin (h : FormsKept d₀ d) {v : Oct} : FormsKept d₀ (d.issueBegin v) := by
  unfold Dev.issueBegin
  extract_lets +onlyGivenNames n s code w off
  split
  · exact h.slotDone
  · split
    · exact h.towStat.issueTake.writeMem.setOpSlot.slotDone
    · extract_lets +onlyGivenNames d1 writes src2
      have h1 : FormsKept d₀ d1 := h.issueTake
      have h2 : FormsKept d₀ src2.2.2 := by
        unfold src2
        split
        · exact h1.readMem
        · exact .snd2 h1
      extract_lets +onlyGivenNames d3
      have h3 : FormsKept d₀ d3 := h2
      split
      · exact h3.setOpSlot.slotDone
      · extract_lets +onlyGivenNames d4 d5
        have h4 : FormsKept d₀ d4 := .ite h3.cacheDrop h3
        have h5 : FormsKept d₀ d5 := .ite h4.cacheTouch h4
        exact h5.setOpSlot.launch

theorem FormsKept.issueRun (h : FormsKept d₀ d) {n : Nat} : FormsKept d₀ (d.issueRun n) := by
  induction n generalizing d with
  | zero => exact h
  | succ n ih =>
    rw [Dev.issueRun]
    split
    · exact h
    · exact .ite (ih h.setTow.issueBegin) h

theorem FormsKept.levelSet (h : FormsKept d₀ d) {s : Nat} : FormsKept d₀ (d.levelSet s) := .ite h.setPending h

theorem FormsKept.levels (h : FormsKept d₀ d) : FormsKept d₀ d.levels := h.levelSet.levelSet.levelSet

theorem FormsKept.nvLowEnergy (h : FormsKept d₀ d) {s : Nat} :
    FormsKept d₀ (d.nvLowEnergy s) := .ite h.setNv (.ite h.setNv.nvRelease.jobFail h.setNv.setJobU.wr.setJob)

theorem FormsKept.compStart (h : FormsKept d₀ d) {c : Compact} {n : Nat} : FormsKept d₀ (d.compStart c n) := by
  induction n generalizing d c with
  | zero => exact h
  | succ n ih =>
    rw [Dev.compStart]
    split
    · split
      · exact ih h.setComp
      · exact .ite h.setNv h.nvLowEnergy
    · split
      · exact ih h.setComp
      · exact .ite (ih h.setComp) (.ite h.setHome.setNv h.nvLowEnergy)
    · exact .ite h.setHome.setNv h.nvLowEnergy
    · split
      · exact .ite h.setNv h.nvLowEnergy
      · exact h.jobLast fun _ he => he.nvRelease.jobDone

theorem FormsKept.nvBegin (h : FormsKept d₀ d) {slot : Option Nat} {ini kind key : Nat} {body : Oct} :
    FormsKept d₀ (d.nvBegin slot ini kind key body) := h.setNv

theorem FormsKept.nvReErase (h : FormsKept d₀ d) : FormsKept d₀ d.nvReErase := .ite h.setNv h

theorem FormsKept.nvFull (h : FormsKept d₀ d) {s : Nat} : FormsKept d₀ (d.nvFull s) := .ite h.nvRelease.jobFail h.setNv

theorem FormsKept.nvStart (h : FormsKept d₀ d) {a : NvAct} {n : Nat} : FormsKept d₀ (d.nvStart a n) := .ite h.nvReErase h.setNv

theorem FormsKept.recStart (h : FormsKept d₀ d) {w : NvWrite} : FormsKept d₀ (d.recStart w) := by
  unfold Dev.recStart
  split
  · extract_lets +onlyGivenNames n
    split
    · exact .ite h.nvLowEnergy (.ite h.nvFull h.nvStart)
    · exact h.nvStart
  · exact .ite h.nvStart h.nvStart

theorem FormsKept.nvUnit (h : FormsKept d₀ d) {s : Nat} : FormsKept d₀ (d.nvUnit s) := by
  unfold Dev.nvUnit
  split
  · split
    · exact h.nvRelease.jobDone
    · extract_lets +onlyGivenNames body
      split
      · exact h.nvLowEnergy
      · split
        · exact h.nvReErase
        · extract_lets +onlyGivenNames d1
          have h1 : FormsKept d₀ d1 := h.nvBegin
          split
          · exact h1.recStart
          · exact h1
  · split
    · exact h.nvLowEnergy
    · split
      · exact h.nvReErase
      · extract_lets +onlyGivenNames d2
        have h2 : FormsKept d₀ d2 := h.nvBegin
        split
        · exact h2.recStart
        · exact h2
  · split
    · exact h.compStart
    · exact h

theorem FormsKept.nvJobGoes (h : FormsKept d₀ d) : FormsKept d₀ d.nvJobGoes := by
  unfold Dev.nvJobGoes
  split
  · exact .ite h.nvUnit h
  · exact h

theorem FormsKept.pwRefused (h : FormsKept d₀ d) : FormsKept d₀ d.pwRefused := h.inc.fire

theorem FormsKept.pwBegin (h : FormsKept d₀ d) {n : Nat} : FormsKept d₀ (d.pwBegin n) := by
  induction n generalizing d with
  | zero => exact h
  | succ n ih =>
    rw [Dev.pwBegin]
    split
    · exact h
    · refine .ite (ih h.setNv.pwRefused.pwAbort) (.ite (ih h.setNv.pwRefused.pwAbort) (.ite ?_ h.setNv.nvBegin.nvStart))
      exact .nvReErase (.same h rfl)

theorem FormsKept.nvIdle (h : FormsKept d₀ d) :
    FormsKept d₀ d.nvIdle := .ite h.nvJobGoes (.ite (.ite h.setNv h) (.ite h.pwBegin h.pwBegin.nvJobGoes))

theorem FormsKept.nvStall (h : FormsKept d₀ d) : FormsKept d₀ d.nvStall := .ite h h.engineOff.setNv

theorem FormsKept.nvKick (h : FormsKept d₀ d) : FormsKept d₀ d.nvKick := by
  unfold Dev.nvKick
  split
  · exact h
  · split
    · exact h.nvStall
    · extract_lets +onlyGivenNames d1
      have h1 : FormsKept d₀ d1 := h.setNv
      split
      · split
        · exact .ite h1 h1.recStart
        · exact h1.recStart
      · split
        · exact .ite (.ite h1.compStart h1) h1.nvIdle
        · exact h1.nvIdle

theorem FormsKept.nvmAfter (h : FormsKept d₀ d) : FormsKept d₀ d.nvmAfter := .ite (.ite h.setAon.placeReq h.setAon) h

theorem FormsKept.askPause (h : FormsKept d₀ d) {p q : Nat} {auto : Bool} : FormsKept d₀ (d.askPause p q auto) := h.setMac

theorem FormsKept.pauseWatch (h : FormsKept d₀ d) {p : Nat} :
    FormsKept d₀ (d.pauseWatch p) := .ite (.ite (.ite h.askPause.setMac h) (.ite h.askPause.setMac h)) h

theorem FormsKept.poundReady (h : FormsKept d₀ d) {p : Nat} : FormsKept d₀ (d.poundReady p) := .fire (.ite (.setPm h.wr rfl) h.wr)

theorem FormsKept.poundMove (h : FormsKept d₀ d) {p : Nat} : FormsKept d₀ (d.poundMove p) := by
  unfold Dev.poundMove
  split
  · extract_lets +onlyGivenNames bs
    split
    · exact h
    · split
      · exact h.setBarge.zeroFrom
      · exact .ite h.poundReady h
  · exact h

theorem FormsKept.setSup (h : FormsKept d₀ d) {f : Supply → Supply} : FormsKept d₀ (d.setSup f) := .same h rfl

theorem FormsKept.regulator (h : FormsKept d₀ d) : FormsKept d₀ d.regulator := by
  unfold Dev.regulator
  split
  · split
    · exact h.setSup
    · exact .ite h.setSup h
  · exact h

theorem FormsKept.loadShadow (h : FormsKept d₀ d) {vals : List NvRec} : FormsKept d₀ (d.loadShadow vals) := by
  unfold Dev.loadShadow
  extract_lets +onlyGivenNames d1
  have h1 : FormsKept d₀ d1 := .objectsOut h rfl rfl
  exact h1.forEach fun _ _ h2 => h2.wr

theorem FormsKept.nvLoadSkipped (h : FormsKept d₀ d) : FormsKept d₀ d.nvLoadSkipped := h.loadShadow.wr.fault

theorem FormsKept.bootRequests (h : FormsKept d₀ d) : FormsKept d₀ d.bootRequests := h.forEach fun _ _ h1 => .ite h1.placeReq h1

theorem FormsKept.latchesFire (h : FormsKept d₀ d) : FormsKept d₀ d.latchesFire := h.forEach fun _ _ h1 => h1.fire

theorem FormsKept.wakeNow (h : FormsKept d₀ d) : FormsKept d₀ d.wakeNow := .ite h h.setAon.wakeRequests

theorem FormsKept.step5End (h : FormsKept d₀ d) : FormsKept d₀ d.step5End := by
  unfold Dev.step5End
  extract_lets +onlyGivenNames us wake d1
  have h1 : FormsKept d₀ d1 := h.wr.setLk
  clear_value d1
  extract_lets +onlyGivenNames d2 d3 d4 d5
  have h2 : FormsKept d₀ d2 := .same h1 rfl
  have h3 : FormsKept d₀ d3 := h2.setAon
  have h4 : FormsKept d₀ d4 := h3.fault.latchesFire
  have h5 : FormsKept d₀ d5 := .ite h4 h4.bootRequests.setAon
  exact h5.wakeNow

theorem FormsKept.startupWatch (h : FormsKept d₀ d) : FormsKept d₀ d.startupWatch := by
  unfold Dev.startupWatch
  extract_lets +onlyGivenNames gone
  split
  · exact .ite h.setAon h
  · exact .ite h.nvLoadSkipped.setAon.step5End h
  · exact h

theorem FormsKept.towCtl (h : FormsKept d₀ d) {n subtype : Nat} : FormsKept d₀ (d.towCtl n subtype) := by
  unfold Dev.towCtl
  extract_lets +onlyGivenNames d1 f
  have h1 : FormsKept d₀ d1 := h.setSess
  split
  · exact h1.setSess
  · split
    · rename_i d2 eq2
      have h2 : FormsKept d₀ d2 := h1.towAlloc.ofPair eq2
      exact h2.fillBarges.sendTow
    · rename_i d3 eq3
      have h3 : FormsKept d₀ d3 := h1.towAlloc.ofPair eq3
      exact h3

theorem FormsKept.towPumpAll (h : FormsKept d₀ d) : FormsKept d₀ d.towPumpAll := by
  unfold Dev.towPumpAll
  split
  · refine h.forEach fun x1 d1 h1 => ?_
    extract_lets +onlyGivenNames d2
    have h2 : FormsKept d₀ d2 := h1.forEach fun _ _ h3 => h3.towCtl
    exact .ite h2 h2.towPump
  · exact h

theorem FormsKept.jobsAsk (h : FormsKept d₀ d) {n cause code : Nat} :
    FormsKept d₀ (d.jobsAsk n cause code) := h.forEach fun _ _ h1 => .ite (.ite (.ite h1.setJobU h1) h1.jobForce) h1

theorem FormsKept.transAsk (h : FormsKept d₀ d) : FormsKept d₀ d.transAsk := by
  unfold Dev.transAsk
  split
  · exact .ite h.jobsAsk h
  · exact h

theorem FormsKept.brgEnter (h : FormsKept d₀ d) {i : BrgIn} : FormsKept d₀ (d.brgEnter i) := h.setBrg

theorem FormsKept.brgTake (h : FormsKept d₀ d) {f : RxFrame} {_n : Nat} : FormsKept d₀ (d.brgTake f _n) := .ite h.brgEnter h.freeBarges

theorem FormsKept.free (h : FormsKept d₀ d) : FormsKept d₀ (d.free).2 := .snd (.same h rfl)

theorem FormsKept.hash (h : FormsKept d₀ d) {key : Oct} : FormsKept d₀ (d.hash key).2 := by
  unfold Dev.hash
  split
  · exact .snd h
  · exact h.free

theorem FormsKept.clsGroup (h : FormsKept d₀ d) {g : Nat} {j : Judged} {key : Oct} :
    FormsKept d₀ (d.clsGroup g j key) :=
  .ite h.inc.clsDrop (.ite h.hash.clsRing (.ite (.ite h.inc.fire.clsDrop h.handBarges.setCls) h.grpEnter))

theorem FormsKept.clsPath (h : FormsKept d₀ d) {j : Judged} {n : Nat} {brg tow : Dev → RxFrame → Nat → Dev}
    (hbrg : HookKept d₀ brg) (htow : HookKept d₀ tow) : FormsKept d₀ (d.clsPath j n brg tow) :=
  .ite h.inc.clsDrop (.ite h.engineOff.clsDrop (.ite (hbrg _ h.handBarges _ _) (htow _ h.handBarges _ _)))

theorem FormsKept.indirEntry (h : FormsKept d₀ d) {key : Oct} : FormsKept d₀ (d.indirEntry key).2 := by
  unfold Dev.indirEntry
  split
  · exact .snd h
  · extract_lets +onlyGivenNames r1
    have h1 : FormsKept d₀ r1.2 := h.free
    exact .snd h1

theorem FormsKept.clsAct (h : FormsKept d₀ d) {j : Judged} {key : Oct} {act arg : Nat} {brg tow : Dev → RxFrame → Nat → Dev}
    (hbrg : HookKept d₀ brg) (htow : HookKept d₀ tow) : FormsKept d₀ (d.clsAct j key act arg brg tow) := by
  unfold Dev.clsAct
  split
  · exact h.clsRing
  · exact h.clsPath (fun _ h1 _ _ => hbrg _ h1 _ _) (fun _ h2 _ _ => htow _ h2 _ _)
  · extract_lets +onlyGivenNames r3
    have h3 : FormsKept d₀ r3.2 := h.indirEntry
    split
    · exact h3.clsRing
    · exact h3.clsPath (fun _ h4 _ _ => hbrg _ h4 _ _) (fun _ h5 _ _ => htow _ h5 _ _)
    · exact h3.clsDrop
  · exact h.clsGroup
  · exact h.clsDrop

theorem FormsKept.clsDefault (h : FormsKept d₀ d) {j : Judged} {key : Oct} {brg tow : Dev → RxFrame → Nat → Dev}
    (hbrg : HookKept d₀ brg) (htow : HookKept d₀ tow) : FormsKept d₀ (d.clsDefault j key brg tow) :=
  h.clsAct (fun _ h1 _ _ => hbrg _ h1 _ _) (fun _ h2 _ _ => htow _ h2 _ _)

theorem FormsKept.clsTransitRing (h : FormsKept d₀ d) {j : Judged} :
    FormsKept d₀ (d.clsTransitRing j) := .ite h.deliverRx.inc h.deliverRx.cnt

theorem FormsKept.clsTree (h : FormsKept d₀ d) {j : Judged} {key : Oct} {node : Nat} {brg tow : Dev → RxFrame → Nat → Dev}
    (hbrg : HookKept d₀ brg) (htow : HookKept d₀ tow) : FormsKept d₀ (d.clsTree j key node brg tow) := by
  unfold Dev.clsTree
  extract_lets +onlyGivenNames g b r1
  have h1 : FormsKept d₀ r1.2 := by
    unfold r1
    split
    · exact h.free
    · exact .snd h
  split
  · extract_lets +onlyGivenNames m j
    split
    · exact h1.clsDefault (fun _ h2 _ _ => hbrg _ h2 _ _) (fun _ h3 _ _ => htow _ h3 _ _)
    · exact h1.clsAct (fun _ h4 _ _ => hbrg _ h4 _ _) (fun _ h5 _ _ => htow _ h5 _ _)
  · exact h1.inc.fire.clsDefault (fun _ h6 _ _ => hbrg _ h6 _ _) (fun _ h7 _ _ => htow _ h7 _ _)

theorem FormsKept.classify (h : FormsKept d₀ d) {brg tow : Dev → RxFrame → Nat → Dev}
    (hbrg : HookKept d₀ brg) (htow : HookKept d₀ tow) : FormsKept d₀ (d.classify brg tow) := by
  unfold Dev.classify
  split
  · exact h
  · extract_lets +onlyGivenNames d1
    have h1 : FormsKept d₀ d1 := h.setCls
    split
    · exact h1.freeBarges.cnt
    · split
      · exact h1.engineOff.freeBarges
      · split
        · exact .ite h1.clsRing h1.inc.freeBarges.cnt
        · extract_lets +onlyGivenNames g key
          split
          · exact h1.clsDefault (fun _ h2 _ _ => hbrg _ h2 _ _) (fun _ h3 _ _ => htow _ h3 _ _)
          · extract_lets +onlyGivenNames j act
            split
            · exact h1.clsTransitRing
            · split
              · exact h1.clsDefault (fun _ h4 _ _ => hbrg _ h4 _ _) (fun _ h5 _ _ => htow _ h5 _ _)
              · split
                · exact h1.clsTree (fun _ h6 _ _ => hbrg _ h6 _ _) (fun _ h7 _ _ => htow _ h7 _ _)
                · exact h1.clsAct (fun _ h8 _ _ => hbrg _ h8 _ _) (fun _ h9 _ _ => htow _ h9 _ _)

theorem FormsKept.towPath (h : FormsKept d₀ d) {f : RxFrame} {n : Nat} :
    FormsKept d₀ (d.towPath f n) := .ite h.freeBarges.towStat h.awaitLocks.setTow.launch

theorem FormsKept.clsFinish (h : FormsKept d₀ d) :
    FormsKept d₀ d.clsFinish := h.forEach fun _ _ h1 => h1.classify (fun _ h2 _ _ => h2.brgTake) (fun _ h3 _ _ => h3.towPath)

theorem FormsKept.drainBegins (h : FormsKept d₀ d) {n : Nat} : FormsKept d₀ (d.drainBegins n) := .ite h.clsFinish (.ite h.cutReceive h)

theorem FormsKept.transBegins (h : FormsKept d₀ d) {late : Nat} : FormsKept d₀ (d.transBegins late) := by
  unfold Dev.transBegins
  split
  · exact h
  · split
    · exact h
    · extract_lets +onlyGivenNames d1 up t d2 d3
      have h1 : FormsKept d₀ d1 := .ite h.drainBegins.imgLeaves h
      have h2 : FormsKept d₀ d2 := h1.setAon
      have h3 : FormsKept d₀ d3 := .ite h2.watchPounds h2
      exact .ite h3.pllRun h3

theorem FormsKept.tsoRelease (h : FormsKept d₀ d) {p : Nat} : FormsKept d₀ (d.tsoRelease p) := .ite h.tsoReturn.setMac h

theorem FormsKept.tsoUnclaim (h : FormsKept d₀ d) {p : Nat} : FormsKept d₀ (d.tsoUnclaim p) := by
  unfold Dev.tsoUnclaim
  split
  · exact .ite h.dropClaims h
  · exact h

theorem FormsKept.vbakSettle (h : FormsKept d₀ d) : FormsKept d₀ d.vbakSettle := .ite h.setSup h

theorem FormsKept.settle (h : FormsKept d₀ d) : FormsKept d₀ d.settle := by
  unfold Dev.settle
  extract_lets +onlyGivenNames d1 d2 d3 d4 d5
  have h1 : FormsKept d₀ d1 := h.coreRequest.transAsk.transBegins.startupWatch
  have h2 : FormsKept d₀ d2 := h1.nvmAfter.regulator.vbakSettle.clockGate
  have h3 : FormsKept d₀ d3 := h2.nvKick.chanClaims.brgCredits.towPumpAll.issueRun.heldRelease
  have h4 : FormsKept d₀ d4 := h3.forEach fun _ _ h6 => h6.poundMove
  have h5 : FormsKept d₀ d5 := h4.forEach fun _ _ h7 => h7.pauseWatch.tsoRelease.tsoUnclaim
  exact h5.levels

theorem FormsKept.idleCk (h : FormsKept d₀ d) : FormsKept d₀ d.idleCk := h.tick.settle

theorem FormsKept.say (h : FormsKept d₀ d) {r : Oct} : FormsKept d₀ (d.say r) := h.setLk

theorem FormsKept.busy (h : FormsKept d₀ d) : FormsKept d₀ d.busy := h.inc.say

theorem FormsKept.genPut (h : FormsKept d₀ d) {n : Nat} {img : Oct} :
    FormsKept d₀ (d.genPut n img) := .ite h.setImg.setCls.dropClaims.takeClaims (.ite h.setImg.setCls h.setImg)

theorem FormsKept.claimRefused (h : FormsKept d₀ d) {ini claimant : Nat} {c : Claim} :
    FormsKept d₀ (d.claimRefused ini claimant c) := h.inc.wr

theorem FormsKept.probeRefused (h : FormsKept d₀ d) {n ini : Nat} {l : Oct} : FormsKept d₀ (d.probeRefused n ini l) := by
  unfold Dev.probeRefused
  split
  · exact h.claimRefused
  · exact h

theorem FormsKept.imgCheckDone (h : FormsKept d₀ d) {n : Nat} : FormsKept d₀ (d.imgCheckDone n) := by
  unfold Dev.imgCheckDone
  split
  · exact h
  · extract_lets +onlyGivenNames d1 d2 done
    have h1 : FormsKept d₀ d1 := h.advanceTo
    have h2 : FormsKept d₀ d2 := h1.setImg
    split
    · exact h2.resolve
    · split
      · exact h2.resolve
      · split
        · split
          · exact .resolve (.ite h2.probeRefused h2)
          · exact h2.genPut.resolve
        · exact h2.setImg.resolve

theorem FormsKept.imgSegment (h : FormsKept d₀ d) {n ini off : Nat} {data : Oct} : FormsKept d₀ (d.imgSegment n ini off data).dev := by
  unfold Dev.imgSegment
  extract_lets +onlyGivenNames d1 d2 have_ l
  have h1 : FormsKept d₀ d1 := h.imgCheckDone
  have h2 : FormsKept d₀ d2 := .ite h1.imgDrop h1
  split
  · exact .abort h2.imgDrop
  · split
    · exact .abort h2.imgDrop
    · split
      · exact .abort h2.imgDrop
      · extract_lets +onlyGivenNames x
        split
        · exact .pend h2.setImg
        · exact .ok h2.setImg

theorem FormsKept.noteRx (h : FormsKept d₀ d) {k : Nat} : FormsKept d₀ (d.noteRx k) := h.forEach fun _ _ h1 => .ite h1.setMac h1

theorem FormsKept.brgEffect (h : FormsKept d₀ d) {k v : Nat} :
    FormsKept d₀ (d.brgEffect k v) := .ite (.ite h (.ite h.wr.setBrg h.wr.brgDrain)) h.wr

theorem FormsKept.setCan (h : FormsKept d₀ d) {c : Nat} {f : Can → Can} : FormsKept d₀ (d.setCan c f) := .same h rfl

theorem FormsKept.canStart (h : FormsKept d₀ d) {c : Nat} : FormsKept d₀ (d.canStart c) := h.setCan.wr.wr.setCanState

theorem FormsKept.canStopNow (h : FormsKept d₀ d) {c : Nat} : FormsKept d₀ (d.canStopNow c) := .ite h.setCan.setCanState h

theorem FormsKept.canEffect (h : FormsKept d₀ d) {k v : Nat} : FormsKept d₀ (d.canEffect k v) := by
  unfold Dev.canEffect
  extract_lets +onlyGivenNames c
  split
  · exact .ite h (.ite h.wr.canStart h.wr.setCan.canStopNow)
  · exact h.setCanState
  · exact h.wr

theorem FormsKept.freeActive (h : FormsKept d₀ d) : FormsKept d₀ d.freeActive := h.setCls.dropClaims

theorem FormsKept.enterTransit (h : FormsKept d₀ d) {st : Nat} :
    FormsKept d₀ (d.enterTransit st) := .ite h.wr.setCls.freeActive h.wr.setCls

theorem FormsKept.transitBack (h : FormsKept d₀ d) : FormsKept d₀ d.transitBack := h.setCls.wr

theorem FormsKept.clsCommit (h : FormsKept d₀ d) {ini cmd : Nat} : FormsKept d₀ (d.clsCommit ini cmd).dev := by
  unfold Dev.clsCommit
  split
  · exact .pend h.setCls
  · split
    · exact .ok h.enterTransit
    · exact .ok h.enterTransit
    · exact .ok h.transitBack

theorem FormsKept.clsRunState (h : FormsKept d₀ d) : FormsKept d₀ d.clsRunState := h.wr

theorem FormsKept.grpStopped (h : FormsKept d₀ d) {g : Nat} : FormsKept d₀ (d.grpStopped g) := .ite h.wr.wr.wr.setGrp h

theorem FormsKept.clsEffect (h : FormsKept d₀ d) {ini k v : Nat} : FormsKept d₀ (d.clsEffect ini k v).dev := by
  unfold Dev.clsEffect
  split
  · exact h.clsCommit
  · split
    · exact .ok (.ite h.wr.clsRunState h.wr)
    · split
      · extract_lets +onlyGivenNames g
        split
        · exact .ok h.wr
        · split
          · exact .ok h
          · exact .ok (.ite h.wr.grpStopped h.wr)
      · exact .ok h.wr

theorem FormsKept.setFl (h : FormsKept d₀ d) {f : FaultLog → FaultLog} : FormsKept d₀ (d.setFl f) := .same h rfl

theorem FormsKept.flBlank (h : FormsKept d₀ d) : FormsKept d₀ d.flBlank := .setFl (h.forEach fun _ _ h1 => h1.wr)

theorem FormsKept.flEffect (h : FormsKept d₀ d) {k v : Nat} : FormsKept d₀ (d.flEffect k v) := .ite h.flBlank.wr.wr h.wr

theorem FormsKept.setIntc (h : FormsKept d₀ d) {f : Intc → Intc} : FormsKept d₀ (d.setIntc f) := .same h rfl

theorem FormsKept.setStack (h : FormsKept d₀ d) {t : Nat} {l : List (Nat × Nat)} : FormsKept d₀ (d.setStack t l) := h.setIntc

theorem FormsKept.srcCompleted (h : FormsKept d₀ d) {s : Nat} : FormsKept d₀ (d.srcCompleted s) := .ite h.wr h

theorem FormsKept.popTop (h : FormsKept d₀ d) {t : Nat} : FormsKept d₀ (d.popTop t) := by
  unfold Dev.popTop
  split
  · exact h
  · exact h.setStack.srcCompleted

theorem FormsKept.intFaultClear (h : FormsKept d₀ d) {t v : Nat} : FormsKept d₀ (d.intFaultClear t v) := by
  unfold Dev.intFaultClear
  extract_lets +onlyGivenNames d1
  have h1 : FormsKept d₀ d1 := .ite (h.forEach fun _ _ h2 => h2.popTop) h
  exact h1.setIntc

theorem FormsKept.intEffect (h : FormsKept d₀ d) {k v : Nat} : FormsKept d₀ (d.intEffect k v) := by
  unfold Dev.intEffect
  split
  · exact h.forEach fun _ _ h1 => h1.wr
  · exact .ite (h.forEach fun _ _ h2 => h2.wr) (.ite h.wr (.ite h.intFaultClear h.wr))

theorem FormsKept.govStep (h : FormsKept d₀ d) {target : Nat} {job : Option Nat} :
    FormsKept d₀ (d.govStep target job) := h.setMac.setGov

theorem FormsKept.nvStartJob (h : FormsKept d₀ d) {s kind : Nat} : FormsKept d₀ (d.nvStartJob s kind).2 := by
  unfold Dev.nvStartJob
  split
  · extract_lets +onlyGivenNames ks
    exact .snd h.setJobU.setNv
  · exact .snd h.setNv
  · extract_lets +onlyGivenNames cut rs bank d1
    have h1 : FormsKept d₀ d1 := h.setNv
    exact .snd h1

theorem FormsKept.jobStart (h : FormsKept d₀ d) {s : Nat} : FormsKept d₀ (d.jobStart s) := by
  unfold Dev.jobStart
  extract_lets -underBinder +onlyGivenNames p k d1
  have h1 : FormsKept d₀ d1 := h.jobProgress.wr.wr.setJobU
  extract_lets +onlyGivenNames d2
  have h2 : FormsKept d₀ d2 := h1.setJob
  clear_value d2
  extract_lets +onlyGivenNames tot
  split
  · exact h2.nvStartJob.wr
  · clear_value k
    split
    · split
      · exact h2.setJobU.wr
      · exact h2
    · exact h2.wr
    · extract_lets +onlyGivenNames _ d3
      have h3 : FormsKept d₀ d3 := .listsOut h2 rfl rfl
      exact h3.wr.wr.wr.watchPounds
    · exact h2.setLink.wr
    · exact .ite h2.wr.jobDone.govRestart h2.wr.govStep

theorem FormsKept.jobEffect (h : FormsKept d₀ d) {ini k v : Nat} : FormsKept d₀ (d.jobEffect ini k v).dev := by
  unfold Dev.jobEffect
  extract_lets +onlyGivenNames s
  split
  · exact .ok h.wr
  · extract_lets +onlyGivenNames st
    split
    · split
      · exact .abort h
      · split
        · extract_lets +onlyGivenNames want
          split
          · exact .abort h.claimRefused
          · exact .ok h.takeClaims.jobStart
        · exact .ok h.jobStart
    · exact .ok (.ite h.setJobU.setJob h)
    · exact .ok h.setJobU.setJob
    · split
      · exact .ok h
      · exact .ok (.ite h.loadStops.setJobU.setJob.rateUndo h.loadStops.setJobU.setJob)

theorem FormsKept.wakeHold (h : FormsKept d₀ d) {p v : Nat} : FormsKept d₀ (d.wakeHold p v) := h.setMac

theorem FormsKept.macEffect (h : FormsKept d₀ d) {ini k v : Nat} : FormsKept d₀ (d.macEffect ini k v).dev := by
  unfold Dev.macEffect
  extract_lets +onlyGivenNames idx p
  split
  · exact .ok h.askPause
  · split
    · exact .ok h.setMac
    · split
      · split
        · extract_lets +onlyGivenNames c
          split
          · exact .abort h.claimRefused
          · exact .ok h.takeClaims.wr.requestLock
        · split
          · exact .ok h.wr.setMac.tsoRelease
          · exact .ok h
      · split
        · exact .ok h.wakeHold.wr
        · split
          · split
            · exact .abort h.claimRefused
            · exact .ok h.dropClaims.takeClaims.wr
          · exact .ok h.wr

theorem FormsKept.allocReq (h : FormsKept d₀ d) {ini v : Nat} : FormsKept d₀ (d.allocReq ini v).dev := by
  unfold Dev.allocReq
  split
  · rename_i d1 eq1
    have h1 : FormsKept d₀ d1 := h.alloc.ofPair eq1
    exact .ok h1.wr
  · rename_i d2 eq2
    have h2 : FormsKept d₀ d2 := h.alloc.ofPair eq2
    exact .abort h2

theorem FormsKept.freeReq (h : FormsKept d₀ d) {b : Nat} : FormsKept d₀ (d.freeReq b) := .ite h.freeBarge h.pushLock

theorem FormsKept.poundEnable (h : FormsKept d₀ d) {p v : Nat} : FormsKept d₀ (d.poundEnable p v) := by
  unfold Dev.poundEnable
  extract_lets +onlyGivenNames d'2
  have h2 : FormsKept d₀ d'2 := h.wr
  split
  · exact .ite h2.wr h2
  · split
    · exact h2
    · extract_lets +onlyGivenNames d6
      have h6 : FormsKept d₀ d6 := h2.forEach fun _ _ h7 => h7.setBarge
      clear_value d6
      extract_lets +onlyGivenNames _ d8
      have h8 : FormsKept d₀ d8 := .listsOut h6 rfl rfl
      exact h8.wr.watchPound

theorem FormsKept.pmEffect (h : FormsKept d₀ d) {ini k v : Nat} : FormsKept d₀ (d.pmEffect ini k v).dev := by
  unfold Dev.pmEffect
  split
  · exact h.allocReq
  · split
    · exact .ok h.freeReq
    · split
      · exact .ok h.wr
      · split
        · exact .ok h.poundEnable
        · exact .ok h.wr

theorem FormsKept.selfUpdate (h : FormsKept d₀ d) {p : Nat} : FormsKept d₀ (d.selfUpdate p) := .ite h.wr.wr.inc.fire (.ite h.wr.wr h.wr)

theorem FormsKept.driftReset (h : FormsKept d₀ d) {p : Nat} : FormsKept d₀ (d.driftReset p) := by
  unfold Dev.driftReset
  extract_lets +onlyGivenNames d1
  have h1 : FormsKept d₀ d1 := h.forEach fun _ _ h2 => h2.wr
  exact h1.setSeg.selfUpdate

theorem FormsKept.mdioCmd (h : FormsKept d₀ d) {v : Nat} : FormsKept d₀ (d.mdioCmd v) := h.wr.setMdio.mdioKick

theorem FormsKept.plcaBit (h : FormsKept d₀ d) {p n : Nat} {b : Bool} : FormsKept d₀ (d.plcaBit p n b) := h.wr

theorem FormsKept.renegotiate (h : FormsKept d₀ d) {anar : Nat} {mark : Bool} :
    FormsKept d₀ (d.renegotiate anar mark) := h.setMdio.mdioKick

theorem FormsKept.bringUp (h : FormsKept d₀ d) {p : Nat} : FormsKept d₀ (d.bringUp p) := by
  unfold Dev.bringUp
  split
  · exact h.setMdio.setLink.renegotiate
  · exact h.setLink
  · exact h.setSeg.driftReset.plcaBit.plcaBit.setLink

theorem FormsKept.portStart (h : FormsKept d₀ d) {p : Nat} : FormsKept d₀ (d.portStart p) := .bringUp (.ite h.setSeg.plcaBit h)

theorem FormsKept.portEffect (h : FormsKept d₀ d) {ini k v : Nat} : FormsKept d₀ (d.portEffect ini k v).dev := by
  unfold Dev.portEffect
  extract_lets +onlyGivenNames p low
  split
  · split
    · exact .ok h
    · split
      · exact .ok h.wr.portStart
      · exact .ok h.cutReceive.wr.portHalt
  · split
    · exact .ok h.mdioCmd
    · split
      · split
        · split
          · exact .abort h.claimRefused
          · extract_lets +onlyGivenNames d1 d2
            have h1 : FormsKept d₀ d1 := .ite h h.takeClaims
            have h2 : FormsKept d₀ d2 := .ite h1 h1.govRestart
            exact .ok (.ite h2.setGov h2.wr)
        · exact .ok h.wr.dropClaims
      · split
        · exact .ok h.wr.driftReset
        · exact .ok h.wr

theorem FormsKept.powEffect (h : FormsKept d₀ d) {ini k v : Nat} :
    FormsKept d₀ (d.powEffect ini k v) :=
  .ite (.ite h.wr.setAon h.placeReq) (.ite h.wr (.ite (.ite h.setAon h.tick.softReset) (.ite h.setDom h.wr)))

theorem FormsKept.pwWrite (h : FormsKept d₀ d) {ini k v : Nat} : FormsKept d₀ (d.pwWrite ini k v).dev := by
  unfold Dev.pwWrite
  split
  · exact .abort h.pwRefused
  · exact .pend h.setNv

theorem FormsKept.ringCount (h : FormsKept d₀ d) {r : Nat} {ev : Bool} : FormsKept d₀ (d.ringCount r ev) := .ite h.ringEvent h.setRing

theorem FormsKept.flushSlot (h : FormsKept d₀ d) {r x : Nat} : FormsKept d₀ (d.flushSlot r x) := by
  unfold Dev.flushSlot
  extract_lets +onlyGivenNames a m1 de d1 d2
  have h3 : FormsKept d₀ m1.2.2 := h.readMem
  have h1 : FormsKept d₀ d1 := h3.writeMem.inc
  have h2 : FormsKept d₀ d2 := .ite h1.cnt h1
  exact h2.ringCount

theorem FormsKept.lateReleased (h : FormsKept d₀ d) {g : Nat} {ok : Nat → Bool} :
    FormsKept d₀ (d.lateReleased g ok) := h.setGrp.forEach fun _ _ h1 => h1.inc.fire

theorem FormsKept.mergeRead (h : FormsKept d₀ d) {g : Nat} {n : SeqNum} {slot : Nat} {ss : List Strike} :
    FormsKept d₀ (d.mergeRead g n slot ss) := .ite h.engineOff.setNum (.ite h.readMem.setNum.ringFault h.readMem.setNum)

theorem FormsKept.releasedRead (h : FormsKept d₀ d) {g : Nat} {ok : Nat → Bool} {ss : List Strike} :
    FormsKept d₀ (d.releasedRead g ok ss) := by
  unfold Dev.releasedRead
  refine h.lateReleased.forEach fun x1 d1 h1 => ?_
  split
  · exact .ite h1.mergeRead h1
  · exact h1

theorem FormsKept.ringFlush (h : FormsKept d₀ d) {r : Nat} : FormsKept d₀ (d.ringFlush r) := by
  unfold Dev.ringFlush
  extract_lets +onlyGivenNames n d1 d2
  have h1 : FormsKept d₀ d1 := .ite (h.forEach fun _ _ h3 => h3.flushSlot) h
  have h2 : FormsKept d₀ d2 := .ite (.ringSkip (h1.forEach fun _ _ h4 => h4.releasedRead)) h1
  exact h2.wr.wr.wr.setRing.wr

theorem FormsKept.ringReset (h : FormsKept d₀ d) {r : Nat} : FormsKept d₀ (d.ringReset r) := .ite h.wr.setRing h.ringFlush

theorem FormsKept.ringCtrl (h : FormsKept d₀ d) {r v : Nat} : FormsKept d₀ (d.ringCtrl r v) := by
  unfold Dev.ringCtrl
  extract_lets +onlyGivenNames st
  split
  · exact .ite h.wr h
  · split
    · exact .ite h.wr h
    · clear_value st
      split
      · exact h.ringReset
      · exact h.ringReset
      · exact h.wr.setRing
      · exact h.setRing
      · exact h

theorem FormsKept.evt1Take (h : FormsKept d₀ d) : FormsKept d₀ d.evt1Take := by
  unfold Dev.evt1Take
  split
  · exact h
  · extract_lets +onlyGivenNames had d1 d2 d3
    have h1 : FormsKept d₀ d1 := h.dropClaims.takeClaim
    have h2 : FormsKept d₀ d2 := .ite h1.inc.fire h1
    have h3 : FormsKept d₀ d3 := .ite h2.fire h2
    exact h3.setChan

theorem FormsKept.sluArm (h : FormsKept d₀ d) {v : Nat} :
    FormsKept d₀ (d.sluArm v) := h.forEach fun _ _ h1 => h1.sluEvent (fun _ h2 => h2.sluGo)

theorem FormsKept.sluEnable (h : FormsKept d₀ d) {k v : Nat} :
    FormsKept d₀ (d.sluEnable k v) := .ite h.wr.setLevel.sluGo.setSluOut (.ite h.wr.sluGo h.wr)

theorem FormsKept.sluHeartbeat (h : FormsKept d₀ d) :
    FormsKept d₀ d.sluHeartbeat := h.forEach fun _ _ h1 => h1.sluEvent (fun _ h2 => h2.setSluOut)

theorem FormsKept.sluStop (h : FormsKept d₀ d) {v : Nat} :
    FormsKept d₀ (d.sluStop v) := h.forEach fun _ _ h1 => h1.sluEvent (fun _ h2 => h2.sluCoast)

theorem FormsKept.sluTurn (h : FormsKept d₀ d) {key : Nat} : FormsKept d₀ (d.sluTurn key) := by
  unfold Dev.sluTurn
  split
  · extract_lets +onlyGivenNames d1
    have h1 : FormsKept d₀ d1 := .ite h h.advanceTo
    exact h1.setSlu
  · exact h

theorem FormsKept.sluEffect (h : FormsKept d₀ d) {key v : Nat} : FormsKept d₀ (d.sluEffect key v) := by
  unfold Dev.sluEffect
  extract_lets +onlyGivenNames i d1
  have h1 : FormsKept d₀ d1 := h.sluTurn
  split
  · exact h1.sluHeartbeat
  · exact .ite h1.sluArm (.ite h1.sluStop (.ite (.ite h1.wr.evt1Take h1.wr.evt1Give) (.ite h1.sluEnable h1.wr)))

theorem FormsKept.chAdvance (h : FormsKept d₀ d) {k : Nat} : FormsKept d₀ (d.chAdvance k) := .ite h h.wr

theorem FormsKept.chPin (h : FormsKept d₀ d) {k : Nat} : FormsKept d₀ (d.chPin k) := .ite h (.ite h.setChan h.setChan)

theorem FormsKept.chFire (h : FormsKept d₀ d) {k : Nat} {late : Bool} :
    FormsKept d₀ (d.chFire k late) := .ite h.wr.inc.fire.latch.chPin.setChan h.wr.inc.fire.latch.chPin.chAdvance

theorem FormsKept.chLateCheck (h : FormsKept d₀ d) {k slack : Nat} : FormsKept d₀ (d.chLateCheck k slack) := .ite h.chFire h

theorem FormsKept.chConfig (h : FormsKept d₀ d) {k : Nat} : FormsKept d₀ (d.chConfig k) := h.setChan.wr.chLateCheck

theorem FormsKept.boundary (h : FormsKept d₀ d) {periodic host : Bool} : FormsKept d₀ (d.boundary periodic host) := by
  unfold Dev.boundary
  extract_lets +onlyGivenNames hdr d1 n d2
  have h1 : FormsKept d₀ d1 := h.forEach fun _ _ h3 => h3.wr.wr
  have h2 : FormsKept d₀ d2 := h1.wr.wr
  clear_value d2
  extract_lets +onlyGivenNames _ d4
  have h4 : FormsKept d₀ d4 := .same h2 rfl
  exact h4.wr.fire

theorem FormsKept.clockStep (h : FormsKept d₀ d) {c : Nat} : FormsKept d₀ (d.clockStep c) := by
  unfold Dev.clockStep
  extract_lets +onlyGivenNames d1
  have h1 : FormsKept d₀ d1 := h.noteClock
  clear_value d1
  extract_lets +onlyGivenNames _ d2 d3 d4
  have h2 : FormsKept d₀ d2 := .same h1 rfl
  have h3 : FormsKept d₀ d3 := h2.wr.inc.fire
  have h4 : FormsKept d₀ d4 := .ite h3.boundary h3.wr
  exact h4.forEach fun _ _ h5 => h5.chLateCheck

theorem FormsKept.boundaryCk (h : FormsKept d₀ d) {f : Dev → Dev} (hf : ∀ e, FormsKept d₀ e → FormsKept d₀ (f e)) :
    FormsKept d₀ (d.boundaryCk f) := .tickPorts (hf _ h.pass)

theorem FormsKept.boundaryDue (h : FormsKept d₀ d) : FormsKept d₀ d.boundaryDue := .ite h.boundary h

theorem FormsKept.tallyTrigger (h : FormsKept d₀ d) : FormsKept d₀ d.tallyTrigger := h.boundaryDue.boundaryCk (fun _ h1 => h1.boundary)

theorem FormsKept.tallyWrite (h : FormsKept d₀ d) {k v : Nat} : FormsKept d₀ (d.tallyWrite k v) := by
  unfold Dev.tallyWrite
  exact h.boundaryDue.wr.wr.boundaryCk (fun _ h1 => .ite h1.boundary h1.wr)

theorem FormsKept.timeEffect (h : FormsKept d₀ d) {k v : Nat} : FormsKept d₀ (d.timeEffect k v) := by
  unfold Dev.timeEffect
  extract_lets +onlyGivenNames ch
  split
  · exact h.clockStep
  · split
    · exact h.clockStep
    · split
      · split
        · exact h.wr.chConfig
        · exact h.wr.chConfig
        · exact h.wr.setChan.chLateCheck
        · exact h.wr
        · exact h.wr
      · exact .ite h.noteClock.wr (.ite h.tallyTrigger (.ite h.tallyWrite h.wr))

theorem FormsKept.timeWrite (h : FormsKept d₀ d) {ini k v : Nat} : FormsKept d₀ (d.timeWrite ini k v).dev := by
  unfold Dev.timeWrite
  split
  · exact .abort (.ite h.claimRefused h)
  · exact .ok h.timeEffect

theorem FormsKept.rsvTake (h : FormsKept d₀ d) {w v n : Nat} : FormsKept d₀ (d.rsvTake w v n) := h.wr.setWin

theorem FormsKept.issue (h : FormsKept d₀ d) {v : Oct} : FormsKept d₀ (d.issue v).dev := by
  unfold Dev.issue
  extract_lets +onlyGivenNames n
  split
  · exact .abort h
  · extract_lets +onlyGivenNames d1 d2 d3
    have h1 : FormsKept d₀ d1 := .ite h h.towMacOff
    have h2 : FormsKept d₀ d2 := h1.wr
    have h3 : FormsKept d₀ d3 := .ite h2.rsvTake h2
    exact .ok h3.setTow.issueRun

theorem FormsKept.sessEnd (h : FormsKept d₀ d) {n : Nat} : FormsKept d₀ (d.sessEnd n) := .ite h h.sessDrop.setPeer

theorem FormsKept.draw (h : FormsKept d₀ d) {n : Nat} : FormsKept d₀ (d.draw n).2 := by
  unfold Dev.draw
  extract_lets +onlyGivenNames d1
  have h1 : FormsKept d₀ d1 := .ite h.tick h
  clear_value d1
  extract_lets +onlyGivenNames _ g
  exact .snd (.same h1 rfl)

theorem FormsKept.sessOpening (h : FormsKept d₀ d) {n : Nat} : FormsKept d₀ (d.sessOpening n) := h.draw.wr.setSess.setPeer

theorem FormsKept.sessStart (h : FormsKept d₀ d) : FormsKept d₀ d.sessStart := h.forEach fun _ _ h1 => .ite h1.sessOpening h1

theorem FormsKept.slotRelease (h : FormsKept d₀ d) {v : Nat} : FormsKept d₀ (d.slotRelease v) := h.forEach fun _ _ h1 => .ite h1.wr h1

theorem FormsKept.towStop (h : FormsKept d₀ d) : FormsKept d₀ d.towStop := by
  unfold Dev.towStop
  extract_lets +onlyGivenNames d1 d2
  have h1 : FormsKept d₀ d1 := h.wr.forEach fun _ _ h3 => h3.sessEnd
  have h2 : FormsKept d₀ d2 := h1.forEach fun _ _ h4 => .ite h4.zeroMem h4
  exact h2.dropClaims

theorem FormsKept.winDisable (h : FormsKept d₀ d) {w : Nat} : FormsKept d₀ (d.winDisable w) := .ite h h.setWin.winSettle

theorem FormsKept.winEnable (h : FormsKept d₀ d) {w : Nat} : FormsKept d₀ (d.winEnable w) := by
  unfold Dev.winEnable
  split
  · exact h.setWin
  · extract_lets +onlyGivenNames d1
    have h1 : FormsKept d₀ d1 := h.wr
    split
    · exact h1.forEach fun _ _ h2 => h2.requestLock
    · exact h1

theorem FormsKept.towEffect (h : FormsKept d₀ d) {ini k v : Nat} : FormsKept d₀ (d.towEffect ini k v).dev := by
  unfold Dev.towEffect
  extract_lets +onlyGivenNames i
  split
  · split
    · exact .ok h
    · split
      · exact .ok h.towStop
      · split
        · exact .abort h.claimRefused
        · exact .ok h.takeClaims.wr.sessStart
  · split
    · split
      · exact .ok h
      · split
        · exact .ok h.wr.sessEnd
        · exact .ok (.ite h.wr.sessOpening h.wr)
    · split
      · exact .ok (.ite h.winEnable h.winDisable)
      · split
        · exact h.issue
        · split
          · exact .ok h.slotRelease
          · split
            · exact .ok (.ite h.rsvFree h)
            · exact .ok h.wr

theorem FormsKept.writeEffect (h : FormsKept d₀ d) {ini k v : Nat} : FormsKept d₀ (d.writeEffect ini k v).dev := by
  unfold Dev.writeEffect
  split
  · split
    · exact .ok (.ite h h.linkReset)
    · exact .ok (.ite h.wr.setLk h.wr)
  · exact .ok h.wr
  · exact .ok h.powEffect
  · exact .ok h.powEffect
  · exact h.jobEffect
  · split
    · exact h.pwWrite
    · exact .ok h.wr
  · exact h.pmEffect
  · exact .ok (.ite h.ringCtrl h.wr)
  · exact h.portEffect
  · exact h.portEffect
  · exact h.portEffect
  · exact h.portEffect
  · exact h.macEffect
  · exact h.clsEffect
  · exact .ok h.canEffect
  · exact .ok h.brgEffect
  · exact .ok h.brgEffect
  · exact h.towEffect
  · exact .ok h.sluEffect
  · exact h.timeWrite
  · exact h.timeWrite
  · exact .ok h.intEffect
  · exact .ok h.flEffect
  · exact .ok h.wr

theorem FormsKept.dictWrite (h : FormsKept d₀ d) {ini idx sb ty off : Nat} {data : Oct} :
    FormsKept d₀ (d.dictWrite ini idx sb ty off data).dev := by
  unfold Dev.dictWrite
  split
  · exact .txnAbort h
  · extract_lets +onlyGivenNames k v
    split
    · exact .txnAbort (.ite h.pwRefused h)
    · split
      · exact h.imgSegment.toDRes
      · split
        · exact .txnAbort h
        · exact h.noteRx.writeEffect.toDRes

theorem FormsKept.silent (h : FormsKept d₀ d) : FormsKept d₀ d.silent := h.setLk

theorem FormsKept.hostCmd (h : FormsKept d₀ d) {f : Dev → Dev} (hf : ∀ e, FormsKept d₀ e → FormsKept d₀ (f e)) :
    FormsKept d₀ (d.hostCmd f) := .ite h.silent (.ite h.busy (hf _ h))

theorem FormsKept.seqInc (h : FormsKept d₀ d) : FormsKept d₀ d.seqInc := h.setLk

theorem FormsKept.retry (h : FormsKept d₀ d) {s cmd peer idx sb : Nat} {res : Option Res} :
    FormsKept d₀ (d.retry s cmd peer idx sb res) := h.setSlot.setLk.inc.seqInc.say

theorem FormsKept.sayAbort (h : FormsKept d₀ d) {code peer : Nat} : FormsKept d₀ (d.sayAbort code peer) := h.seqInc.say

theorem FormsKept.sayOk (h : FormsKept d₀ d) {body : Oct} : FormsKept d₀ (d.sayOk body) := h.seqInc.say

theorem FormsKept.sayRes (h : FormsKept d₀ d) {x : Res} : FormsKept d₀ (d.sayRes x) := by
  unfold Dev.sayRes
  split
  · exact h.sayOk
  · exact h.sayAbort

theorem FormsKept.hostDict (h : FormsKept d₀ d) {cmd idx sb : Nat} {forced late : Bool} {r : DRes} (hr : FormsKept d₀ r.dev) :
    FormsKept d₀ (d.hostDict cmd idx sb forced late r) := by
  unfold Dev.hostDict
  split
  · exact h.busy
  extract_lets +onlyGivenNames answer
  have ha {x : Res} {e : Dev} (he : FormsKept d₀ e) : FormsKept d₀ (answer x e) := .ite he.retry he.sayRes
  split
  · exact ha (FormsKept.settleTxn hr)
  · exact ha (FormsKept.settleTxn hr)
  · exact FormsKept.retry hr

theorem FormsKept.hostWrite (h : FormsKept d₀ d) {idx sb ty off : Nat} {data : Oct} {tm : Timing} :
    FormsKept d₀ (d.hostWrite idx sb ty off data tm) := by
  unfold Dev.hostWrite
  refine h.hostCmd fun d2 h2 => .ite h2.busy ?_
  extract_lets +onlyGivenNames r pw e
  have h3 : FormsKept d₀ e := h2.hostDict h2.dictWrite
  clear_value r e
  split
  · exact .ite h3.linkReset h3
  · exact h3

theorem FormsKept.hostPut (h : FormsKept d₀ d) {k v : Nat} {tm : Timing} : FormsKept d₀ (d.hostPut k v tm) := h.hostWrite

theorem FormsKept.nextCk (h : FormsKept d₀ d) : FormsKept d₀ d.nextCk := h.tick

theorem FormsKept.turnaround (h : FormsKept d₀ d) : FormsKept d₀ d.turnaround := h.setLk

theorem FormsKept.hostStart (h : FormsKept d₀ d) : FormsKept d₀ d.hostStart := h.nextCk.turnaround

theorem FormsKept.mainEdge (h : FormsKept d₀ d) {b : Bool} : FormsKept d₀ (d.mainEdge b) := .ite h h.setSup.latch

theorem FormsKept.selEnter (h : FormsKept d₀ d) {st : Nat} : FormsKept d₀ (d.selEnter st) := h.wr.setSup.fire

theorem FormsKept.qualify (h : FormsKept d₀ d) : FormsKept d₀ d.qualify := h.setSup.selEnter

theorem FormsKept.trimsDone (h : FormsKept d₀ d) {mainIn vbakOk : Bool} : FormsKept d₀ (d.trimsDone mainIn vbakOk) := by
  unfold Dev.trimsDone
  split
  · exact h
  · exact .ite h.afterUs.pllStep (.ite h.afterUs.setSup.mainEdge.setAon.qualify h.afterUs.setSup.mainEdge.setAon)

theorem FormsKept.backoffEnd (h : FormsKept d₀ d) {p : Nat} : FormsKept d₀ (d.backoffEnd p) := by
  unfold Dev.backoffEnd
  split
  · exact h.advanceTo.setMac
  · exact h

theorem FormsKept.refresh (h : FormsKept d₀ d) {bk : Nat} {st : DSt} : FormsKept d₀ (d.refresh bk st) := .ite h.advanceTo.setAon h

theorem FormsKept.bankTestPass (h : FormsKept d₀ d) {s : Nat} {bad : List Nat} : FormsKept d₀ (d.bankTestPass s bad) := by
  unfold Dev.bankTestPass
  extract_lets -underBinder +onlyGivenNames bk n ends
  have hends {e : Dev} (he : FormsKept d₀ e) : FormsKept d₀ (ends e) :=
    .ite (FormsKept.jobFail he.bankTestEnd) (FormsKept.jobDone he.bankTestEnd)
  clear_value ends
  split
  · exact h
  · split
    · exact h.jobLast fun _ he => hends he
    · extract_lets +onlyGivenNames d13
      have h13 : FormsKept d₀ d13 := h.advanceTo
      extract_lets -underBinder +onlyGivenNames bad d16
      have h16 : FormsKept d₀ d16 := by
        unfold d16
        refine h13.forEach fun x19 d19 h19 => ?_
        extract_lets +onlyGivenNames d20
        have h20 : FormsKept d₀ d20 := h19.inc
        extract_lets +onlyGivenNames d21
        have h21 : FormsKept d₀ d21 := .ite h20.wr h20
        exact h21.setJobU
      extract_lets +onlyGivenNames d23
      have h23 : FormsKept d₀ d23 := h16.jobProgress.setJobU
      clear_value d23
      extract_lets -underBinder +onlyGivenNames k d24
      have h24 : FormsKept d₀ d24 := .zeroed h23 rfl rfl
      exact .ite h24 (h24.jobLast fun _ he => hends he)

theorem FormsKept.brgBuild (h : FormsKept d₀ d) {data : Oct} : FormsKept d₀ (d.brgBuild data).2 := by
  unfold Dev.brgBuild
  split
  · rename_i d1 eq1
    have h1 : FormsKept d₀ d1 := h.alloc.ofPair eq1
    exact .snd h1.writeMem
  · rename_i d2 _ eq2
    have h2 : FormsKept d₀ d2 := h.alloc.ofPair eq2
    exact .snd h2

theorem FormsKept.fetchEnd (h : FormsKept d₀ d) {k : Nat} {r : Res} : FormsKept d₀ (d.fetchEnd k r) := by
  unfold Dev.fetchEnd
  split
  · exact h
  · exact h.setBrg.forEach fun _ _ h1 => h1.resolve

theorem FormsKept.fetchFail (h : FormsKept d₀ d) {k code : Nat} : FormsKept d₀ (d.fetchFail k code) := .ite h.inc.fire.fetchEnd h

theorem FormsKept.brgDrop (h : FormsKept d₀ d) {ks : List Nat} :
    FormsKept d₀ (d.brgDrop ks) := h.inc.fire.forEach fun _ _ h1 => h1.fetchFail

theorem FormsKept.ethSend (h : FormsKept d₀ d) {e : Nat} {rec_ : Oct} {ks : List Nat} : FormsKept d₀ (d.ethSend e rec_ ks) := by
  unfold Dev.ethSend
  extract_lets +onlyGivenNames t r need
  split
  · exact h.brgDrop
  · split
    · exact h.engineOff.brgDrop
    · split
      · exact h.brgDrop
      · extract_lets +onlyGivenNames data
        split
        · rename_i d1 eq1
          have h1 : FormsKept d₀ d1 := h.brgBuild.ofPair eq1
          exact h1.brgDrop
        · rename_i d2 eq2
          have h2 : FormsKept d₀ d2 := h.brgBuild.ofPair eq2
          exact h2.setBrg.writeMem.wr

theorem FormsKept.mailbox (h : FormsKept d₀ d) {m b : Nat} {recd : Oct} :
    FormsKept d₀ (d.mailbox m b recd) := .ite h.requestLock.awaitLocks.freeBarge.inc h.requestLock.awaitLocks.cacheTouch.setTow.launch

theorem FormsKept.mboxSend (h : FormsKept d₀ d) {m : Nat} {rec_ : Oct} {ks : List Nat} : FormsKept d₀ (d.mboxSend m rec_ ks) := by
  unfold Dev.mboxSend
  extract_lets +onlyGivenNames n need
  split
  · exact h.engineOff.brgDrop
  · split
    · exact h.brgDrop
    · split
      · rename_i d1 eq1
        have h1 : FormsKept d₀ d1 := h.brgBuild.ofPair eq1
        exact h1.brgDrop
      · rename_i d2 eq2
        have h2 : FormsKept d₀ d2 := h.brgBuild.ofPair eq2
        exact h2.setBrg.mailbox

theorem FormsKept.queueOut (h : FormsKept d₀ d) {c : Nat} {m : CanMsg} {ks : List Nat} :
    FormsKept d₀ (d.queueOut c m ks) := .ite h.engineOff.brgDrop (.ite h.brgDrop h.setBrg)

theorem FormsKept.setOm (h : FormsKept d₀ d) {o : Nat} {f : OmS → OmS} : FormsKept d₀ (d.setOm o f) := h.setBrg

theorem FormsKept.omNow (h : FormsKept d₀ d) {o : Nat} : FormsKept d₀ (d.omNow o) := by
  unfold Dev.omNow
  split
  · exact h
  · extract_lets +onlyGivenNames mine ks d1 d2 m
    have h1 : FormsKept d₀ d1 := h.setBrg
    have h2 : FormsKept d₀ d2 := h1.setOm
    split
    · exact h2.queueOut
    · exact h2.queueOut
    · exact h2.ethSend
    · exact h2.mboxSend

theorem FormsKept.omSend (h : FormsKept d₀ d) {o : Nat} : FormsKept d₀ (d.omSend o) := by
  unfold Dev.omSend
  split
  · exact h
  · split
    · exact .ite h.setOm h.omNow
    · exact h.omNow

theorem FormsKept.cacheRead (h : FormsKept d₀ d) {ini k : Nat} :
    FormsKept d₀ (d.cacheRead ini k) := .ite h.resolve (.ite h.setBrg h.setBrg.omSend)

theorem FormsKept.intClaim (h : FormsKept d₀ d) {t : Nat} : FormsKept d₀ (d.intClaim t).2 := by
  unfold Dev.intClaim
  split
  · exact .snd h
  · extract_lets +onlyGivenNames v
    exact .snd h.wr.setStack

theorem FormsKept.readNow (h : FormsKept d₀ d) {ini idx sb off len : Nat} : FormsKept d₀ (d.readNow ini idx sb off len).dev := by
  unfold Dev.readNow
  extract_lets +onlyGivenNames k
  split
  · split
    · exact .txnOk h
    · exact .txnAbort h
  · split
    · exact .txnPend h
    · extract_lets +onlyGivenNames n
      split
      · exact .txnOk h.intClaim
      · exact .txnOk h

theorem FormsKept.dictRead (h : FormsKept d₀ d) {ini idx sb off len : Nat} : FormsKept d₀ (d.dictRead ini idx sb off len).dev := by
  unfold Dev.dictRead
  split
  · exact .txnAbort h
  · exact h.readNow

theorem FormsKept.hostRead (h : FormsKept d₀ d) {idx sb off len : Nat} {tm : Timing} :
    FormsKept d₀ (d.hostRead idx sb off len tm) := by
  unfold Dev.hostRead
  refine h.hostCmd fun d2 h2 => .ite h2.busy ?_
  split
  · rename_i d3 eq3
    have h3 : FormsKept d₀ d3 := h2.dictRead.ofTxn eq3
    exact .cacheRead (h3.hostDict (.txnPend h3))
  · exact h2.hostDict h2.dictRead

theorem FormsKept.brgSpend (h : FormsKept d₀ d) {n : Nat} : FormsKept d₀ (d.brgSpend n) := h.setBrg

theorem FormsKept.routeCopy (h : FormsKept d₀ d) {s : Nat} {m : CanMsg} {e : Oct} : FormsKept d₀ (d.routeCopy s m e) := by
  unfold Dev.routeCopy
  extract_lets +onlyGivenNames o dest arg
  split
  · exact h
  · split
    · exact h.inc
    · clear_value dest
      split
      · exact h.queueOut
      · exact h.queueOut
      · exact h.canDeliver
      · exact h.ethSend
      · exact h.mboxSend

theorem FormsKept.enBridge (h : FormsKept d₀ d) {j v : Nat} : FormsKept d₀ (d.enBridge j v) := .ite h.wr h

theorem FormsKept.sluBridge (h : FormsKept d₀ d) {k v : Nat} :
    FormsKept d₀ (d.sluBridge k v) := .ite (h.wr.sluEvent (fun _ h1 => h1.setSluOut)) h

theorem FormsKept.brgHand (h : FormsKept d₀ d) : FormsKept d₀ d.brgHand := by
  unfold Dev.brgHand
  extract_lets +onlyGivenNames l
  split
  · exact h
  · extract_lets +onlyGivenNames d1
    have h1 : FormsKept d₀ d1 := h.setBrg.tick
    split
    · exact h1.forEach fun _ _ h2 => h2.engineOff
    · extract_lets +onlyGivenNames lv d3
      have h3 : FormsKept d₀ d3 := h1.forEach fun _ _ h4 => h4.enBridge
      exact .ite h3 (h3.advanceTo.forEach fun _ _ h5 => h5.sluBridge)

theorem FormsKept.omTrigger (h : FormsKept d₀ d) {o : Nat} : FormsKept d₀ (d.omTrigger o) := .ite h.omSend h.omSend.brgSpend

theorem FormsKept.judgeOms (h : FormsKept d₀ d) {hits : List (Nat × Bool)} :
    FormsKept d₀ (d.judgeOms hits) := h.forEach fun _ _ h1 => .ite h1 (.ite h1.omTrigger h1)

theorem FormsKept.runSignals (h : FormsKept d₀ d) {run : Dev → Nat → Oct → Option (Option (Nat × Bool) × Dev)}
    (hrun : ∀ e, FormsKept d₀ e → ∀ k s r e', run e k s = some (r, e') → FormsKept d₀ e') : FormsKept d₀ (d.runSignals run) := by
  unfold Dev.runSignals
  extract_lets r
  have hr : FormsKept d₀ r.2 := by
    refine List.foldlRecOn (motive := fun a : List (Nat × Bool) × Dev => FormsKept d₀ a.2) _ _ h fun a ha x _ => ?_
    split
    · exact .snd (hrun a.2 ha _ _ _ _ ‹_›).brgSpend
    · exact ha
  exact hr.judgeOms.brgHand

theorem FormsKept.putSig (h : FormsKept d₀ d) {s : SigC} : FormsKept d₀ (d.putSig s) := h.setBrg

theorem FormsKept.rescale (h : FormsKept d₀ d) {e : Oct} {x : Int} : FormsKept d₀ (d.rescale e x).2 := by
  unfold Dev.rescale
  split
  · exact .snd h
  · split
    · extract_lets +onlyGivenNames f1
      have h1 : FormsKept d₀ f1.2 := h.free
      exact .snd h1
    · extract_lets +onlyGivenNames r n
      split
      · exact .snd h
      · split
        · exact .snd h
        · exact .snd h

theorem FormsKept.sigRun (h : FormsKept d₀ d) {k : Nat} {e : Oct} {x : Int} : FormsKept d₀ (d.sigRun k e x).2 := by
  unfold Dev.sigRun
  extract_lets +onlyGivenNames y1 z d1 got d2 d3 di
  have h4 : FormsKept d₀ y1.2 := h.rescale
  have h1 : FormsKept d₀ d1 := .ite h4 h4.inc
  have h2 : FormsKept d₀ d2 := h1.putSig.inc
  have h3 : FormsKept d₀ d3 := .ite h2.fetchEnd h2
  split
  · extract_lets +onlyGivenNames buf new
    exact .snd h3.setOm
  · exact .snd h3.setBrg
  · exact .snd h3.setBrg
  · exact .snd h3

theorem FormsKept.sigFrame (h : FormsKept d₀ d) {k : Nat} {e data : Oct} : FormsKept d₀ (d.sigFrame k e data).2 := by
  unfold Dev.sigFrame
  extract_lets +onlyGivenNames ps
  split
  · extract_lets +onlyGivenNames d1
    have h1 : FormsKept d₀ d1 := h.inc
    exact .snd (.ite h1.fetchFail h1)
  · extract_lets +onlyGivenNames v
    exact h.sigRun

theorem FormsKept.route (h : FormsKept d₀ d) {s : Nat} {m : CanMsg} {none_ : Dev → Dev}
    (hnone : ∀ e, FormsKept d₀ e → FormsKept d₀ (none_ e)) : FormsKept d₀ (d.route s m none_) := by
  unfold Dev.route
  extract_lets +onlyGivenNames es
  split
  · exact .inc (hnone _ h)
  · extract_lets +onlyGivenNames d4 unpack
    have h4 : FormsKept d₀ d4 := h.forEach fun _ _ h5 => h5.routeCopy
    refine h4.runSignals fun e he k x r e' hr => ?_
    split at hr
    · exact he.sigFrame.ofPair (Option.some.inj hr)
    · exact absurd hr (Option.some_ne_none _).symm

theorem FormsKept.bridgeInput (h : FormsKept d₀ d) : FormsKept d₀ d.bridgeInput := by
  unfold Dev.bridgeInput
  split
  · exact h
  refine .ite h ?_
  extract_lets +onlyGivenNames d1
  have h1 : FormsKept d₀ d1 := h.advanceTo.setBrg.brgSpend
  split
  · exact h1.route (fun _ h2 => h2.canDefault)
  · extract_lets +onlyGivenNames d3
    have h3 : FormsKept d₀ d3 := h1.awaitLocks
    extract_lets +onlyGivenNames m d4
    have h4 : FormsKept d₀ d4 := h3.freeBarges
    clear_value m
    split
    · exact h4.route fun _ h6 => h6
    · exact h4.inc.fire
  · refine h1.runSignals fun e he k x r e' hr => ?_
    split at hr
    · exact he.sigRun.ofPair (Option.some.inj hr)
    · exact absurd hr (Option.some_ne_none _).symm

theorem FormsKept.interrupted (h : FormsKept d₀ d) : FormsKept d₀ d.interrupted := h.setAon

theorem FormsKept.nvCollapse (h : FormsKept d₀ d) : FormsKept d₀ d.nvCollapse := h.nvCut.setNv

theorem FormsKept.sluBrownOut (h : FormsKept d₀ d) : FormsKept d₀ d.sluBrownOut := h.sluExternal

theorem FormsKept.brownedOut (h : FormsKept d₀ d) {cause : Nat} : FormsKept d₀ (d.brownedOut cause) := by
  unfold Dev.brownedOut
  extract_lets +onlyGivenNames d1
  have h1 : FormsKept d₀ d1 := h.nvCollapse.wr.inc.interrupted
  exact .ite h1.setSup.forceOff.sluBrownOut h1.setSup.forceOff

theorem FormsKept.holdCk (h : FormsKept d₀ d) : FormsKept d₀ (d.holdCk).2 := .snd h.free

theorem FormsKept.monitorHold (h : FormsKept d₀ d) : FormsKept d₀ d.monitorHold := by
  unfold Dev.monitorHold
  split
  · exact h.holdCk.advanceTo
  · exact h

theorem FormsKept.brownOut (h : FormsKept d₀ d) {coreRail : Bool} :
    FormsKept d₀ (d.brownOut coreRail) := .ite h (.ite h.monitorHold.brownedOut (.ite h h.monitorHold.brownedOut))

theorem FormsKept.lowBackup (h : FormsKept d₀ d) : FormsKept d₀ d.lowBackup := by
  unfold Dev.lowBackup
  split
  · exact h
  · extract_lets +onlyGivenNames d1
    have h1 : FormsKept d₀ d1 := .brownedOut (.ite h.nvFinish h)
    exact .ite h1.setSup.wr.selEnter.regulator.tick.qualify h1.setSup.wr.selEnter.regulator

theorem FormsKept.cablePhase (h : FormsKept d₀ d) {s : Nat} {e : Echo} : FormsKept d₀ (d.cablePhase s e) := by
  unfold Dev.cablePhase
  extract_lets +onlyGivenNames p n u writes due
  split
  · exact h
  · extract_lets +onlyGivenNames d1
    have h1 : FormsKept d₀ d1 := h.advanceTo
    split
    · exact h1.wr.wr.wr.setLink.jobDone
    · extract_lets +onlyGivenNames next
      clear_value n
      split
      · exact h1.jobProgress.setJobU
      · exact h1.jobProgress.setJobU
      · exact h1.jobProgress.setJobU

theorem FormsKept.canCnt (h : FormsKept d₀ d) {c i n : Nat} : FormsKept d₀ (d.canCnt c i n) := .ite h.wr.halfFlag h

theorem FormsKept.popOut (h : FormsKept d₀ d) {c : Nat} : FormsKept d₀ (d.popOut c) := h.setBrg

theorem FormsKept.dropOut (h : FormsKept d₀ d) {c : Nat} {fail : Dev → Nat → Nat → Dev} (hfail : HookKept d₀ fail) :
    FormsKept d₀ (d.dropOut c fail) := by
  unfold Dev.dropOut
  split
  · exact h
  · exact h.popOut.inc.forEach fun _ _ h1 => hfail _ h1 _ _

theorem FormsKept.canBusOff (h : FormsKept d₀ d) {c : Nat} {fail : Dev → Nat → Nat → Dev} (hfail : HookKept d₀ fail) :
    FormsKept d₀ (d.canBusOff c fail) := by
  unfold Dev.canBusOff
  split
  · exact h
  · extract_lets +onlyGivenNames d1 d2 d3
    have h1 : FormsKept d₀ d1 := h.setCan
    have h2 : FormsKept d₀ d2 := h1.setCanState.inc.canCnt
    have h3 : FormsKept d₀ d3 := by
      unfold d3
      refine h2.forEach fun x4 d4 h4 => ?_
      split
      · exact .ite h4 h4.canCnt.endChain
      · exact h4
    extract_lets +onlyGivenNames d5
    have h5 : FormsKept d₀ d5 := h3.forEach fun _ _ h6 => h6.canCnt.dropOut (fun _ h7 _ _ => hfail _ h7 _ _)
    exact .ite h5.setCanState h5

theorem FormsKept.setErr (h : FormsKept d₀ d) {c s v : Nat} : FormsKept d₀ (d.setErr c s v) := .ite h.wr.fire h.wr

theorem FormsKept.canRecovered (h : FormsKept d₀ d) {c : Nat} : FormsKept d₀ (d.canRecovered c) := .ite h.setErr.setErr.setCanState h

theorem FormsKept.canIntegrated (h : FormsKept d₀ d) {c : Nat} : FormsKept d₀ (d.canIntegrated c) := .ite h.setCanState h

theorem FormsKept.errState (h : FormsKept d₀ d) {c : Nat} : FormsKept d₀ (d.errState c) := .ite h.setCanState h

theorem FormsKept.noteErr (h : FormsKept d₀ d) {c kind : Nat} : FormsKept d₀ (d.noteErr c kind) := h.wr.canCnt

theorem FormsKept.canRxError (h : FormsKept d₀ d) {c kind : Nat} {plus8 : Bool} :
    FormsKept d₀ (d.canRxError c kind plus8) := .ite h.noteErr.setErr.errState h

theorem FormsKept.canRxGood (h : FormsKept d₀ d) {c : Nat} :
    FormsKept d₀ (d.canRxGood c) := .ite h (.ite h.setErr.errState h.free.setErr.errState)

theorem FormsKept.canRxFrame (h : FormsKept d₀ d) {c : Nat} {f : CanFrame} : FormsKept d₀ (d.canRxFrame c f) := by
  unfold Dev.canRxFrame
  split
  · exact h
  · split
    · exact h.canRxError
    · extract_lets +onlyGivenNames d1 ts m d2 d3 d4
      have h1 : FormsKept d₀ d1 := h.canRxGood
      have h2 : FormsKept d₀ d2 := h1.canCnt.canCnt
      have h3 : FormsKept d₀ d3 := .ite h2.canCnt h2
      have h4 : FormsKept d₀ d4 := .ite h3.canCnt h3
      exact .ite (.ite h4.inc.canCnt.fire h4.brgEnter) h4.canDefault

theorem FormsKept.canDelay (h : FormsKept d₀ d) {c : Nat} {t : CanTx} {v : Nat} : FormsKept d₀ (d.canDelay c t v) := .ite h.wr h

theorem FormsKept.abandon (h : FormsKept d₀ d) {c : Nat} {t : CanTx} {fail : Dev → Nat → Nat → Dev} (hfail : HookKept d₀ fail) :
    FormsKept d₀ (d.abandon c t fail) := .ite (h.canCnt.dropOut (fun _ h1 _ _ => hfail _ h1 _ _)) h.canCnt.endChain

theorem FormsKept.canRetry (h : FormsKept d₀ d) {c : Nat} {t : CanTx} {fail : Dev → Nat → Nat → Dev} (hfail : HookKept d₀ fail) :
    FormsKept d₀ (d.canRetry c t fail) := .ite (h.abandon (fun _ h1 _ _ => hfail _ h1 _ _)) h

theorem FormsKept.canTxEnd (h : FormsKept d₀ d) {c : Nat} {e : CanEnd} {fail : Dev → Nat → Nat → Dev} (hfail : HookKept d₀ fail) :
    FormsKept d₀ (d.canTxEnd c e fail) := by
  unfold Dev.canTxEnd
  split
  · exact h
  · extract_lets -underBinder +onlyGivenNames d1 d2
    have h1 : FormsKept d₀ d1 := h.setCan
    have h2 : FormsKept d₀ d2 := by
      unfold d2
      split
      · extract_lets +onlyGivenNames d3 d4
        have h3 : FormsKept d₀ d3 := h1.canCnt.canCnt
        have h4 : FormsKept d₀ d4 := .ite h3.canCnt h3
        exact .ite h4.canDelay.setErr.errState.popOut h4.canDelay.setErr.errState.setChain.endChain
      · exact h1.canCnt.canRetry (fun _ h5 _ _ => hfail _ h5 _ _)
      · extract_lets +onlyGivenNames d6
        have h6 : FormsKept d₀ d6 := by
          unfold d6
          split
          · exact h1.canDelay
          · exact h1
        extract_lets +onlyGivenNames n d7 d8
        have h7 : FormsKept d₀ d7 := h6.noteErr.setErr.errState
        have h8 : FormsKept d₀ d8 := .ite h7.setCan h7
        exact h8.canRetry (fun _ h9 _ _ => hfail _ h9 _ _)
    exact h2.canStopNow

theorem FormsKept.candOff (h : FormsKept d₀ d) {r : Nat} : FormsKept d₀ (d.candOff r) := by
  unfold Dev.candOff
  split
  · exact .ite h.engineOff h
  · exact h

theorem FormsKept.readPlaces (h : FormsKept d₀ d) {l : List (Nat × Nat)} : FormsKept d₀ (d.readPlaces l).2.2 := by
  induction l generalizing d with
  | nil => exact h
  | cons x t ih => exact ih h.readMem

theorem FormsKept.strike (h : FormsKept d₀ d) {ss : List Strike} : FormsKept d₀ (d.strike ss) := .same h rfl

theorem FormsKept.canTxStart (h : FormsKept d₀ d) {c : Nat} {ss : List Strike} {fail : Dev → Nat → Nat → Dev}
    (hfail : HookKept d₀ fail) : FormsKept d₀ (d.canTxStart c ss fail) := by
  unfold Dev.canTxStart
  split
  · exact h
  · extract_lets +onlyGivenNames d1
    have h1 : FormsKept d₀ d1 := h.candOff.candOff
    split
    · exact h1
    · split
      · exact h1.abandon (fun _ h2 _ _ => hfail _ h2 _ _)
      · exact .ite h1.setBrg.setCan (.ite h1.strike.readPlaces.endChain h1.strike.readPlaces.setChain.setCan)

theorem FormsKept.chCapture (h : FormsKept d₀ d) {k : Nat} {ppsIn rising : Bool} :
    FormsKept d₀ (d.chCapture k ppsIn rising) := .ite h.wr.wr.inc.fire.latch h

theorem FormsKept.chCompare (h : FormsKept d₀ d) {k : Nat} : FormsKept d₀ (d.chCompare k) := by
  unfold Dev.chCompare
  split
  · extract_lets +onlyGivenNames gap d1
    have h1 : FormsKept d₀ d1 := .ite h h.tick
    exact h1.chFire
  · exact h

theorem FormsKept.chPulseEnd (h : FormsKept d₀ d) {k : Nat} : FormsKept d₀ (d.chPulseEnd k) := by
  unfold Dev.chPulseEnd
  split
  · exact h.advanceTo.setChan
  · exact h

theorem FormsKept.chainComplete (h : FormsKept d₀ d) {r : Nat} : FormsKept d₀ (d.chainComplete r) := by
  unfold Dev.chainComplete
  split
  · exact h
  · split
    · exact h
    · split
      · exact h
      · split
        · exact h.setRing
        · split
          · exact h
          · extract_lets +onlyGivenNames can d1 d2 d3 d4 d5 d6
            have h1 : FormsKept d₀ d1 := h.forEach fun _ _ h7 => h7.writeMem
            have h2 : FormsKept d₀ d2 := h1.wr
            have h3 : FormsKept d₀ d3 := h2.setRing
            have h4 : FormsKept d₀ d4 := h3.inc
            have h5 : FormsKept d₀ d5 := .ite h3 (.ite h4 h4.cnt)
            have h6 : FormsKept d₀ d6 := .ite h5.cnt h5
            exact h6.ringCount

theorem FormsKept.backToHost (h : FormsKept d₀ d) {bs : List (Nat × Nat × Bool)} :
    FormsKept d₀ (d.backToHost bs) := h.forEach fun _ _ h1 => h1.requestLock

theorem FormsKept.readDescs (h : FormsKept d₀ d) {r x n : Nat} : FormsKept d₀ (d.readDescs r x n).2.2 := by
  induction n generalizing d x with
  | zero => exact h
  | succ n ih =>
    rw [Dev.readDescs]
    split
    · exact h.readMem
    · exact ih h.readMem

theorem FormsKept.takeBarges (h : FormsKept d₀ d) {bs : List (Nat × Nat × Bool)} :
    FormsKept d₀ (d.takeBarges bs) := h.forEach fun _ _ h1 => h1.requestLock

theorem FormsKept.fetchChain (h : FormsKept d₀ d) {r : Nat} {ss : List Strike} {early : Dev → List Oct → Option Nat × Dev}
    (hearly : ∀ e, FormsKept d₀ e → ∀ ds, FormsKept d₀ (early e ds).2) : FormsKept d₀ (d.fetchChain r ss early) := by
  unfold Dev.fetchChain
  split
  · exact h
  · extract_lets +onlyGivenNames x rd1
    have h1 : FormsKept d₀ rd1.2.2 := h.strike.readDescs
    extract_lets +onlyGivenNames d2
    have h2 : FormsKept d₀ d2 := h1
    split
    · exact h2.ringFault
    · extract_lets -underBinder +onlyGivenNames ds d3
      have h3 : FormsKept d₀ d3 := h2.wr
      extract_lets -underBinder +onlyGivenNames bs mk put
      have hput {e : Dev} (he : FormsKept d₀ e) {c : Chain} : FormsKept d₀ (put e c) := he.setRing
      have judged {b : Bool} : FormsKept d₀ (if b then (some 1, d3) else early d3 ds).2 := by
        split
        · exact h3
        · exact hearly _ h3 _
      clear_value put
      split
      · exact hput (judged.ofPair ‹_›)
      · rename_i d5 eq5
        have h5 : FormsKept d₀ d5 := judged.ofPair eq5
        split
        · extract_lets +onlyGivenNames bad src moved d6
          have h6 : FormsKept d₀ d6 := h5.takeBarges
          extract_lets +onlyGivenNames d7
          have h7 : FormsKept d₀ d7 := .ite h6.ownerRefusedAs h6
          exact hput h7.backToHost
        · exact .ite (hput h5.takeBarges.backToHost) (hput h5.takeBarges)

theorem FormsKept.canFetch (h : FormsKept d₀ d) {r : Nat} {ss : List Strike} : FormsKept d₀ (d.canFetch r ss) := by
  unfold Dev.canFetch
  refine .ite ?_ h
  extract_lets +onlyGivenNames need
  exact .ite h.engineOff (h.fetchChain fun _ he _ => he)

theorem FormsKept.earlyCode (h : FormsKept d₀ d) {p : Nat} {ds : List Oct} : FormsKept d₀ (d.earlyCode p ds).2 := by
  unfold Dev.earlyCode
  split
  · exact .snd h
  · split
    · exact .snd h
    · split
      · extract_lets +onlyGivenNames x hdr bs
        split
        · exact .snd h
        · split
          · exact .snd h
          · extract_lets +onlyGivenNames a1
            have h1 : FormsKept d₀ a1.2.2 := h.readPlaces
            exact .snd h1
      · exact .snd h

theorem FormsKept.setSel (h : FormsKept d₀ d) {p : Nat} {s t : TxSel} : FormsKept d₀ (d.setSel p s t) := h.setMac

theorem FormsKept.macFetch (h : FormsKept d₀ d) {r : Nat} {ss : List Strike} : FormsKept d₀ (d.macFetch r ss) := by
  unfold Dev.macFetch
  extract_lets +onlyGivenNames p
  split
  · exact h
  · split
    · extract_lets +onlyGivenNames x d1
      have h1 : FormsKept d₀ d1 := h.fetchChain (fun _ h2 _ => h2.earlyCode)
      split
      · exact h1.setSel
      · exact h1.setSel
    · extract_lets +onlyGivenNames need d3
      have h3 : FormsKept d₀ d3 := .ite h.engineOff h
      exact h3.setSel

theorem FormsKept.chainFetch (h : FormsKept d₀ d) {r : Nat} {ss : List Strike} :
    FormsKept d₀ (d.chainFetch r ss) := .ite h.macFetch (.ite h.canFetch h)

theorem FormsKept.clsAccept (h : FormsKept d₀ d) : FormsKept d₀ d.clsAccept := .ite h h.advanceTo.setCls

theorem FormsKept.nvStepEnds (h : FormsKept d₀ d) {codes : List Nat} {pass : Bool} : FormsKept d₀ (d.nvStepEnds codes pass) := by
  unfold Dev.nvStepEnds
  split
  · exact .ite h.nvFinish h
  · exact h

theorem FormsKept.flEmpty (h : FormsKept d₀ d) : FormsKept d₀ d.flEmpty := .setFl (h.flBlank.forEach fun _ _ h1 => h1.wr)

theorem FormsKept.sluStartClock (h : FormsKept d₀ d) : FormsKept d₀ d.sluStartClock := by
  unfold Dev.sluStartClock
  split
  · exact h
  · extract_lets +onlyGivenNames ev d1
    have h1 : FormsKept d₀ d1 := h.setSlu
    exact .ite h1 (h1.forEach fun _ _ h2 => .ite h2.sluSupply1 (.ite h2.sluSupply1 (.ite h2.sluCoreOff1 h2)))

theorem FormsKept.stagedGone (h : FormsKept d₀ d) : FormsKept d₀ d.stagedGone := .same h rfl

theorem FormsKept.crystalRestart (h : FormsKept d₀ d) : FormsKept d₀ d.crystalRestart := by
  unfold Dev.crystalRestart
  split
  · exact h
  · extract_lets +onlyGivenNames d1 d2
    have h1 : FormsKept d₀ d1 := h.setAon
    have h2 : FormsKept d₀ d2 := h1.sluStartClock
    clear_value d2
    extract_lets +onlyGivenNames _ d3
    have h3 : FormsKept d₀ d3 := .same h2 rfl
    exact h3.stagedGone.flEmpty.startupBegin.wakeNow

theorem FormsKept.sluStopClock (h : FormsKept d₀ d) : FormsKept d₀ d.sluStopClock := h.setSlu

theorem FormsKept.crystalStop (h : FormsKept d₀ d) :
    FormsKept d₀ d.crystalStop := .ite h h.inc.nvCollapse.sluStopClock.interrupted.setAon.forceOff

theorem FormsKept.framing (h : FormsKept d₀ d) : FormsKept d₀ d.framing := .ite h.inc.setLk.silent h.silent

theorem FormsKept.linkAbort (h : FormsKept d₀ d) {cmd idx sb code : Nat} :
    FormsKept d₀ (d.linkAbort cmd idx sb code) := h.settleTxn.sayAbort

theorem FormsKept.hostRemote (h : FormsKept d₀ d) {cmd peer idx sb ty off len : Nat} {data : Oct} :
    FormsKept d₀ (d.hostRemote cmd peer idx sb ty off len data) := by
  unfold Dev.hostRemote
  refine h.hostCmd fun d1 h1 => ?_
  split
  · exact h1.busy
  · exact .ite h1.linkAbort (.ite h1.linkAbort h1.retry.setLk.towQueue)

theorem FormsKept.drainLocks (h : FormsKept d₀ d) {n : Nat} :
    FormsKept d₀ (d.drainLocks n) := h.forEach fun _ _ h1 => .ite h1.lockOpen h1

theorem FormsKept.drainDone (h : FormsKept d₀ d) : FormsKept d₀ d.drainDone := by
  unfold Dev.drainDone
  split
  · exact h
  · exact .ite h h.advanceTo.setAon.drainLocks.leaves

theorem FormsKept.coreFailed (h : FormsKept d₀ d) : FormsKept d₀ d.coreFailed := by
  unfold Dev.coreFailed
  extract_lets +onlyGivenNames d1
  have h1 : FormsKept d₀ d1 := h.forEach fun _ _ h2 => .ite h2.setDom.wr h2
  exact h1.setAon

theorem FormsKept.transOver (h : FormsKept d₀ d) {n : Nat} {st : DSt} {failed : Bool} :
    FormsKept d₀ (d.transOver n st failed) := h.setAon.setDom

theorem FormsKept.powerFail (h : FormsKept d₀ d) : FormsKept d₀ d.powerFail := by
  unfold Dev.powerFail
  split
  · exact h
  · extract_lets +onlyGivenNames due
    split
    · exact h
    · extract_lets +onlyGivenNames n was d1 d2 d3 d4 d5 d6 d7
      have h1 : FormsKept d₀ d1 := h.advanceTo
      have h2 : FormsKept d₀ d2 := .ite h1.leaves h1
      have h3 : FormsKept d₀ d3 := h2.transOver.wr
      have h4 : FormsKept d₀ d4 := .ite h3.goesOff h3
      have h5 : FormsKept d₀ d5 := .ite h4.stagedGone h4
      have h6 : FormsKept d₀ d6 := h5.inc.fault.fire
      have h7 : FormsKept d₀ d7 := .ite h6.coreFailed h6
      exact .ite h7.nvLoadSkipped.setAon.step5End h7

theorem FormsKept.clearRequests (h : FormsKept d₀ d) : FormsKept d₀ d.clearRequests := by
  unfold Dev.clearRequests
  refine h.forEach fun x1 d1 h1 => ?_
  extract_lets +onlyGivenNames d2
  have h2 : FormsKept d₀ d2 := .ite h1.setDom h1
  exact .ite h2.setDom (.ite h2.setDom.wr.inc h2)

theorem FormsKept.transSelect (h : FormsKept d₀ d) {n : Nat} {t : DSt} {isReset : Bool} :
    FormsKept d₀ (d.transSelect n t isReset) := .ite h.setDom.setAon.transAsk h.setDom.setAon.transBegins

theorem FormsKept.domSelect (h : FormsKept d₀ d) : FormsKept d₀ d.domSelect := by
  unfold Dev.domSelect
  split
  · exact h
  · extract_lets +onlyGivenNames d1
    have h1 : FormsKept d₀ d1 := h.clearRequests
    split
    · exact h1
    · exact .ite h1.placeReq.transSelect h1.transSelect

theorem FormsKept.afterMs (h : FormsKept d₀ d) {since ms : Nat} : FormsKept d₀ (d.afterMs since ms) := h.advanceTo

theorem FormsKept.imgTimeout (h : FormsKept d₀ d) {n : Nat} : FormsKept d₀ (d.imgTimeout n) := by
  unfold Dev.imgTimeout
  split
  · exact h.afterMs.imgDrop.inc
  · exact h

theorem FormsKept.claimAtOn (h : FormsKept d₀ d) {key : Nat} {want : List Claim} : FormsKept d₀ (d.claimAtOn key want) := by
  unfold Dev.claimAtOn
  split
  · exact h.claimRefused.wr
  · exact h.takeClaims

theorem FormsKept.govAtOn (h : FormsKept d₀ d) : FormsKept d₀ d.govAtOn := .ite h.claimAtOn h

theorem FormsKept.towAtOn (h : FormsKept d₀ d) :
    FormsKept d₀ d.towAtOn := .ite (.ite h.claimAtOn (h.claimAtOn.forEach fun _ _ h1 => h1.sessEnd)) h

theorem FormsKept.tsoAtOn (h : FormsKept d₀ d) {p : Nat} : FormsKept d₀ (d.tsoAtOn p) := .ite h.claimAtOn h

theorem FormsKept.claimsOn (h : FormsKept d₀ d) {n : Nat} : FormsKept d₀ (d.claimsOn n) := by
  unfold Dev.claimsOn
  split
  · exact h.chanClaims.govAtOn
  · exact .ite h.tsoAtOn.tsoAtOn.towAtOn (.ite h.govAtOn.tsoAtOn (.ite h.tsoAtOn (.ite h.towAtOn h)))

theorem FormsKept.step5 (h : FormsKept d₀ d) :
    FormsKept d₀ d.step5 := .ite h.setAon.nvLoadSkipped.setAon.step5End (.ite h.setAon h.setAon.setAon.placeReq)

theorem FormsKept.coreUp (h : FormsKept d₀ d) : FormsKept d₀ d.coreUp := by
  unfold Dev.coreUp
  extract_lets +onlyGivenNames _ d1
  have h1 : FormsKept d₀ d1 := by
    unfold d1
    split
    · refine .fire ?_
      exact .same h rfl
    · exact h
  exact .ite h1.step5 h1.startupBegin.step5

theorem FormsKept.bankReady (h : FormsKept d₀ d) {bk : Nat} : FormsKept d₀ (d.bankReady bk) := .listsOut h rfl rfl

theorem FormsKept.bankOnline (h : FormsKept d₀ d) {bk : Nat} :
    FormsKept d₀ (d.bankOnline bk) := .ite (h.forEach fun _ _ h1 => h1.bankReady) (.ite h.bankReady h)

theorem FormsKept.brgFresh (h : FormsKept d₀ d) : FormsKept d₀ d.brgFresh := h.setBrg

theorem FormsKept.brgOn (h : FormsKept d₀ d) {fromOff : Bool} :
    FormsKept d₀ (d.brgOn fromOff) := .ite h.freeBarges.brgFresh h.freeBarges

theorem FormsKept.canOn (h : FormsKept d₀ d) : FormsKept d₀ d.canOn := h.forEach fun _ _ h1 => .ite h1.canStart h1

theorem FormsKept.clsOn (h : FormsKept d₀ d) {fromOff : Bool} {stored : Nat → Option Oct} : FormsKept d₀ (d.clsOn fromOff stored) := by
  unfold Dev.clsOn
  extract_lets +onlyGivenNames d1 a order d2
  have h1 : FormsKept d₀ d1 := h.wr.setCls
  have h2 : FormsKept d₀ d2 := by
    unfold d2
    split
    · refine h1.forEach fun x3 d3 h3 => ?_
      split
      · exact .ite h3.fault.fire h3.genPut
      · exact h3
    · exact h
  exact h2.clsRunState

theorem FormsKept.portOn (h : FormsKept d₀ d) {p : Nat} : FormsKept d₀ (d.portOn p) := .ite h.bringUp h

theorem FormsKept.timeBack (h : FormsKept d₀ d) : FormsKept d₀ d.timeBack := h.noteClock.wr.fire

theorem FormsKept.resumes (h : FormsKept d₀ d) {n : Nat} : FormsKept d₀ (d.resumes n) := by
  unfold Dev.resumes
  split
  · exact h.latchesFire
  · exact h.bankOnline
  · exact h.bankOnline
  · exact h.bankOnline
  · exact h.bankOnline
  · exact h.portOn
  · exact h.portOn
  · exact h.portOn
  · exact h.portOn
  · exact h.clsOn
  · exact h.canOn
  · exact h.brgOn
  · exact h.timeBack.govRestart
  · exact h

theorem FormsKept.bankInit (h : FormsKept d₀ d) {bk : Nat} : FormsKept d₀ (d.bankInit bk) :=
  h.trans ⟨fun w => memZero_wf w _ _, id, fun w => w.bankInit bk⟩

theorem FormsKept.freshObjects (h : FormsKept d₀ d) {n : Nat} : FormsKept d₀ (d.freshObjects n) := .objectsOut h rfl rfl

theorem FormsKept.imgFaults (h : FormsKept d₀ d) {dom : Nat} {bad : List Nat} :
    FormsKept d₀ (d.imgFaults dom bad) := h.forEach fun _ _ h1 => .ite h1.fault (.ite (.ite h1.fault.fire h1.fault) h1)

theorem FormsKept.imgLoadAll (h : FormsKept d₀ d) {dom : Nat} {bad : List Nat} :
    FormsKept d₀ (d.imgLoadAll dom bad) := .ite h (h.forEach fun _ _ h1 => h1.setImg)

theorem FormsKept.refFresh (h : FormsKept d₀ d) {bk : Nat} : FormsKept d₀ (d.refFresh bk) := .same h rfl

theorem FormsKept.winStart (h : FormsKept d₀ d) {t at_ run : Nat} : FormsKept d₀ (d.winStart t at_ run) := h.setTacho

theorem FormsKept.sluOn (h : FormsKept d₀ d) : FormsKept d₀ d.sluOn := by
  unfold Dev.sluOn
  extract_lets -underBinder +onlyGivenNames d1 now d2 d3 d4
  have h1 : FormsKept d₀ d1 := h.setSlu
  have h2 : FormsKept d₀ d2 := h1.setSlu
  have h3 : FormsKept d₀ d3 := h2.forEach fun _ _ h5 => h5.wr.wr.setSluOut
  have h4 : FormsKept d₀ d4 := h3.forEach fun _ _ h6 => h6.winStart
  exact .ite h4.evt1Take h4

theorem FormsKept.timeOn (h : FormsKept d₀ d) : FormsKept d₀ d.timeOn := by
  unfold Dev.timeOn
  extract_lets +onlyGivenNames d1
  have h1 : FormsKept d₀ d1 := .same h rfl
  exact h1.wr.wr.fire

theorem FormsKept.startsUp (h : FormsKept d₀ d) {n : Nat} {bad : List Nat} : FormsKept d₀ (d.startsUp n bad) := by
  unfold Dev.startsUp
  extract_lets +onlyGivenNames d1 d2
  have h1 : FormsKept d₀ d1 := h.freshObjects.imgFaults
  have h2 : FormsKept d₀ d2 := h1.imgLoadAll
  split
  · exact h2.sluOn
  · extract_lets +onlyGivenNames d3 d4
    have h3 : FormsKept d₀ d3 := h2.refFresh
    have h4 : FormsKept d₀ d4 := h3.forEach fun _ _ h5 => .ite h5.wr h5
    exact h4.bankInit.bankOnline
  · exact h2.refFresh.bankInit.bankOnline
  · exact h2.refFresh.bankInit.bankOnline
  · exact h2.refFresh.bankInit.bankOnline
  · exact h2.portOn
  · exact h2.portOn
  · exact h2.portOn
  · exact h2.portOn
  · exact h2.clsOn
  · exact h2.canOn
  · exact h2.brgOn
  · exact h2.timeOn.govRestart
  · exact h2

theorem FormsKept.towReachesOn (h : FormsKept d₀ d) : FormsKept d₀ d.towReachesOn := .ite h.sessStart h

theorem FormsKept.transEnds (h : FormsKept d₀ d) {bad : List Nat} : FormsKept d₀ (d.transEnds bad) := by
  unfold Dev.transEnds
  split
  · exact h
  · split
    · exact h
    · extract_lets +onlyGivenNames n was off d1 d2 d3 d4 d5 d6 d7 d8 d9 d10 d11
      have h1 : FormsKept d₀ d1 := h.advanceTo
      have h2 : FormsKept d₀ d2 := .ite h1.drainLocks.leaves h1
      have h3 : FormsKept d₀ d3 := .ite (.setPm h2 rfl) h2
      have h4 : FormsKept d₀ d4 := h3.transOver
      have h5 : FormsKept d₀ d5 := .ite h4.goesOff h4
      have h6 : FormsKept d₀ d6 := .ite h5.stagedGone h5
      have h7 : FormsKept d₀ d7 := .claimsOn (.ite h6.startsUp h6.resumes)
      have h8 : FormsKept d₀ d8 := .ite (.ite h7.towReachesOn h7) h6
      have h9 : FormsKept d₀ d9 := .ite h8.fire h8
      have h10 : FormsKept d₀ d10 := .ite h9.coreUp h9
      have h11 : FormsKept d₀ d11 := .ite h10.setAon h10
      exact .ite h11.forceOne h11

theorem FormsKept.doorbell (h : FormsKept d₀ d) {r i : Nat} (hb : d.doorbell r i = .ok e) : FormsKept d₀ e := by
  have stored : e = d.wr (ringKey r 4) i := by
    unfold Dev.doorbell at hb
    (repeat' split at hb) <;> cases hb <;> rfl
  exact stored ▸ h.wr

theorem FormsKept.hostBell (h : FormsKept d₀ d) {ring index : Nat} : FormsKept d₀ (d.hostBell ring index) := by
  unfold Dev.hostBell
  refine h.hostCmd fun d2 h2 => ?_
  extract_lets +onlyGivenNames d3
  have h3 : FormsKept d₀ d3 := h2.setLk
  split
  · exact (h3.doorbell ‹_›).sayOk
  · exact h3.seqInc.say
  · exact h3.sayAbort

theorem FormsKept.toBackup (h : FormsKept d₀ d) {us : Nat} {mainIn : Bool} :
    FormsKept d₀ (d.toBackup us mainIn) :=
  .ite h (.ite h.afterUs.wr.selEnter.mainEdge.regulator.tick.qualify h.afterUs.wr.selEnter.mainEdge.regulator)

theorem FormsKept.energySample (h : FormsKept d₀ d) {vin vbak : Nat} : FormsKept d₀ (d.energySample vin vbak) := h.wr.wr.wr

theorem FormsKept.energyTick (h : FormsKept d₀ d) {vin vbak : Nat} {vbakOk : Bool} {vio : Option Nat} :
    FormsKept d₀ (d.energyTick vin vbak vbakOk vio) := .ite h.setSup h.setSup.advanceTo.energySample.setSup

theorem FormsKept.flNew (h : FormsKept d₀ d) {f : FaultRec} : FormsKept d₀ (d.flNew f) := by
  unfold Dev.flNew
  extract_lets +onlyGivenNames q old d1
  have h1 : FormsKept d₀ d1 := .ite h.inc.fire h
  exact h1.wr.wr.wr.inc.fire.setFl

theorem FormsKept.flRepeat (h : FormsKept d₀ d) : FormsKept d₀ d.flRepeat := .ite h h.wr

theorem FormsKept.flWrite (h : FormsKept d₀ d) : FormsKept d₀ d.flWrite := by
  unfold Dev.flWrite
  split
  · exact h
  · split
    · exact h
    · exact .ite h.advanceTo.setFl.flRepeat h.advanceTo.setFl.flNew

theorem FormsKept.fetchTimeout (h : FormsKept d₀ d) {k : Nat} : FormsKept d₀ (d.fetchTimeout k) := by
  unfold Dev.fetchTimeout
  split
  · exact h
  · exact h.afterMs.fetchFail

theorem FormsKept.atSfd (h : FormsKept d₀ d) {p ago : Nat} : FormsKept d₀ (d.atSfd p ago) := h.forEach fun _ _ h1 => .ite h1.wr h1

theorem FormsKept.carrierEnd (h : FormsKept d₀ d) {p : Nat} : FormsKept d₀ (d.carrierEnd p) := .ite h.setSeg h

theorem FormsKept.countErrors (h : FormsKept d₀ d) {p e : Nat} : FormsKept d₀ (d.countErrors p e) := by
  unfold Dev.countErrors
  extract_lets +onlyGivenNames d1 d2 d3 d4
  have h1 : FormsKept d₀ d1 := .ite h.cnt h
  have h2 : FormsKept d₀ d2 := .ite h1.cnt h1
  have h3 : FormsKept d₀ d3 := .ite h2.cnt h2
  have h4 : FormsKept d₀ d4 := .ite h3.cnt h3
  exact .ite h4.cnt h4

theorem FormsKept.countOk (h : FormsKept d₀ d) {p : Nat} {l : Oct} {n : Nat} : FormsKept d₀ (d.countOk p l n) := h.cnt.cnt.cnt

theorem FormsKept.pauseZero (h : FormsKept d₀ d) {p : Nat} : FormsKept d₀ (d.pauseZero p) := h.setMac

theorem FormsKept.pauseReceived (h : FormsKept d₀ d) {p q : Nat} :
    FormsKept d₀ (d.pauseReceived p q) := .ite h (.ite (.ite h.pauseZero h) h.setMac)

theorem FormsKept.rxCut (h : FormsKept d₀ d) {p : Nat} : FormsKept d₀ (d.rxCut p) := .ite h.setMac.cntRaise h.setMac

theorem FormsKept.storeFrame (h : FormsKept d₀ d) {p pd : Nat} {data : Oct} : FormsKept d₀ (d.storeFrame p pd data).2 := by
  unfold Dev.storeFrame
  split
  · rename_i d1 eq1
    have h1 : FormsKept d₀ d1 := h.alloc.ofPair eq1
    exact .snd h1.inc.cnt
  · rename_i d2 eq2
    have h2 : FormsKept d₀ d2 := h.alloc.ofPair eq2
    exact .snd (h2.forEach fun _ _ h3 => h3.writeMem)

theorem FormsKept.rxErrored (h : FormsKept d₀ d) {c : Dev} {p e : Nat} {data : Oct} {trunc : Bool} {ts : Option (Nat × Nat)} :
    FormsKept d₀ (d.rxErrored c p e data trunc ts) := by
  unfold Dev.rxErrored
  split
  · exact h.cnt
  · split
    · exact h.engineOff
    · split
      · rename_i d1 eq1
        have h1 : FormsKept d₀ d1 := h.storeFrame.ofPair eq1
        exact h1
      · rename_i d2 eq2
        have h2 : FormsKept d₀ d2 := h.storeFrame.ofPair eq2
        extract_lets +onlyGivenNames d3
        have h3 : FormsKept d₀ d3 := .ite h2.cnt h2
        exact h3.deliverRx.cnt

theorem FormsKept.rxToCls (h : FormsKept d₀ d) {c : Dev} {p n : Nat} {data : Oct} {trunc : Bool} {ts : Option (Nat × Nat)} :
    FormsKept d₀ (d.rxToCls c p n data trunc ts) := by
  unfold Dev.rxToCls
  extract_lets +onlyGivenNames d1 cs c2 c3 d4 d2
  have h1 : FormsKept d₀ d1 := h.countOk
  have h4 : FormsKept d₀ d4 := .ite h1.cnt h1
  have h2 : FormsKept d₀ d2 := .ite h4.cnt h4
  split
  · exact h2.cnt.engineOff
  · split
    · exact h2.engineOff
    · split
      · rename_i d3 eq3
        have h3 : FormsKept d₀ d3 := h2.storeFrame.ofPair eq3
        exact h3
      · rename_i d5 eq5
        have h5 : FormsKept d₀ d5 := h2.storeFrame.ofPair eq5
        extract_lets +onlyGivenNames d6
        have h6 : FormsKept d₀ d6 := .ite h5.cnt h5
        clear_value d6
        exact .same h6 rfl

theorem FormsKept.wakeFrame (h : FormsKept d₀ d) {c : Dev} {p : Nat} {l : Oct} : FormsKept d₀ (d.wakeFrame c p l) := by
  unfold Dev.wakeFrame
  split
  · exact h.engineOff
  · split
    · exact h.inc.wr.latch.fire
    · exact h

theorem FormsKept.rxFrame (h : FormsKept d₀ d) {p : Nat} {f : WireFrame} : FormsKept d₀ (d.rxFrame p f) := by
  unfold Dev.rxFrame
  split
  · exact h.rxCut
  · split
    · exact h
    · extract_lets +onlyGivenNames c1 d2
      have h1 : FormsKept d₀ c1 := h.atSfd
      have h2 : FormsKept d₀ d2 := h.carrierEnd.setMac
      clear_value d2
      extract_lets +onlyGivenNames n _ d3
      have h3 : FormsKept d₀ d3 := .ite (.same h2 rfl) h2
      split
      · exact h3.cnt
      · extract_lets +onlyGivenNames e d4 l data trunc ts
        have h4 : FormsKept d₀ d4 := h3.countErrors
        split
        · exact h4.cnt
        · split
          · exact .ite h4.cnt.pauseReceived h4.cnt
          · split
            · exact .ite h4.cnt.wakeFrame h4.cnt
            · split
              · exact h4.rxErrored
              · split
                · extract_lets +onlyGivenNames d5
                  have h5 : FormsKept d₀ d5 := h4.cnt
                  split
                  · extract_lets +onlyGivenNames d6
                    have h6 : FormsKept d₀ d6 := h5.countOk
                    clear_value d6
                    exact .same h6 rfl
                  · exact h5
                · exact h4.rxToCls

theorem FormsKept.govSent (h : FormsKept d₀ d) {p n : Nat} : FormsKept d₀ (d.govSent p n) := .ite (.same h rfl) h

theorem FormsKept.countTx (h : FormsKept d₀ d) {p : Nat} {l : Oct} : FormsKept d₀ (d.countTx p l) := h.govSent.cnt.cnt.cnt.setMac

theorem FormsKept.cutFrame (h : FormsKept d₀ d) {p : Nat} {sent : Oct} : FormsKept d₀ (d.cutFrame p sent) := h.setMac

theorem FormsKept.oppSent (h : FormsKept d₀ d) {p : Nat} : FormsKept d₀ (d.oppSent p) := .ite h.setSeg h

theorem FormsKept.txNext (h : FormsKept d₀ d) {p : Nat} : FormsKept d₀ (d.txNext p) := h.setMac

theorem FormsKept.cutChain (h : FormsKept d₀ d) {p r start att : Nat} {sent : Oct} :
    FormsKept d₀ (d.cutChain p r start att sent) := h.cutFrame.setChain.endChain.oppSent.txNext

theorem FormsKept.tsoHeaders (h : FormsKept d₀ d) {p : Nat} {c : Chain} : FormsKept d₀ (d.tsoHeaders p c).2.2 := by
  unfold Dev.tsoHeaders
  extract_lets +onlyGivenNames hdr sc
  split
  · extract_lets +onlyGivenNames a1
    have h1 : FormsKept d₀ a1.2.2 := h.readPlaces
    split
    · exact h1.writeMem.readMem
    · exact h1
  · exact h.readMem

theorem FormsKept.sendSegment (h : FormsKept d₀ d) {p r : Nat} {c : Chain} : FormsKept d₀ (d.sendSegment p r c) := by
  unfold Dev.sendSegment
  extract_lets +onlyGivenNames x hdr k off hd1 ps a1
  have h2 : FormsKept d₀ hd1.2.2 := h.tsoHeaders
  have h1 : FormsKept d₀ a1.2.2 := h2.readPlaces
  exact .ite h1.cutChain (.txNext (.ite h1.countTx.cnt.setChain.endChain h1.countTx.cnt.setChain))

theorem FormsKept.sendWhole (h : FormsKept d₀ d) {p r : Nat} {c : Chain} {sfdAgo : Nat} : FormsKept d₀ (d.sendWhole p r c sfdAgo) := by
  unfold Dev.sendWhole
  extract_lets +onlyGivenNames a1 d2 att last sum
  have h1 : FormsKept d₀ a1.2.2 := h.readPlaces
  have h2 : FormsKept d₀ d2 := h1
  split
  · exact h2.cutChain
  · extract_lets +onlyGivenNames ts one hd l d3 d4
    have h3 : FormsKept d₀ d3 := .ite h2.inc h2
    have h4 : FormsKept d₀ d4 := .ite h3.inc h3
    exact h4.countTx.setChain.endChain.oppSent.txNext

theorem FormsKept.sendChain (h : FormsKept d₀ d) {p r start sfdAgo : Nat} : FormsKept d₀ (d.sendChain p r start sfdAgo) := by
  unfold Dev.sendChain
  split
  · exact h.txNext
  · exact .ite h.txNext (.ite h (.ite h.engineOff.setMac (.ite h.endChain.txNext (.ite h.sendSegment h.sendWhole))))

theorem FormsKept.towTxGone (h : FormsKept d₀ d) {p : Nat} {f : TowTx} :
    FormsKept d₀ (d.towTxGone p f) := .ite h.setMac.freeBarges h.setMac

theorem FormsKept.sendTowTx (h : FormsKept d₀ d) {p : Nat} : FormsKept d₀ (d.sendTowTx p) := by
  unfold Dev.sendTowTx
  split
  · exact h.txNext
  · extract_lets +onlyGivenNames need
    split
    · exact h
    · split
      · exact h.engineOff.towTxGone.txNext
      · split
        · exact h.towTxGone.txNext
        · extract_lets +onlyGivenNames ps a1 d2
          have h1 : FormsKept d₀ a1.2.2 := h.readPlaces
          have h2 : FormsKept d₀ d2 := .ite h1.countTx h1.cutFrame
          exact h2.towTxGone.oppSent.txNext

theorem FormsKept.txDone (h : FormsKept d₀ d) {p : Nat} {deferred : Bool} {ss : List Strike} {sfdAgo : Nat} :
    FormsKept d₀ (d.txDone p deferred ss sfdAgo) := by
  unfold Dev.txDone
  split
  · exact h
  · split
    · exact h
    · exact h
    · exact h.govSent.cnt.setMac.txNext
    · exact .sendChain (.strike (.ite h.cnt h))
    · exact .sendTowTx (.strike (.ite h.cnt h))

theorem FormsKept.clsSwitch (h : FormsKept d₀ d) : FormsKept d₀ d.clsSwitch := by
  unfold Dev.clsSwitch
  extract_lets +onlyGivenNames d1
  have h1 : FormsKept d₀ d1 := h.forEach fun _ _ h2 => .ite h2 h2.setGrp
  exact h1.wr.setCls.clsRunState.inc.fire.tick

theorem FormsKept.clsCheckDone (h : FormsKept d₀ d) {n ini : Nat} {c : Option Nat} (hc : d.clsCheckDone n = some (ini, c, e)) :
    FormsKept d₀ e := by
  have h1 {t : Nat} : FormsKept d₀ ((d.advanceTo (t + n)).setCls (fun c => { c with commit := none })) := h.advanceTo.setCls
  simp only [Dev.clsCheckDone] at hc
  split at hc
  · exact absurd hc (Option.some_ne_none _).symm
  split at hc
  · obtain ⟨-, -, rfl⟩ := hc
    exact h1
  split at hc
  · obtain ⟨-, -, rfl⟩ := hc
    exact h1.clsSwitch
  · obtain ⟨-, -, rfl⟩ := hc
    exact h1

theorem FormsKept.genCheckDone (h : FormsKept d₀ d) {n : Nat} : FormsKept d₀ (d.genCheckDone n) := by
  unfold Dev.genCheckDone
  split
  · exact h
  · rename_i d1 eq1
    have h1 : FormsKept d₀ d1 := h.clsCheckDone eq1
    exact h1.resolve
  · rename_i d2 eq2
    have h2 : FormsKept d₀ d2 := h.clsCheckDone eq2
    exact h2.resolve

theorem FormsKept.govHoldLimit (h : FormsKept d₀ d) : FormsKept d₀ d.govHoldLimit := by
  unfold Dev.govHoldLimit
  split
  · split
    · extract_lets +onlyGivenNames d1 d2 d3 d4
      have h1 : FormsKept d₀ d1 := h.afterMs
      have h2 : FormsKept d₀ d2 := h1.setGov
      have h3 : FormsKept d₀ d3 := h2.inc.fire
      have h4 : FormsKept d₀ d4 := .ite h3.renegotiate h3
      split
      · exact h4.jobFail
      · exact h4
    · exact h
  · exact h

theorem FormsKept.govDrained (h : FormsKept d₀ d) : FormsKept d₀ d.govDrained := by
  unfold Dev.govDrained
  split
  · split
    · exact h
    · extract_lets +onlyGivenNames d1 d2
      have h1 : FormsKept d₀ d1 := h.setGov
      have h2 : FormsKept d₀ d2 := by
        unfold d2
        split
        · exact h1.jobProgress
        · exact h1
      exact h2.renegotiate
  · exact h

theorem FormsKept.clockReach (h : FormsKept d₀ d) {t : Nat} : FormsKept d₀ (d.clockReach t) := .ite h h.tick

theorem FormsKept.govWindow (h : FormsKept d₀ d) : FormsKept d₀ d.govWindow := by
  unfold Dev.govWindow
  split
  · exact h.engineOff
  · split
    · extract_lets +onlyGivenNames span d1
      have h1 : FormsKept d₀ d1 := h.clockReach
      exact .ite h1.wr.setGov (.ite h1.wr.setGov.govStep (.ite h1.wr.setGov.govStep h1.wr.setGov))
    · exact h

theorem FormsKept.heard (h : FormsKept d₀ d) {n : Nat} : FormsKept d₀ (d.heard n) := h.setSess

theorem FormsKept.sendCtl (h : FormsKept d₀ d) {n subtype : Nat} : FormsKept d₀ (d.sendCtl n subtype) := .towCtl (.ite h h.engineOff)

theorem FormsKept.sendHello (h : FormsKept d₀ d) {n : Nat} : FormsKept d₀ (d.sendHello n) := h.sendCtl

theorem FormsKept.sessLost (h : FormsKept d₀ d) {n why : Nat} : FormsKept d₀ (d.sessLost n why) := h.inc.fault.sessDrop.sessOpening

theorem FormsKept.towHead (h : FormsKept d₀ d) {kind : Nat} : FormsKept d₀ (d.towHead kind).2 := by
  unfold Dev.towHead
  split
  · exact .snd h
  · extract_lets +onlyGivenNames k
    split
    · exact .snd h.setTow
    · split
      · exact .snd h.setTow.towStat
      · split
        · exact .snd h.setTow
        · exact .snd h

theorem FormsKept.helloRx (h : FormsKept d₀ d) : FormsKept d₀ d.helloRx := by
  unfold Dev.helloRx
  split
  · rename_i d1 eq1
    have h1 : FormsKept d₀ d1 := h.towHead.ofPair eq1
    exact h1
  · rename_i d2 eq2
    have h2 : FormsKept d₀ d2 := h.towHead.ofPair eq2
    extract_lets +onlyGivenNames o
    split
    · exact h2
    · extract_lets +onlyGivenNames src d3 d4
      have h3 : FormsKept d₀ d3 := h2.heard
      have h4 : FormsKept d₀ d4 := .ite h3.sessLost h3
      exact .ite (.ite h4.wr.setSeqs.setPeer.setSess.sendHello.towPump h4.wr) h4

theorem FormsKept.helloTimer (h : FormsKept d₀ d) {n : Nat} : FormsKept d₀ (d.helloTimer n) := .ite h.afterMs.setSess.sendHello h

theorem FormsKept.intComplete (h : FormsKept d₀ d) {t s : Nat} : FormsKept d₀ (d.intComplete t s).2 := by
  unfold Dev.intComplete
  split
  · exact .snd h
  · split
    · exact .snd h.popTop
    · extract_lets +onlyGivenNames info d1 d2
      have h1 : FormsKept d₀ d1 := h.wr.inc
      have h2 : FormsKept d₀ d2 := h1.setIntc
      exact .snd h2.fault

theorem FormsKept.hostComplete (h : FormsKept d₀ d) {t s : Nat} :
    FormsKept d₀ (d.hostComplete t s) := h.hostCmd (fun _ h1 => .ite h1.sayAbort (.ite h1.intComplete.sayOk h1.intComplete.sayAbort))

theorem FormsKept.hostIssue (h : FormsKept d₀ d) {op : Nat} {f : IssueFields} {tm : Timing} :
    FormsKept d₀ (d.hostIssue op f tm) := h.hostWrite

theorem FormsKept.jobCancelDone (h : FormsKept d₀ d) {s : Nat} : FormsKept d₀ (d.jobCancelDone s) := by
  unfold Dev.jobCancelDone
  split
  · extract_lets +onlyGivenNames d1
    have h1 : FormsKept d₀ d1 := .ite h.advanceTo h
    exact h1.jobUndo.setJobU.wr.setJob
  · exact h

theorem FormsKept.jobSuspendPoint (h : FormsKept d₀ d) {s : Nat} : FormsKept d₀ (d.jobSuspendPoint s) := .ite h.wr.setJobU.setJob h

theorem FormsKept.supplyRestart (h : FormsKept d₀ d) :
    FormsKept d₀ d.supplyRestart := h.nvCollapse.interrupted.forceOff.stagedGone.flEmpty.startupBegin

theorem FormsKept.lockoutEnds (h : FormsKept d₀ d) : FormsKept d₀ d.lockoutEnds := h.setSup.supplyRestart

theorem FormsKept.lockoutEnd (h : FormsKept d₀ d) : FormsKept d₀ d.lockoutEnd := .ite h.lockoutEnds h

theorem FormsKept.mainReturn (h : FormsKept d₀ d) : FormsKept d₀ d.mainReturn := .ite h h.monitorHold.mainEdge.qualify

theorem FormsKept.bmsrRead (h : FormsKept d₀ d) {v : Nat} :
    FormsKept d₀ (d.bmsrRead v) := .ite h.wr.setMdio (.ite h.wr.setMdio.setMdio (.ite h.wr.setMdio.setLink h.wr.setMdio))

theorem FormsKept.govStepUp (h : FormsKept d₀ d) : FormsKept d₀ d.govStepUp := by
  unfold Dev.govStepUp
  split
  · split
    · extract_lets +onlyGivenNames d1
      have h1 : FormsKept d₀ d1 := .ite h h.wr.setGov
      split
      · extract_lets +onlyGivenNames d2 d3
        have h2 : FormsKept d₀ d2 := h1.inc.fire
        have h3 : FormsKept d₀ d3 := h2.setGov.govRestart
        split
        · exact h3.jobDone
        · exact h3
      · exact h1
    · exact h
  · exact h

theorem FormsKept.trunkResolve (h : FormsKept d₀ d) {anlpar : Nat} :
    FormsKept d₀ (d.trunkResolve anlpar) := .ite h.wr.setLink.govStepUp (.ite h.wr.setLink.govStepUp h.setLink)

theorem FormsKept.mdioDone (h : FormsKept d₀ d) {data : Nat} : FormsKept d₀ (d.mdioDone data) := by
  unfold Dev.mdioDone
  split
  · exact h
  · extract_lets -underBinder +onlyGivenNames d1 d2 d3
    have h1 : FormsKept d₀ d1 := h.advanceTo
    have h2 : FormsKept d₀ d2 := h1.setMdio
    have h3 : FormsKept d₀ d3 := by
      unfold d3
      split
      · extract_lets +onlyGivenNames d4
        have h4 : FormsKept d₀ d4 := .ite h2.setMdio h2
        split
        · split
          · extract_lets +onlyGivenNames d5
            have h5 : FormsKept d₀ d5 := h4.setGov
            split
            · exact h5.jobProgress
            · exact h5
          · exact h4
        · exact h4
      · split
        · exact h2.wr
        · split
          · exact h2.setMdio
          · exact h2
      · exact h2.bmsrRead
      · exact .ite h2.trunkResolve h2
    exact h3.mdioKick

theorem FormsKept.mdioPoll (h : FormsKept d₀ d) : FormsKept d₀ d.mdioPoll := .ite h.afterMs.setMdio.mdioKick h

theorem FormsKept.awaitOpen (h : FormsKept d₀ d) {bs : List Nat} :
    FormsKept d₀ (d.awaitOpen bs) := h.forEach fun _ _ h1 => .ite h1.lockOpen h1

theorem FormsKept.accessOff (h : FormsKept d₀ d) {ini addr : Nat} : FormsKept d₀ (d.accessOff ini addr) := h.inc.wr.fire

theorem FormsKept.ownerRefused (h : FormsKept d₀ d) {b req ini : Nat} : FormsKept d₀ (d.ownerRefused b req ini) := h.ownerRefusedAs

theorem FormsKept.memFail (h : FormsKept d₀ d) {a : Nat} {e : Nat × Nat} :
    FormsKept d₀ (d.memFail a e) := .ite h.accessOff.seqInc.say (.sayAbort (.ite h.ownerRefused h))

theorem FormsKept.memFetch (h : FormsKept d₀ d) {a n : Nat} {ss : List Strike} {ra : Option (Nat × Oct)} :
    FormsKept d₀ (d.memFetch a n ss ra).2.2 := by
  unfold Dev.memFetch
  extract_lets +onlyGivenNames held r1 m l
  have h1 : FormsKept d₀ r1.2 := h.eccScan
  exact .snd2 h1

theorem FormsKept.readAhead (h : FormsKept d₀ d) {a n : Nat} : FormsKept d₀ (d.readAhead a n) := .ite h (.ite h.readMem.setLk h.readMem)

theorem FormsKept.memReadNow (h : FormsKept d₀ d) {a n : Nat} {ss : List Strike} {left : Option Nat} {acquire : Bool} :
    FormsKept d₀ (d.memReadNow a n ss left acquire) := by
  unfold Dev.memReadNow
  extract_lets +onlyGivenNames bs d1
  have h1 : FormsKept d₀ d1 := h.awaitOpen
  split
  · exact h1.memFail
  · extract_lets +onlyGivenNames left r2 d3 d4
    have h2 : FormsKept d₀ r2.2.2 := h1.memFetch
    have h3 : FormsKept d₀ d3 := h2
    have h4 : FormsKept d₀ d4 := by
      unfold d4
      clear_value left
      split
      · exact h3.fault
      · exact h3
    extract_lets +onlyGivenNames d5
    have h5 : FormsKept d₀ d5 := .ite h4 h4.readAhead
    exact h5.sayOk

theorem FormsKept.hostMemRead (h : FormsKept d₀ d) {a n : Nat} {ss : List Strike} {left : Option Nat} {tm : Timing} :
    FormsKept d₀ (d.hostMemRead a n ss left tm) := h.hostCmd (fun _ h1 => .ite h1.inc.busy h1.memReadNow)

theorem FormsKept.laneDone (h : FormsKept d₀ d) {i : Nat} : FormsKept d₀ (d.laneDone i) := by
  unfold Dev.laneDone
  split
  · exact h
  · exact h.setLane.freeBarges.winSettle

theorem FormsKept.winHand (h : FormsKept d₀ d) {x : LaneOp} {dst : Owner} :
    FormsKept d₀ (d.winHand x dst) := .ite (.awaitLocks (h.forEach fun _ _ h1 => h1.requestLock)) h

theorem FormsKept.atomicEnd (h : FormsKept d₀ d) {i : Nat} {x : LaneOp} {new : Option Nat} {old : Nat} :
    FormsKept d₀ (d.atomicEnd i x new old) := by
  unfold Dev.atomicEnd
  extract_lets +onlyGivenNames d1
  have h1 : FormsKept d₀ d1 := by
    unfold d1
    split
    · exact h.writeMem
    · exact h
  exact h1.winHand.respond.laneDone

theorem FormsKept.laneData (h : FormsKept d₀ d) {x : LaneOp} : FormsKept d₀ (d.laneData x).2.2 := by
  unfold Dev.laneData
  split
  · exact .snd2 h
  · extract_lets +onlyGivenNames a1
    have h1 : FormsKept d₀ a1.2.2 := h.readPlaces
    exact .snd2 h1

theorem FormsKept.opRefuse (h : FormsKept d₀ d) {i : Nat} {x : LaneOp} {status : Nat} {conflict : Bool} :
    FormsKept d₀ (d.opRefuse i x status conflict) := h.inc.towStat.fire.respond.laneDone

theorem FormsKept.atomicRead (h : FormsKept d₀ d) {i : Nat} {x : LaneOp} {ss : List Strike} : FormsKept d₀ (d.atomicRead i x ss) := by
  unfold Dev.atomicRead
  extract_lets +onlyGivenNames v1
  have h1 : FormsKept d₀ v1.2.2 := h.strike.laneData
  split
  · exact h1.opRefuse
  · exact .ite h1.winHand.readMem.winHand.opRefuse (.ite h1.winHand.readMem.atomicEnd h1.winHand.readMem.setLane)

theorem FormsKept.atomicWrite (h : FormsKept d₀ d) {i : Nat} {x : LaneOp} {o : Nat} {ss : List Strike} :
    FormsKept d₀ (d.atomicWrite i x o ss) := by
  unfold Dev.atomicWrite
  extract_lets +onlyGivenNames v1
  have h1 : FormsKept d₀ v1.2.2 := h.strike.laneData
  exact .ite h1.readMem.winHand.opRefuse (.ite h1.readMem.atomicEnd h1.readMem.free.free.atomicEnd)

theorem FormsKept.laneHead (h : FormsKept d₀ d) {i : Nat} {codes : List Nat} : FormsKept d₀ (d.laneHead i codes).2 := by
  unfold Dev.laneHead
  split
  · exact .snd h
  · split
    · exact .snd h
    · extract_lets +onlyGivenNames c
      split
      · exact .snd h.respond.laneDone
      · split
        · exact .snd h
        · split
          · exact .snd h.towMacOff
          · exact .snd (.ite h.awaitLocks h)

theorem FormsKept.opFail (h : FormsKept d₀ d) {i : Nat} {x : LaneOp} {st : Nat} : FormsKept d₀ (d.opFail i x st) := by
  unfold Dev.opFail
  extract_lets +onlyGivenNames d1
  have h1 : FormsKept d₀ d1 := .ite h.accessOff h
  exact h1.opRefuse

theorem FormsKept.laneAtomic (h : FormsKept d₀ d) {i code : Nat} {ss : List Strike} : FormsKept d₀ (d.laneAtomic i code ss) := by
  unfold Dev.laneAtomic
  split
  · rename_i d1 eq1
    have h1 : FormsKept d₀ d1 := h.laneHead.ofPair eq1
    exact h1
  · rename_i d2 eq2
    have h2 : FormsKept d₀ d2 := h.laneHead.ofPair eq2
    split
    · split
      · exact h2.opFail
      · exact h2.atomicRead
    · split
      · exact .opFail (.ite h2.winHand h2)
      · exact h2.atomicWrite

theorem FormsKept.peerDict (_ : FormsKept d₀ d) {i : Nat} {x : LaneOp} {r : DRes} (hr : FormsKept d₀ r.dev) :
    FormsKept d₀ (d.peerDict i x r) := by
  unfold Dev.peerDict
  extract_lets +onlyGivenNames idx sb ini cmd
  split
  · exact (FormsKept.settleTxn hr).dictAnswer.laneDone
  · exact (FormsKept.settleTxn hr).dictAnswer.laneDone
  · exact (FormsKept.setTow hr).laneDone

theorem FormsKept.laneDict (h : FormsKept d₀ d) {i code : Nat} : FormsKept d₀ (d.laneDict i code) := by
  unfold Dev.laneDict
  split
  · rename_i d1 eq1
    exact h.laneHead.ofPair eq1
  · rename_i d2 eq2
    have h2 : FormsKept d₀ d2 := h.laneHead.ofPair eq2
    extract_lets +onlyGivenNames d3
    have h3 : FormsKept d₀ d3 := h2.nextCk
    extract_lets +onlyGivenNames idx sb ini
    split
    · exact h3.respond.laneDone
    split
    · exact h3
    split
    · exact h3.peerDict (.txnAbort h3)
    split
    · extract_lets +onlyGivenNames v4
      have h4 : FormsKept d₀ v4.2.2 := h3.laneData
      refine h3.peerDict ?_
      split
      · exact .txnAbort h4
      · exact h4.dictWrite
    · extract_lets +onlyGivenNames r d'6
      have h6 : FormsKept d₀ d'6 := h3.peerDict h3.dictRead
      clear_value r
      split
      · exact h6.cacheRead
      · exact h6

theorem FormsKept.laneFrame (h : FormsKept d₀ d) {i : Nat} : FormsKept d₀ (d.laneFrame i) := by
  unfold Dev.laneFrame
  split
  · rename_i d1 eq1
    have h1 : FormsKept d₀ d1 := h.laneHead.ofPair eq1
    exact h1
  · rename_i d2 eq2
    have h2 : FormsKept d₀ d2 := h.laneHead.ofPair eq2
    split
    · exact h2.respond.laneDone
    · exact .ite h2.engineOff.respond.laneDone h2.deliverRx.awaitLocks.setLane.respond.laneDone

theorem FormsKept.laneRead (h : FormsKept d₀ d) {i code : Nat} {ss : List Strike} : FormsKept d₀ (d.laneRead i code ss) := by
  unfold Dev.laneRead
  split
  · rename_i d1 eq1
    have h1 : FormsKept d₀ d1 := h.laneHead.ofPair eq1
    exact h1
  · rename_i d2 eq2
    have h2 : FormsKept d₀ d2 := h.laneHead.ofPair eq2
    split
    · exact h2.opFail
    · split
      · exact h2.opRefuse
      · exact .ite h2.winHand.readMem.winHand.respond.laneDone h2.winHand.readMem.winHand.inc.towStat.fire.respond.laneDone

theorem FormsKept.laneStore (h : FormsKept d₀ d) {i : Nat} {x : LaneOp} {ss : List Strike} {pre : Dev → Dev}
    (hpre : ∀ e, FormsKept d₀ e → FormsKept d₀ (pre e)) : FormsKept d₀ (d.laneStore i x ss pre) := by
  unfold Dev.laneStore
  extract_lets +onlyGivenNames v1
  have h1 : FormsKept d₀ v1.2.2 := h.strike.laneData
  split
  · exact h1.opRefuse
  · extract_lets +onlyGivenNames a2
    have h2 : FormsKept d₀ a2.2 := h1.winHand.eccScan
    split
    · exact h2.winHand.opRefuse
    · extract_lets +onlyGivenNames d3 w d4
      have h3 : FormsKept d₀ d3 := .winHand (.writeMem (hpre _ h2))
      have h4 : FormsKept d₀ d4 := .ite h3.rsvFree h3
      exact h4.respond.laneDone

theorem FormsKept.laneReserve (h : FormsKept d₀ d) {i : Nat} {ss : List Strike} : FormsKept d₀ (d.laneReserve i ss) := by
  unfold Dev.laneReserve
  split
  · rename_i d1 eq1
    have h1 : FormsKept d₀ d1 := h.laneHead.ofPair eq1
    exact h1
  · rename_i d2 eq2
    have h2 : FormsKept d₀ d2 := h.laneHead.ofPair eq2
    split
    · exact h2.opFail
    · extract_lets +onlyGivenNames w v take
      split
      · exact h2.laneStore (fun _ h3 => h3.rsvTake)
      · exact .ite (.ite h2.opRefuse (h2.laneStore (fun _ h4 => h4.rsvFree.rsvTake))) h2.opRefuse

theorem FormsKept.backoffDraw (h : FormsKept d₀ d) : FormsKept d₀ (d.backoffDraw).2 := by
  unfold Dev.backoffDraw
  extract_lets +onlyGivenNames r1
  have h1 : FormsKept d₀ r1.2 := h.draw
  exact .snd h1

theorem FormsKept.pathResponse (h : FormsKept d₀ d) {n : Nat} {r : Oct} : FormsKept d₀ (d.pathResponse n r) := by
  unfold Dev.pathResponse
  split
  · exact h
  · split
    · exact h
    · extract_lets +onlyGivenNames d1
      have h1 : FormsKept d₀ d1 := .ite h.inc h
      exact .ite h1.towStat.backoffDraw.setTow h1.setTow.pathEnd

theorem FormsKept.cacheFill (h : FormsKept d₀ d) {peer win off : Nat} {data : Oct} :
    FormsKept d₀ (d.cacheFill peer win off data) := h.forEach fun _ _ h1 => h1.cacheDrop.setTow

theorem FormsKept.slotResponse (h : FormsKept d₀ d) {n : Nat} {r data : Oct} : FormsKept d₀ (d.slotResponse n r data) := by
  unfold Dev.slotResponse
  extract_lets +onlyGivenNames s code st
  split
  · exact h
  · split
    · exact h
    · split
      · extract_lets +onlyGivenNames d1
        have h1 : FormsKept d₀ d1 := by
          unfold d1
          split
          · exact .ite h.rsvFree h
          · exact h
        exact .ite h1.slotDone h1.towStat.backoffDraw.setOpSlot
      · split
        · extract_lets +onlyGivenNames d2 v d3
          have h2 : FormsKept d₀ d2 := .ite h.cacheFill h
          have h3 : FormsKept d₀ d3 := by
            unfold d3
            split
            · exact .ite h2 h2.writeMem
            · exact h2
          exact h3.slotDone
        · exact h.slotDone

theorem FormsKept.laneResponse (h : FormsKept d₀ d) {i : Nat} : FormsKept d₀ (d.laneResponse i) := by
  unfold Dev.laneResponse
  split
  · rename_i d1 eq1
    have h1 : FormsKept d₀ d1 := h.laneHead.ofPair eq1
    exact h1
  · rename_i d2 eq2
    have h2 : FormsKept d₀ d2 := h.laneHead.ofPair eq2
    extract_lets +onlyGivenNames v3
    have h3 : FormsKept d₀ v3.2.2 := h2.laneData
    exact .ite h3.laneDone (.ite h3.laneDone.remoteDone (.ite h3.laneDone.pathResponse h3.laneDone.slotResponse))

theorem FormsKept.laneWrite (h : FormsKept d₀ d) {i : Nat} {ss : List Strike} : FormsKept d₀ (d.laneWrite i ss) := by
  unfold Dev.laneWrite
  split
  · exact h.laneHead.ofPair ‹_›
  · rename_i d2 eq2
    have h2 : FormsKept d₀ d2 := h.laneHead.ofPair eq2
    split
    · exact h2.opFail
    · exact h2.laneStore fun _ he => he

theorem FormsKept.laneStep (h : FormsKept d₀ d) {i : Nat} : FormsKept d₀ (d.laneStep i) := by
  unfold Dev.laneStep
  split
  · exact h
  · split
    · exact h.laneRead
    · exact h.laneRead
    · exact h.laneWrite
    · exact h.laneReserve
    · exact h.laneAtomic
    · exact h.laneAtomic
    · exact h.laneAtomic
    · exact h.laneFrame
    · exact h.laneDict
    · exact h.laneDict
    · exact h.laneResponse

theorem FormsKept.laneDrain (h : FormsKept d₀ d) {i n : Nat} : FormsKept d₀ (d.laneDrain i n) := by
  induction n generalizing d with
  | zero => exact h
  | succ n ih => exact .ite (ih h.laneStep) h

theorem FormsKept.hostMemAcquire (h : FormsKept d₀ d) {a n : Nat} {ss : List Strike} {left : Option Nat} {tm : Timing} :
    FormsKept d₀ (d.hostMemAcquire a n ss left tm) := by
  unfold Dev.hostMemAcquire
  refine h.hostCmd fun d1 h1 => ?_
  split
  · exact h1.inc.busy
  · extract_lets +onlyGivenNames d2 d3
    have h2 : FormsKept d₀ d2 := h1.setLk.cacheDrop
    have h3 : FormsKept d₀ d3 := h2.forEach fun _ _ h4 => h4.laneDrain
    exact h3.memReadNow

theorem FormsKept.hostMemWrite (h : FormsKept d₀ d) {a : Nat} {data : Oct} {ss : List Strike} :
    FormsKept d₀ (d.hostMemWrite a data ss) := by
  unfold Dev.hostMemWrite
  refine h.hostCmd fun d1 h1 => ?_
  extract_lets +onlyGivenNames n d2
  have h2 : FormsKept d₀ d2 := h1.awaitOpen
  split
  · exact h2.memFail
  · exact h2.strike.writeMem.setLk.sayOk

theorem FormsKept.mergeRelease (h : FormsKept d₀ d) {g : Nat} {ss : List Strike} :
    FormsKept d₀ (d.mergeRelease g ss) := .ite h h.releasedRead.grpAdvance.heldRelease

theorem FormsKept.mergeTimeout (h : FormsKept d₀ d) {g : Nat} : FormsKept d₀ (d.mergeTimeout g) := by
  unfold Dev.mergeTimeout
  split
  · split
    · exact .ite h.afterUs.numSkip.grpAdvance.heldRelease h
    · exact h
  · exact h

theorem FormsKept.mergeWrite (h : FormsKept d₀ d) {g : Nat} : FormsKept d₀ (d.mergeWrite g) := by
  unfold Dev.mergeWrite
  extract_lets +onlyGivenNames r
  split
  · split
    · exact .ite h (.ite h.engineOff h.writeMem.wr.wr.setGrp.ringCount.headPast.grpAdvance.heldRelease)
    · exact h
  · exact h

theorem FormsKept.monitorChange (h : FormsKept d₀ d) {vbak : Option Bool} : FormsKept d₀ (d.monitorChange vbak) := by
  unfold Dev.monitorChange
  split
  · exact h
  · split
    · split
      · exact h.holdCk.tick.setSup
      · exact h
    · exact h.setAon.setSup

theorem FormsKept.nvLoad (h : FormsKept d₀ d) {f : LoadFound} : FormsKept d₀ (d.nvLoad f) := by
  unfold Dev.nvLoad
  extract_lets +onlyGivenNames d1
  have h1 : FormsKept d₀ d1 := by
    unfold d1
    split
    · exact .ite h.setNv h.setNv
    · exact .ite h.setHome h
    · exact h
  extract_lets +onlyGivenNames d2 cut bad ok d3 res d4 d5 d6
  have h2 : FormsKept d₀ d2 := h1.setNv
  have h3 : FormsKept d₀ d3 := h2.loadShadow
  have h4 : FormsKept d₀ d4 := h3.wr.wr
  have h5 : FormsKept d₀ d5 := h4.wr.wr.wr
  have h6 : FormsKept d₀ d6 := h5.forEach fun _ _ h7 => h7.fault.fire
  exact .ite h6 h6.fault.fire

theorem FormsKept.loadDone (h : FormsKept d₀ d) {f : LoadFound} :
    FormsKept d₀ (d.loadDone f) := .ite h (.ite h.afterUs.nvLoad.setAon.step5End h.afterUs.nvLoad.setAon)

theorem FormsKept.omGap (h : FormsKept d₀ d) {o : Nat} : FormsKept d₀ (d.omGap o) := .ite h.afterMs.omNow h

theorem FormsKept.omPeriod (h : FormsKept d₀ d) {o : Nat} : FormsKept d₀ (d.omPeriod o) := .ite h h.advanceTo.setOm.omSend

theorem FormsKept.oscStable (h : FormsKept d₀ d) : FormsKept d₀ d.oscStable := by
  unfold Dev.oscStable
  split
  · exact h
  · extract_lets +onlyGivenNames d1 d2
    have h1 : FormsKept d₀ d1 := h.setAon.setSup
    have h2 : FormsKept d₀ d2 := .ite h1.setAon h1
    exact h2.wakeNow

theorem FormsKept.scanFrees (h : FormsKept d₀ d) {b : Nat} :
    FormsKept d₀ (d.scanFrees b) := .ite h.setBarge.zeroFrom h.setBarge.pushLock

theorem FormsKept.scanDone (h : FormsKept d₀ d) {bk : Nat} : FormsKept d₀ (d.scanDone bk) := by
  unfold Dev.scanDone
  split
  · exact h
  refine .ite h ?_
  extract_lets +onlyGivenNames d1 _ d2 recs d3
  have h1 : FormsKept d₀ d1 := h.advanceTo
  have h2 : FormsKept d₀ d2 := .same h1 rfl
  suffices h3 : FormsKept d₀ d3 from h3.watchPounds
  refine h2.forEach_records (fun x e hx he hrec => ?_) (fun x e c hc => ?_) fun w =>
    ⟨(h2.frees w).1.filter _, fun x hx => Dev.barge_of_mem (h2.frees w).1 (List.mem_of_mem_filter hx)⟩
  · split
    · rename_i hfree
      split
      · refine .ite he (he.addFree (fun _ => List.nodup_singleton _) fun w b hb => ?_)
        simp only [Bool.and_eq_true, beq_iff_eq] at hfree
        rw [List.mem_singleton.1 hb, hrec w]
        exact ⟨by simpa using (List.mem_filter.1 hx).2, hfree.1⟩
      · exact he.requestLock
    · exact .ite he.scanFrees he
  · split
    · split
      · split
        · rfl
        · rfl
      · exact e.barge_requestLock ..
    · split
      · exact e.barge_scanFrees_other hc
      · rfl

theorem FormsKept.pauseRefresh (h : FormsKept d₀ d) {p : Nat} : FormsKept d₀ (d.pauseRefresh p) := by
  unfold Dev.pauseRefresh
  split
  · exact .ite h.afterUs.askPause.setMac h
  · exact h

theorem FormsKept.strikeReset (h : FormsKept d₀ d) {p : Nat} : FormsKept d₀ (d.strikeReset p) := by
  unfold Dev.strikeReset
  split
  · exact .ite h.afterUs.setMac h
  · exact h

theorem FormsKept.pauseExpire (h : FormsKept d₀ d) {p : Nat} : FormsKept d₀ (d.pauseExpire p) := by
  unfold Dev.pauseExpire
  split
  · exact h.advanceTo.pauseZero
  · exact h

theorem FormsKept.pauseBreak (h : FormsKept d₀ d) {p : Nat} : FormsKept d₀ (d.pauseBreak p) := by
  unfold Dev.pauseBreak
  split
  · exact .ite h (.ite h.afterUs.setMac.inc.fire.setMac.fire h.afterUs.setMac.inc.fire)
  · exact h

theorem FormsKept.beaconLoss (h : FormsKept d₀ d) {p : Nat} : FormsKept d₀ (d.beaconLoss p) := by
  unfold Dev.beaconLoss
  split
  · exact .ite h.advanceTo.setSeg.plcaBit.setLink h
  · exact h

theorem FormsKept.countTo (h : FormsKept d₀ d) {p j t : Nat} : FormsKept d₀ (d.countTo p j t) := h.setSeg

theorem FormsKept.beaconRecv (h : FormsKept d₀ d) {p : Nat} :
    FormsKept d₀ (d.beaconRecv p) :=
  .ite h (.ite (.ite h h.setSeg.plcaBit.plcaBit.plcaBit.inc.fire.setLink) h.setSeg.countTo.plcaBit.setLink)

theorem FormsKept.holdEnd (h : FormsKept d₀ d) {p t0 : Nat} : FormsKept d₀ (d.holdEnd p t0) := h.wr.advanceTo

theorem FormsKept.oppBegin (h : FormsKept d₀ d) {p t0 : Nat} : FormsKept d₀ (d.oppBegin p t0) := h.setSeg.countTo

theorem FormsKept.yieldClear (h : FormsKept d₀ d) {p : Nat} : FormsKept d₀ (d.yieldClear p) := h.setSeg.wr

theorem FormsKept.beaconSend (h : FormsKept d₀ d) {p : Nat} : FormsKept d₀ (d.beaconSend p) := by
  unfold Dev.beaconSend
  split
  · extract_lets +onlyGivenNames d1
    have h1 : FormsKept d₀ d1 := .ite h.setSeg (.yieldClear (.ite h.holdEnd h))
    exact h1.plcaBit.plcaBit.setLink.oppBegin
  · exact h

theorem FormsKept.idConflict (h : FormsKept d₀ d) {p : Nat} : FormsKept d₀ (d.idConflict p) := .ite h.plcaBit.setSeg.inc.fire h

theorem FormsKept.idConflictClear (h : FormsKept d₀ d) {p : Nat} : FormsKept d₀ (d.idConflictClear p) := by
  unfold Dev.idConflictClear
  split
  · exact h.afterMs.plcaBit.setSeg
  · exact h

theorem FormsKept.pllLoss (h : FormsKept d₀ d) : FormsKept d₀ d.pllLoss := by
  unfold Dev.pllLoss
  split
  · exact h
  · exact .ite h.inc.setAon.resetDomains.stagedGone.wr.pllRun h.inc.setAon.resetDomains.stagedGone.startupBegin.pllStep

theorem FormsKept.pllTimeout (h : FormsKept d₀ d) : FormsKept d₀ d.pllTimeout := by
  unfold Dev.pllTimeout
  split
  · exact h.afterUs.inc.setAon
  · exact h

theorem FormsKept.pllLocked (h : FormsKept d₀ d) : FormsKept d₀ d.pllLocked := by
  unfold Dev.pllLocked
  split
  · exact h
  · exact .ite h.setAon.coreStep h.setAon

theorem FormsKept.podlSet (h : FormsKept d₀ d) {st : Nat} : FormsKept d₀ (d.podlSet st) := .ite h h.wr.inc.fire.latch

theorem FormsKept.podlClassify (h : FormsKept d₀ d) {ohms : Option Nat} {asked : Bool} : FormsKept d₀ (d.podlClassify ohms asked) := by
  unfold Dev.podlClassify
  split
  · exact h
  · split
    · exact h.wr.podlSet
    · split
      · exact .ite h.wr.podlSet.podlSet h.wr.podlSet
      · exact h.wr.podlSet

theorem FormsKept.podlRamped (h : FormsKept d₀ d) : FormsKept d₀ d.podlRamped := .ite h.podlSet h

theorem FormsKept.podlPower (h : FormsKept d₀ d) : FormsKept d₀ d.podlPower := .ite h.podlSet h

theorem FormsKept.podlOff (h : FormsKept d₀ d) : FormsKept d₀ d.podlOff := .ite h.podlSet h

theorem FormsKept.porEnd (h : FormsKept d₀ d) : FormsKept d₀ d.porEnd := .ite h.setAon.startupBegin h

theorem FormsKept.verified (h : FormsKept d₀ d) {b : Nat} {bad : Bool} :
    FormsKept d₀ (d.verified b bad) := .ite h.setBarge.inc.fire h.setBarge

theorem FormsKept.poundEnabled (h : FormsKept d₀ d) {p : Nat} {stuck : List Nat} : FormsKept d₀ (d.poundEnabled p stuck) := by
  unfold Dev.poundEnabled
  extract_lets -underBinder +onlyGivenNames bs left
  have nodup : left.Nodup := (d.poundOnBarges_nodup p).filter _
  refine .ite ?_ h
  extract_lets -underBinder +onlyGivenNames since d1 d2 d3
  have h1 : FormsKept d₀ d1 := h.advanceTo
  have h1' : FormsKept d₀ (d1.setPm (fun m => { m with zeroAt := m.zeroAt.filter (fun e => !left.contains e.1) })) := .setPm h1 rfl
  have h2 : FormsKept d₀ d2 := h1'.forEach fun _ _ he => he.zeroBarge.verified.setBarge
  have freed (w : d₀.freesKept) : ∀ b ∈ left, (d2.barge b).retired = false → (d2.barge b).owner = .free := by
    refine forEach_establishes (I := Dev.freesKept) (P := fun b e => (e.barge b).retired = false → (e.barge b).owner = .free)
      (fun b e he => ?_) (fun b e he => ?_) (fun b c e hbc he => ?_) (h1'.frees w)
    · exact ((FormsKept.refl e).zeroBarge.verified.setBarge).frees he
    · rw [Dev.barge_setBarge (((FormsKept.refl e).zeroBarge.verified).frees he)]
      intro hr
      simp only at hr ⊢
      simp [hr]
    · rw [Dev.barge_setBarge_other _ hbc, Dev.barge_verified_other _ hbc]
      exact he
  have h3 : FormsKept d₀ d3 ∧ (d₀.freesKept → ∀ b ∈ left, (d3.barge b).retired = false → (d3.barge b).owner = .free) := by
    refine forEach_invariant (I := fun e => FormsKept d₀ e ∧
      (d₀.freesKept → ∀ b ∈ left, (e.barge b).retired = false → (e.barge b).owner = .free)) ⟨h2, freed⟩ fun bk e he => ?_
    obtain ⟨kept, owners⟩ := he
    refine ⟨kept.addFree (fun _ => nodup.filter _) fun w b hb => ?_, owners⟩
    obtain ⟨hb, key⟩ := List.mem_filter.1 hb
    simp only [Bool.and_eq_true, beq_iff_eq, Bool.not_eq_true'] at key
    exact ⟨key.1, owners w b hb key.2⟩
  exact h3.1.poundReady

theorem FormsKept.scrubBarge (h : FormsKept d₀ d) {s : Nat} {ss : List Strike} : FormsKept d₀ (d.scrubBarge s ss) := by
  unfold Dev.scrubBarge
  extract_lets +onlyGivenNames p i tot pace at_ ends
  split
  · exact h
  · split
    · exact h.jobLast (fun _ h1 => .ite h1.jobFail h1.jobDone)
    · extract_lets +onlyGivenNames b
      split
      · exact h
      · extract_lets +onlyGivenNames d2 r3 d4
        have h2 : FormsKept d₀ d2 := h.advanceTo
        have h3 : FormsKept d₀ r3.2.2 := h2.readMem
        have h4 : FormsKept d₀ d4 := h3.setJobU.jobProgress
        exact .ite (h4.jobProgress.jobLast (fun _ h5 => .ite h5.jobFail h5.jobDone)) h4

theorem FormsKept.porReset : FormsKept d₀ d.porReset := by
  obtain ⟨-, mem, store, frees⟩ := invariantsAtReset
  exact ⟨fun _ => mem, fun _ => store, fun _ => frees.eq rfl rfl⟩

theorem FormsKept.pps (h : FormsKept d₀ d) : FormsKept d₀ d.pps := .ite (.ite h.tick.inc.fire.latch.setChan h.tick.inc.fire.latch) h

theorem FormsKept.sluTo (h : FormsKept d₀ d) {t : Nat} : FormsKept d₀ (d.sluTo t) := h.advanceTo

theorem FormsKept.pwmPeriod (h : FormsKept d₀ d) {k : Nat} : FormsKept d₀ (d.pwmPeriod k) := .ite h.sluTo.setSluOut h

theorem FormsKept.loadAtMain (h : FormsKept d₀ d) : FormsKept d₀ d.loadAtMain := .ite (.ite h.setAon h.setAon.placeReq.setAon) h

theorem FormsKept.mainEntered (h : FormsKept d₀ d) : FormsKept d₀ d.mainEntered := by
  unfold Dev.mainEntered
  extract_lets +onlyGivenNames first d1
  have h1 : FormsKept d₀ d1 := h.setSup.selEnter
  exact .ite (.ite h1 h1.lockoutEnds) (.ite (.ite h1.pllStep h1) (.ite h1.supplyRestart h1.loadAtMain))

theorem FormsKept.qualifyExpiry (h : FormsKept d₀ d) : FormsKept d₀ d.qualifyExpiry := .ite h h.afterMs.mainEntered

theorem FormsKept.hostReissue (h : FormsKept d₀ d) {cmd tag : Nat} : FormsKept d₀ (d.hostReissue cmd tag) := by
  unfold Dev.hostReissue
  refine h.hostCmd fun d1 h1 => ?_
  split
  · exact h1.linkAbort
  · split
    · exact h1.seqInc.say
    · exact h1.setSlot.sayRes

theorem FormsKept.backoffExpiry (h : FormsKept d₀ d) {n tag : Nat} : FormsKept d₀ (d.backoffExpiry n tag) := by
  unfold Dev.backoffExpiry
  split
  · exact h
  · split
    · exact h.towMacOff
    · split
      · split
        · exact h
        · split
          · exact h
          · exact h.advanceTo.setTow.launch
      · split
        · exact h
        · split
          · exact h
          · exact .ite h h.advanceTo.setOpSlot.launch

theorem FormsKept.resetNAssert (h : FormsKept d₀ d) {held : Nat} :
    FormsKept d₀ (d.resetNAssert held) := .ite h (.ite h.tick h.tick.setAon.resetDomains.stagedGone.wr)

theorem FormsKept.resetNRelease (h : FormsKept d₀ d) : FormsKept d₀ d.resetNRelease := .ite h h.setAon.tick.startupBegin.pllStep

theorem FormsKept.ringCoalTimeout (h : FormsKept d₀ d) {r : Nat} : FormsKept d₀ (d.ringCoalTimeout r) := by
  unfold Dev.ringCoalTimeout
  split
  · exact .ite h h.afterUs.ringEvent
  · exact h

theorem FormsKept.ringStopped (h : FormsKept d₀ d) {r : Nat} : FormsKept d₀ (d.ringStopped r) := .ite (.ite h.ringFlush (.ite h.wr h)) h

theorem FormsKept.rsvExpiry (h : FormsKept d₀ d) {w : Nat} : FormsKept d₀ (d.rsvExpiry w) := by
  unfold Dev.rsvExpiry
  split
  · exact .ite h.afterMs.rsvFree h
  · exact h

theorem FormsKept.numWritten (h : FormsKept d₀ d) {num : Option (Nat × Nat)} {slot : Nat} : FormsKept d₀ (d.numWritten num slot) := by
  unfold Dev.numWritten
  split
  · exact h.setNum
  · exact h

theorem FormsKept.rxWrite (h : FormsKept d₀ d) {r : Nat} : FormsKept d₀ (d.rxWrite r) := by
  unfold Dev.rxWrite
  split
  · exact h
  · exact .ite h (.ite h.setRing.freeBarges.inc.numDropped (.ite h h.writeMem.numWritten.wr.wr.setRing.ringCount))

theorem FormsKept.safeAssert (h : FormsKept d₀ d) {us : Nat} :
    FormsKept d₀ (d.safeAssert us) := .ite (h.setSlu.fire.forEach fun _ _ h1 => h1.sluEvent (fun _ h2 => h2.sluGo)) h

theorem FormsKept.safeRelease (h : FormsKept d₀ d) {us : Nat} :
    FormsKept d₀ (d.safeRelease us) := .ite (h.setSlu.fire.forEach fun _ _ h1 => h1.sluEvent (fun _ h2 => h2.sluGo)) h

theorem FormsKept.giveUp (h : FormsKept d₀ d) {p att : Nat} : FormsKept d₀ (d.giveUp p att) := by
  unfold Dev.giveUp
  extract_lets +onlyGivenNames s d1
  have h1 : FormsKept d₀ d1 := h.setMac
  clear_value s
  split
  · exact h1.setChain.endChain
  · clear_value d1
    cases (d1.mac p).towq.head? with
    | none => exact h1
    | some f => exact h1.towTxGone
  · exact h1

theorem FormsKept.collision (h : FormsKept d₀ d) {p : Nat} {late deferred : Bool} : FormsKept d₀ (d.collision p late deferred) := by
  unfold Dev.collision
  refine .ite h ?_
  extract_lets +onlyGivenNames n d1
  have h1 : FormsKept d₀ d1 := .ite h.cnt h
  extract_lets +onlyGivenNames d2
  have h2 : FormsKept d₀ d2 := h1.oppEnd.cnt
  extract_lets +onlyGivenNames d3
  have h3 : FormsKept d₀ d3 := .ite h2.cnt h2
  exact .ite h3.giveUp (.ite (.giveUp (.ite h3 h3.cnt)) h3.draw.setMac)

theorem FormsKept.sgEstimate (h : FormsKept d₀ d) {p j : Nat} {o : Int} : FormsKept d₀ (d.sgEstimate p j o) := by
  unfold Dev.sgEstimate
  extract_lets +onlyGivenNames o k v e n d1 d2
  have h1 : FormsKept d₀ d1 := h.wr.setSeg
  have h2 : FormsKept d₀ d2 := .ite h1.inc h1
  exact h2.selfUpdate

theorem FormsKept.sgMeasure (h : FormsKept d₀ d) {p j : Nat} {o : Int} : FormsKept d₀ (d.sgMeasure p j o) := by
  unfold Dev.sgMeasure
  split
  · extract_lets +onlyGivenNames late e1
    have h1 : FormsKept d₀ e1 := .ite h.setSeg h
    exact h1.sgEstimate.countTo
  · exact h

theorem FormsKept.sgDriftExpiry (h : FormsKept d₀ d) {p j : Nat} : FormsKept d₀ (d.sgDriftExpiry p j) := by
  unfold Dev.sgDriftExpiry
  split
  · exact h.afterMs.setSeg.wr.selfUpdate
  · exact h

theorem FormsKept.sgHoldExpiry (h : FormsKept d₀ d) {p : Nat} :
    FormsKept d₀ (d.sgHoldExpiry p) := .ite h.beaconSend (.ite h.holdEnd.yieldClear.oppBegin h)

theorem FormsKept.sgYield (h : FormsKept d₀ d) {p : Nat} {into : Option Nat} : FormsKept d₀ (d.sgYield p into) := by
  unfold Dev.sgYield
  extract_lets +onlyGivenNames s
  split
  · extract_lets +onlyGivenNames n d1 d2
    have h1 : FormsKept d₀ d1 := h.inc.wr
    have h2 : FormsKept d₀ d2 := by
      unfold d2
      split
      · exact h1.sgEstimate
      · exact h1
    exact .ite h2.setSeg.countTo.wr.inc.fire h2.setSeg.countTo
  · exact h

theorem FormsKept.sigStale (h : FormsKept d₀ d) {k : Nat} : FormsKept d₀ (d.sigStale k) := by
  unfold Dev.sigStale
  split
  · exact h
  · exact .ite h h.afterMs.putSig.inc.fire

theorem FormsKept.slotTimeout (h : FormsKept d₀ d) {s : Nat} : FormsKept d₀ (d.slotTimeout s) := by
  unfold Dev.slotTimeout
  split
  · split
    · exact h
    · extract_lets +onlyGivenNames d1 d2
      have h1 : FormsKept d₀ d1 := h.afterMs
      have h2 : FormsKept d₀ d2 := .ite h1.setLk h1.setLk
      exact h2.settleTxn.slotReady
  · exact h

theorem FormsKept.slotExpiry (h : FormsKept d₀ d) {s : Nat} : FormsKept d₀ (d.slotExpiry s) := by
  unfold Dev.slotExpiry
  split
  · split
    · extract_lets +onlyGivenNames d1
      have h1 : FormsKept d₀ d1 := h.afterMs.setSlot.inc
      split
      · exact h1.slotAbort
      · exact h1
    · exact h
  · exact h

theorem FormsKept.sluTimer (h : FormsKept d₀ d) {t k rank : Nat} {admits : Nat → Bool} {act : Dev → Dev}
    (hact : ∀ e, FormsKept d₀ e → FormsKept d₀ (act e)) : FormsKept d₀ (d.sluTimer t k rank admits act) :=
  .tick (h.sluTo.sluEvent (fun _ h1 => hact _ h1))

theorem FormsKept.sluCoastEnd (h : FormsKept d₀ d) {k : Nat} : FormsKept d₀ (d.sluCoastEnd k) := by
  unfold Dev.sluCoastEnd
  split
  · exact .ite (h.sluTimer (fun _ h1 => h1.sluGo)) h
  · exact h

theorem FormsKept.sluHbTimeout (h : FormsKept d₀ d) {k : Nat} :
    FormsKept d₀ (d.sluHbTimeout k) := .ite (h.sluTimer (fun _ h1 => h1.inc.sluGo)) h

theorem FormsKept.sluHoldElapsed (h : FormsKept d₀ d) {k : Nat} :
    FormsKept d₀ (d.sluHoldElapsed k) := .ite (h.sluTimer (fun _ h1 => h1.sluCoast)) h

theorem FormsKept.sluTick (h : FormsKept d₀ d) :
    FormsKept d₀ d.sluTick := .ite (h.sluTo.setSlu.forEach fun _ _ h1 => h1.setLevel.setSluOut) h

theorem FormsKept.hostPoll (h : FormsKept d₀ d) : FormsKept d₀ d.hostPoll := .ite h.say.setLk h.silent

theorem FormsKept.stretchEnd (h : FormsKept d₀ d) : FormsKept d₀ d.stretchEnd := by
  unfold Dev.stretchEnd
  split
  · exact .ite h.afterMs.setSup h
  · exact h

theorem FormsKept.bounce (h : FormsKept d₀ d) {dt : Nat} :
    FormsKept d₀ (d.bounce dt) := .ite h (.ite h.advanceTo.mainEdge.inc.selEnter.setSup.fire h.advanceTo.mainEdge.inc.selEnter.setSup)

theorem FormsKept.shedOne (h : FormsKept d₀ d) {n : Nat} : FormsKept d₀ (d.shedOne n) := .ite h (.ite h.placeReq.setDom h.placeReq)

theorem FormsKept.sluDown (h : FormsKept d₀ d) : FormsKept d₀ d.sluDown := h.sluExternal

theorem FormsKept.supplyDown (h : FormsKept d₀ d) {vbakOk : Bool} : FormsKept d₀ (d.supplyDown vbakOk) := by
  unfold Dev.supplyDown
  split
  · exact h
  · extract_lets +onlyGivenNames d1 d2 d3
    have h1 : FormsKept d₀ d1 := h.monitorHold
    have h2 : FormsKept d₀ d2 := h1.inc.wr.wr
    have h3 : FormsKept d₀ d3 := h2.setSup
    exact .ite (h3.mainEdge.selEnter.sluDown.setNv.forEach fun _ _ h4 => h4.shedOne) h3.mainEdge.selEnter.sluDown.setNv

theorem FormsKept.t1lLink (h : FormsKept d₀ d) {up able req : Bool} {far : Nat} {draw : Bool} :
    FormsKept d₀ (d.t1lLink up able req far draw) := by
  unfold Dev.t1lLink
  split
  · exact h
  · split
    · extract_lets +onlyGivenNames an c hi ms d1
      have h1 : FormsKept d₀ d1 := .ite h h.setMac
      exact h1.wr.setLink
    · exact .ite h.setLink h

theorem FormsKept.t1lSqi (h : FormsKept d₀ d) {sqi mse : Nat} : FormsKept d₀ (d.t1lSqi sqi mse) := .ite h.afterMs.setMac.wr.wr h

theorem FormsKept.tablePut (h : FormsKept d₀ d) {n : Nat} {l : Oct} :
    FormsKept d₀ (d.tablePut n l) := .ite h.genPut (.ite h.setImg.brgFresh h.setImg)

theorem FormsKept.tableLoadDone (h : FormsKept d₀ d) {s : Nat} {readOk : Bool} : FormsKept d₀ (d.tableLoadDone s readOk) := by
  unfold Dev.tableLoadDone
  split
  · extract_lets +onlyGivenNames u l stored count headBad d1
    have h1 : FormsKept d₀ d1 := h.advanceTo.jobProgress
    exact .ite (.ite h1 (.jobFail (.jobUnclaim (.ite h1.fire h1)))) h1.tablePut.jobDone
  · exact h

theorem FormsKept.tachoEdge (h : FormsKept d₀ d) {t : Nat} : FormsKept d₀ (d.tachoEdge t) := .ite h h.wr.setTacho

theorem FormsKept.stall (h : FormsKept d₀ d) {t k : Nat} : FormsKept d₀ (d.stall t k) := by
  unfold Dev.stall
  exact h.wr.inc.fire.latch.sluEvent (fun _ h1 => h1.sluGo)

theorem FormsKept.tachoWindow (h : FormsKept d₀ d) {t : Nat} : FormsKept d₀ (d.tachoWindow t) := by
  unfold Dev.tachoWindow
  split
  · extract_lets +onlyGivenNames due d1 rpm d2 d3 x lim counts run d4 d5
    have h1 : FormsKept d₀ d1 := h.sluTo
    have h2 : FormsKept d₀ d2 := h1.wr
    have h3 : FormsKept d₀ d3 := .ite h2.brgEnter h2
    have h4 : FormsKept d₀ d4 := .ite h3.stall.setTacho h3
    have h5 : FormsKept d₀ d5 := .ite h4.wr h4
    exact h5.winStart
  · exact h

theorem FormsKept.tallyPeriod (h : FormsKept d₀ d) :
    FormsKept d₀ d.tallyPeriod := .ite (.ite h.boundary (h.tick.boundaryCk (fun _ h1 => h1.boundary))) h

theorem FormsKept.tempSample (h : FormsKept d₀ d) {c : Int} : FormsKept d₀ (d.tempSample c) := by
  unfold Dev.tempSample
  split
  · exact h
  · extract_lets +onlyGivenNames d1
    have h1 : FormsKept d₀ d1 := h.advanceTo
    exact .ite h1.setAon.wr.setAon (.ite (.ite h1.setAon.wr.setAon h1.setAon.setAon) h1.setAon.setAon)

theorem FormsKept.sendAck (h : FormsKept d₀ d) {n : Nat} : FormsKept d₀ (d.sendAck n) := h.sendCtl

theorem FormsKept.ackDelay (h : FormsKept d₀ d) {n : Nat} : FormsKept d₀ (d.ackDelay n) := by
  unfold Dev.ackDelay
  split
  · exact .ite h.afterUs.sendAck h
  · exact h

theorem FormsKept.ackTaken (h : FormsKept d₀ d) {n ack : Nat} : FormsKept d₀ (d.ackTaken n ack) := by
  unfold Dev.ackTaken
  split
  · exact h
  · exact .ite h h.towGive.setSess.setUnacked.towPump

theorem FormsKept.ackRx (h : FormsKept d₀ d) : FormsKept d₀ d.ackRx := by
  unfold Dev.ackRx
  split
  · rename_i d1 eq1
    have h1 : FormsKept d₀ d1 := h.towHead.ofPair eq1
    exact h1
  · rename_i d2 eq2
    have h2 : FormsKept d₀ d2 := h.towHead.ofPair eq2
    extract_lets +onlyGivenNames o
    split
    · exact h2
    · exact .ite h2.heard.towStat h2.heard.ackTaken

theorem FormsKept.scratchWrite (h : FormsKept d₀ d) {p : Nat} {v : Oct} : FormsKept d₀ (d.scratchWrite p v) := by
  unfold Dev.scratchWrite
  extract_lets +onlyGivenNames b i need d1
  have h1 : FormsKept d₀ d1 := .ite h.writeMem h.engineOff
  exact h1.setLane

theorem FormsKept.dataRx (h : FormsKept d₀ d) : FormsKept d₀ d.dataRx := by
  unfold Dev.dataRx
  split
  · rename_i d1 eq1
    have h1 : FormsKept d₀ d1 := h.towHead.ofPair eq1
    exact h1
  · rename_i d2 eq2
    have h2 : FormsKept d₀ d2 := h.towHead.ofPair eq2
    extract_lets +onlyGivenNames o
    split
    · exact h2
    · extract_lets +onlyGivenNames d3
      have h3 : FormsKept d₀ d3 := h2.heard
      split
      · exact h3.towStat
      · extract_lets +onlyGivenNames d4 body q
        have h4 : FormsKept d₀ d4 := h3.ackTaken
        split
        · extract_lets +onlyGivenNames data d5
          have h5 : FormsKept d₀ d5 := .ite h4 h4.engineOff
          split
          · exact h5.towStat.sendAck
          · split
            · rename_i d6 eq6
              have h6 : FormsKept d₀ d6 := h5.towAlloc.ofPair eq6
              exact h6.fillBarges.scratchWrite.setLane.setSeqs.setSess
            · rename_i d7 eq7
              have h7 : FormsKept d₀ d7 := h5.towAlloc.ofPair eq7
              exact h7.towStat.sendAck
        · exact .ite h4.towStat.sendAck h4.sendAck

theorem FormsKept.deadTimeout (h : FormsKept d₀ d) {n : Nat} : FormsKept d₀ (d.deadTimeout n) := .ite h.afterMs.sessLost h

theorem FormsKept.forward (h : FormsKept d₀ d) : FormsKept d₀ d.forward := by
  unfold Dev.forward
  split
  · rename_i d1 eq1
    have h1 : FormsKept d₀ d1 := h.towHead.ofPair eq1
    exact h1
  · rename_i d2 eq2
    have h2 : FormsKept d₀ d2 := h.towHead.ofPair eq2
    extract_lets +onlyGivenNames o drop
    split
    · exact h2.towStat.fire
    · split
      · exact h2.towStat.fire
      · extract_lets +onlyGivenNames f
        split
        · rename_i d3 eq3
          have h3 : FormsKept d₀ d3 := h2.towAlloc.ofPair eq3
          exact h3.fillBarges.queueTow.towStat
        · rename_i d4 eq4
          have h4 : FormsKept d₀ d4 := h2.towAlloc.ofPair eq4
          exact h4.towStat.fire

theorem FormsKept.keepalive (h : FormsKept d₀ d) {n : Nat} : FormsKept d₀ (d.keepalive n) := .ite h.advanceTo.sendAck h

theorem FormsKept.resend (h : FormsKept d₀ d) {n : Nat} {f : TowFrame} : FormsKept d₀ (d.resend n f) := by
  unfold Dev.resend
  extract_lets +onlyGivenNames len
  split
  · exact .ite h h.writeMem.sendTow
  · exact h

theorem FormsKept.rtoExpiry (h : FormsKept d₀ d) {n : Nat} : FormsKept d₀ (d.rtoExpiry n) := by
  unfold Dev.rtoExpiry
  split
  · exact h
  · split
    · exact h
    · extract_lets +onlyGivenNames d1 run d2 d3
      have h1 : FormsKept d₀ d1 := h.afterUs.towStat
      have h2 : FormsKept d₀ d2 := h1.setSess
      have h3 : FormsKept d₀ d3 := .ite h2.fire h2
      split
      · exact h3.sessLost
      · extract_lets +onlyGivenNames d4
        have h4 : FormsKept d₀ d4 := h3.forEach fun _ _ h5 => h5.resend
        exact h4.setSess

theorem FormsKept.transitTimeout (h : FormsKept d₀ d) : FormsKept d₀ d.transitTimeout := by
  unfold Dev.transitTimeout
  split
  · split
    · extract_lets +onlyGivenNames d1 d2
      have h1 : FormsKept d₀ d1 := h.afterMs
      have h2 : FormsKept d₀ d2 := .ite h1.clsSwitch (.ite h1.transitBack h1.wr.setCls)
      exact h2.fire
    · exact h
  · exact h

theorem FormsKept.oppWatch (h : FormsKept d₀ d) {p : Nat} : FormsKept d₀ (d.oppWatch p) := .ite h.setSeg h

theorem FormsKept.txSelect (h : FormsKept d₀ d) {p : Nat} :
    FormsKept d₀ (d.txSelect p) := .ite h.oppWatch.setMac (.ite h.oppWatch.setMac h.oppWatch)

theorem FormsKept.wakeEdge (h : FormsKept d₀ d) {n : Nat} : FormsKept d₀ (d.wakeEdge n) := by
  unfold Dev.wakeEdge
  split
  · exact h.latch.fire
  · split
    · exact h.latch.monitorChange
    · split
      · exact .ite h.mainEdge (.ite h.mainReturn h.mainEdge)
      · exact h.bounce
      · exact h.mainEdge

theorem FormsKept.joinFree (h : FormsKept d₀ d) {b : Nat} : FormsKept d₀ (d.joinFree b) := by
  unfold Dev.joinFree
  split
  · refine (h.setBarge.addFree (fun _ => List.nodup_singleton b) fun w c hc => ?_).watchPound
    rw [List.mem_singleton.1 hc, Dev.barge_setBarge (h.frees w)]
    exact ⟨rfl, rfl⟩
  · exact h.setBarge

theorem FormsKept.zeroingDone (h : FormsKept d₀ d) {b : Nat} {stuck : List Nat} : FormsKept d₀ (d.zeroingDone b stuck) := by
  unfold Dev.zeroingDone
  extract_lets +onlyGivenNames r
  split
  · extract_lets +onlyGivenNames since d1 d2
    have h1 : FormsKept d₀ d1 := h.advanceTo.zeroBarge
    have h2 : FormsKept d₀ d2 := .verified (.setPm h1 rfl)
    exact .ite h2 h2.joinFree
  · exact h

end

/-! #### The commands and the steps -/

/-- Every command runs an effect on the device that keeps the forms. -/
theorem exec_run_formsKept (c : Instr) :
    ∃ f : Dev → Dev, (∀ s, exec c s = State.run c s f) ∧ ∀ d₀ d, FormsKept d₀ d → FormsKept d₀ (f d) := by
  cases c
  case pllLockLoss => exact ⟨_, exec_pllLockLoss, fun _ _ h => h.pllLoss⟩
  case crystalStop => exact ⟨_, exec_crystalStop, fun _ _ h => h.crystalStop⟩
  case crystalRestart => exact ⟨_, exec_crystalRestart, fun _ _ h => h.crystalRestart⟩
  case dictRead idx sub off len tm => exact ⟨_, exec_dictRead idx sub off len tm, fun _ _ h => h.hostStart.hostRead⟩
  case dictWrite idx sub ty off data tm => exact ⟨_, exec_dictWrite idx sub ty off data tm, fun _ _ h => h.hostStart.hostWrite⟩
  case domainSegment img off data tm => exact ⟨_, exec_domainSegment img off data tm, fun _ _ h => h.hostStart.hostWrite⟩
  case imageCheckDone img => exact ⟨_, exec_imageCheckDone img, fun _ _ h => h.imgCheckDone⟩
  case domainTransferTimeout img => exact ⟨_, exec_domainTransferTimeout img, fun _ _ h => h.imgTimeout⟩
  case queryAddr v tm => exact ⟨_, exec_queryAddr v tm, fun _ _ h => h.hostStart.hostPut⟩
  case memRead addr len strikes left tm => exact ⟨_, exec_memRead addr len strikes left tm, fun _ _ h => h.hostStart.hostMemRead⟩
  case memWrite addr data strikes => exact ⟨_, exec_memWrite addr data strikes, fun _ _ h => h.hostStart.hostMemWrite⟩
  case memReadAcquire addr len strikes left tm =>
    exact ⟨_, exec_memReadAcquire addr len strikes left tm, fun _ _ h => h.hostStart.hostMemAcquire⟩
  case statusPoll => exact ⟨_, exec_statusPoll, fun _ _ h => h.hostStart.hostPoll⟩
  case doorbell ring index => exact ⟨_, exec_doorbell ring index, fun _ _ h => h.hostStart.hostBell⟩
  case intComplete target source => exact ⟨_, exec_intComplete target source, fun _ _ h => h.hostStart.hostComplete⟩
  case dictReadRemote peer idx sub off len => exact ⟨_, exec_dictReadRemote peer idx sub off len, fun _ _ h => h.hostStart.hostRemote⟩
  case dictWriteRemote peer idx sub ty off data =>
    exact ⟨_, exec_dictWriteRemote peer idx sub ty off data, fun _ _ h => h.hostStart.hostRemote⟩
  case reissue cmd tag => exact ⟨_, exec_reissue cmd tag, fun _ _ h => h.hostStart.hostReissue⟩
  case slotReadyExpiry slot => exact ⟨_, exec_slotReadyExpiry slot, fun _ _ h => h.slotExpiry⟩
  case slotPendingTimeout slot => exact ⟨_, exec_slotPendingTimeout slot, fun _ _ h => h.slotTimeout⟩
  case csEarlyRise => exact ⟨_, exec_csEarlyRise, fun _ _ h => h.framing⟩
  case unknownCommand code => exact ⟨_, exec_unknownCommand code, fun _ _ h => h.framing⟩
  case hostLinkReset v tm => exact ⟨_, exec_hostLinkReset v tm, fun _ _ h => h.hostStart.hostPut⟩
  case jobStart slot tm => exact ⟨_, exec_jobStart slot tm, fun _ _ h => h.hostStart.hostPut⟩
  case jobSuspend slot tm => exact ⟨_, exec_jobSuspend slot tm, fun _ _ h => h.hostStart.hostPut⟩
  case jobResume slot tm => exact ⟨_, exec_jobResume slot tm, fun _ _ h => h.hostStart.hostPut⟩
  case jobCancel slot tm => exact ⟨_, exec_jobCancel slot tm, fun _ _ h => h.hostStart.hostPut⟩
  case jobSuspendPoint slot => exact ⟨_, exec_jobSuspendPoint slot, fun _ _ h => h.jobSuspendPoint⟩
  case jobCancelDone slot => exact ⟨_, exec_jobCancelDone slot, fun _ _ h => h.jobCancelDone⟩
  case poundScrubBarge slot strikes => exact ⟨_, exec_poundScrubBarge slot strikes, fun _ _ h => h.scrubBarge⟩
  case bankTestPass slot bad => exact ⟨_, exec_bankTestPass slot bad, fun _ _ h => h.bankTestPass⟩
  case tableLoadDone slot readOk => exact ⟨_, exec_tableLoadDone slot readOk, fun _ _ h => h.tableLoadDone⟩
  case cableDiagPhase slot echo => exact ⟨_, exec_cableDiagPhase slot echo, fun _ _ h => h.cablePhase⟩
  case powerOnReset => exact ⟨_, exec_powerOnReset, fun _ _ _ => .porReset⟩
  case porEnd => exact ⟨_, exec_porEnd, fun _ _ h => h.porEnd⟩
  case oscStable => exact ⟨_, exec_oscStable, fun _ _ h => h.oscStable⟩
  case aonTrimsDone mainInRange vbakOk => exact ⟨_, exec_aonTrimsDone mainInRange vbakOk, fun _ _ h => h.trimsDone⟩
  case supplyDown vbakOk => exact ⟨_, exec_supplyDown vbakOk, fun _ _ h => h.supplyDown⟩
  case downToBackup us mainInRange => exact ⟨_, exec_downToBackup us mainInRange, fun _ _ h => h.toBackup⟩
  case mainReturn => exact ⟨_, exec_mainReturn, fun _ _ h => h.mainReturn⟩
  case qualifyExpiry => exact ⟨_, exec_qualifyExpiry, fun _ _ h => h.qualifyExpiry⟩
  case supplyBounce dt => exact ⟨_, exec_supplyBounce dt, fun _ _ h => h.bounce⟩
  case stretchEnd => exact ⟨_, exec_stretchEnd, fun _ _ h => h.stretchEnd⟩
  case brownOut coreRail => exact ⟨_, exec_brownOut coreRail, fun _ _ h => h.brownOut⟩
  case brownoutLowBackup => exact ⟨_, exec_brownoutLowBackup, fun _ _ h => h.lowBackup⟩
  case lockoutEnd => exact ⟨_, exec_lockoutEnd, fun _ _ h => h.lockoutEnd⟩
  case energySample vinCode vbakCode vbakOk vio => exact ⟨_, exec_energySample vinCode vbakCode vbakOk vio, fun _ _ h => h.energyTick⟩
  case podlClassify ohms asked => exact ⟨_, exec_podlClassify ohms asked, fun _ _ h => h.podlClassify⟩
  case podlPowerOn => exact ⟨_, exec_podlPowerOn, fun _ _ h => h.podlPower⟩
  case podlTurnOff => exact ⟨_, exec_podlTurnOff, fun _ _ h => h.podlOff⟩
  case domReq dom v tm => exact ⟨_, exec_domReq dom v tm, fun _ _ h => h.hostStart.hostPut⟩
  case domainSelect => exact ⟨_, exec_domainSelect, fun _ _ h => h.domSelect⟩
  case domainDrainDone => exact ⟨_, exec_domainDrainDone, fun _ _ h => h.drainDone⟩
  case domainPowerFail => exact ⟨_, exec_domainPowerFail, fun _ _ h => h.powerFail⟩
  case domainTransitionEnd badImages => exact ⟨_, exec_domainTransitionEnd badImages, fun _ _ h => h.transEnds⟩
  case ownerScanDone bank => exact ⟨_, exec_ownerScanDone bank, fun _ _ h => h.scanDone⟩
  case wakeEdge latch => exact ⟨_, exec_wakeEdge latch, fun _ _ h => h.wakeEdge⟩
  case wakeClear v tm => exact ⟨_, exec_wakeClear v tm, fun _ _ h => h.hostStart.hostPut⟩
  case tempSample celsius => exact ⟨_, exec_tempSample celsius, fun _ _ h => h.tempSample⟩
  case retentionRefresh bank => exact ⟨_, exec_retentionRefresh bank, fun _ _ h => h.refresh⟩
  case bankRefresh bank => exact ⟨_, exec_bankRefresh bank, fun _ _ h => h.refresh⟩
  case pllLocked => exact ⟨_, exec_pllLocked, fun _ _ h => h.pllLocked⟩
  case pllLockTimeout => exact ⟨_, exec_pllLockTimeout, fun _ _ h => h.pllTimeout⟩
  case nvLoadDone found => exact ⟨_, exec_nvLoadDone found, fun _ _ h => h.loadDone⟩
  case resetNAssert held => exact ⟨_, exec_resetNAssert held, fun _ _ h => h.resetNAssert⟩
  case resetNRelease => exact ⟨_, exec_resetNRelease, fun _ _ h => h.resetNRelease⟩
  case softReset v tm => exact ⟨_, exec_softReset v tm, fun _ _ h => h.hostStart.hostPut⟩
  case domReset n tm => exact ⟨_, exec_domReset n tm, fun _ _ h => h.hostStart.hostPut⟩
  case journalChunkWritten => exact ⟨_, exec_journalChunkWritten, fun _ _ h => h.nvStepEnds⟩
  case journalCheckWritten => exact ⟨_, exec_journalCheckWritten, fun _ _ h => h.nvStepEnds⟩
  case journalCommitMark pass => exact ⟨_, exec_journalCommitMark pass, fun _ _ h => h.nvStepEnds⟩
  case homeChunkWritten pass => exact ⟨_, exec_homeChunkWritten pass, fun _ _ h => h.nvStepEnds⟩
  case sectorErased => exact ⟨_, exec_sectorErased, fun _ _ h => h.nvStepEnds⟩
  case commitWordVoid => exact ⟨_, exec_commitWordVoid, fun _ _ h => h.nvStepEnds⟩
  case poundEnable p tm => exact ⟨_, exec_poundEnable p tm, fun _ _ h => h.hostStart.hostPut⟩
  case poundEnabled p stuck => exact ⟨_, exec_poundEnabled p stuck, fun _ _ h => h.poundEnabled⟩
  case poundDisable p tm => exact ⟨_, exec_poundDisable p tm, fun _ _ h => h.hostStart.hostPut⟩
  case allocReq v tm => exact ⟨_, exec_allocReq v tm, fun _ _ h => h.hostStart.hostPut⟩
  case freeReq v tm => exact ⟨_, exec_freeReq v tm, fun _ _ h => h.hostStart.hostPut⟩
  case bargeQuery v tm => exact ⟨_, exec_bargeQuery v tm, fun _ _ h => h.hostStart.hostPut⟩
  case lockCycleClose bank => exact ⟨_, exec_lockCycleClose bank, fun _ _ h => h.lockClose⟩
  case lockCycleOpen bank strikes => exact ⟨_, exec_lockCycleOpen bank strikes, fun _ _ h => h.lockOpen⟩
  case zeroingDone barge stuck => exact ⟨_, exec_zeroingDone barge stuck, fun _ _ h => h.zeroingDone⟩
  case ringStop ring tm => exact ⟨_, exec_ringStop ring tm, fun _ _ h => h.hostStart.hostPut⟩
  case ringRun ring tm => exact ⟨_, exec_ringRun ring tm, fun _ _ h => h.hostStart.hostPut⟩
  case ringReset ring tm => exact ⟨_, exec_ringReset ring tm, fun _ _ h => h.hostStart.hostPut⟩
  case ringStopped ring => exact ⟨_, exec_ringStopped ring, fun _ _ h => h.ringStopped⟩
  case chainFetch ring strikes => exact ⟨_, exec_chainFetch ring strikes, fun _ _ h => h.chainFetch⟩
  case chainComplete ring => exact ⟨_, exec_chainComplete ring, fun _ _ h => h.chainComplete⟩
  case rxDescriptorWrite ring => exact ⟨_, exec_rxDescriptorWrite ring, fun _ _ h => h.rxWrite⟩
  case ringCoalTimeout ring => exact ⟨_, exec_ringCoalTimeout ring, fun _ _ h => h.ringCoalTimeout⟩
  case frameReceived port f => exact ⟨_, exec_frameReceived port f, fun _ _ h => h.rxFrame⟩
  case classifyFrame =>
    exact ⟨_, exec_classifyFrame, fun _ _ h => h.clsAccept.classify (fun _ h1 _ _ => h1.brgTake) (fun _ h2 _ _ => h2.towPath)⟩
  case txSelect port => exact ⟨_, exec_txSelect port, fun _ _ h => h.txSelect⟩
  case frameTransmitted port deferred strikes sfdAgo =>
    exact ⟨_, exec_frameTransmitted port deferred strikes sfdAgo, fun _ _ h => h.txDone⟩
  case pauseTimerExpiry port => exact ⟨_, exec_pauseTimerExpiry port, fun _ _ h => h.pauseExpire⟩
  case pauseRefresh port => exact ⟨_, exec_pauseRefresh port, fun _ _ h => h.pauseRefresh⟩
  case pauseSend port v tm => exact ⟨_, exec_pauseSend port v tm, fun _ _ h => h.hostStart.hostPut⟩
  case pauseWdBreak port => exact ⟨_, exec_pauseWdBreak port, fun _ _ h => h.pauseBreak⟩
  case pauseStrikeReset port => exact ⟨_, exec_pauseStrikeReset port, fun _ _ h => h.strikeReset⟩
  case pauseRearm port v tm => exact ⟨_, exec_pauseRearm port v tm, fun _ _ h => h.hostStart.hostPut⟩
  case tsoEnable port tm => exact ⟨_, exec_tsoEnable port tm, fun _ _ h => h.hostStart.hostPut⟩
  case tsoDisable port tm => exact ⟨_, exec_tsoDisable port tm, fun _ _ h => h.hostStart.hostPut⟩
  case wakeListen port v tm => exact ⟨_, exec_wakeListen port v tm, fun _ _ h => h.hostStart.hostPut⟩
  case pralineEnable v tm => exact ⟨_, exec_pralineEnable v tm, fun _ _ h => h.hostStart.hostPut⟩
  case portStop port tm => exact ⟨_, exec_portStop port tm, fun _ _ h => h.hostStart.hostPut⟩
  case portStart port tm => exact ⟨_, exec_portStart port tm, fun _ _ h => h.hostStart.hostPut⟩
  case mdioFrameDone data => exact ⟨_, exec_mdioFrameDone data, fun _ _ h => h.mdioDone⟩
  case mdioPoll => exact ⟨_, exec_mdioPoll, fun _ _ h => h.mdioPoll⟩
  case mdioC22Read phy reg tm => exact ⟨_, exec_mdioC22Read phy reg tm, fun _ _ h => h.hostStart.hostPut⟩
  case mdioC22Write phy reg data tm => exact ⟨_, exec_mdioC22Write phy reg data tm, fun _ _ h => h.hostStart.hostPut⟩
  case mdioC45Read phy dev reg tm => exact ⟨_, exec_mdioC45Read phy dev reg tm, fun _ _ h => h.hostStart.hostPut⟩
  case mdioC45Write phy dev reg data tm => exact ⟨_, exec_mdioC45Write phy dev reg data tm, fun _ _ h => h.hostStart.hostPut⟩
  case govEnable v tm => exact ⟨_, exec_govEnable v tm, fun _ _ h => h.hostStart.hostPut⟩
  case govWindow => exact ⟨_, exec_govWindow, fun _ _ h => h.govWindow⟩
  case govStepDrained => exact ⟨_, exec_govStepDrained, fun _ _ h => h.govDrained⟩
  case govHoldLimitExpiry => exact ⟨_, exec_govHoldLimitExpiry, fun _ _ h => h.govHoldLimit⟩
  case t1lLinkChange up able24 req24 master far => exact ⟨_, exec_t1lLinkChange up able24 req24 master far, fun _ _ h => h.t1lLink⟩
  case t1lSqiUpdate sqi mse => exact ⟨_, exec_t1lSqiUpdate sqi mse, fun _ _ h => h.t1lSqi⟩
  case plcaBeaconSend port => exact ⟨_, exec_plcaBeaconSend port, fun _ _ h => h.beaconSend⟩
  case plcaBeaconReceived port => exact ⟨_, exec_plcaBeaconReceived port, fun _ _ h => h.beaconRecv⟩
  case plcaBeaconLoss port => exact ⟨_, exec_plcaBeaconLoss port, fun _ _ h => h.beaconLoss⟩
  case plcaIdConflict port => exact ⟨_, exec_plcaIdConflict port, fun _ _ h => h.idConflict⟩
  case plcaIdConflictClear port => exact ⟨_, exec_plcaIdConflictClear port, fun _ _ h => h.idConflictClear⟩
  case sgCarrierMeasure port node o => exact ⟨_, exec_sgCarrierMeasure port node o, fun _ _ h => h.sgMeasure⟩
  case sgHoldExpiry port => exact ⟨_, exec_sgHoldExpiry port, fun _ _ h => h.sgHoldExpiry⟩
  case sgYield port into => exact ⟨_, exec_sgYield port into, fun _ _ h => h.sgYield⟩
  case sgDriftExpiry port node => exact ⟨_, exec_sgDriftExpiry port node, fun _ _ h => h.sgDriftExpiry⟩
  case segCollision port late deferred => exact ⟨_, exec_segCollision port late deferred, fun _ _ h => h.collision⟩
  case backoffExpiry port => exact ⟨_, exec_backoffExpiry port, fun _ _ h => h.backoffEnd⟩
  case mergeRelease grp strikes => exact ⟨_, exec_mergeRelease grp strikes, fun _ _ h => h.mergeRelease⟩
  case mergeWrite grp => exact ⟨_, exec_mergeWrite grp, fun _ _ h => h.mergeWrite⟩
  case mergeTimeout grp => exact ⟨_, exec_mergeTimeout grp, fun _ _ h => h.mergeTimeout⟩
  case grpStart grp tm => exact ⟨_, exec_grpStart grp tm, fun _ _ h => h.hostStart.hostPut⟩
  case grpStop grp tm => exact ⟨_, exec_grpStop grp tm, fun _ _ h => h.hostStart.hostPut⟩
  case grpStopped grp => exact ⟨_, exec_grpStopped grp, fun _ _ h => h.grpStopped⟩
  case clsCommit tm => exact ⟨_, exec_clsCommit tm, fun _ _ h => h.hostStart.hostPut⟩
  case clsTransit tm => exact ⟨_, exec_clsTransit tm, fun _ _ h => h.hostStart.hostPut⟩
  case clsTransitRelease tm => exact ⟨_, exec_clsTransitRelease tm, fun _ _ h => h.hostStart.hostPut⟩
  case clsEnd tm => exact ⟨_, exec_clsEnd tm, fun _ _ h => h.hostStart.hostPut⟩
  case clsAbandon tm => exact ⟨_, exec_clsAbandon tm, fun _ _ h => h.hostStart.hostPut⟩
  case transitTimeout => exact ⟨_, exec_transitTimeout, fun _ _ h => h.transitTimeout⟩
  case canStart ch tm => exact ⟨_, exec_canStart ch tm, fun _ _ h => h.hostStart.hostPut⟩
  case canStop ch tm => exact ⟨_, exec_canStop ch tm, fun _ _ h => h.hostStart.hostPut⟩
  case canTxStart ch strikes => exact ⟨_, exec_canTxStart ch strikes, fun _ _ h => h.canTxStart (fun _ h1 _ _ => h1.fetchFail)⟩
  case canTxEnd ch e => exact ⟨_, exec_canTxEnd ch e, fun _ _ h => h.canTxEnd (fun _ h1 _ _ => h1.fetchFail)⟩
  case canRxFrame ch f => exact ⟨_, exec_canRxFrame ch f, fun _ _ h => h.canRxFrame⟩
  case canBusOff ch => exact ⟨_, exec_canBusOff ch, fun _ _ h => h.canBusOff (fun _ h1 _ _ => h1.fetchFail)⟩
  case canRecover ch v tm => exact ⟨_, exec_canRecover ch v tm, fun _ _ h => h.hostStart.hostPut⟩
  case canBusOffRecovered ch => exact ⟨_, exec_canBusOffRecovered ch, fun _ _ h => h.canRecovered⟩
  case bridgeInput => exact ⟨_, exec_bridgeInput, fun _ _ h => h.bridgeInput⟩
  case brgRun v tm => exact ⟨_, exec_brgRun v tm, fun _ _ h => h.hostStart.hostPut⟩
  case omPeriodExpiry om => exact ⟨_, exec_omPeriodExpiry om, fun _ _ h => h.omPeriod⟩
  case omGapExpiry om => exact ⟨_, exec_omGapExpiry om, fun _ _ h => h.omGap⟩
  case signalStale sig => exact ⟨_, exec_signalStale sig, fun _ _ h => h.sigStale⟩
  case brgCacheRead sig tm => exact ⟨_, exec_brgCacheRead sig tm, fun _ _ h => h.hostStart.hostRead⟩
  case fetchTimeout sig => exact ⟨_, exec_fetchTimeout sig, fun _ _ h => h.fetchTimeout⟩
  case reservationBackoffExpiry n tag => exact ⟨_, exec_reservationBackoffExpiry n tag, fun _ _ h => h.backoffExpiry⟩
  case towStart tm => exact ⟨_, exec_towStart tm, fun _ _ h => h.hostStart.hostPut⟩
  case towStop tm => exact ⟨_, exec_towStop tm, fun _ _ h => h.hostStart.hostPut⟩
  case peerEnable n v tm => exact ⟨_, exec_peerEnable n v tm, fun _ _ h => h.hostStart.hostPut⟩
  case helloTimer n => exact ⟨_, exec_helloTimer n, fun _ _ h => h.helloTimer⟩
  case helloRx => exact ⟨_, exec_helloRx, fun _ _ h => h.helloRx⟩
  case towDataRx => exact ⟨_, exec_towDataRx, fun _ _ h => h.dataRx⟩
  case towAckRx => exact ⟨_, exec_towAckRx, fun _ _ h => h.ackRx⟩
  case towAckDelay n => exact ⟨_, exec_towAckDelay n, fun _ _ h => h.ackDelay⟩
  case towRetransmitTimeout n => exact ⟨_, exec_towRetransmitTimeout n, fun _ _ h => h.rtoExpiry⟩
  case towDeadTimeout n => exact ⟨_, exec_towDeadTimeout n, fun _ _ h => h.deadTimeout⟩
  case towKeepalive n => exact ⟨_, exec_towKeepalive n, fun _ _ h => h.keepalive⟩
  case towForwardFrame => exact ⟨_, exec_towForwardFrame, fun _ _ h => h.forward⟩
  case opRead lane strikes => exact ⟨_, exec_opRead lane strikes, fun _ _ h => h.laneRead⟩
  case opReadAcquire lane strikes => exact ⟨_, exec_opReadAcquire lane strikes, fun _ _ h => h.laneRead⟩
  case opWrite lane strikes => exact ⟨_, exec_opWrite lane strikes, fun _ _ h => h.laneWrite⟩
  case opWriteReserve lane strikes => exact ⟨_, exec_opWriteReserve lane strikes, fun _ _ h => h.laneReserve⟩
  case opFetchAdd lane strikes => exact ⟨_, exec_opFetchAdd lane strikes, fun _ _ h => h.laneAtomic⟩
  case opSwap lane strikes => exact ⟨_, exec_opSwap lane strikes, fun _ _ h => h.laneAtomic⟩
  case opCas lane strikes => exact ⟨_, exec_opCas lane strikes, fun _ _ h => h.laneAtomic⟩
  case opFrame lane => exact ⟨_, exec_opFrame lane, fun _ _ h => h.laneFrame⟩
  case opDictRead lane => exact ⟨_, exec_opDictRead lane, fun _ _ h => h.laneDict⟩
  case opDictWrite lane => exact ⟨_, exec_opDictWrite lane, fun _ _ h => h.laneDict⟩
  case opResponse lane => exact ⟨_, exec_opResponse lane, fun _ _ h => h.laneResponse⟩
  case issueRead f tm => exact ⟨_, exec_issueRead f tm, fun _ _ h => h.hostStart.hostIssue⟩
  case issueReadAcquire f tm => exact ⟨_, exec_issueReadAcquire f tm, fun _ _ h => h.hostStart.hostIssue⟩
  case issueWrite f tm => exact ⟨_, exec_issueWrite f tm, fun _ _ h => h.hostStart.hostIssue⟩
  case issueWriteReserve f tm => exact ⟨_, exec_issueWriteReserve f tm, fun _ _ h => h.hostStart.hostIssue⟩
  case issueFetchAdd f tm => exact ⟨_, exec_issueFetchAdd f tm, fun _ _ h => h.hostStart.hostIssue⟩
  case issueSwap f tm => exact ⟨_, exec_issueSwap f tm, fun _ _ h => h.hostStart.hostIssue⟩
  case issueCas f tm => exact ⟨_, exec_issueCas f tm, fun _ _ h => h.hostStart.hostIssue⟩
  case towSlotRelease v tm => exact ⟨_, exec_towSlotRelease v tm, fun _ _ h => h.hostStart.hostPut⟩
  case towRsvRelease v tm => exact ⟨_, exec_towRsvRelease v tm, fun _ _ h => h.hostStart.hostPut⟩
  case rsvHoldExpiry win => exact ⟨_, exec_rsvHoldExpiry win, fun _ _ h => h.rsvExpiry⟩
  case winEnable win tm => exact ⟨_, exec_winEnable win tm, fun _ _ h => h.hostStart.hostPut⟩
  case winDisable win tm => exact ⟨_, exec_winDisable win tm, fun _ _ h => h.hostStart.hostPut⟩
  case sluTick => exact ⟨_, exec_sluTick, fun _ _ h => h.sluTick⟩
  case pwmPeriodStart out => exact ⟨_, exec_pwmPeriodStart out, fun _ _ h => h.pwmPeriod⟩
  case sluOutEnable out v tm => exact ⟨_, exec_sluOutEnable out v tm, fun _ _ h => h.hostStart.hostPut⟩
  case sluArm v tm => exact ⟨_, exec_sluArm v tm, fun _ _ h => h.hostStart.hostPut⟩
  case sluStop v tm => exact ⟨_, exec_sluStop v tm, fun _ _ h => h.hostStart.hostPut⟩
  case sluHeartbeat v tm => exact ⟨_, exec_sluHeartbeat v tm, fun _ _ h => h.hostStart.hostPut⟩
  case sluHbTimeout out => exact ⟨_, exec_sluHbTimeout out, fun _ _ h => h.sluHbTimeout⟩
  case sluHoldElapsed out => exact ⟨_, exec_sluHoldElapsed out, fun _ _ h => h.sluHoldElapsed⟩
  case sluCoastEnd out => exact ⟨_, exec_sluCoastEnd out, fun _ _ h => h.sluCoastEnd⟩
  case safeNAssert us => exact ⟨_, exec_safeNAssert us, fun _ _ h => h.safeAssert⟩
  case safeNRelease us => exact ⟨_, exec_safeNRelease us, fun _ _ h => h.safeRelease⟩
  case tachoEdge t dt => exact ⟨_, exec_tachoEdge t dt, fun _ _ h => h.tick.tachoEdge⟩
  case tachoWindow t => exact ⟨_, exec_tachoWindow t, fun _ _ h => h.tachoWindow⟩
  case timeSet v tm => exact ⟨_, exec_timeSet v tm, fun _ _ h => h.hostStart.hostPut⟩
  case timeAdjust ns tm => exact ⟨_, exec_timeAdjust ns tm, fun _ _ h => h.hostStart.hostPut⟩
  case chCompareFire ch => exact ⟨_, exec_chCompareFire ch, fun _ _ h => h.chCompare⟩
  case chPulseEnd ch => exact ⟨_, exec_chPulseEnd ch, fun _ _ h => h.chPulseEnd⟩
  case ppsPulse => exact ⟨_, exec_ppsPulse, fun _ _ h => h.pps⟩
  case chCapture ch ppsIn rising dt => exact ⟨_, exec_chCapture ch ppsIn rising dt, fun _ _ h => h.tick.chCapture⟩
  case chAck ch v tm => exact ⟨_, exec_chAck ch v tm, fun _ _ h => h.hostStart.hostPut⟩
  case chConfigWrite ch ctrl v tm => exact ⟨_, exec_chConfigWrite ch ctrl v tm, fun _ _ h => h.hostStart.hostPut⟩
  case tallyBoundary => exact ⟨_, exec_tallyBoundary, fun _ _ h => h.tallyPeriod⟩
  case tallyTrigger v tm => exact ⟨_, exec_tallyTrigger v tm, fun _ _ h => h.hostStart.hostPut⟩
  case tallyModeWrite period v tm => exact ⟨_, exec_tallyModeWrite period v tm, fun _ _ h => h.hostStart.hostPut⟩
  case intClaim target tm => exact ⟨_, exec_intClaim target tm, fun _ _ h => h.hostStart.hostRead⟩
  case srcStateWrite src v tm => exact ⟨_, exec_srcStateWrite src v tm, fun _ _ h => h.hostStart.hostPut⟩
  case intPendingWrite v tm => exact ⟨_, exec_intPendingWrite v tm, fun _ _ h => h.hostStart.hostPut⟩
  case intFaultClear target v tm => exact ⟨_, exec_intFaultClear target v tm, fun _ _ h => h.hostStart.hostPut⟩
  case faultLogWrite => exact ⟨_, exec_faultLogWrite, fun _ _ h => h.flWrite⟩
  case flAckSeq v tm => exact ⟨_, exec_flAckSeq v tm, fun _ _ h => h.hostStart.hostPut⟩
  case flClear v tm => exact ⟨_, exec_flClear v tm, fun _ _ h => h.hostStart.hostPut⟩
  case monitorChangeOscStart vbak => exact ⟨_, exec_monitorChangeOscStart vbak, fun _ _ h => h.monitorChange⟩
  case podlInrushRampEnd => exact ⟨_, exec_podlInrushRampEnd, fun _ _ h => h.podlRamped⟩
  case canIntegrationEnd ch => exact ⟨_, exec_canIntegrationEnd ch, fun _ _ h => h.canIntegrated⟩
  case canRxError ch e => exact ⟨_, exec_canRxError ch e, fun _ _ h => h.canRxError⟩
  case generationCheckDone n => exact ⟨_, exec_generationCheckDone n, fun _ _ h => h.genCheckDone⟩

theorem step_formsKept {s t : State} (h : step s = .next t) : FormsKept s.dev t.dev := by
  unfold step at h
  split at h
  · injection h with h
    exact h ▸ (FormsKept.refl s.dev).idleCk
  · rename_i c rest hp
    obtain ⟨f, run, kept⟩ := exec_run_formsKept c
    rw [(State.run_next ((run _).symm.trans h)).2]
    exact (kept _ _ (FormsKept.refl s.dev)).settle

/-- Settles O6: what every function of the model keeps (`FormsKept`), every step keeps. -/
theorem canonicalFormsStay : Obligations.CanonicalFormsStay := by
  unfold Obligations.CanonicalFormsStay
  exact ⟨fun _ _ wf h => (step_formsKept h).mem wf, fun _ _ wf h => (step_formsKept h).store wf⟩

/-- Settles O7: what every function of the model keeps (`FormsKept`), every step keeps. -/
theorem freeListsStayFree : Obligations.FreeListsStayFree := by
  unfold Obligations.FreeListsStayFree
  exact fun _ _ kept h => (step_formsKept h).frees kept

end Sys2Proof.Machine
end
